-- ==== Sys2Proof/Word.lean ====
section
/-! DEFINITION. The word types of the D9: 64-bit general registers (R264), 128-bit vector registers
(R45), 32-bit instruction words (R246), bytes. -/

namespace Sys2Proof

/-- A general register's value, an address while it is computed, a control register (R68). -/
abbrev Word := BitVec 64

/-- A vector register's value: 128 bits, lane i of a w-bit type at bits w(i+1)-1 : wi (R45). -/
abbrev Vec := BitVec 128

/-- An instruction, literal or route word (R246). -/
abbrev IWord := BitVec 32

/-- One byte of memory (R45). -/
abbrev Byte := BitVec 8

/-- The 6-bit name of g0 to g63 (R251). -/
abbrev GReg := BitVec 6

/-- The 5-bit name of v0 to v31, or of g0 to g31 in op 0x24 (R251). -/
abbrev VReg := BitVec 5

/-- The 3-bit name of p0 to p7 (R68). -/
abbrev PReg := BitVec 3

/-- The 4-bit name of q0 to q15 (R299). -/
abbrev QReg := BitVec 4

end Sys2Proof
end

