-- ==== Sys2Proof/Machine/Bits.lean ====
section
/-! DEFINITION. Bit fields, sign extension and byte order: the helpers every layer shares. -/

namespace Sys2Proof

/-- The `len` bits of the number `w` from bit `lo` up (bit 0 is the least significant, R3). -/
def fld (w lo len : Nat) : Nat := w / 2 ^ lo % 2 ^ len

/-- Bit `i` of the number `w`. -/
def bitAt (w i : Nat) : Bool := w / 2 ^ i % 2 == 1

/-- A truth value as a bit. -/
def b2n (b : Bool) : Nat := if b then 1 else 0

/-- Bits `hi:lo` of a register value as a number. -/
def bits (x : Word) (hi lo : Nat) : Nat := fld x.toNat lo (hi + 1 - lo)

/-- Bit `i` of a register value. -/
def wbit (x : Word) (i : Nat) : Bool := bitAt x.toNat i

/-- A number kept to `w` bits and read as two's complement. -/
def toSigned (w n : Nat) : Int :=
  if n % 2 ^ w < 2 ^ (w - 1) then ((n % 2 ^ w : Nat) : Int) else ((n % 2 ^ w : Nat) : Int) - ((2 ^ w : Nat) : Int)

/-- An integer kept modulo 2^w. -/
def wrapTo (w : Nat) (x : Int) : Nat := (x % ((2 ^ w : Nat) : Int)).toNat

/-- Sign extension of the low `w` bits of a number to 64 bits. -/
def sextWord (w n : Nat) : Word := BitVec.ofInt 64 (toSigned w n)

/-- A number as a 64-bit word. -/
def wordOf (n : Nat) : Word := BitVec.ofNat 64 n

/-- The bytes of a number, least significant first (R45). -/
def bytesOf : Nat → Nat → List Byte
  | 0, _ => []
  | k + 1, n => BitVec.ofNat 8 n :: bytesOf k (n / 256)

/-- The number that bytes hold, least significant first (R45). -/
def ofBytes : List Byte → Nat
  | [] => 0
  | b :: bs => b.toNat + 256 * ofBytes bs

/-- Lane `i` of width `w` of a number (R45). -/
def lane (w n i : Nat) : Nat := fld n (w * i) w

/-- The number whose lanes of width `w` are the list, lane 0 first. -/
def ofLanes (w : Nat) : List Nat → Nat
  | [] => 0
  | x :: xs => x % 2 ^ w + 2 ^ w * ofLanes w xs

/-- Floor of the square root, by the bits of the root from `k - 1` down; `r` is the part found. -/
def isqrtGo : Nat → Nat → Nat → Nat
  | 0, _, r => r
  | k + 1, n, r => if (r + 2 ^ k) * (r + 2 ^ k) ≤ n then isqrtGo k n (r + 2 ^ k) else isqrtGo k n r

/-- Floor of the square root of `n`. -/
def isqrt (n : Nat) : Nat := isqrtGo (n.log2 / 2 + 1) n 0

/-- Number of one bits among the low `k` bits. -/
def popCount : Nat → Nat → Nat
  | 0, _ => 0
  | k + 1, n => n % 2 + popCount k (n / 2)

/-- Number of trailing zeros of the low `k` bits (k when they are all zero). -/
def trailingZeros : Nat → Nat → Nat
  | 0, _ => 0
  | k + 1, n => if n % 2 = 1 then 0 else 1 + trailingZeros k (n / 2)

/-- The numbers from `lo` on, `k` of them. -/
def natRange (lo k : Nat) : List Nat := (List.range k).map (lo + ·)

end Sys2Proof
end

