-- ==== Sys2Proof/Syntax.lean ====
section
/-! DEFINITION. The steps of the machine: one constructor of `Instr` for each row of
spec/opcode_table.json. The first 187 are instruction words (12_encoding); the others are the steps the
table lists without a word, whose arguments name the units concerned and the inputs from outside. -/

namespace Sys2Proof

/-- The scopes of R43. -/
inductive Scope | core | quad | clus | die | mod | pod | sys
  deriving DecidableEq, Repr

/-- The access sizes of R253. -/
inductive Size | b1 | b2 | b4 | b8
  deriving DecidableEq, Repr

/-- A load's or store's ordering: relaxed, or acquire (loads) / release (stores) at a scope (R253). -/
inductive Ann | relaxed | ordered (s : Scope)
  deriving DecidableEq, Repr

/-- An atomic's ordering (R253). -/
inductive AAnn | relaxed | acq (s : Scope) | rel (s : Scope) | acqrel (s : Scope)
  deriving DecidableEq, Repr

/-- The conditions of R273. -/
inductive Cond | eq | ne | ltS | ltZ | leS | leZ | gtS | gtZ | geS | geZ | tst
  deriving DecidableEq, Repr

/-- The conditions of R342. -/
inductive VCond | eq | ne | lt | le
  deriving DecidableEq, Repr

/-- The lane types of R255. -/
inductive Ty | f64 | f32 | f16 | bf16 | s64 | s32 | s16 | s8 | z64 | z32 | z16 | z8 | narrow
  deriving DecidableEq, Repr

/-- The rounding field of `vcvt` (R332). -/
inductive CvtRm | fpc | rne | rtz | rup | rdn
  deriving DecidableEq, Repr

/-- The kinds of a fence (R296). -/
inductive FenceKind | acq | rel | full
  deriving DecidableEq, Repr

/-- The operations of `amo` (R301). -/
inductive Aop | add | and | or | xor | minS | maxS | swap | cas
  deriving DecidableEq, Repr

/-- The element sizes of `ldvt` (R253): 4, 8 or 16 registers. -/
inductive ESize | e32 | e16 | e8
  deriving DecidableEq, Repr

/-- The link of a core on which an engine lies (R178). -/
inductive Dir | n | e | s | w
  deriving DecidableEq, Repr

/-- The modifier word's fields (R257, R59): clamp 0 none, 1 [0,1], 2 [-1,1], 3 [0,inf). -/
structure Modifier where
  sat   : Bool
  clamp : BitVec 2
  neg   : Bool
  abs   : Bool
  scale : BitVec 6
  deriving DecidableEq, Repr

/-- What the walker firmware answers for a page (R114, R115): an entry for `tlbw`, no present page, or
an entry whose `tlbw` would trap. The layout of its tables is the firmware's own. -/
inductive WalkAnswer | entry (w0 w1 : Word) | absent | refused
  deriving DecidableEq, Repr

/-- The queue whose create record is taken (R398), and what the walker answers where a page of its handler table awaits it. -/
structure TakenRecord where
  queue : Nat
  ans   : WalkAnswer
  deriving DecidableEq, Repr

/-- The teams of a firmware grid and the threads of each (R426). -/
structure GridShape where
  teams   : Nat
  threads : Nat
  deriving DecidableEq, Repr

/-- All threads of a grid. -/
def GridShape.total (g : GridShape) : Nat := g.teams * g.threads

/-- A host access: CXL.mem to device memory (R402), or CXL.io to BAR0 (R396). -/
inductive HostAccess | read | write (data : Word) | barRead | barWrite (data : Word)
  deriving DecidableEq, Repr

/-- One constructor per row of spec/opcode_table.json. -/
inductive Instr
  -- 13_isa_scalar, op 0x01 (R267, R268)
  | add (d a b : GReg) (ea eb : Bool)
  | sub (d a b : GReg) (ea eb : Bool)
  | mul (d a b : GReg) (ea eb : Bool)
  | mulhS (d a b : GReg) (ea eb : Bool)
  | mulhZ (d a b : GReg) (ea eb : Bool)
  | divS (d a b : GReg) (ea eb : Bool)
  | divZ (d a b : GReg) (ea eb : Bool)
  | remS (d a b : GReg) (ea eb : Bool)
  | remZ (d a b : GReg) (ea eb : Bool)
  | and (d a b : GReg) (ea eb : Bool)
  | or (d a b : GReg) (ea eb : Bool)
  | xor (d a b : GReg) (ea eb : Bool)
  | andn (d a b : GReg) (ea eb : Bool)
  | orn (d a b : GReg) (ea eb : Bool)
  | shl (d a b : GReg) (ea eb : Bool)
  | shr (d a b : GReg) (ea eb : Bool)
  | sar (d a b : GReg) (ea eb : Bool)
  | rol (d a b : GReg) (ea eb : Bool)
  | ror (d a b : GReg) (ea eb : Bool)
  | minS (d a b : GReg) (ea eb : Bool)
  | minZ (d a b : GReg) (ea eb : Bool)
  | maxS (d a b : GReg) (ea eb : Bool)
  | maxZ (d a b : GReg) (ea eb : Bool)
  | clz (d a : GReg) (ea : Bool)
  | ctz (d a : GReg) (ea : Bool)
  | popc (d a : GReg) (ea : Bool)
  | bswap (d a : GReg) (ea : Bool)
  | lea1 (d a b : GReg) (ea eb : Bool)
  | lea2 (d a b : GReg) (ea eb : Bool)
  | lea3 (d a b : GReg) (ea eb : Bool)
  -- compares and immediates (R269 to R274)
  | cmp (pd : PReg) (a b : GReg) (ea eb : Bool) (cc : Cond)
  | addi (d a : GReg) (ea : Bool) (imm : BitVec 13)
  | andi (d a : GReg) (ea : Bool) (imm : BitVec 13)
  | ori (d a : GReg) (ea : Bool) (imm : BitVec 13)
  | xori (d a : GReg) (ea : Bool) (imm : BitVec 13)
  | shli (d a : GReg) (ea : Bool) (amount : BitVec 6)
  | shri (d a : GReg) (ea : Bool) (amount : BitVec 6)
  | sari (d a : GReg) (ea : Bool) (amount : BitVec 6)
  | cmpi (pd : PReg) (a : GReg) (ea : Bool) (cc : Cond) (imm : BitVec 9)
  | liS (d : GReg) (lit : IWord)
  | liZ (d : GReg) (lit : IWord)
  | lih (d : GReg) (lit : IWord)
  | bextS (d a : GReg) (ea : Bool) (pos : BitVec 6) (wm1 : BitVec 5)
  | bextZ (d a : GReg) (ea : Bool) (pos : BitVec 6) (wm1 : BitVec 5)
  | bins (d a : GReg) (ea : Bool) (pos : BitVec 6) (wm1 : BitVec 5)
  -- predicate operations (R275)
  | pand (pd pa pb : PReg)
  | por (pd pa pb : PReg)
  | pxor (pd pa pb : PReg)
  | pandn (pd pa pb : PReg)
  | pnot (pd pa : PReg)
  | pmov (pd pa : PReg)
  | pget (d : GReg)
  | pput (a b : GReg) (ea eb : Bool)
  -- transfers and control (R276 to R288)
  | br (p : PReg) (n : Bool) (disp : BitVec 22)
  | call (disp : BitVec 22)
  | jr (a : GReg) (ea : Bool)
  | jalr (d a : GReg) (ea : Bool)
  | nop
  | endTask
  | yield
  | trap (code : BitVec 6)
  | eret (a : GReg) (ea : Bool)
  | halt
  | brk
  -- 14_isa_memory_tasks
  | ldZ (d a : GReg) (ea : Bool) (sz : Size) (ann : Ann) (off : BitVec 7)
  | ldS (d a : GReg) (ea : Bool) (sz : Size) (ann : Ann) (off : BitVec 7)
  | st (d a : GReg) (ea : Bool) (sz : Size) (ann : Ann) (off : BitVec 7)
  | ldv (v : VReg) (a : GReg) (ea : Bool) (ann : Ann) (off : BitVec 10)
  | stv (v : VReg) (a : GReg) (ea : Bool) (ann : Ann) (off : BitVec 10)
  | ldvt (v : VReg) (a : GReg) (ea : Bool) (es : ESize) (off : BitVec 10)
  | fence (k : FenceKind) (s : Scope)
  | pf (a : GReg)
  | qbind (q : QReg) (a : GReg) (ea : Bool)
  | qfree (q : QReg)
  | salloc (a b : GReg) (ea eb : Bool)
  | qstat (d : GReg) (q : QReg)
  | qget (d : GReg) (q : QReg)
  | qgetv (v : VReg) (q : QReg)
  | amo32 (d a b : GReg) (op : Aop) (ann : AAnn)
  | amo64 (d a b : GReg) (op : Aop) (ann : AAnn)
  | faddF32 (d a b : GReg) (ea eb : Bool)
  | faddF16 (d a b : GReg) (ea eb : Bool)
  | faddF64 (d a b : GReg) (ea eb : Bool)
  | faddBf16 (d a b : GReg) (ea eb : Bool)
  | decp (d a : GReg) (ea : Bool)
  | waita (t a b : GReg) (ea eb : Bool)
  | barQuad
  | barClus
  | barDie
  | barMod
  | barPod
  | boinit (a b : GReg) (ea eb : Bool)
  | boarr (a b : GReg) (ea eb : Bool)
  | bowait (a b : GReg) (ea eb : Bool)
  | fork (d a b : GReg) (ea eb : Bool)
  | join (a : GReg) (ea : Bool)
  | rfork (a b : GReg) (ea eb : Bool)
  | post (a b : GReg) (ea eb : Bool)
  | cdinit (a b : GReg) (ea eb : Bool)
  | grow (d a : GReg) (ea : Bool)
  | shrink (d a : GReg) (ea : Bool)
  | stgpush (d a b : GReg) (ea eb : Bool)
  | stgsub (a : GReg) (ea : Bool)
  | park (a : GReg) (ea : Bool)
  | send (cls : BitVec 6) (a b : GReg) (ea eb : Bool)
  | cmask (a : GReg) (ea : Bool)
  | cunmask (a : GReg) (ea : Bool)
  | cpend (d a : GReg) (ea : Bool)
  | swapx (a b : GReg) (ea eb : Bool)
  | sendr (cls : BitVec 6) (a b : GReg) (ea eb : Bool) (route : IWord)
  -- 15_isa_vector
  | vadd (d a b : VReg) (ty : Ty)
  | vsub (d a b : VReg) (ty : Ty)
  | vmul (d a b : VReg) (ty : Ty)
  | vmin (d a b : VReg) (ty : Ty)
  | vmax (d a b : VReg) (ty : Ty)
  | vand (d a b : VReg)
  | vor (d a b : VReg)
  | vxor (d a b : VReg)
  | vandn (d a b : VReg)
  | vshl (d a b : VReg) (ty : Ty)
  | vshr (d a b : VReg) (ty : Ty)
  | vsar (d a b : VReg) (ty : Ty)
  | vmov (d a : VReg)
  | vfma (d a b c : VReg) (ty : Ty)
  | vfms (d a b c : VReg) (ty : Ty)
  | vfnma (d a b c : VReg) (ty : Ty)
  | vfnms (d a b c : VReg) (ty : Ty)
  | vcvt (d a : VReg) (dt st : Ty) (rm : CvtRm)
  | vrcp (d a : VReg) (ty : Ty)
  | vrsqrt (d a : VReg) (ty : Ty)
  | vsqrt (d a : VReg) (ty : Ty)
  | vexp2 (d a : VReg) (ty : Ty)
  | vlog2 (d a : VReg) (ty : Ty)
  | vdiv (d a b : VReg) (ty : Ty)
  | vperm (d a b : VReg) (ty : Ty)
  | vbcast (d : VReg) (a : VReg) (ty : Ty)
  | vins (d : VReg) (a : VReg) (idx : BitVec 5) (ty : Ty)
  | vext (d : VReg) (a : VReg) (idx : BitVec 5) (ty : Ty)
  | vredAdd (d a : VReg) (ty : Ty)
  | vredMin (d a : VReg) (ty : Ty)
  | vredMax (d a : VReg) (ty : Ty)
  | vpack (d a b : VReg) (ty : Ty)
  | vunpkLo (d a : VReg) (ty : Ty)
  | vunpkHi (d a : VReg) (ty : Ty)
  | vzip (d a b : VReg) (ty : Ty)
  | vunzip (d a b : VReg) (ty : Ty)
  | vcmp (d a b : VReg) (ty : Ty) (cc : VCond)
  | vclass (d a : VReg) (ty : Ty)
  | vsel (d a b c : VReg)
  | vdot (d a b c : VReg) (ty : Ty)
  | vdotI (d a b c : VReg) (ty : Ty)
  -- 16_isa_engines_system
  | lks (a : GReg) (eg : BitVec 3) (l : Dir)
  | lkm (d a b : GReg) (eg : BitVec 3) (l : Dir)
  | lkq (d : GReg) (l : Dir)
  | lkdrain (a : GReg) (l : Dir)
  | lkload (a : GReg) (l : Dir)
  | lkfrz (l : Dir)
  | lkthw (l : Dir)
  | lkcan (d a : GReg) (l : Dir)
  | cpy (d a b : GReg)
  | gat (d a b : GReg)
  | sca (d a b : GReg)
  | redc (d a b : GReg)
  | bct (d a b : GReg)
  | tdset (a b : GReg)
  | tdget (d a b : GReg)
  | tdinv (a : GReg)
  | gmacc (a b : GReg) (blk : BitVec 3)
  | gmsub (a b : GReg) (blk : BitVec 3)
  | gmelim (d a b : GReg)
  | gmdamp (a b : GReg)
  | gmmean (d a b : GReg)
  | gmres (d a b : GReg)
  | gmsend (a b : GReg)
  | gmcpy (a b : GReg)
  | tlbw (t a b : GReg) (ea eb : Bool)
  | tlbi (a b : GReg) (ea eb : Bool)
  | fres (a b : GReg) (ea eb : Bool)
  | ctxs (a : GReg) (ea : Bool)
  | ctxl (a : GReg) (ea : Bool)
  | wtab (a b : GReg) (ea eb : Bool)
  | wclose (a : GReg) (ea : Bool)
  | wopen (a : GReg) (ea : Bool)
  | rmap (a b : GReg) (ea eb : Bool)
  | evac (a b : GReg) (ea eb : Bool)
  | getc (d : GReg) (n : BitVec 13)
  | setc (a : GReg) (ea : Bool) (n : BitVec 13)
  -- steps without a word that the machine makes itself
  | encodingError (reason : Nat) (addr : Word) (word : IWord)
  | deferredTrapDelivery (core slot : Nat)
  | taskStart (core lvl : Nat)
  | l0HandlerStart (core : Nat)
  | spillRefill (core lvl : Nat)
  | fetchDutyWindow (core : Nat)
  | stealRound (core : Nat)
  | stagePop (core : Nat)
  | governorWindow (cluster : Nat)
  | swapQuantum (cluster : Nat)
  | teamSwapOut (team : Nat)
  | teamSwapIn (team : Nat)
  | watchWake (core line : Nat)
  | waitaTimeout (id : Nat)
  | parkTimeout (id : Nat)
  | registerFill (id : Nat)
  | remoteAccessAtHome (id : Nat)
  | releaseRetry (id : Nat)
  | commitToken (id : Nat)
  | releaseWithdraw (id : Nat)
  | scopeMissReturn (id : Nat)
  | refusalReturn (id : Nat)
  | tlbMissMessage (core slot : Nat) (ans : WalkAnswer)
  | packetHeadRouting (id : Nat)
  | messageArrival (id : Nat)
  | gmRecordArrival (id : Nat)
  | heldAlertRetry (n : Nat)
  | enginePairing (e : Nat)
  | jobStart (e : Nat)
  | beatPull (e : Nat)
  | rowSend (e : Nat)
  | resultPacketArrival (id : Nat)
  | streamRowDelivery (e : Nat)
  | tileEndArrival (e : Nat)
  | engwaitTimeout (core slot : Nat)
  | swapxTimeout (core slot : Nat)
  | copyJobStart (cluster : Nat)
  | copyUnit (cluster job : Nat) (ans : WalkAnswer)
  | bctArrival (id : Nat)
  | gmuRequestStart (core : Nat)
  | gmuRequestComplete (core : Nat)
  | transitionStart
  | islandStepDown (island : Nat)
  | launchRecord (q : Nat)
  | createContextRecord (q : TakenRecord)
  | destroyContextRecord (q : Nat)
  | checkpointRecord (q : Nat)
  | checkpointStream
  | launchCompletion (ctx : Nat)
  | watchdogExpiry (launch : Nat)
  | contextAbortEnd (ctx : Nat)
  | remoteAccessTimeout (id : Nat)
  | diePark (d : Nat)
  | dieUnpark (d : Nat)
  -- steps that the host, firmware and the world outside bring about
  | flitArrival (link seq : Nat) (crcOk : Bool)
  | flitAck (link seq : Nat)
  | smrReissue (core slot : Nat) (value : Word)
  | fmthAdmit (core : Nat)
  | fmthRefuse (core : Nat)
  | tprdWrite (n : Nat) (value : BitVec 16)
  | alstClear (value : Word)
  | cmaskWrite (core : Nat) (value : Word)
  | iclWrite (n : Nat) (value : Nat)
  | pceilWrite (value : Nat)
  | counterWrite (core n : Nat) (value : Word)
  | antiStarvationTurn (core : Nat)
  | stealRequest (thief victim : Nat)
  | budgetPeriod (nonCore : Nat) (model : List (Nat × Nat))
  | monitorSample (power current : BitVec 16)
  | sensorSample (temps : List (BitVec 16))
  | stateRequest (value : Word)
  | sqDoorbell (q : Nat) (tail : Nat)
  | cqHeadWrite (q : Nat) (head : Nat)
  | faultConsumerIndex (index : Nat)
  | resolutionWord (seq : BitVec 32)
  | attestationRequest (word : Nat) (value : Word)
  | recoveryRequest (image : Word) (verified : Bool)
  | hostMemoryAccess (pa : Nat) (bytes : Nat) (acc : HostAccess)
  | powerOn (verified : Bool) (modnum : BitVec 14)
  | flitNak (link seq : Nat) (windowError : Bool)
  | replayRequest (link pkt : Nat) (routeLeft : Bool)
  | endToEndAck (link seq : Nat)
  | controlSpaceTaskStart (core : Nat) (pc frame : Word) (allot : Nat)
  | coreRestart (core : Nat)
  | stageConfigStore (core slot cluster off : Nat) (value : Word)
  | routeTableWrite (router cls : Nat) (value : BitVec 16)
  | psTableWrite (state : Nat) (mask : BitVec 8)
  | permissionTableWrite (ctx idx : Nat) (w0 w1 : Word)
  | floorWrite (core w a c : Nat)
  | queueConfigurationWrite (q word : Nat) (value : Word)
  | modeChange (m : Nat)
  | podBarrierArrival (job module : Nat)
  | firmwareGridStart (entry args : Word) (allot : Nat) (threads : GridShape)
  | darkroomAbortRequest (core slot : Nat)
  deriving DecidableEq, Repr

end Sys2Proof
end

