-- ==== Sys2Proof/Machine/Types.lean ====
section
/-! DEFINITION. The codes of the encoding's small fields (R253, R254, R255, R260, R261) and the lane types
each group of members accepts (R324). -/

namespace Sys2Proof

/-- R43, R254. -/
def scopeCode : Scope → Nat
  | .core => 0 | .quad => 1 | .clus => 2 | .die => 3 | .mod => 4 | .pod => 5 | .sys => 6

/-- R254; the value 7 is reserved. -/
def scopeOf : Nat → Option Scope
  | 0 => some .core | 1 => some .quad | 2 => some .clus | 3 => some .die | 4 => some .mod | 5 => some .pod | 6 => some .sys
  | _ => none

/-- R253. -/
def sizeCode : Size → Nat
  | .b1 => 0 | .b2 => 1 | .b4 => 2 | .b8 => 3

/-- R253. -/
def sizeOf : Nat → Size
  | 0 => .b1 | 1 => .b2 | 2 => .b4 | _ => .b8

/-- Bytes of a size (R253). -/
def sizeBytes : Size → Nat
  | .b1 => 1 | .b2 => 2 | .b4 => 4 | .b8 => 8

/-- R260, op 0x02. -/
def condCode : Cond → Nat
  | .eq => 0 | .ne => 1 | .ltS => 2 | .ltZ => 3 | .leS => 4 | .leZ => 5 | .gtS => 6 | .gtZ => 7 | .geS => 8 | .geZ => 9 | .tst => 10

/-- R260, op 0x02: 11 and above are reserved. -/
def condOf : Nat → Option Cond
  | 0 => some .eq | 1 => some .ne | 2 => some .ltS | 3 => some .ltZ | 4 => some .leS | 5 => some .leZ | 6 => some .gtS
  | 7 => some .gtZ | 8 => some .geS | 9 => some .geZ | 10 => some .tst
  | _ => none

/-- R260, op 0x25. -/
def vcondCode : VCond → Nat
  | .eq => 0 | .ne => 1 | .lt => 2 | .le => 3

/-- R255. -/
def tyCode : Ty → Nat
  | .f64 => 0 | .f32 => 1 | .f16 => 2 | .bf16 => 3 | .s64 => 4 | .s32 => 5 | .s16 => 6 | .s8 => 7 | .z64 => 8 | .z32 => 9
  | .z16 => 10 | .z8 => 11 | .narrow => 12

/-- R255: 13 to 15 are reserved. -/
def tyOf : Nat → Option Ty
  | 0 => some .f64 | 1 => some .f32 | 2 => some .f16 | 3 => some .bf16 | 4 => some .s64 | 5 => some .s32 | 6 => some .s16
  | 7 => some .s8 | 8 => some .z64 | 9 => some .z32 | 10 => some .z16 | 11 => some .z8 | 12 => some .narrow
  | _ => none

/-- R332. -/
def rmCode : CvtRm → Nat
  | .fpc => 0 | .rne => 1 | .rtz => 2 | .rup => 3 | .rdn => 4

/-- R332: 5 to 7 are reserved. -/
def rmOf : Nat → Option CvtRm
  | 0 => some .fpc | 1 => some .rne | 2 => some .rtz | 3 => some .rup | 4 => some .rdn
  | _ => none

/-- R261. -/
def kindCode : FenceKind → Nat
  | .acq => 0 | .rel => 1 | .full => 2

/-- R261: 3 is reserved. -/
def kindOf : Nat → Option FenceKind
  | 0 => some .acq | 1 => some .rel | 2 => some .full
  | _ => none

/-- R301. -/
def aopCode : Aop → Nat
  | .add => 0 | .and => 1 | .or => 2 | .xor => 3 | .minS => 4 | .maxS => 5 | .swap => 6 | .cas => 7

/-- R301. -/
def aopOf : Nat → Aop
  | 0 => .add | 1 => .and | 2 => .or | 3 => .xor | 4 => .minS | 5 => .maxS | 6 => .swap | _ => .cas

/-- R253. -/
def esizeCode : ESize → Nat
  | .e32 => 0 | .e16 => 1 | .e8 => 2

/-- R253: 3 is reserved. -/
def esizeOf : Nat → Option ESize
  | 0 => some .e32 | 1 => some .e16 | 2 => some .e8
  | _ => none

/-- Registers that `ldvt` loads (R253, R295). -/
def esizeCount : ESize → Nat
  | .e32 => 4 | .e16 => 8 | .e8 => 16

/-- The link field of op 0x28 (R260). -/
def dirCode : Dir → Nat
  | .n => 0 | .e => 1 | .s => 2 | .w => 3

/-- The link field of op 0x28 (R260). -/
def dirOf : Nat → Dir
  | 0 => .n | 1 => .e | 2 => .s | _ => .w

/-- A load's or store's ordering bit and scope, as 4 bits (forms M and W of R250). -/
def annCode : Ann → Nat
  | .relaxed => 0
  | .ordered s => 8 + scopeCode s

/-- The ordering field at bit `o` with the scope field at `lo` (R253); the scope 7 is refused beside it. -/
def annOf (w o lo : Nat) : Ann :=
  if w / 2 ^ o % 2 = 1 then .ordered ((scopeOf (w / 2 ^ lo % 8)).getD .core) else .relaxed

/-- Whether an ordered access carries a defined scope (R254). -/
def annOk (w o lo : Nat) : Bool :=
  if w / 2 ^ o % 2 = 1 then (scopeOf (w / 2 ^ lo % 8)).isSome else true

/-- An atomic's ordering and scope, as 5 bits (form A of R250). -/
def aannCode : AAnn → Nat
  | .relaxed => 0
  | .acq s => 8 + scopeCode s
  | .rel s => 16 + scopeCode s
  | .acqrel s => 24 + scopeCode s

/-- An atomic's ordering from its word (R253). -/
def aannOf (w : Nat) : AAnn :=
  match w / 8 % 4, (scopeOf (w % 8)).getD .core with
  | 0, _ => .relaxed
  | 1, s => .acq s
  | 2, s => .rel s
  | _, s => .acqrel s

/-- Floating lane types (R255). -/
def tysFloat : List Ty := [.f64, .f32, .f16, .bf16]
/-- Integer lane types (R255). -/
def tysInt : List Ty := [.s64, .s32, .s16, .s8, .z64, .z32, .z16, .z8]
/-- The types of fixed width. -/
def tysFixed : List Ty := tysFloat ++ tysInt
/-- Every type (R255). -/
def tysAll : List Ty := tysFixed ++ [.narrow]
/-- The destinations of `vpack` (R324). -/
def tysPack : List Ty := [.s32, .s16, .s8, .z32, .z16, .z8]
/-- The destinations of `vunpk` (R324). -/
def tysUnpk : List Ty := [.f64, .f32, .s64, .s32, .s16, .z64, .z32, .z16]
/-- The sources of `vdot` (R324). -/
def tysDot : List Ty := [.f32, .f16, .bf16, .narrow]
/-- The sources of `vdot.i` (R324). -/
def tysDotI : List Ty := [.s16, .s8, .z16, .z8]

/-- Width in bits of a fixed-width type (R255); the narrow type's width comes from NFC (R325). -/
def tyWidth : Ty → Nat
  | .f64 | .s64 | .z64 => 64
  | .f32 | .s32 | .z32 => 32
  | .f16 | .bf16 | .s16 | .z16 => 16
  | .s8 | .z8 | .narrow => 8

/-- Signed integer types (R255). -/
def tySigned : Ty → Bool
  | .s64 | .s32 | .s16 | .s8 => true
  | _ => false

/-- Integer types (R255). -/
def tyIsInt : Ty → Bool
  | .s64 | .s32 | .s16 | .s8 | .z64 | .z32 | .z16 | .z8 => true
  | _ => false

/-- R337: a lane index lies in a fixed-width type; type 12 is judged at execution. -/
def idxOk (ty : Ty) (idx : Nat) : Bool :=
  match ty with
  | .narrow => true
  | _ => decide (idx < 128 / tyWidth ty)

end Sys2Proof
end

