-- ==== Sys2Proof/WellFormed.lean ====
section
/-! DEFINITION. What the encoding admits of an instruction's operands (R252, R253, R324, R332, R337). -/

namespace Sys2Proof

/-- Whether the instruction has a word (the first 187 rows of the opcode table). -/
def Instr.isWord : Instr → Bool
  | .add _ _ _ _ _ => true
  | .sub _ _ _ _ _ => true
  | .mul _ _ _ _ _ => true
  | .mulhS _ _ _ _ _ => true
  | .mulhZ _ _ _ _ _ => true
  | .divS _ _ _ _ _ => true
  | .divZ _ _ _ _ _ => true
  | .remS _ _ _ _ _ => true
  | .remZ _ _ _ _ _ => true
  | .and _ _ _ _ _ => true
  | .or _ _ _ _ _ => true
  | .xor _ _ _ _ _ => true
  | .andn _ _ _ _ _ => true
  | .orn _ _ _ _ _ => true
  | .shl _ _ _ _ _ => true
  | .shr _ _ _ _ _ => true
  | .sar _ _ _ _ _ => true
  | .rol _ _ _ _ _ => true
  | .ror _ _ _ _ _ => true
  | .minS _ _ _ _ _ => true
  | .minZ _ _ _ _ _ => true
  | .maxS _ _ _ _ _ => true
  | .maxZ _ _ _ _ _ => true
  | .clz _ _ _ => true
  | .ctz _ _ _ => true
  | .popc _ _ _ => true
  | .bswap _ _ _ => true
  | .lea1 _ _ _ _ _ => true
  | .lea2 _ _ _ _ _ => true
  | .lea3 _ _ _ _ _ => true
  | .cmp _ _ _ _ _ _ => true
  | .addi _ _ _ _ => true
  | .andi _ _ _ _ => true
  | .ori _ _ _ _ => true
  | .xori _ _ _ _ => true
  | .shli _ _ _ _ => true
  | .shri _ _ _ _ => true
  | .sari _ _ _ _ => true
  | .cmpi _ _ _ _ _ => true
  | .liS _ _ => true
  | .liZ _ _ => true
  | .lih _ _ => true
  | .bextS _ _ _ _ _ => true
  | .bextZ _ _ _ _ _ => true
  | .bins _ _ _ _ _ => true
  | .pand _ _ _ => true
  | .por _ _ _ => true
  | .pxor _ _ _ => true
  | .pandn _ _ _ => true
  | .pnot _ _ => true
  | .pmov _ _ => true
  | .pget _ => true
  | .pput _ _ _ _ => true
  | .br _ _ _ => true
  | .call _ => true
  | .jr _ _ => true
  | .jalr _ _ _ => true
  | .nop => true
  | .endTask => true
  | .yield => true
  | .trap _ => true
  | .eret _ _ => true
  | .halt => true
  | .brk => true
  | .ldZ _ _ _ _ _ _ => true
  | .ldS _ _ _ _ _ _ => true
  | .st _ _ _ _ _ _ => true
  | .ldv _ _ _ _ _ => true
  | .stv _ _ _ _ _ => true
  | .ldvt _ _ _ _ _ => true
  | .fence _ _ => true
  | .pf _ => true
  | .qbind _ _ _ => true
  | .qfree _ => true
  | .salloc _ _ _ _ => true
  | .qstat _ _ => true
  | .qget _ _ => true
  | .qgetv _ _ => true
  | .amo32 _ _ _ _ _ => true
  | .amo64 _ _ _ _ _ => true
  | .faddF32 _ _ _ _ _ => true
  | .faddF16 _ _ _ _ _ => true
  | .faddF64 _ _ _ _ _ => true
  | .faddBf16 _ _ _ _ _ => true
  | .decp _ _ _ => true
  | .waita _ _ _ _ _ => true
  | .barQuad => true
  | .barClus => true
  | .barDie => true
  | .barMod => true
  | .barPod => true
  | .boinit _ _ _ _ => true
  | .boarr _ _ _ _ => true
  | .bowait _ _ _ _ => true
  | .fork _ _ _ _ _ => true
  | .join _ _ => true
  | .rfork _ _ _ _ => true
  | .post _ _ _ _ => true
  | .cdinit _ _ _ _ => true
  | .grow _ _ _ => true
  | .shrink _ _ _ => true
  | .stgpush _ _ _ _ _ => true
  | .stgsub _ _ => true
  | .park _ _ => true
  | .send _ _ _ _ _ => true
  | .cmask _ _ => true
  | .cunmask _ _ => true
  | .cpend _ _ _ => true
  | .swapx _ _ _ _ => true
  | .sendr _ _ _ _ _ _ => true
  | .vadd _ _ _ _ => true
  | .vsub _ _ _ _ => true
  | .vmul _ _ _ _ => true
  | .vmin _ _ _ _ => true
  | .vmax _ _ _ _ => true
  | .vand _ _ _ => true
  | .vor _ _ _ => true
  | .vxor _ _ _ => true
  | .vandn _ _ _ => true
  | .vshl _ _ _ _ => true
  | .vshr _ _ _ _ => true
  | .vsar _ _ _ _ => true
  | .vmov _ _ => true
  | .vfma _ _ _ _ _ => true
  | .vfms _ _ _ _ _ => true
  | .vfnma _ _ _ _ _ => true
  | .vfnms _ _ _ _ _ => true
  | .vcvt _ _ _ _ _ => true
  | .vrcp _ _ _ => true
  | .vrsqrt _ _ _ => true
  | .vsqrt _ _ _ => true
  | .vexp2 _ _ _ => true
  | .vlog2 _ _ _ => true
  | .vdiv _ _ _ _ => true
  | .vperm _ _ _ _ => true
  | .vbcast _ _ _ => true
  | .vins _ _ _ _ => true
  | .vext _ _ _ _ => true
  | .vredAdd _ _ _ => true
  | .vredMin _ _ _ => true
  | .vredMax _ _ _ => true
  | .vpack _ _ _ _ => true
  | .vunpkLo _ _ _ => true
  | .vunpkHi _ _ _ => true
  | .vzip _ _ _ _ => true
  | .vunzip _ _ _ _ => true
  | .vcmp _ _ _ _ _ => true
  | .vclass _ _ _ => true
  | .vsel _ _ _ _ => true
  | .vdot _ _ _ _ _ => true
  | .vdotI _ _ _ _ _ => true
  | .lks _ _ _ => true
  | .lkm _ _ _ _ _ => true
  | .lkq _ _ => true
  | .lkdrain _ _ => true
  | .lkload _ _ => true
  | .lkfrz _ => true
  | .lkthw _ => true
  | .lkcan _ _ _ => true
  | .cpy _ _ _ => true
  | .gat _ _ _ => true
  | .sca _ _ _ => true
  | .redc _ _ _ => true
  | .bct _ _ _ => true
  | .tdset _ _ => true
  | .tdget _ _ _ => true
  | .tdinv _ => true
  | .gmacc _ _ _ => true
  | .gmsub _ _ _ => true
  | .gmelim _ _ _ => true
  | .gmdamp _ _ => true
  | .gmmean _ _ _ => true
  | .gmres _ _ _ => true
  | .gmsend _ _ => true
  | .gmcpy _ _ => true
  | .tlbw _ _ _ _ _ => true
  | .tlbi _ _ _ _ => true
  | .fres _ _ _ _ => true
  | .ctxs _ _ => true
  | .ctxl _ _ => true
  | .wtab _ _ _ _ => true
  | .wclose _ _ => true
  | .wopen _ _ => true
  | .rmap _ _ _ _ => true
  | .evac _ _ _ _ => true
  | .getc _ _ => true
  | .setc _ _ _ => true
  | .smrReissue _ _ _ => false
  | .fmthAdmit _ => false
  | .fmthRefuse _ => false
  | .tprdWrite _ _ => false
  | .alstClear _ => false
  | .cmaskWrite _ _ => false
  | .iclWrite _ _ => false
  | .pceilWrite _ => false
  | .counterWrite _ _ _ => false
  | .taskStart _ _ => false
  | .l0HandlerStart _ => false
  | .deferredTrapDelivery _ _ => false
  | .spillRefill _ _ => false
  | .antiStarvationTurn _ => false
  | .fetchDutyWindow _ => false
  | .stealRound _ => false
  | .stealRequest _ _ => false
  | .stagePop _ => false
  | .governorWindow _ => false
  | .swapQuantum _ => false
  | .teamSwapOut _ => false
  | .teamSwapIn _ => false
  | .watchWake _ _ => false
  | .waitaTimeout _ => false
  | .parkTimeout _ => false
  | .registerFill _ => false
  | .remoteAccessAtHome _ => false
  | .releaseRetry _ => false
  | .commitToken _ => false
  | .releaseWithdraw _ => false
  | .scopeMissReturn _ => false
  | .refusalReturn _ => false
  | .tlbMissMessage _ _ _ => false
  | .packetHeadRouting _ => false
  | .messageArrival _ => false
  | .gmRecordArrival _ => false
  | .heldAlertRetry _ => false
  | .enginePairing _ => false
  | .jobStart _ => false
  | .beatPull _ => false
  | .rowSend _ => false
  | .resultPacketArrival _ => false
  | .streamRowDelivery _ => false
  | .tileEndArrival _ => false
  | .engwaitTimeout _ _ => false
  | .swapxTimeout _ _ => false
  | .copyJobStart _ => false
  | .copyUnit _ _ _ => false
  | .bctArrival _ => false
  | .gmuRequestStart _ => false
  | .gmuRequestComplete _ => false
  | .budgetPeriod _ _ => false
  | .monitorSample _ _ => false
  | .sensorSample _ => false
  | .stateRequest _ => false
  | .transitionStart => false
  | .islandStepDown _ => false
  | .diePark _ => false
  | .dieUnpark _ => false
  | .sqDoorbell _ _ => false
  | .launchRecord _ => false
  | .createContextRecord _ => false
  | .destroyContextRecord _ => false
  | .checkpointRecord _ => false
  | .checkpointStream => false
  | .launchCompletion _ => false
  | .watchdogExpiry _ => false
  | .cqHeadWrite _ _ => false
  | .faultConsumerIndex _ => false
  | .resolutionWord _ => false
  | .attestationRequest _ _ => false
  | .recoveryRequest _ _ => false
  | .hostMemoryAccess _ _ _ => false
  | .powerOn _ _ => false
  | .remoteAccessTimeout _ => false
  | .flitArrival _ _ _ => false
  | .flitAck _ _ => false
  | .flitNak _ _ _ => false
  | .replayRequest _ _ _ => false
  | .endToEndAck _ _ => false
  | .controlSpaceTaskStart _ _ _ _ => false
  | .coreRestart _ => false
  | .stageConfigStore _ _ _ _ _ => false
  | .routeTableWrite _ _ _ => false
  | .psTableWrite _ _ => false
  | .permissionTableWrite _ _ _ _ => false
  | .floorWrite _ _ _ _ => false
  | .encodingError _ _ _ => false
  | .queueConfigurationWrite _ _ _ => false
  | .modeChange _ => false
  | .podBarrierArrival _ _ => false
  | .firmwareGridStart _ _ _ _ => false
  | .contextAbortEnd _ => false
  | .darkroomAbortRequest _ _ => false

/-- Whether the encoding admits the instruction's operands: the field values of R263's sixth step. -/
def Instr.wellFormed : Instr → Bool
  | .add _ _ _ _ _ => true
  | .sub _ _ _ _ _ => true
  | .mul _ _ _ _ _ => true
  | .mulhS _ _ _ _ _ => true
  | .mulhZ _ _ _ _ _ => true
  | .divS _ _ _ _ _ => true
  | .divZ _ _ _ _ _ => true
  | .remS _ _ _ _ _ => true
  | .remZ _ _ _ _ _ => true
  | .and _ _ _ _ _ => true
  | .or _ _ _ _ _ => true
  | .xor _ _ _ _ _ => true
  | .andn _ _ _ _ _ => true
  | .orn _ _ _ _ _ => true
  | .shl _ _ _ _ _ => true
  | .shr _ _ _ _ _ => true
  | .sar _ _ _ _ _ => true
  | .rol _ _ _ _ _ => true
  | .ror _ _ _ _ _ => true
  | .minS _ _ _ _ _ => true
  | .minZ _ _ _ _ _ => true
  | .maxS _ _ _ _ _ => true
  | .maxZ _ _ _ _ _ => true
  | .clz _ _ _ => true
  | .ctz _ _ _ => true
  | .popc _ _ _ => true
  | .bswap _ _ _ => true
  | .lea1 _ _ _ _ _ => true
  | .lea2 _ _ _ _ _ => true
  | .lea3 _ _ _ _ _ => true
  | .cmp _ _ _ _ _ _ => true
  | .addi _ _ _ _ => true
  | .andi _ _ _ _ => true
  | .ori _ _ _ _ => true
  | .xori _ _ _ _ => true
  | .shli _ _ _ _ => true
  | .shri _ _ _ _ => true
  | .sari _ _ _ _ => true
  | .cmpi _ _ _ _ _ => true
  | .liS _ _ => true
  | .liZ _ _ => true
  | .lih _ _ => true
  | .bextS _ _ _ pos wm1 => decide (pos.toNat + wm1.toNat + 1 ≤ 64)
  | .bextZ _ _ _ pos wm1 => decide (pos.toNat + wm1.toNat + 1 ≤ 64)
  | .bins _ _ _ pos wm1 => decide (pos.toNat + wm1.toNat + 1 ≤ 64)
  | .pand _ _ _ => true
  | .por _ _ _ => true
  | .pxor _ _ _ => true
  | .pandn _ _ _ => true
  | .pnot _ _ => true
  | .pmov _ _ => true
  | .pget _ => true
  | .pput _ _ _ _ => true
  | .br _ _ _ => true
  | .call _ => true
  | .jr _ _ => true
  | .jalr _ _ _ => true
  | .nop => true
  | .endTask => true
  | .yield => true
  | .trap _ => true
  | .eret _ _ => true
  | .halt => true
  | .brk => true
  | .ldZ _ _ _ _ _ _ => true
  | .ldS _ _ _ _ _ _ => true
  | .st _ _ _ _ _ _ => true
  | .ldv _ _ _ _ _ => true
  | .stv _ _ _ _ _ => true
  | .ldvt v _ _ es _ => decide (v.toNat + esizeCount es ≤ 32)
  | .fence _ _ => true
  | .pf _ => true
  | .qbind _ _ _ => true
  | .qfree _ => true
  | .salloc _ _ _ _ => true
  | .qstat _ _ => true
  | .qget _ _ => true
  | .qgetv _ _ => true
  | .amo32 _ _ _ _ _ => true
  | .amo64 _ _ _ _ _ => true
  | .faddF32 _ _ _ _ _ => true
  | .faddF16 _ _ _ _ _ => true
  | .faddF64 _ _ _ _ _ => true
  | .faddBf16 _ _ _ _ _ => true
  | .decp _ _ _ => true
  | .waita _ _ _ _ _ => true
  | .barQuad => true
  | .barClus => true
  | .barDie => true
  | .barMod => true
  | .barPod => true
  | .boinit _ _ _ _ => true
  | .boarr _ _ _ _ => true
  | .bowait _ _ _ _ => true
  | .fork _ _ _ _ _ => true
  | .join _ _ => true
  | .rfork _ _ _ _ => true
  | .post _ _ _ _ => true
  | .cdinit _ _ _ _ => true
  | .grow _ _ _ => true
  | .shrink _ _ _ => true
  | .stgpush _ _ _ _ _ => true
  | .stgsub _ _ => true
  | .park _ _ => true
  | .send _ _ _ _ _ => true
  | .cmask _ _ => true
  | .cunmask _ _ => true
  | .cpend _ _ _ => true
  | .swapx _ _ _ _ => true
  | .sendr _ _ _ _ _ _ => true
  | .vadd _ _ _ ty => tysAll.contains ty
  | .vsub _ _ _ ty => tysAll.contains ty
  | .vmul _ _ _ ty => tysAll.contains ty
  | .vmin _ _ _ ty => tysAll.contains ty
  | .vmax _ _ _ ty => tysAll.contains ty
  | .vand _ _ _ => true
  | .vor _ _ _ => true
  | .vxor _ _ _ => true
  | .vandn _ _ _ => true
  | .vshl _ _ _ ty => tysInt.contains ty
  | .vshr _ _ _ ty => tysInt.contains ty
  | .vsar _ _ _ ty => tysInt.contains ty
  | .vmov _ _ => true
  | .vfma _ _ _ _ ty => tysFloat.contains ty
  | .vfms _ _ _ _ ty => tysFloat.contains ty
  | .vfnma _ _ _ _ ty => tysFloat.contains ty
  | .vfnms _ _ _ _ ty => tysFloat.contains ty
  | .vcvt _ _ dt sty _ => decide (dt ≠ sty)
  | .vrcp _ _ ty => tysFloat.contains ty
  | .vrsqrt _ _ ty => tysFloat.contains ty
  | .vsqrt _ _ ty => tysFloat.contains ty
  | .vexp2 _ _ ty => tysFloat.contains ty
  | .vlog2 _ _ ty => tysFloat.contains ty
  | .vdiv _ _ _ ty => tysFloat.contains ty
  | .vperm _ _ _ ty => tysInt.contains ty
  | .vbcast _ _ ty => tysAll.contains ty
  | .vins _ _ b ty => tysAll.contains ty && idxOk ty b.toNat
  | .vext _ _ b ty => tysAll.contains ty && idxOk ty b.toNat
  | .vredAdd _ _ ty => tysFixed.contains ty
  | .vredMin _ _ ty => tysFixed.contains ty
  | .vredMax _ _ ty => tysFixed.contains ty
  | .vpack _ _ _ ty => tysPack.contains ty
  | .vunpkLo _ _ ty => tysUnpk.contains ty
  | .vunpkHi _ _ ty => tysUnpk.contains ty
  | .vzip _ _ _ ty => tysFixed.contains ty
  | .vunzip _ _ _ ty => tysFixed.contains ty
  | .vcmp _ _ _ ty _ => tysAll.contains ty
  | .vclass _ _ ty => tysFloat.contains ty
  | .vsel _ _ _ _ => true
  | .vdot _ _ _ _ ty => tysDot.contains ty
  | .vdotI _ _ _ _ ty => tysDotI.contains ty
  | .lks _ _ _ => true
  | .lkm _ _ _ _ _ => true
  | .lkq _ _ => true
  | .lkdrain _ _ => true
  | .lkload _ _ => true
  | .lkfrz _ => true
  | .lkthw _ => true
  | .lkcan _ _ _ => true
  | .cpy _ _ _ => true
  | .gat _ _ _ => true
  | .sca _ _ _ => true
  | .redc _ _ _ => true
  | .bct _ _ _ => true
  | .tdset _ _ => true
  | .tdget _ _ _ => true
  | .tdinv _ => true
  | .gmacc _ _ _ => true
  | .gmsub _ _ _ => true
  | .gmelim _ _ _ => true
  | .gmdamp _ _ => true
  | .gmmean _ _ _ => true
  | .gmres _ _ _ => true
  | .gmsend _ _ => true
  | .gmcpy _ _ => true
  | .tlbw _ _ _ _ _ => true
  | .tlbi _ _ _ _ => true
  | .fres _ _ _ _ => true
  | .ctxs _ _ => true
  | .ctxl _ _ => true
  | .wtab _ _ _ _ => true
  | .wclose _ _ => true
  | .wopen _ _ => true
  | .rmap _ _ _ _ => true
  | .evac _ _ _ _ => true
  | .getc _ _ => true
  | .setc _ _ _ => true
  | .smrReissue _ _ _ => true
  | .fmthAdmit _ => true
  | .fmthRefuse _ => true
  | .tprdWrite _ _ => true
  | .alstClear _ => true
  | .cmaskWrite _ _ => true
  | .iclWrite _ _ => true
  | .pceilWrite _ => true
  | .counterWrite _ _ _ => true
  | .taskStart _ _ => true
  | .l0HandlerStart _ => true
  | .deferredTrapDelivery _ _ => true
  | .spillRefill _ _ => true
  | .antiStarvationTurn _ => true
  | .fetchDutyWindow _ => true
  | .stealRound _ => true
  | .stealRequest _ _ => true
  | .stagePop _ => true
  | .governorWindow _ => true
  | .swapQuantum _ => true
  | .teamSwapOut _ => true
  | .teamSwapIn _ => true
  | .watchWake _ _ => true
  | .waitaTimeout _ => true
  | .parkTimeout _ => true
  | .registerFill _ => true
  | .remoteAccessAtHome _ => true
  | .releaseRetry _ => true
  | .commitToken _ => true
  | .releaseWithdraw _ => true
  | .scopeMissReturn _ => true
  | .refusalReturn _ => true
  | .tlbMissMessage _ _ _ => true
  | .packetHeadRouting _ => true
  | .messageArrival _ => true
  | .gmRecordArrival _ => true
  | .heldAlertRetry _ => true
  | .enginePairing _ => true
  | .jobStart _ => true
  | .beatPull _ => true
  | .rowSend _ => true
  | .resultPacketArrival _ => true
  | .streamRowDelivery _ => true
  | .tileEndArrival _ => true
  | .engwaitTimeout _ _ => true
  | .swapxTimeout _ _ => true
  | .copyJobStart _ => true
  | .copyUnit _ _ _ => true
  | .bctArrival _ => true
  | .gmuRequestStart _ => true
  | .gmuRequestComplete _ => true
  | .budgetPeriod _ _ => true
  | .monitorSample _ _ => true
  | .sensorSample _ => true
  | .stateRequest _ => true
  | .transitionStart => true
  | .islandStepDown _ => true
  | .diePark _ => true
  | .dieUnpark _ => true
  | .sqDoorbell _ _ => true
  | .launchRecord _ => true
  | .createContextRecord _ => true
  | .destroyContextRecord _ => true
  | .checkpointRecord _ => true
  | .checkpointStream => true
  | .launchCompletion _ => true
  | .watchdogExpiry _ => true
  | .cqHeadWrite _ _ => true
  | .faultConsumerIndex _ => true
  | .resolutionWord _ => true
  | .attestationRequest _ _ => true
  | .recoveryRequest _ _ => true
  | .hostMemoryAccess _ _ _ => true
  | .powerOn _ _ => true
  | .remoteAccessTimeout _ => true
  | .flitArrival _ _ _ => true
  | .flitAck _ _ => true
  | .flitNak _ _ _ => true
  | .replayRequest _ _ _ => true
  | .endToEndAck _ _ => true
  | .controlSpaceTaskStart _ _ _ _ => true
  | .coreRestart _ => true
  | .stageConfigStore _ _ _ _ _ => true
  | .routeTableWrite _ _ _ => true
  | .psTableWrite _ _ => true
  | .permissionTableWrite _ _ _ _ => true
  | .floorWrite _ _ _ _ => true
  | .encodingError _ _ _ => true
  | .queueConfigurationWrite _ _ _ => true
  | .modeChange _ => true
  | .podBarrierArrival _ _ => true
  | .firmwareGridStart _ _ _ _ => true
  | .contextAbortEnd _ => true
  | .darkroomAbortRequest _ _ => true

end Sys2Proof
end

