-- ==== Sys2Proof/Decode.lean ====
section
/-! DEFINITION. From words to groups and back (12_encoding): the decoder, total on any words, which rejects by
the reasons of R262 in the order of R263, and the encoder. -/

namespace Sys2Proof

/-- Bits `lo` up, `len` of them, are zero (R251). -/
def z (w lo len : Nat) : Bool := fld w lo len == 0

/-- A 6-bit register field (R251). -/
def gr (w lo : Nat) : GReg := .ofNat 6 (fld w lo 6)

/-- A 5-bit register field (R251). -/
def vr (w lo : Nat) : VReg := .ofNat 5 (fld w lo 5)

/-- A predicate operand (R261). -/
def pr (w lo : Nat) : PReg := .ofNat 3 (fld w lo 3)

/-- A stream register operand (R299). -/
def qr (w lo : Nat) : QReg := .ofNat 4 (fld w lo 4)

/-- The type field at `lo`, when it is defined (R255). -/
def tyD (w lo : Nat) : Ty := (tyOf (fld w lo 4)).getD .f64

/-- The type field at `lo` is one of the member's types (R324). -/
def tyIn (w lo : Nat) (l : List Ty) : Bool :=
  match tyOf (fld w lo 4) with
  | some t => l.contains t
  | none => false

/-- What a word is: no opcode (reason 1), no member (reason 2), or a member, with whether its zero fields are
zero (reason 3) and its values are defined (reason 4). -/
inductive Member
  | noOpcode
  | noSelector
  | row (zero vals : Bool) (i : Instr)
  deriving DecidableEq, Repr

/-- Op 0x01 of R260. -/
def decodeAlu (w : Nat) : Member :=
  match fld w 0 6 with
  | 0 => .row true true (.add (gr w 20) (gr w 14) (gr w 8) (bitAt w 7) (bitAt w 6))
  | 1 => .row true true (.sub (gr w 20) (gr w 14) (gr w 8) (bitAt w 7) (bitAt w 6))
  | 2 => .row true true (.mul (gr w 20) (gr w 14) (gr w 8) (bitAt w 7) (bitAt w 6))
  | 3 => .row true true (.mulhS (gr w 20) (gr w 14) (gr w 8) (bitAt w 7) (bitAt w 6))
  | 4 => .row true true (.mulhZ (gr w 20) (gr w 14) (gr w 8) (bitAt w 7) (bitAt w 6))
  | 5 => .row true true (.divS (gr w 20) (gr w 14) (gr w 8) (bitAt w 7) (bitAt w 6))
  | 6 => .row true true (.divZ (gr w 20) (gr w 14) (gr w 8) (bitAt w 7) (bitAt w 6))
  | 7 => .row true true (.remS (gr w 20) (gr w 14) (gr w 8) (bitAt w 7) (bitAt w 6))
  | 8 => .row true true (.remZ (gr w 20) (gr w 14) (gr w 8) (bitAt w 7) (bitAt w 6))
  | 9 => .row true true (.and (gr w 20) (gr w 14) (gr w 8) (bitAt w 7) (bitAt w 6))
  | 10 => .row true true (.or (gr w 20) (gr w 14) (gr w 8) (bitAt w 7) (bitAt w 6))
  | 11 => .row true true (.xor (gr w 20) (gr w 14) (gr w 8) (bitAt w 7) (bitAt w 6))
  | 12 => .row true true (.andn (gr w 20) (gr w 14) (gr w 8) (bitAt w 7) (bitAt w 6))
  | 13 => .row true true (.orn (gr w 20) (gr w 14) (gr w 8) (bitAt w 7) (bitAt w 6))
  | 14 => .row true true (.shl (gr w 20) (gr w 14) (gr w 8) (bitAt w 7) (bitAt w 6))
  | 15 => .row true true (.shr (gr w 20) (gr w 14) (gr w 8) (bitAt w 7) (bitAt w 6))
  | 16 => .row true true (.sar (gr w 20) (gr w 14) (gr w 8) (bitAt w 7) (bitAt w 6))
  | 17 => .row true true (.rol (gr w 20) (gr w 14) (gr w 8) (bitAt w 7) (bitAt w 6))
  | 18 => .row true true (.ror (gr w 20) (gr w 14) (gr w 8) (bitAt w 7) (bitAt w 6))
  | 19 => .row true true (.minS (gr w 20) (gr w 14) (gr w 8) (bitAt w 7) (bitAt w 6))
  | 20 => .row true true (.minZ (gr w 20) (gr w 14) (gr w 8) (bitAt w 7) (bitAt w 6))
  | 21 => .row true true (.maxS (gr w 20) (gr w 14) (gr w 8) (bitAt w 7) (bitAt w 6))
  | 22 => .row true true (.maxZ (gr w 20) (gr w 14) (gr w 8) (bitAt w 7) (bitAt w 6))
  | 23 => .row (z w 8 6 && z w 6 1) true (.clz (gr w 20) (gr w 14) (bitAt w 7))
  | 24 => .row (z w 8 6 && z w 6 1) true (.ctz (gr w 20) (gr w 14) (bitAt w 7))
  | 25 => .row (z w 8 6 && z w 6 1) true (.popc (gr w 20) (gr w 14) (bitAt w 7))
  | 26 => .row (z w 8 6 && z w 6 1) true (.bswap (gr w 20) (gr w 14) (bitAt w 7))
  | 27 => .row true true (.lea1 (gr w 20) (gr w 14) (gr w 8) (bitAt w 7) (bitAt w 6))
  | 28 => .row true true (.lea2 (gr w 20) (gr w 14) (gr w 8) (bitAt w 7) (bitAt w 6))
  | 29 => .row true true (.lea3 (gr w 20) (gr w 14) (gr w 8) (bitAt w 7) (bitAt w 6))
  | _ => .noSelector

/-- Op 0x02 of R260. -/
def decodeCmp (w : Nat) : Member :=
  match condOf (fld w 0 6) with
  | none => .noSelector
  | some cc => .row (z w 20 3) true (.cmp (.ofNat 3 (fld w 23 3)) (gr w 14) (gr w 8) (bitAt w 7) (bitAt w 6) cc)

/-- Op 0x03 of R260. -/
def decodeAddi (w : Nat) : Member :=
  .row true true (.addi (gr w 20) (gr w 14) (bitAt w 13) (.ofNat 13 (fld w 0 13)))

/-- Op 0x04 of R260. -/
def decodeAndi (w : Nat) : Member :=
  .row true true (.andi (gr w 20) (gr w 14) (bitAt w 13) (.ofNat 13 (fld w 0 13)))

/-- Op 0x05 of R260. -/
def decodeOri (w : Nat) : Member :=
  .row true true (.ori (gr w 20) (gr w 14) (bitAt w 13) (.ofNat 13 (fld w 0 13)))

/-- Op 0x06 of R260. -/
def decodeXori (w : Nat) : Member :=
  .row true true (.xori (gr w 20) (gr w 14) (bitAt w 13) (.ofNat 13 (fld w 0 13)))

/-- Op 0x07 of R260. -/
def decodeShiftImm (w : Nat) : Member :=
  match fld w 11 2 with
  | 0 => .row (z w 6 5) true (.shli (gr w 20) (gr w 14) (bitAt w 13) (.ofNat 6 (fld w 0 6)))
  | 1 => .row (z w 6 5) true (.shri (gr w 20) (gr w 14) (bitAt w 13) (.ofNat 6 (fld w 0 6)))
  | 2 => .row (z w 6 5) true (.sari (gr w 20) (gr w 14) (bitAt w 13) (.ofNat 6 (fld w 0 6)))
  | _ => .noSelector

/-- Op 0x08 of R260. -/
def decodeCmpi (w : Nat) : Member :=
  match condOf (fld w 9 4) with
  | none => .noSelector
  | some cc => .row (z w 20 3) true (.cmpi (.ofNat 3 (fld w 23 3)) (gr w 14) (bitAt w 13) cc (.ofNat 9 (fld w 0 9)))

/-- Op 0x09 of R260. -/
def decodeLi (w : Nat) (ext : IWord) : Member :=
  match fld w 0 13 with
  | 0 => .row (z w 14 6 && z w 13 1) true (.liS (gr w 20) ext)
  | 1 => .row (z w 14 6 && z w 13 1) true (.liZ (gr w 20) ext)
  | 2 => .row (z w 14 6 && z w 13 1) true (.lih (gr w 20) ext)
  | _ => .noSelector

/-- Op 0x0A of R260. -/
def decodeBitField (w : Nat) : Member :=
  match fld w 11 2 with
  | 0 => .row true (fld w 5 6 + fld w 0 5 + 1 ≤ 64) (.bextS (gr w 20) (gr w 14) (bitAt w 13) (.ofNat 6 (fld w 5 6)) (.ofNat 5 (fld w 0 5)))
  | 1 => .row true (fld w 5 6 + fld w 0 5 + 1 ≤ 64) (.bextZ (gr w 20) (gr w 14) (bitAt w 13) (.ofNat 6 (fld w 5 6)) (.ofNat 5 (fld w 0 5)))
  | 2 => .row true (fld w 5 6 + fld w 0 5 + 1 ≤ 64) (.bins (gr w 20) (gr w 14) (bitAt w 13) (.ofNat 6 (fld w 5 6)) (.ofNat 5 (fld w 0 5)))
  | _ => .noSelector

/-- Op 0x0B of R260. -/
def decodePred (w : Nat) : Member :=
  match fld w 0 6 with
  | 0 => .row (z w 23 3 && z w 17 3 && z w 11 3 && z w 7 1 && z w 6 1) true (.pand (pr w 20) (pr w 14) (pr w 8))
  | 1 => .row (z w 23 3 && z w 17 3 && z w 11 3 && z w 7 1 && z w 6 1) true (.por (pr w 20) (pr w 14) (pr w 8))
  | 2 => .row (z w 23 3 && z w 17 3 && z w 11 3 && z w 7 1 && z w 6 1) true (.pxor (pr w 20) (pr w 14) (pr w 8))
  | 3 => .row (z w 23 3 && z w 17 3 && z w 11 3 && z w 7 1 && z w 6 1) true (.pandn (pr w 20) (pr w 14) (pr w 8))
  | 4 => .row (z w 23 3 && z w 17 3 && z w 8 6 && z w 7 1 && z w 6 1) true (.pnot (pr w 20) (pr w 14))
  | 5 => .row (z w 23 3 && z w 17 3 && z w 8 6 && z w 7 1 && z w 6 1) true (.pmov (pr w 20) (pr w 14))
  | 6 => .row (z w 14 6 && z w 8 6 && z w 7 1 && z w 6 1) true (.pget (gr w 20))
  | 7 => .row (z w 20 6) true (.pput (gr w 14) (gr w 8) (bitAt w 7) (bitAt w 6))
  | _ => .noSelector

/-- Op 0x0C of R260. -/
def decodeBr (w : Nat) : Member :=
  .row true true (.br (.ofNat 3 (fld w 23 3)) (bitAt w 22) (.ofNat 22 (fld w 0 22)))

/-- Op 0x0D of R260. -/
def decodeCall (w : Nat) : Member :=
  .row (z w 22 4) true (.call (.ofNat 22 (fld w 0 22)))

/-- Op 0x0E of R260. -/
def decodeJump (w : Nat) : Member :=
  match fld w 0 6 with
  | 0 => .row (z w 20 6 && z w 8 6 && z w 6 1) true (.jr (gr w 14) (bitAt w 7))
  | 1 => .row (z w 8 6 && z w 6 1) true (.jalr (gr w 20) (gr w 14) (bitAt w 7))
  | _ => .noSelector

/-- Op 0x0F of R260. -/
def decodeControl (w : Nat) : Member :=
  match fld w 0 6 with
  | 0 => .row (z w 20 6 && z w 14 6 && z w 8 6 && z w 7 1 && z w 6 1) true (.nop)
  | 1 => .row (z w 20 6 && z w 14 6 && z w 8 6 && z w 7 1 && z w 6 1) true (.endTask)
  | 2 => .row (z w 20 6 && z w 14 6 && z w 8 6 && z w 7 1 && z w 6 1) true (.yield)
  | 3 => .row (z w 20 6 && z w 14 6 && z w 7 1 && z w 6 1) true (.trap (.ofNat 6 (fld w 8 6)))
  | 4 => .row (z w 20 6 && z w 8 6 && z w 6 1) true (.eret (gr w 14) (bitAt w 7))
  | 5 => .row (z w 20 6 && z w 14 6 && z w 8 6 && z w 7 1 && z w 6 1) true (.halt)
  | 6 => .row (z w 20 6 && z w 14 6 && z w 8 6 && z w 7 1 && z w 6 1) true (.brk)
  | _ => .noSelector

/-- Op 0x10 of R260. -/
def decodeLdZ (w : Nat) : Member :=
  .row (bitAt w 10 || z w 7 3) (annOk w 10 7) (.ldZ (gr w 20) (gr w 14) (bitAt w 13) (sizeOf (fld w 11 2)) (annOf w 10 7) (.ofNat 7 (fld w 0 7)))

/-- Op 0x11 of R260. -/
def decodeLdS (w : Nat) : Member :=
  .row (bitAt w 10 || z w 7 3) (annOk w 10 7) (.ldS (gr w 20) (gr w 14) (bitAt w 13) (sizeOf (fld w 11 2)) (annOf w 10 7) (.ofNat 7 (fld w 0 7)))

/-- Op 0x12 of R260. -/
def decodeSt (w : Nat) : Member :=
  .row (bitAt w 10 || z w 7 3) (annOk w 10 7) (.st (gr w 20) (gr w 14) (bitAt w 13) (sizeOf (fld w 11 2)) (annOf w 10 7) (.ofNat 7 (fld w 0 7)))

/-- Op 0x13 of R260. -/
def decodeLdv (w : Nat) : Member :=
  .row (bitAt w 13 || z w 10 3) (annOk w 13 10) (.ldv (vr w 21) (gr w 15) (bitAt w 14) (annOf w 13 10) (.ofNat 10 (fld w 0 10)))

/-- Op 0x14 of R260. -/
def decodeStv (w : Nat) : Member :=
  .row (bitAt w 13 || z w 10 3) (annOk w 13 10) (.stv (vr w 21) (gr w 15) (bitAt w 14) (annOf w 13 10) (.ofNat 10 (fld w 0 10)))

/-- Op 0x15 of R260. -/
def decodeLdvt (w : Nat) : Member :=
  match esizeOf (fld w 12 2) with
  | none => .row (z w 10 2) false .nop
  | some es => .row (z w 10 2) (fld w 21 5 + esizeCount es ≤ 32) (.ldvt (vr w 21) (gr w 15) (bitAt w 14) es (.ofNat 10 (fld w 0 10)))

/-- Op 0x16 of R260. -/
def decodeFence (w : Nat) : Member :=
  match fld w 0 6 with
  | 0 => .row (z w 20 6 && z w 14 6 && z w 8 1 && z w 7 1 && z w 6 1) ((kindOf (fld w 9 2)).isSome && (scopeOf (fld w 11 3)).isSome)
      (.fence ((kindOf (fld w 9 2)).getD .full) ((scopeOf (fld w 11 3)).getD .core))
  | 1 => .row (z w 20 6 && z w 8 6 && z w 7 1 && z w 6 1) true (.pf (gr w 14))
  | 2 => .row (z w 24 2 && z w 8 6 && z w 6 1) true (.qbind (qr w 20) (gr w 14) (bitAt w 7))
  | 3 => .row (z w 20 6 && z w 18 2 && z w 8 6 && z w 7 1 && z w 6 1) true (.qfree (qr w 14))
  | 4 => .row (z w 20 6) true (.salloc (gr w 14) (gr w 8) (bitAt w 7) (bitAt w 6))
  | 5 => .row (z w 18 2 && z w 8 6 && z w 7 1 && z w 6 1) true (.qstat (gr w 20) (qr w 14))
  | 6 => .row (z w 18 2 && z w 8 6 && z w 7 1 && z w 6 1) true (.qget (gr w 20) (qr w 14))
  | 7 => .row (z w 25 1 && z w 18 2 && z w 8 6 && z w 7 1 && z w 6 1) true (.qgetv (vr w 20) (qr w 14))
  | _ => .noSelector

/-- Op 0x17 of R260. -/
def decodeAmo32 (w : Nat) : Member :=
  .row (!(z w 3 2) || z w 0 3) (z w 3 2 || (scopeOf (fld w 0 3)).isSome) (.amo32 (gr w 20) (gr w 14) (gr w 8) (aopOf (fld w 5 3)) (aannOf w))

/-- Op 0x18 of R260. -/
def decodeAmo64 (w : Nat) : Member :=
  .row (!(z w 3 2) || z w 0 3) (z w 3 2 || (scopeOf (fld w 0 3)).isSome) (.amo64 (gr w 20) (gr w 14) (gr w 8) (aopOf (fld w 5 3)) (aannOf w))

/-- Op 0x19 of R260. -/
def decodeFadd (w : Nat) : Member :=
  match fld w 0 6 with
  | 0 => .row true true (.faddF32 (gr w 20) (gr w 14) (gr w 8) (bitAt w 7) (bitAt w 6))
  | 1 => .row true true (.faddF16 (gr w 20) (gr w 14) (gr w 8) (bitAt w 7) (bitAt w 6))
  | 2 => .row true true (.faddF64 (gr w 20) (gr w 14) (gr w 8) (bitAt w 7) (bitAt w 6))
  | 3 => .row true true (.faddBf16 (gr w 20) (gr w 14) (gr w 8) (bitAt w 7) (bitAt w 6))
  | 4 => .row (z w 8 6 && z w 6 1) true (.decp (gr w 20) (gr w 14) (bitAt w 7))
  | _ => .noSelector

/-- Op 0x1A of R260. -/
def decodeWait (w : Nat) : Member :=
  match fld w 0 6 with
  | 0 => .row true true (.waita (gr w 20) (gr w 14) (gr w 8) (bitAt w 7) (bitAt w 6))
  | 1 => .row (z w 20 6 && z w 14 6 && z w 8 6 && z w 7 1 && z w 6 1) true (.barQuad)
  | 2 => .row (z w 20 6 && z w 14 6 && z w 8 6 && z w 7 1 && z w 6 1) true (.barClus)
  | 3 => .row (z w 20 6 && z w 14 6 && z w 8 6 && z w 7 1 && z w 6 1) true (.barDie)
  | 4 => .row (z w 20 6 && z w 14 6 && z w 8 6 && z w 7 1 && z w 6 1) true (.barMod)
  | 5 => .row (z w 20 6 && z w 14 6 && z w 8 6 && z w 7 1 && z w 6 1) true (.barPod)
  | 6 => .row (z w 20 6) true (.boinit (gr w 14) (gr w 8) (bitAt w 7) (bitAt w 6))
  | 7 => .row (z w 20 6) true (.boarr (gr w 14) (gr w 8) (bitAt w 7) (bitAt w 6))
  | 8 => .row (z w 20 6) true (.bowait (gr w 14) (gr w 8) (bitAt w 7) (bitAt w 6))
  | _ => .noSelector

/-- Op 0x1B of R260. -/
def decodeTask (w : Nat) : Member :=
  match fld w 0 6 with
  | 0 => .row true true (.fork (gr w 20) (gr w 14) (gr w 8) (bitAt w 7) (bitAt w 6))
  | 1 => .row (z w 20 6 && z w 8 6 && z w 6 1) true (.join (gr w 14) (bitAt w 7))
  | 2 => .row (z w 20 6) true (.rfork (gr w 14) (gr w 8) (bitAt w 7) (bitAt w 6))
  | 3 => .row (z w 20 6) true (.post (gr w 14) (gr w 8) (bitAt w 7) (bitAt w 6))
  | 4 => .row (z w 20 6) true (.cdinit (gr w 14) (gr w 8) (bitAt w 7) (bitAt w 6))
  | 5 => .row (z w 8 6 && z w 6 1) true (.grow (gr w 20) (gr w 14) (bitAt w 7))
  | 6 => .row (z w 8 6 && z w 6 1) true (.shrink (gr w 20) (gr w 14) (bitAt w 7))
  | 7 => .row true true (.stgpush (gr w 20) (gr w 14) (gr w 8) (bitAt w 7) (bitAt w 6))
  | 8 => .row (z w 20 6 && z w 8 6 && z w 6 1) true (.stgsub (gr w 14) (bitAt w 7))
  | 9 => .row (z w 20 6 && z w 8 6 && z w 6 1) true (.park (gr w 14) (bitAt w 7))
  | _ => .noSelector

/-- Op 0x1C of R260. -/
def decodeMessage (w : Nat) : Member :=
  match fld w 0 6 with
  | 0 => .row true true (.send (.ofNat 6 (fld w 20 6)) (gr w 14) (gr w 8) (bitAt w 7) (bitAt w 6))
  | 1 => .row (z w 20 6 && z w 8 6 && z w 6 1) true (.cmask (gr w 14) (bitAt w 7))
  | 2 => .row (z w 20 6 && z w 8 6 && z w 6 1) true (.cunmask (gr w 14) (bitAt w 7))
  | 3 => .row (z w 8 6 && z w 6 1) true (.cpend (gr w 20) (gr w 14) (bitAt w 7))
  | 4 => .row (z w 20 6) true (.swapx (gr w 14) (gr w 8) (bitAt w 7) (bitAt w 6))
  | _ => .noSelector

/-- Op 0x1D of R260. -/
def decodeSendr (w : Nat) (ext : IWord) : Member :=
  match fld w 0 6 with
  | 0 => .row true true (.sendr (.ofNat 6 (fld w 20 6)) (gr w 14) (gr w 8) (bitAt w 7) (bitAt w 6) ext)
  | _ => .noSelector

/-- Op 0x20 of R260. -/
def decodeVArith (w : Nat) : Member :=
  match fld w 0 7 with
  | 0 => .row true (tyIn w 7 tysAll) (.vadd (vr w 21) (vr w 16) (vr w 11) (tyD w 7))
  | 1 => .row true (tyIn w 7 tysAll) (.vsub (vr w 21) (vr w 16) (vr w 11) (tyD w 7))
  | 2 => .row true (tyIn w 7 tysAll) (.vmul (vr w 21) (vr w 16) (vr w 11) (tyD w 7))
  | 3 => .row true (tyIn w 7 tysAll) (.vmin (vr w 21) (vr w 16) (vr w 11) (tyD w 7))
  | 4 => .row true (tyIn w 7 tysAll) (.vmax (vr w 21) (vr w 16) (vr w 11) (tyD w 7))
  | 5 => .row (z w 7 4) true (.vand (vr w 21) (vr w 16) (vr w 11))
  | 6 => .row (z w 7 4) true (.vor (vr w 21) (vr w 16) (vr w 11))
  | 7 => .row (z w 7 4) true (.vxor (vr w 21) (vr w 16) (vr w 11))
  | 8 => .row (z w 7 4) true (.vandn (vr w 21) (vr w 16) (vr w 11))
  | 9 => .row true (tyIn w 7 tysInt) (.vshl (vr w 21) (vr w 16) (vr w 11) (tyD w 7))
  | 10 => .row true (tyIn w 7 tysInt) (.vshr (vr w 21) (vr w 16) (vr w 11) (tyD w 7))
  | 11 => .row true (tyIn w 7 tysInt) (.vsar (vr w 21) (vr w 16) (vr w 11) (tyD w 7))
  | 12 => .row (z w 11 5 && z w 7 4) true (.vmov (vr w 21) (vr w 16))
  | _ => .noSelector

/-- Op 0x21 of R260. -/
def decodeVFma (w : Nat) : Member :=
  match fld w 0 2 with
  | 0 => .row true (tyIn w 2 tysFloat) (.vfma (vr w 21) (vr w 16) (vr w 11) (vr w 6) (tyD w 2))
  | 1 => .row true (tyIn w 2 tysFloat) (.vfms (vr w 21) (vr w 16) (vr w 11) (vr w 6) (tyD w 2))
  | 2 => .row true (tyIn w 2 tysFloat) (.vfnma (vr w 21) (vr w 16) (vr w 11) (vr w 6) (tyD w 2))
  | 3 => .row true (tyIn w 2 tysFloat) (.vfnms (vr w 21) (vr w 16) (vr w 11) (vr w 6) (tyD w 2))
  | _ => .noSelector

/-- Op 0x22 of R260. -/
def decodeVCvt (w : Nat) : Member :=
  .row (z w 11 5) (tyIn w 7 tysAll && tyIn w 3 tysAll && decide (fld w 7 4 ≠ fld w 3 4) && (rmOf (fld w 0 3)).isSome)
    (.vcvt (vr w 21) (vr w 16) (tyD w 7) (tyD w 3) ((rmOf (fld w 0 3)).getD .fpc))

/-- Op 0x23 of R260. -/
def decodeVFunc (w : Nat) : Member :=
  match fld w 0 7 with
  | 0 => .row (z w 11 5) (tyIn w 7 tysFloat) (.vrcp (vr w 21) (vr w 16) (tyD w 7))
  | 1 => .row (z w 11 5) (tyIn w 7 tysFloat) (.vrsqrt (vr w 21) (vr w 16) (tyD w 7))
  | 2 => .row (z w 11 5) (tyIn w 7 tysFloat) (.vsqrt (vr w 21) (vr w 16) (tyD w 7))
  | 3 => .row (z w 11 5) (tyIn w 7 tysFloat) (.vexp2 (vr w 21) (vr w 16) (tyD w 7))
  | 4 => .row (z w 11 5) (tyIn w 7 tysFloat) (.vlog2 (vr w 21) (vr w 16) (tyD w 7))
  | 5 => .row true (tyIn w 7 tysFloat) (.vdiv (vr w 21) (vr w 16) (vr w 11) (tyD w 7))
  | _ => .noSelector

/-- Op 0x24 of R260. -/
def decodeVMove (w : Nat) : Member :=
  match fld w 0 7 with
  | 0 => .row true (tyIn w 7 tysInt) (.vperm (vr w 21) (vr w 16) (vr w 11) (tyD w 7))
  | 1 => .row (z w 11 5) (tyIn w 7 tysAll) (.vbcast (vr w 21) (vr w 16) (tyD w 7))
  | 2 => .row true (tyIn w 7 tysAll && idxOk (tyD w 7) (fld w 11 5)) (.vins (vr w 21) (vr w 16) (vr w 11) (tyD w 7))
  | 3 => .row true (tyIn w 7 tysAll && idxOk (tyD w 7) (fld w 11 5)) (.vext (vr w 21) (vr w 16) (vr w 11) (tyD w 7))
  | 4 => .row (z w 11 5) (tyIn w 7 tysFixed) (.vredAdd (vr w 21) (vr w 16) (tyD w 7))
  | 5 => .row (z w 11 5) (tyIn w 7 tysFixed) (.vredMin (vr w 21) (vr w 16) (tyD w 7))
  | 6 => .row (z w 11 5) (tyIn w 7 tysFixed) (.vredMax (vr w 21) (vr w 16) (tyD w 7))
  | 7 => .row true (tyIn w 7 tysPack) (.vpack (vr w 21) (vr w 16) (vr w 11) (tyD w 7))
  | 8 => .row (z w 11 5) (tyIn w 7 tysUnpk) (.vunpkLo (vr w 21) (vr w 16) (tyD w 7))
  | 9 => .row (z w 11 5) (tyIn w 7 tysUnpk) (.vunpkHi (vr w 21) (vr w 16) (tyD w 7))
  | 10 => .row true (tyIn w 7 tysFixed) (.vzip (vr w 21) (vr w 16) (vr w 11) (tyD w 7))
  | 11 => .row true (tyIn w 7 tysFixed) (.vunzip (vr w 21) (vr w 16) (vr w 11) (tyD w 7))
  | _ => .noSelector

/-- Op 0x25 of R260. -/
def decodeVCmp (w : Nat) : Member :=
  match fld w 0 7 with
  | 0 => .row true (tyIn w 7 tysAll) (.vcmp (vr w 21) (vr w 16) (vr w 11) (tyD w 7) .eq)
  | 1 => .row true (tyIn w 7 tysAll) (.vcmp (vr w 21) (vr w 16) (vr w 11) (tyD w 7) .ne)
  | 2 => .row true (tyIn w 7 tysAll) (.vcmp (vr w 21) (vr w 16) (vr w 11) (tyD w 7) .lt)
  | 3 => .row true (tyIn w 7 tysAll) (.vcmp (vr w 21) (vr w 16) (vr w 11) (tyD w 7) .le)
  | 4 => .row (z w 11 5) (tyIn w 7 tysFloat) (.vclass (vr w 21) (vr w 16) (tyD w 7))
  | _ => .noSelector

/-- Op 0x26 of R260. -/
def decodeVSel (w : Nat) : Member :=
  match fld w 0 2 with
  | 0 => .row (z w 2 4) true (.vsel (vr w 21) (vr w 16) (vr w 11) (vr w 6))
  | 1 => .row true (tyIn w 2 tysDot) (.vdot (vr w 21) (vr w 16) (vr w 11) (vr w 6) (tyD w 2))
  | 2 => .row true (tyIn w 2 tysDotI) (.vdotI (vr w 21) (vr w 16) (vr w 11) (vr w 6) (tyD w 2))
  | _ => .noSelector

/-- Op 0x28 of R260. -/
def decodeLink (w : Nat) : Member :=
  match fld w 2 3 with
  | 0 => .row (z w 20 6 && z w 8 6) true (.lks (gr w 14) (.ofNat 3 (fld w 5 3)) (dirOf (fld w 0 2)))
  | 1 => .row true true (.lkm (gr w 20) (gr w 14) (gr w 8) (.ofNat 3 (fld w 5 3)) (dirOf (fld w 0 2)))
  | 2 => .row (z w 14 6 && z w 8 6 && z w 5 3) true (.lkq (gr w 20) (dirOf (fld w 0 2)))
  | 3 => .row (z w 20 6 && z w 8 6 && z w 5 3) true (.lkdrain (gr w 14) (dirOf (fld w 0 2)))
  | 4 => .row (z w 20 6 && z w 8 6 && z w 5 3) true (.lkload (gr w 14) (dirOf (fld w 0 2)))
  | 5 => .row (z w 20 6 && z w 14 6 && z w 8 6 && z w 5 3) true (.lkfrz (dirOf (fld w 0 2)))
  | 6 => .row (z w 20 6 && z w 14 6 && z w 8 6 && z w 5 3) true (.lkthw (dirOf (fld w 0 2)))
  | 7 => .row (z w 8 6 && z w 5 3) true (.lkcan (gr w 20) (gr w 14) (dirOf (fld w 0 2)))
  | _ => .noSelector

/-- Op 0x29 of R260. -/
def decodeCopy (w : Nat) : Member :=
  match fld w 0 5 with
  | 0 => .row (z w 5 3) true (.cpy (gr w 20) (gr w 14) (gr w 8))
  | 1 => .row (z w 5 3) true (.gat (gr w 20) (gr w 14) (gr w 8))
  | 2 => .row (z w 5 3) true (.sca (gr w 20) (gr w 14) (gr w 8))
  | 3 => .row (z w 5 3) true (.redc (gr w 20) (gr w 14) (gr w 8))
  | 4 => .row (z w 5 3) true (.bct (gr w 20) (gr w 14) (gr w 8))
  | _ => .noSelector

/-- Op 0x2A of R260. -/
def decodeTensor (w : Nat) : Member :=
  match fld w 0 5 with
  | 0 => .row (z w 20 6 && z w 5 3) true (.tdset (gr w 14) (gr w 8))
  | 1 => .row (z w 5 3) true (.tdget (gr w 20) (gr w 14) (gr w 8))
  | 2 => .row (z w 20 6 && z w 8 6 && z w 5 3) true (.tdinv (gr w 14))
  | _ => .noSelector

/-- Op 0x2B of R260. -/
def decodeGmu (w : Nat) : Member :=
  match fld w 0 5 with
  | 0 => .row (z w 20 6) true (.gmacc (gr w 14) (gr w 8) (.ofNat 3 (fld w 5 3)))
  | 1 => .row (z w 20 6) true (.gmsub (gr w 14) (gr w 8) (.ofNat 3 (fld w 5 3)))
  | 2 => .row (z w 5 3) true (.gmelim (gr w 20) (gr w 14) (gr w 8))
  | 3 => .row (z w 20 6 && z w 5 3) true (.gmdamp (gr w 14) (gr w 8))
  | 4 => .row (z w 5 3) true (.gmmean (gr w 20) (gr w 14) (gr w 8))
  | 5 => .row (z w 5 3) true (.gmres (gr w 20) (gr w 14) (gr w 8))
  | 6 => .row (z w 20 6 && z w 5 3) true (.gmsend (gr w 14) (gr w 8))
  | 7 => .row (z w 20 6 && z w 5 3) true (.gmcpy (gr w 14) (gr w 8))
  | _ => .noSelector

/-- Op 0x2C of R260. -/
def decodeSystem (w : Nat) : Member :=
  match fld w 0 6 with
  | 0 => .row true true (.tlbw (gr w 20) (gr w 14) (gr w 8) (bitAt w 7) (bitAt w 6))
  | 1 => .row (z w 20 6) true (.tlbi (gr w 14) (gr w 8) (bitAt w 7) (bitAt w 6))
  | 2 => .row (z w 20 6) true (.fres (gr w 14) (gr w 8) (bitAt w 7) (bitAt w 6))
  | 3 => .row (z w 20 6 && z w 8 6 && z w 6 1) true (.ctxs (gr w 14) (bitAt w 7))
  | 4 => .row (z w 20 6 && z w 8 6 && z w 6 1) true (.ctxl (gr w 14) (bitAt w 7))
  | 5 => .row (z w 20 6) true (.wtab (gr w 14) (gr w 8) (bitAt w 7) (bitAt w 6))
  | 6 => .row (z w 20 6 && z w 8 6 && z w 6 1) true (.wclose (gr w 14) (bitAt w 7))
  | 7 => .row (z w 20 6 && z w 8 6 && z w 6 1) true (.wopen (gr w 14) (bitAt w 7))
  | 8 => .row (z w 20 6) true (.rmap (gr w 14) (gr w 8) (bitAt w 7) (bitAt w 6))
  | 9 => .row (z w 20 6) true (.evac (gr w 14) (gr w 8) (bitAt w 7) (bitAt w 6))
  | _ => .noSelector

/-- Op 0x2D of R260. -/
def decodeGetc (w : Nat) : Member :=
  .row (z w 14 6 && z w 13 1) true (.getc (gr w 20) (.ofNat 13 (fld w 0 13)))

/-- Op 0x2E of R260. -/
def decodeSetc (w : Nat) : Member :=
  .row (z w 20 6) true (.setc (gr w 14) (bitAt w 13) (.ofNat 13 (fld w 0 13)))

/-- The major opcode (R260). `ext` is the extension word of `li` and `sendr`. -/
def decodeMember (w : Nat) (ext : IWord) : Member :=
  match fld w 26 6 with
  | 0x01 => decodeAlu w
  | 0x02 => decodeCmp w
  | 0x03 => decodeAddi w
  | 0x04 => decodeAndi w
  | 0x05 => decodeOri w
  | 0x06 => decodeXori w
  | 0x07 => decodeShiftImm w
  | 0x08 => decodeCmpi w
  | 0x09 => decodeLi w ext
  | 0x0A => decodeBitField w
  | 0x0B => decodePred w
  | 0x0C => decodeBr w
  | 0x0D => decodeCall w
  | 0x0E => decodeJump w
  | 0x0F => decodeControl w
  | 0x10 => decodeLdZ w
  | 0x11 => decodeLdS w
  | 0x12 => decodeSt w
  | 0x13 => decodeLdv w
  | 0x14 => decodeStv w
  | 0x15 => decodeLdvt w
  | 0x16 => decodeFence w
  | 0x17 => decodeAmo32 w
  | 0x18 => decodeAmo64 w
  | 0x19 => decodeFadd w
  | 0x1A => decodeWait w
  | 0x1B => decodeTask w
  | 0x1C => decodeMessage w
  | 0x1D => decodeSendr w ext
  | 0x20 => decodeVArith w
  | 0x21 => decodeVFma w
  | 0x22 => decodeVCvt w
  | 0x23 => decodeVFunc w
  | 0x24 => decodeVMove w
  | 0x25 => decodeVCmp w
  | 0x26 => decodeVSel w
  | 0x28 => decodeLink w
  | 0x29 => decodeCopy w
  | 0x2A => decodeTensor w
  | 0x2B => decodeGmu w
  | 0x2C => decodeSystem w
  | 0x2D => decodeGetc w
  | 0x2E => decodeSetc w
  | _ => .noOpcode

/-- R247: whether the word is a guard prefix. -/
def isGuardWord (w : Nat) : Bool := fld w 26 6 == 0x3E

/-- R247: whether the word is a modifier prefix. -/
def isModWord (w : Nat) : Bool := fld w 26 6 == 0x3F

/-- R246: whether an extension word follows. -/
def takesExt (w : Nat) : Bool :=
  (fld w 26 6 == 0x09 && decide (fld w 0 13 < 3)) || (fld w 26 6 == 0x1D && fld w 0 6 == 0)

/-- R257: the fields of a modifier word. -/
def modOf (w : Nat) : Modifier :=
  { sat := bitAt w 25, clamp := .ofNat 2 (fld w 23 2), neg := bitAt w 22, abs := bitAt w 21, scale := .ofNat 6 (fld w 15 6) }

/-- R256: `br` and `call` take no guard. -/
def acceptsGuard : Instr → Bool
  | .br _ _ _ => false
  | .call _ => false
  | _ => true

/-- R59: the members that take the modifier. -/
def acceptsMod : Instr → Bool
  | .vadd _ _ _ _ | .vsub _ _ _ _ | .vmul _ _ _ _ | .vfma _ _ _ _ _ | .vfms _ _ _ _ _ | .vfnma _ _ _ _ _ | .vfnms _ _ _ _ _
  | .vcvt _ _ _ _ _ | .vrcp _ _ _ | .vrsqrt _ _ _ | .vsqrt _ _ _ | .vexp2 _ _ _ | .vlog2 _ _ _ | .vdiv _ _ _ _
  | .vredAdd _ _ _ | .vdot _ _ _ _ _ | .vdotI _ _ _ _ _ => true
  | _ => false

/-- The destination type is an integer (R60, R332, R346). -/
def intDest : Instr → Bool
  | .vadd _ _ _ t | .vsub _ _ _ t | .vmul _ _ _ t | .vredAdd _ _ t => tyIsInt t
  | .vcvt _ _ t _ _ => tyIsInt t
  | .vdotI _ _ _ _ _ => true
  | _ => false

/-- R257: the modifier is defined for the member's destination. -/
def modFits (m : Modifier) (i : Instr) : Bool :=
  !intDest i || (m.scale == 0 && (m.clamp == 0 || m.clamp == 3))

/-- One instruction group (R246). -/
structure Group where
  guard : Option (PReg × Bool)
  mod   : Option Modifier
  instr : Instr
  len   : Nat
  deriving DecidableEq, Repr

/-- A decoded group, or the reason of R262, the index of the word at fault and the number of words read. -/
inductive Decoded
  | group (g : Group)
  | bad (reason idx len : Nat)
  deriving DecidableEq, Repr

/-- The words of a group split by R247: guard, modifier, the rest. -/
def splitPrefixes (ws : List IWord) : Option IWord × Option IWord × List IWord :=
  match ws with
  | [] => (none, none, [])
  | w :: t =>
    if isGuardWord w.toNat then
      match t with
      | [] => (some w, none, [])
      | v :: t' => if isModWord v.toNat then (some w, some v, t') else (some w, none, t)
    else if isModWord w.toNat then (none, some w, t)
    else (none, none, ws)

/-- R247: whether the group that begins with these words needs another one. -/
def needsWord (ws : List IWord) : Bool :=
  match (splitPrefixes ws).2.2 with
  | [] => true
  | [w] => takesExt w.toNat
  | _ => false

/-- A prefix in order of address: whether one of them has a nonzero field that must be zero (reason 3). -/
def prefixZeroFault (g m : Option IWord) : Option Nat :=
  match g, m with
  | some w, _ => if !z w.toNat 0 22 then some 0 else
      match m with
      | some v => if !z v.toNat 0 15 then some 1 else none
      | none => none
  | none, some v => if !z v.toNat 0 15 then some 0 else none
  | none, none => none

/-- R247, R263: the group that the words form, checked in the order of R263. The list holds the words that
`needsWord` asked for. -/
def decodeGroup (ws : List IWord) : Decoded :=
  match splitPrefixes ws with
  | (g, m, rest) =>
    let n := (if g.isSome then 1 else 0) + (if m.isSome then 1 else 0)
    match rest with
    | [] => .bad 6 n n
    | w :: t =>
      if isGuardWord w.toNat || isModWord w.toNat then .bad 6 n (n + 1)
      else
        let len := n + 1 + (if takesExt w.toNat then 1 else 0)
        match decodeMember w.toNat (t.headD 0) with
        | .noOpcode => .bad 1 n len
        | .noSelector => .bad 2 n len
        | .row zero vals i =>
          if (g.isSome && !acceptsGuard i) || (m.isSome && !acceptsMod i) then .bad 5 n len
          else match prefixZeroFault g m with
            | some k => .bad 3 k len
            | none =>
              if !zero then .bad 3 n len
              else if !vals then .bad 4 n len
              else if !((m.map (fun v => modFits (modOf v.toNat) i)).getD true) then .bad 4 (n - 1) len
              else .group { guard := g.map (fun v => (.ofNat 3 (fld v.toNat 23 3), bitAt v.toNat 22)),
                            mod := m.map (fun v => modOf v.toNat), instr := i, len := len }

/-- The words of a number, bit 0 of the number being bit 0 of the first word. -/
def wordsOf (w : Nat) : List IWord :=
  [BitVec.ofNat 32 w, BitVec.ofNat 32 (w / 2 ^ 32), BitVec.ofNat 32 (w / 2 ^ 64), BitVec.ofNat 32 (w / 2 ^ 96)]

/-- The instruction that the decoder reads from an instruction whose bits are `w`; bits above `nbits` are 0. -/
def decodeTableWord (nbits w : Nat) : Option Instr :=
  match decodeGroup (wordsOf (w % 2 ^ nbits)) with
  | .group g => some g.instr
  | .bad _ _ _ => none

/-- Form T (R250). -/
def encT (op fn d a b : Nat) (ea eb : Bool) : Nat :=
  op * 2 ^ 26 + d * 2 ^ 20 + a * 2 ^ 14 + b * 2 ^ 8 + b2n ea * 2 ^ 7 + b2n eb * 2 ^ 6 + fn
/-- Form I. -/
def encI (op d a : Nat) (ea : Bool) (imm : Nat) : Nat := op * 2 ^ 26 + d * 2 ^ 20 + a * 2 ^ 14 + b2n ea * 2 ^ 13 + imm
/-- Form M. -/
def encM (op d a : Nat) (ea : Bool) (sz ann off : Nat) : Nat :=
  op * 2 ^ 26 + d * 2 ^ 20 + a * 2 ^ 14 + b2n ea * 2 ^ 13 + sz * 2 ^ 11 + ann * 2 ^ 7 + off
/-- Form W. -/
def encW (op v a : Nat) (ea : Bool) (ann off : Nat) : Nat :=
  op * 2 ^ 26 + v * 2 ^ 21 + a * 2 ^ 15 + b2n ea * 2 ^ 14 + ann * 2 ^ 10 + off
/-- Form A. -/
def encA (op d a b aop ann : Nat) : Nat := op * 2 ^ 26 + d * 2 ^ 20 + a * 2 ^ 14 + b * 2 ^ 8 + aop * 2 ^ 5 + ann
/-- Form B. -/
def encB (op p : Nat) (n : Bool) (disp : Nat) : Nat := op * 2 ^ 26 + p * 2 ^ 23 + b2n n * 2 ^ 22 + disp
/-- Form V. -/
def encV (op fn d a b ty : Nat) : Nat := op * 2 ^ 26 + d * 2 ^ 21 + a * 2 ^ 16 + b * 2 ^ 11 + ty * 2 ^ 7 + fn
/-- Form F. -/
def encF (op fn d a b c ty : Nat) : Nat := op * 2 ^ 26 + d * 2 ^ 21 + a * 2 ^ 16 + b * 2 ^ 11 + c * 2 ^ 6 + ty * 2 ^ 2 + fn
/-- Form X. -/
def encX (op fn d a b sel : Nat) : Nat := op * 2 ^ 26 + d * 2 ^ 20 + a * 2 ^ 14 + b * 2 ^ 8 + sel * 2 ^ 5 + fn

/-- The instruction word, written from the tables of R250 to R261 (0 for a step that has no word). -/
def encodeWord : Instr → Nat
  | .add d a b ea eb => encT 0x1 0 d.toNat a.toNat b.toNat ea eb
  | .sub d a b ea eb => encT 0x1 1 d.toNat a.toNat b.toNat ea eb
  | .mul d a b ea eb => encT 0x1 2 d.toNat a.toNat b.toNat ea eb
  | .mulhS d a b ea eb => encT 0x1 3 d.toNat a.toNat b.toNat ea eb
  | .mulhZ d a b ea eb => encT 0x1 4 d.toNat a.toNat b.toNat ea eb
  | .divS d a b ea eb => encT 0x1 5 d.toNat a.toNat b.toNat ea eb
  | .divZ d a b ea eb => encT 0x1 6 d.toNat a.toNat b.toNat ea eb
  | .remS d a b ea eb => encT 0x1 7 d.toNat a.toNat b.toNat ea eb
  | .remZ d a b ea eb => encT 0x1 8 d.toNat a.toNat b.toNat ea eb
  | .and d a b ea eb => encT 0x1 9 d.toNat a.toNat b.toNat ea eb
  | .or d a b ea eb => encT 0x1 10 d.toNat a.toNat b.toNat ea eb
  | .xor d a b ea eb => encT 0x1 11 d.toNat a.toNat b.toNat ea eb
  | .andn d a b ea eb => encT 0x1 12 d.toNat a.toNat b.toNat ea eb
  | .orn d a b ea eb => encT 0x1 13 d.toNat a.toNat b.toNat ea eb
  | .shl d a b ea eb => encT 0x1 14 d.toNat a.toNat b.toNat ea eb
  | .shr d a b ea eb => encT 0x1 15 d.toNat a.toNat b.toNat ea eb
  | .sar d a b ea eb => encT 0x1 16 d.toNat a.toNat b.toNat ea eb
  | .rol d a b ea eb => encT 0x1 17 d.toNat a.toNat b.toNat ea eb
  | .ror d a b ea eb => encT 0x1 18 d.toNat a.toNat b.toNat ea eb
  | .minS d a b ea eb => encT 0x1 19 d.toNat a.toNat b.toNat ea eb
  | .minZ d a b ea eb => encT 0x1 20 d.toNat a.toNat b.toNat ea eb
  | .maxS d a b ea eb => encT 0x1 21 d.toNat a.toNat b.toNat ea eb
  | .maxZ d a b ea eb => encT 0x1 22 d.toNat a.toNat b.toNat ea eb
  | .clz d a ea => encT 0x1 23 d.toNat a.toNat 0 ea false
  | .ctz d a ea => encT 0x1 24 d.toNat a.toNat 0 ea false
  | .popc d a ea => encT 0x1 25 d.toNat a.toNat 0 ea false
  | .bswap d a ea => encT 0x1 26 d.toNat a.toNat 0 ea false
  | .lea1 d a b ea eb => encT 0x1 27 d.toNat a.toNat b.toNat ea eb
  | .lea2 d a b ea eb => encT 0x1 28 d.toNat a.toNat b.toNat ea eb
  | .lea3 d a b ea eb => encT 0x1 29 d.toNat a.toNat b.toNat ea eb
  | .cmp pd a b ea eb cc => encT 0x2 (condCode cc) (pd.toNat * 8) a.toNat b.toNat ea eb
  | .addi d a ea imm => encI 0x3 d.toNat a.toNat ea imm.toNat
  | .andi d a ea imm => encI 0x4 d.toNat a.toNat ea imm.toNat
  | .ori d a ea imm => encI 0x5 d.toNat a.toNat ea imm.toNat
  | .xori d a ea imm => encI 0x6 d.toNat a.toNat ea imm.toNat
  | .shli d a ea amount => encI 0x7 d.toNat a.toNat ea (0 * 2 ^ 11 + amount.toNat)
  | .shri d a ea amount => encI 0x7 d.toNat a.toNat ea (1 * 2 ^ 11 + amount.toNat)
  | .sari d a ea amount => encI 0x7 d.toNat a.toNat ea (2 * 2 ^ 11 + amount.toNat)
  | .cmpi pd a ea cc imm => encI 0x8 (pd.toNat * 8) a.toNat ea (condCode cc * 2 ^ 9 + imm.toNat)
  | .liS d _ => encI 0x9 d.toNat 0 false 0
  | .liZ d _ => encI 0x9 d.toNat 0 false 1
  | .lih d _ => encI 0x9 d.toNat 0 false 2
  | .bextS d a ea pos wm1 => encI 0xA d.toNat a.toNat ea (0 * 2 ^ 11 + pos.toNat * 2 ^ 5 + wm1.toNat)
  | .bextZ d a ea pos wm1 => encI 0xA d.toNat a.toNat ea (1 * 2 ^ 11 + pos.toNat * 2 ^ 5 + wm1.toNat)
  | .bins d a ea pos wm1 => encI 0xA d.toNat a.toNat ea (2 * 2 ^ 11 + pos.toNat * 2 ^ 5 + wm1.toNat)
  | .pand d a b => encT 0xB 0 d.toNat a.toNat b.toNat false false
  | .por d a b => encT 0xB 1 d.toNat a.toNat b.toNat false false
  | .pxor d a b => encT 0xB 2 d.toNat a.toNat b.toNat false false
  | .pandn d a b => encT 0xB 3 d.toNat a.toNat b.toNat false false
  | .pnot d a => encT 0xB 4 d.toNat a.toNat 0 false false
  | .pmov d a => encT 0xB 5 d.toNat a.toNat 0 false false
  | .pget d => encT 0xB 6 d.toNat 0 0 false false
  | .pput a b ea eb => encT 0xB 7 0 a.toNat b.toNat ea eb
  | .br p n disp => encB 0xC p.toNat n disp.toNat
  | .call disp => encB 0xD 0 false disp.toNat
  | .jr a ea => encT 0xE 0 0 a.toNat 0 ea false
  | .jalr d a ea => encT 0xE 1 d.toNat a.toNat 0 ea false
  | .nop => encT 0xF 0 0 0 0 false false
  | .endTask => encT 0xF 1 0 0 0 false false
  | .yield => encT 0xF 2 0 0 0 false false
  | .trap b => encT 0xF 3 0 0 b.toNat false false
  | .eret a ea => encT 0xF 4 0 a.toNat 0 ea false
  | .halt => encT 0xF 5 0 0 0 false false
  | .brk => encT 0xF 6 0 0 0 false false
  | .ldZ d a ea sz ann off => encM 0x10 d.toNat a.toNat ea (sizeCode sz) (annCode ann) off.toNat
  | .ldS d a ea sz ann off => encM 0x11 d.toNat a.toNat ea (sizeCode sz) (annCode ann) off.toNat
  | .st d a ea sz ann off => encM 0x12 d.toNat a.toNat ea (sizeCode sz) (annCode ann) off.toNat
  | .ldv v a ea ann off => encW 0x13 v.toNat a.toNat ea (annCode ann) off.toNat
  | .stv v a ea ann off => encW 0x14 v.toNat a.toNat ea (annCode ann) off.toNat
  | .ldvt v a ea es off => encW 0x15 v.toNat a.toNat ea (esizeCode es * 4) off.toNat
  | .fence k s => encT 0x16 0 0 0 (scopeCode s * 8 + kindCode k * 2) false false
  | .pf a => encT 0x16 1 0 a.toNat 0 false false
  | .qbind d a ea => encT 0x16 2 d.toNat a.toNat 0 ea false
  | .qfree a => encT 0x16 3 0 a.toNat 0 false false
  | .salloc a b ea eb => encT 0x16 4 0 a.toNat b.toNat ea eb
  | .qstat d a => encT 0x16 5 d.toNat a.toNat 0 false false
  | .qget d a => encT 0x16 6 d.toNat a.toNat 0 false false
  | .qgetv d a => encT 0x16 7 d.toNat a.toNat 0 false false
  | .amo32 d a b op ann => encA 0x17 d.toNat a.toNat b.toNat (aopCode op) (aannCode ann)
  | .amo64 d a b op ann => encA 0x18 d.toNat a.toNat b.toNat (aopCode op) (aannCode ann)
  | .faddF32 d a b ea eb => encT 0x19 0 d.toNat a.toNat b.toNat ea eb
  | .faddF16 d a b ea eb => encT 0x19 1 d.toNat a.toNat b.toNat ea eb
  | .faddF64 d a b ea eb => encT 0x19 2 d.toNat a.toNat b.toNat ea eb
  | .faddBf16 d a b ea eb => encT 0x19 3 d.toNat a.toNat b.toNat ea eb
  | .decp d a ea => encT 0x19 4 d.toNat a.toNat 0 ea false
  | .waita d a b ea eb => encT 0x1A 0 d.toNat a.toNat b.toNat ea eb
  | .barQuad => encT 0x1A 1 0 0 0 false false
  | .barClus => encT 0x1A 2 0 0 0 false false
  | .barDie => encT 0x1A 3 0 0 0 false false
  | .barMod => encT 0x1A 4 0 0 0 false false
  | .barPod => encT 0x1A 5 0 0 0 false false
  | .boinit a b ea eb => encT 0x1A 6 0 a.toNat b.toNat ea eb
  | .boarr a b ea eb => encT 0x1A 7 0 a.toNat b.toNat ea eb
  | .bowait a b ea eb => encT 0x1A 8 0 a.toNat b.toNat ea eb
  | .fork d a b ea eb => encT 0x1B 0 d.toNat a.toNat b.toNat ea eb
  | .join a ea => encT 0x1B 1 0 a.toNat 0 ea false
  | .rfork a b ea eb => encT 0x1B 2 0 a.toNat b.toNat ea eb
  | .post a b ea eb => encT 0x1B 3 0 a.toNat b.toNat ea eb
  | .cdinit a b ea eb => encT 0x1B 4 0 a.toNat b.toNat ea eb
  | .grow d a ea => encT 0x1B 5 d.toNat a.toNat 0 ea false
  | .shrink d a ea => encT 0x1B 6 d.toNat a.toNat 0 ea false
  | .stgpush d a b ea eb => encT 0x1B 7 d.toNat a.toNat b.toNat ea eb
  | .stgsub a ea => encT 0x1B 8 0 a.toNat 0 ea false
  | .park a ea => encT 0x1B 9 0 a.toNat 0 ea false
  | .send d a b ea eb => encT 0x1C 0 d.toNat a.toNat b.toNat ea eb
  | .cmask a ea => encT 0x1C 1 0 a.toNat 0 ea false
  | .cunmask a ea => encT 0x1C 2 0 a.toNat 0 ea false
  | .cpend d a ea => encT 0x1C 3 d.toNat a.toNat 0 ea false
  | .swapx a b ea eb => encT 0x1C 4 0 a.toNat b.toNat ea eb
  | .sendr d a b ea eb _ => encT 0x1D 0 d.toNat a.toNat b.toNat ea eb
  | .vadd d a b ty => encV 0x20 0 d.toNat a.toNat b.toNat (tyCode ty)
  | .vsub d a b ty => encV 0x20 1 d.toNat a.toNat b.toNat (tyCode ty)
  | .vmul d a b ty => encV 0x20 2 d.toNat a.toNat b.toNat (tyCode ty)
  | .vmin d a b ty => encV 0x20 3 d.toNat a.toNat b.toNat (tyCode ty)
  | .vmax d a b ty => encV 0x20 4 d.toNat a.toNat b.toNat (tyCode ty)
  | .vand d a b => encV 0x20 5 d.toNat a.toNat b.toNat 0
  | .vor d a b => encV 0x20 6 d.toNat a.toNat b.toNat 0
  | .vxor d a b => encV 0x20 7 d.toNat a.toNat b.toNat 0
  | .vandn d a b => encV 0x20 8 d.toNat a.toNat b.toNat 0
  | .vshl d a b ty => encV 0x20 9 d.toNat a.toNat b.toNat (tyCode ty)
  | .vshr d a b ty => encV 0x20 10 d.toNat a.toNat b.toNat (tyCode ty)
  | .vsar d a b ty => encV 0x20 11 d.toNat a.toNat b.toNat (tyCode ty)
  | .vmov d a => encV 0x20 12 d.toNat a.toNat 0 0
  | .vfma d a b c ty => encF 0x21 0 d.toNat a.toNat b.toNat c.toNat (tyCode ty)
  | .vfms d a b c ty => encF 0x21 1 d.toNat a.toNat b.toNat c.toNat (tyCode ty)
  | .vfnma d a b c ty => encF 0x21 2 d.toNat a.toNat b.toNat c.toNat (tyCode ty)
  | .vfnms d a b c ty => encF 0x21 3 d.toNat a.toNat b.toNat c.toNat (tyCode ty)
  | .vcvt d a dt sty rm => encV 0x22 (tyCode sty * 8 + rmCode rm) d.toNat a.toNat 0 (tyCode dt)
  | .vrcp d a ty => encV 0x23 0 d.toNat a.toNat 0 (tyCode ty)
  | .vrsqrt d a ty => encV 0x23 1 d.toNat a.toNat 0 (tyCode ty)
  | .vsqrt d a ty => encV 0x23 2 d.toNat a.toNat 0 (tyCode ty)
  | .vexp2 d a ty => encV 0x23 3 d.toNat a.toNat 0 (tyCode ty)
  | .vlog2 d a ty => encV 0x23 4 d.toNat a.toNat 0 (tyCode ty)
  | .vdiv d a b ty => encV 0x23 5 d.toNat a.toNat b.toNat (tyCode ty)
  | .vperm d a b ty => encV 0x24 0 d.toNat a.toNat b.toNat (tyCode ty)
  | .vbcast d a ty => encV 0x24 1 d.toNat a.toNat 0 (tyCode ty)
  | .vins d a b ty => encV 0x24 2 d.toNat a.toNat b.toNat (tyCode ty)
  | .vext d a b ty => encV 0x24 3 d.toNat a.toNat b.toNat (tyCode ty)
  | .vredAdd d a ty => encV 0x24 4 d.toNat a.toNat 0 (tyCode ty)
  | .vredMin d a ty => encV 0x24 5 d.toNat a.toNat 0 (tyCode ty)
  | .vredMax d a ty => encV 0x24 6 d.toNat a.toNat 0 (tyCode ty)
  | .vpack d a b ty => encV 0x24 7 d.toNat a.toNat b.toNat (tyCode ty)
  | .vunpkLo d a ty => encV 0x24 8 d.toNat a.toNat 0 (tyCode ty)
  | .vunpkHi d a ty => encV 0x24 9 d.toNat a.toNat 0 (tyCode ty)
  | .vzip d a b ty => encV 0x24 10 d.toNat a.toNat b.toNat (tyCode ty)
  | .vunzip d a b ty => encV 0x24 11 d.toNat a.toNat b.toNat (tyCode ty)
  | .vcmp d a b ty cc => encV 0x25 (vcondCode cc) d.toNat a.toNat b.toNat (tyCode ty)
  | .vclass d a ty => encV 0x25 4 d.toNat a.toNat 0 (tyCode ty)
  | .vsel d a b c => encF 0x26 0 d.toNat a.toNat b.toNat c.toNat 0
  | .vdot d a b c ty => encF 0x26 1 d.toNat a.toNat b.toNat c.toNat (tyCode ty)
  | .vdotI d a b c ty => encF 0x26 2 d.toNat a.toNat b.toNat c.toNat (tyCode ty)
  | .lks a s l => encX 0x28 (0 * 4 + dirCode l) 0 a.toNat 0 s.toNat
  | .lkm d a b s l => encX 0x28 (1 * 4 + dirCode l) d.toNat a.toNat b.toNat s.toNat
  | .lkq d l => encX 0x28 (2 * 4 + dirCode l) d.toNat 0 0 0
  | .lkdrain a l => encX 0x28 (3 * 4 + dirCode l) 0 a.toNat 0 0
  | .lkload a l => encX 0x28 (4 * 4 + dirCode l) 0 a.toNat 0 0
  | .lkfrz l => encX 0x28 (5 * 4 + dirCode l) 0 0 0 0
  | .lkthw l => encX 0x28 (6 * 4 + dirCode l) 0 0 0 0
  | .lkcan d a l => encX 0x28 (7 * 4 + dirCode l) d.toNat a.toNat 0 0
  | .cpy d a b => encX 0x29 0 d.toNat a.toNat b.toNat 0
  | .gat d a b => encX 0x29 1 d.toNat a.toNat b.toNat 0
  | .sca d a b => encX 0x29 2 d.toNat a.toNat b.toNat 0
  | .redc d a b => encX 0x29 3 d.toNat a.toNat b.toNat 0
  | .bct d a b => encX 0x29 4 d.toNat a.toNat b.toNat 0
  | .tdset a b => encX 0x2A 0 0 a.toNat b.toNat 0
  | .tdget d a b => encX 0x2A 1 d.toNat a.toNat b.toNat 0
  | .tdinv a => encX 0x2A 2 0 a.toNat 0 0
  | .gmacc a b s => encX 0x2B 0 0 a.toNat b.toNat s.toNat
  | .gmsub a b s => encX 0x2B 1 0 a.toNat b.toNat s.toNat
  | .gmelim d a b => encX 0x2B 2 d.toNat a.toNat b.toNat 0
  | .gmdamp a b => encX 0x2B 3 0 a.toNat b.toNat 0
  | .gmmean d a b => encX 0x2B 4 d.toNat a.toNat b.toNat 0
  | .gmres d a b => encX 0x2B 5 d.toNat a.toNat b.toNat 0
  | .gmsend a b => encX 0x2B 6 0 a.toNat b.toNat 0
  | .gmcpy a b => encX 0x2B 7 0 a.toNat b.toNat 0
  | .tlbw d a b ea eb => encT 0x2C 0 d.toNat a.toNat b.toNat ea eb
  | .tlbi a b ea eb => encT 0x2C 1 0 a.toNat b.toNat ea eb
  | .fres a b ea eb => encT 0x2C 2 0 a.toNat b.toNat ea eb
  | .ctxs a ea => encT 0x2C 3 0 a.toNat 0 ea false
  | .ctxl a ea => encT 0x2C 4 0 a.toNat 0 ea false
  | .wtab a b ea eb => encT 0x2C 5 0 a.toNat b.toNat ea eb
  | .wclose a ea => encT 0x2C 6 0 a.toNat 0 ea false
  | .wopen a ea => encT 0x2C 7 0 a.toNat 0 ea false
  | .rmap a b ea eb => encT 0x2C 8 0 a.toNat b.toNat ea eb
  | .evac a b ea eb => encT 0x2C 9 0 a.toNat b.toNat ea eb
  | .getc d n => encI 0x2D d.toNat 0 false n.toNat
  | .setc a ea n => encI 0x2E 0 a.toNat ea n.toNat
  | .smrReissue _ _ _ => 0
  | .fmthAdmit _ => 0
  | .fmthRefuse _ => 0
  | .tprdWrite _ _ => 0
  | .alstClear _ => 0
  | .cmaskWrite _ _ => 0
  | .iclWrite _ _ => 0
  | .pceilWrite _ => 0
  | .counterWrite _ _ _ => 0
  | .taskStart _ _ => 0
  | .l0HandlerStart _ => 0
  | .deferredTrapDelivery _ _ => 0
  | .spillRefill _ _ => 0
  | .antiStarvationTurn _ => 0
  | .fetchDutyWindow _ => 0
  | .stealRound _ => 0
  | .stealRequest _ _ => 0
  | .stagePop _ => 0
  | .governorWindow _ => 0
  | .swapQuantum _ => 0
  | .teamSwapOut _ => 0
  | .teamSwapIn _ => 0
  | .watchWake _ _ => 0
  | .waitaTimeout _ => 0
  | .parkTimeout _ => 0
  | .registerFill _ => 0
  | .remoteAccessAtHome _ => 0
  | .releaseRetry _ => 0
  | .commitToken _ => 0
  | .releaseWithdraw _ => 0
  | .scopeMissReturn _ => 0
  | .refusalReturn _ => 0
  | .tlbMissMessage _ _ _ => 0
  | .packetHeadRouting _ => 0
  | .messageArrival _ => 0
  | .gmRecordArrival _ => 0
  | .heldAlertRetry _ => 0
  | .enginePairing _ => 0
  | .jobStart _ => 0
  | .beatPull _ => 0
  | .rowSend _ => 0
  | .resultPacketArrival _ => 0
  | .streamRowDelivery _ => 0
  | .tileEndArrival _ => 0
  | .engwaitTimeout _ _ => 0
  | .swapxTimeout _ _ => 0
  | .copyJobStart _ => 0
  | .copyUnit _ _ _ => 0
  | .bctArrival _ => 0
  | .gmuRequestStart _ => 0
  | .gmuRequestComplete _ => 0
  | .budgetPeriod _ _ => 0
  | .monitorSample _ _ => 0
  | .sensorSample _ => 0
  | .stateRequest _ => 0
  | .transitionStart => 0
  | .islandStepDown _ => 0
  | .diePark _ => 0
  | .dieUnpark _ => 0
  | .sqDoorbell _ _ => 0
  | .launchRecord _ => 0
  | .createContextRecord _ => 0
  | .destroyContextRecord _ => 0
  | .checkpointRecord _ => 0
  | .checkpointStream => 0
  | .launchCompletion _ => 0
  | .watchdogExpiry _ => 0
  | .cqHeadWrite _ _ => 0
  | .faultConsumerIndex _ => 0
  | .resolutionWord _ => 0
  | .attestationRequest _ _ => 0
  | .recoveryRequest _ _ => 0
  | .hostMemoryAccess _ _ _ => 0
  | .powerOn _ _ => 0
  | .remoteAccessTimeout _ => 0
  | .flitArrival _ _ _ => 0
  | .flitAck _ _ => 0
  | .flitNak _ _ _ => 0
  | .replayRequest _ _ _ => 0
  | .endToEndAck _ _ => 0
  | .controlSpaceTaskStart _ _ _ _ => 0
  | .coreRestart _ => 0
  | .stageConfigStore _ _ _ _ _ => 0
  | .routeTableWrite _ _ _ => 0
  | .psTableWrite _ _ => 0
  | .permissionTableWrite _ _ _ _ => 0
  | .floorWrite _ _ _ _ => 0
  | .encodingError _ _ _ => 0
  | .queueConfigurationWrite _ _ _ => 0
  | .modeChange _ => 0
  | .podBarrierArrival _ _ => 0
  | .firmwareGridStart _ _ _ _ => 0
  | .contextAbortEnd _ => 0
  | .darkroomAbortRequest _ _ => 0

/-- The extension word (R258, R259). -/
def extOf : Instr → List IWord
  | .liS _ l => [l]
  | .liZ _ l => [l]
  | .lih _ l => [l]
  | .sendr _ _ _ _ _ r => [r]
  | _ => []

/-- The words of an instruction without prefixes. -/
def encode (i : Instr) : List IWord := BitVec.ofNat 32 (encodeWord i) :: extOf i

/-- R256: the guard word. -/
def guardWord (p : PReg) (n : Bool) : IWord := BitVec.ofNat 32 (0x3E * 2 ^ 26 + p.toNat * 2 ^ 23 + b2n n * 2 ^ 22)

/-- R257: the modifier word. -/
def modWord (m : Modifier) : IWord :=
  BitVec.ofNat 32 (0x3F * 2 ^ 26 + b2n m.sat * 2 ^ 25 + m.clamp.toNat * 2 ^ 23 + b2n m.neg * 2 ^ 22 + b2n m.abs * 2 ^ 21 + m.scale.toNat * 2 ^ 15)

/-- The words of a group. -/
def encodeGroup (g : Group) : List IWord :=
  (match g.guard with | some (p, n) => [guardWord p n] | none => []) ++
  (match g.mod with | some m => [modWord m] | none => []) ++ encode g.instr

end Sys2Proof
end

