-- ==== Sys2Proof/Machine/Fp.lean ====
section
/-! DEFINITION. Floating-point and narrow numbers: values are exact (sign, magnitude, power of two), every
operation is computed exactly and rounded once (R46 to R62, R326). -/

namespace Sys2Proof.Machine

/-- A number as read: a NaN, an infinity, or (-1)^neg · m · 2^e. -/
inductive Fv | nan (signalling : Bool) | inf (neg : Bool) | fin (neg : Bool) (m : Nat) (e : Int)
  deriving DecidableEq, Repr

/-- A format: sign bits, exponent bits, mantissa bits, bias, whether it is narrow, and TOPX (R46, R49, R50). -/
structure Fmt where
  s      : Nat
  eb     : Nat
  mb     : Nat
  bias   : Int
  narrow : Bool
  topx   : Bool
  deriving DecidableEq, Repr

/-- The exception flags: bit 0 NV, 1 DZ, 2 OF, 3 UF, 4 NX (R57). -/
structure Flags where
  nv : Bool
  dz : Bool
  of : Bool
  uf : Bool
  nx : Bool
  deriving DecidableEq, Repr

/-- No flag. -/
def Flags.zero : Flags := ⟨false, false, false, false, false⟩
/-- The OR of two sets. -/
def Flags.or (a b : Flags) : Flags := ⟨a.nv || b.nv, a.dz || b.dz, a.of || b.of, a.uf || b.uf, a.nx || b.nx⟩
/-- Invalid. -/
def Flags.invalid : Flags := ⟨true, false, false, false, false⟩
/-- Divide by zero. -/
def Flags.divZero : Flags := ⟨false, true, false, false, false⟩
/-- As the bits of EINFO and of FPC[8:4]. -/
def Flags.toNat (a : Flags) : Nat := b2n a.nv + b2n a.dz * 2 + b2n a.of * 4 + b2n a.uf * 8 + b2n a.nx * 16

/-- FP64. -/
def fp64 : Fmt := ⟨1, 11, 52, 1023, false, false⟩
/-- FP32. -/
def fp32 : Fmt := ⟨1, 8, 23, 127, false, false⟩
/-- FP16. -/
def fp16 : Fmt := ⟨1, 5, 10, 15, false, false⟩
/-- BF16. -/
def bf16 : Fmt := ⟨1, 8, 7, 127, false, false⟩

/-- The narrow format and TOPX of an NFC value (R52). -/
def narrowOf (nfc : Word) : Fmt := ⟨bits nfc 15 15, bits nfc 14 11, bits nfc 10 8, toSigned 8 (bits nfc 7 0), true, wbit nfc 16⟩

/-- The format of a lane type; integer types have none and read as FP64. -/
def fmtOf (nfc : Word) : Ty → Fmt
  | .f64 => fp64
  | .f32 => fp32
  | .f16 => fp16
  | .bf16 => bf16
  | .narrow => narrowOf nfc
  | _ => fp64

/-- Width of a code in bits (R49). -/
def Fmt.width (f : Fmt) : Nat := f.s + f.eb + f.mb

/-- R49: the parameter sets that name a narrow format. -/
def Fmt.narrowOk (f : Fmt) : Bool :=
  decide (f.s ≤ 1) && decide (1 ≤ f.eb) && decide (f.eb ≤ 8) && decide (f.mb ≤ 7) && decide (f.width ≤ 8)

/-- The value of a code (R46, R47, R50). -/
def Fmt.decode (f : Fmt) (c : Nat) : Fv :=
  let sg := f.s == 1 && bitAt c (f.eb + f.mb)
  let ex := fld c f.mb f.eb
  let mn := fld c 0 f.mb
  let top := ex == 2 ^ f.eb - 1
  if f.narrow then
    if f.topx && top then (if mn = 0 then .inf sg else .nan false)
    else if !f.topx && top && decide (0 < f.mb) && mn == 2 ^ f.mb - 1 then .nan false
    else if f.mb = 0 then .fin sg 1 ((ex : Int) - f.bias)
    else if ex = 0 then .fin sg mn (1 - f.bias - (f.mb : Int))
    else .fin sg (2 ^ f.mb + mn) ((ex : Int) - f.bias - (f.mb : Int))
  else if top then (if mn = 0 then .inf sg else .nan (!bitAt c (f.mb - 1)))
  else if ex = 0 then .fin sg mn (1 - f.bias - (f.mb : Int))
  else .fin sg (2 ^ f.mb + mn) ((ex : Int) - f.bias - (f.mb : Int))

/-- R56: a subnormal input of a format that is not narrow reads as zero of its sign under FZI. -/
def Fmt.read (f : Fmt) (fzi : Bool) (c : Nat) : Fv :=
  match f.decode c with
  | .fin n m e => if fzi && !f.narrow && fld c f.mb f.eb == 0 then .fin n 0 e else .fin n m e
  | x => x

/-- The canonical quiet NaN (R46), and the NaN code of a narrow format (R62). -/
def Fmt.nanCode (f : Fmt) : Nat :=
  if f.narrow then 2 ^ (f.eb + f.mb) - 1 else (2 ^ f.eb - 1) * 2 ^ f.mb + 2 ^ (f.mb - 1)

/-- The largest finite code without its sign. -/
def Fmt.maxCode (f : Fmt) : Nat :=
  if f.narrow && !f.topx then (if f.mb = 0 then 2 ^ f.eb - 1 else 2 ^ (f.eb + f.mb) - 2)
  else (2 ^ f.eb - 1) * 2 ^ f.mb - 1

/-- The code of infinity without its sign, where the format has one. -/
def Fmt.infCode (f : Fmt) : Nat := (2 ^ f.eb - 1) * 2 ^ f.mb

/-- A code with its sign. -/
def Fmt.signed (f : Fmt) (neg : Bool) (c : Nat) : Nat := if neg && f.s == 1 then c + 2 ^ (f.eb + f.mb) else c

/-- R56: whether a magnitude whose kept part is `q` and whose rest is `r` of `2^k` rounds up. `odd` decides a tie. -/
def roundsUp (rm : Nat) (neg odd : Bool) (r k : Nat) : Bool :=
  match rm with
  | 0 => decide (2 * r > 2 ^ k) || (decide (2 * r = 2 ^ k) && decide (0 < r) && odd)
  | 1 => false
  | 2 => decide (0 < r) && !neg
  | _ => decide (0 < r) && neg

/-- `m · 2^e` in units of `2^t`, rounded: the integer and whether it is inexact. -/
def roundAt (rm : Nat) (neg : Bool) (m : Nat) (e t : Int) : Nat × Bool :=
  if t ≤ e then (m * 2 ^ (e - t).toNat, false)
  else
    let k := (t - e).toNat
    let q := m / 2 ^ k
    let r := m % 2 ^ k
    (if roundsUp rm neg (q % 2 == 1) r k then q + 1 else q, decide (r ≠ 0))

/-- The overflow result of R56 for a mode: infinity or the largest finite. -/
def overflowsToInf (rm : Nat) (neg : Bool) : Bool :=
  match rm with
  | 0 => true
  | 1 => false
  | 2 => !neg
  | _ => neg

/-- A nonzero magnitude `m · 2^e` rounded into FP64, FP32, FP16 or BF16 (R56): code without sign, flags. -/
def roundIeee (f : Fmt) (rm : Nat) (fzo neg : Bool) (m : Nat) (e : Int) : Nat × Flags :=
  let emin : Int := 1 - f.bias
  let tFree : Int := e + (m.log2 : Int) - (f.mb : Int)
  let t := max tFree (emin - (f.mb : Int))
  let (q, nx) := roundAt rm neg m e t
  let qFree := (roundAt rm neg m e tFree).1
  let tiny := decide (tFree < emin - (f.mb : Int)) &&
    !(decide (qFree = 2 ^ (f.mb + 1)) && decide (emin ≤ tFree + (f.mb : Int) + 1))
  let code := if q < 2 ^ f.mb then q else ((t + (f.mb : Int) + f.bias - 1).toNat * 2 ^ f.mb + q)
  if f.infCode ≤ code then
    (if overflowsToInf rm neg then f.infCode else f.maxCode, ⟨false, false, true, false, true⟩)
  else if fzo && decide (0 < q) && decide (q < 2 ^ f.mb) then (0, ⟨false, false, false, true, true⟩)
  else (code, ⟨false, false, false, tiny && nx, nx⟩)

/-- R56, R62: a nonzero magnitude onto the grid of a narrow format, before the range cases: the code its exponents would have
without a top, and whether it is inexact and tiny, which is found after rounding. -/
def gridNarrow (f : Fmt) (rm : Nat) (neg : Bool) (m : Nat) (e : Int) : Nat × Bool × Bool :=
  if f.mb = 0 then
    let ex : Int := e + (m.log2 : Int) + f.bias
    let k := m.log2
    let r := m - 2 ^ k
    let up := roundsUp rm neg (ex % 2 ≠ 0) r k
    ((if up then ex + 1 else ex).toNat, decide (r ≠ 0), false)
  else
    let emin : Int := 1 - f.bias
    let tFree : Int := e + (m.log2 : Int) - (f.mb : Int)
    let t := max tFree (emin - (f.mb : Int))
    let (q, nx) := roundAt rm neg m e t
    let qFree := (roundAt rm neg m e tFree).1
    (if q < 2 ^ f.mb then q else (t + (f.mb : Int) + f.bias - 1).toNat * 2 ^ f.mb + q, nx,
      decide (tFree < emin - (f.mb : Int)) && !(decide (qFree = 2 ^ (f.mb + 1)) && decide (emin ≤ tFree + (f.mb : Int) + 1)))

/-- A value into a narrow format (R62). A magnitude overflows when what it rounds to, the exponent unbounded, exceeds the largest finite
one (log entry 92). `signalling` of a NaN raises NV. Negative values other than -0 in an unsigned
format take its row whatever their magnitude (log entry 13). -/
def roundNarrow (f : Fmt) (rm : Nat) : Fv → Nat × Flags
  | .nan sn => (f.nanCode, if f.mb = 0 || sn then Flags.invalid else Flags.zero)
  | .inf neg =>
    if f.s = 0 && neg then (0, Flags.invalid)
    else (f.signed neg (if f.topx && overflowsToInf rm neg then f.infCode else f.maxCode), ⟨false, false, true, false, true⟩)
  | .fin neg m e =>
    if m = 0 then
      (if f.mb = 0 then (f.signed neg 0, ⟨false, false, false, true, true⟩) else (f.signed neg 0, Flags.zero))
    else if f.s = 0 && neg then (0, Flags.invalid)
    else if f.mb = 0 && decide (e + (m.log2 : Int) + f.bias < 0) then (f.signed neg 0, ⟨false, false, false, true, true⟩)
    else
      match gridNarrow f rm neg m e with
      | (code, nx, tiny) =>
        if f.maxCode < code then
          (f.signed neg (if f.topx && overflowsToInf rm neg then f.infCode else f.maxCode), ⟨false, false, true, false, true⟩)
        else (f.signed neg code, ⟨false, false, false, tiny && nx, nx⟩)

/-- One rounding of a result into a format (R56, R61, R62, R326). A NaN gives the canonical quiet NaN. -/
def Fmt.round (f : Fmt) (rm : Nat) (fzo : Bool) (x : Fv) : Nat × Flags :=
  if f.narrow then roundNarrow f rm x
  else
    match x with
    | .nan _ => (f.nanCode, Flags.zero)
    | .inf neg => (f.signed neg f.infCode, Flags.zero)
    | .fin neg m e =>
      if m = 0 then (f.signed neg 0, Flags.zero)
      else match roundIeee f rm fzo neg m e with
           | (c, fl) => (f.signed neg c, fl)

/-- Round to nearest even with nothing flushed and no flag, as the engines, the banks and the GMU round (R63, R66, R208). -/
def Fmt.rne (f : Fmt) (x : Fv) : Nat := (f.round 0 false x).1

/-! ### Exact operations -/

/-- The negation. -/
def Fv.neg : Fv → Fv
  | .nan s => .nan s
  | .inf n => .inf (!n)
  | .fin n m e => .fin (!n) m e

/-- The absolute value. -/
def Fv.abs : Fv → Fv
  | .nan s => .nan s
  | .inf _ => .inf false
  | .fin _ m e => .fin false m e

/-- Times 2^k. -/
def Fv.scale (k : Int) : Fv → Fv
  | .fin n m e => .fin n m (e + k)
  | x => x

/-- Whether the value is a NaN. -/
def Fv.isNan : Fv → Bool
  | .nan _ => true
  | _ => false

/-- Whether the value is a signalling NaN. -/
def Fv.isSnan : Fv → Bool
  | .nan s => s
  | _ => false

/-- NV for a signalling NaN (R47). -/
def snanFlag (x : Fv) : Flags := if x.isSnan then Flags.invalid else Flags.zero

/-- Signed integer of a finite value in units of 2^t, for t no larger than its exponent. -/
def Fv.units (t : Int) : Fv → Int
  | .fin n m e => (if n then -1 else 1) * ((m * 2 ^ (e - t).toNat : Nat) : Int)
  | _ => 0

/-- The exponent of a finite value. -/
def Fv.expo : Fv → Int
  | .fin _ _ e => e
  | _ => 0

/-- Whether an infinity of the sign is among the values. -/
def hasInf (neg : Bool) (l : List Fv) : Bool := l.any (fun x => x == .inf neg)

/-- The exact sum of values (R56's signs of zero sums; inf - inf is invalid). Signalling NaNs are flagged by the reader of
the inputs. -/
def sumF (rm : Nat) (l : List Fv) : Fv × Flags :=
  if hasInf true l && hasInf false l then (.nan false, Flags.invalid)
  else if l.any Fv.isNan then (.nan false, Flags.zero)
  else if hasInf true l then (.inf true, Flags.zero)
  else if hasInf false l then (.inf false, Flags.zero)
  else
    let t := l.foldl (fun a x => min a x.expo) (match l with | x :: _ => x.expo | [] => 0)
    let sm := l.foldl (fun a x => a + x.units t) 0
    if sm = 0 then
      let allNeg := l.all (fun x => match x with | .fin n m _ => n && m == 0 | _ => false)
      let allPos := l.all (fun x => match x with | .fin n m _ => !n && m == 0 | _ => false)
      (.fin (if allNeg then true else if allPos then false else rm == 3) 0 t, Flags.zero)
    else (.fin (decide (sm < 0)) sm.natAbs t, Flags.zero)

/-- The exact product; 0 · inf is invalid. -/
def mulF : Fv → Fv → Fv × Flags
  | .nan _, _ => (.nan false, Flags.zero)
  | _, .nan _ => (.nan false, Flags.zero)
  | .inf a, .inf b => (.inf (a != b), Flags.zero)
  | .inf a, .fin b m _ => if m = 0 then (.nan false, Flags.invalid) else (.inf (a != b), Flags.zero)
  | .fin a m _, .inf b => if m = 0 then (.nan false, Flags.invalid) else (.inf (a != b), Flags.zero)
  | .fin a m e, .fin b n k => (.fin (a != b) (m * n) (e + k), Flags.zero)

/-- The quotient, exact to more bits than any format holds, with a last bit that says the rest is not zero (R334). -/
def divF : Fv → Fv → Fv × Flags
  | .nan _, _ => (.nan false, Flags.zero)
  | _, .nan _ => (.nan false, Flags.zero)
  | .inf _, .inf _ => (.nan false, Flags.invalid)
  | .inf a, .fin b _ _ => (.inf (a != b), Flags.zero)
  | .fin a _ _, .inf b => (.fin (a != b) 0 0, Flags.zero)
  | .fin a m e, .fin b n k =>
    if n = 0 then (if m = 0 then (.nan false, Flags.invalid) else (.inf (a != b), Flags.divZero))
    else
      let sh := n.log2 + 130
      let q := m * 2 ^ sh / n
      let r := m * 2 ^ sh % n
      (.fin (a != b) (2 * q + (if r = 0 then 0 else 1)) (e - k - (sh : Int) - 1), Flags.zero)

/-- The square root, in the same way (R334). -/
def sqrtF : Fv → Fv × Flags
  | .nan _ => (.nan false, Flags.zero)
  | .inf neg => if neg then (.nan false, Flags.invalid) else (.inf false, Flags.zero)
  | .fin neg m e =>
    if m = 0 then (.fin neg 0 e, Flags.zero)
    else if neg then (.nan false, Flags.invalid)
    else
      let m1 := if e % 2 = 0 then m else 2 * m
      let e1 := if e % 2 = 0 then e else e - 1
      let n := m1 * 2 ^ 260
      let r := isqrt n
      (.fin false (2 * r + (if r * r = n then 0 else 1)) (e1 / 2 - 130 - 1), Flags.zero)

/-- The order of values with -0 below +0, as an integer key of a code (R328); NaNs are handled before. -/
def Fmt.key (f : Fmt) (c : Nat) : Int :=
  let mag : Int := ((c % 2 ^ (f.eb + f.mb) : Nat) : Int)
  if f.s == 1 && bitAt c (f.eb + f.mb) then -mag - 1 else mag

/-- Comparison of two values that are not NaN: -1, 0, 1, with -0 = +0 (R342). -/
def cmpF (x y : Fv) : Int :=
  match x, y with
  | .inf a, .inf b => if a = b then 0 else if a then -1 else 1
  | .inf a, _ => if a then -1 else 1
  | _, .inf b => if b then 1 else -1
  | x, y =>
    let t := min x.expo y.expo
    if x.units t < y.units t then -1 else if y.units t < x.units t then 1 else 0

/-- A finite value or infinity rounded to an integer in a mode: the integer and whether a fraction was discarded. -/
def intOf (rm : Nat) (neg : Bool) (m : Nat) (e : Int) : Int × Bool :=
  match roundAt rm neg m e 0 with
  | (q, nx) => (if neg then -(q : Int) else (q : Int), nx)

/-- Whether a value reads as zero. -/
def Fv.isZero : Fv → Bool
  | .fin _ m _ => m == 0
  | _ => false

/-- An integer as a value. -/
def fvOfInt (x : Int) : Fv := .fin (decide (x < 0)) x.natAbs 0

end Sys2Proof.Machine
end

