-- ==== Sys2Proof/Config.lean ====
section
/-! DEFINITION. What an implementation fixes and the spec leaves open: free values without a body, so
that no proof can see what they are (log entries 6, 7, 77 and 80). -/

namespace Sys2Proof.Config

/-- R335: the approximation unit's choice inside the bound for `vrcp`, `vrsqrt`, `vexp2` and `vlog2`,
as a function of the member (0 to 3), the type code of R255, the rounding mode and the operand's bits:
"a fixed function of the input, type and mode". FREE VALUE; the meaning keeps it inside the bound. -/
opaque approxChoice : Nat → Nat → Nat → Nat → Nat

/-- R378: the idle power D_min of a leaf at the operating point of its island (0 for PS0's to 3 for PS3's), in the units of the
signed power model, which the spec does not give. FREE VALUE. -/
opaque idleDemand : Nat → Nat → Nat

/-- R408: byte `i` of the RSA-4096 signature of some bytes under Safelight's key, which the spec does not give. FREE VALUE. -/
opaque signature : List Byte → Nat → Byte

/-- R153: the way of a full set of a TLB that a new entry replaces, by a counter of the machine: "not part of the
architecture". FREE VALUE. -/
opaque victim : Nat → Nat

/-- R351: the free slot of a cluster's job queue that a card takes, by a counter of the machine; the rule does not say which.
FREE VALUE. -/
opaque jobSlot : Nat → Nat

end Sys2Proof.Config
end

