-- ==== Sys2Proof/Machine/Tbl.lean ====
section
/-! DEFINITION. Sparse tables by number: a list of (key, value) pairs with rising keys, an absent key
reading as a default; cores, registers, engines and rows are held this way. -/

namespace Sys2Proof

/-- The value at `k`, or `d` when the table lists none. -/
def tblGet {α : Type} (d : α) : List (Nat × α) → Nat → α
  | [], _ => d
  | (j, x) :: t, k => if k = j then x else if k < j then d else tblGet d t k

/-- The table with the value at `k` set. -/
def tblSet {α : Type} : List (Nat × α) → Nat → α → List (Nat × α)
  | [], k, v => [(k, v)]
  | (j, x) :: t, k, v => if k = j then (k, v) :: t else if k < j then (k, v) :: (j, x) :: t else (j, x) :: tblSet t k v

/-- The table without the key `k`. -/
def tblDel {α : Type} (t : List (Nat × α)) (k : Nat) : List (Nat × α) := t.filter (fun e => e.1 ≠ k)

/-- Keys strictly rising from `lo` on. -/
def tblRising {α : Type} : Nat → List (Nat × α) → Bool
  | _, [] => true
  | lo, (j, _) :: t => decide (lo ≤ j) && tblRising (j + 1) t

/-- A list with the element at position `i` replaced. -/
def listSet {α : Type} : List α → Nat → α → List α
  | [], _, _ => []
  | _ :: t, 0, v => v :: t
  | x :: t, i + 1, v => x :: listSet t i v

end Sys2Proof
end

