-- ==== Sys2Proof/Machine/State.lean ====
section
/-! DEFINITION. The state of the machine as plain data, the reasons a step can stop, and the machine after
reset. Cores, clusters, engines and rows are sparse tables: an entry that is not listed has its reset value. -/

namespace Sys2Proof.Machine

/-- A memory of the machine (R95, R108, R402, R403, R432): local HBM, host memory, firmware memory, the HBM of
module `m`, buffer `b` (1 W, 2 A, 3 C) of a core by logical row offset; and the two special pages: a core's engine inbox
(R120) and the control space (R396). -/
inductive Space | hbm | host | fw | remote (m : Nat) | buf (core b : Nat) | inbox (core : Nat) | ctl
  deriving DecidableEq, Repr

/-- A byte's place. -/
structure Loc where
  sp  : Space
  off : Nat
  deriving DecidableEq, Repr

/-- Register files of a slot (R68): values absent from a table are zero, full, false. -/
structure Regs where
  g  : List (Nat × Word)
  ge : List (Nat × Bool)
  v  : List (Nat × Vec)
  ve : List (Nat × Bool)
  p  : BitVec 8
  deriving DecidableEq, Repr

/-- Per-slot control registers (R79). -/
structure Ctl where
  tid    : Word
  allot  : Nat
  frame  : Word
  fw     : Bool
  ctx    : Nat
  fpc    : Word
  nfc    : Word
  gmc    : Word
  pace   : Word
  swp    : Word
  epc    : Word
  ecause : Word
  eaddr  : Word
  einfo  : Word
  eslot  : Word
  smr    : Word
  eg     : List (Nat × Word)
  deriving DecidableEq, Repr

/-- What an access does at its home (R292 to R303). -/
inductive AccKind
  | load (signed : Bool)
  | vload
  | tload (es : ESize)
  | store
  | vstore
  | amo (w : Nat) (op : Aop)
  | fadd (fmt : Ty)
  | decp
  deriving DecidableEq, Repr

/-- Where a returned value goes (R71). -/
inductive Dest | none | g (r : Nat) | v (r : Nat)
  deriving DecidableEq, Repr

/-- Where an access stands on its way: under way, NACKed until a cycle of its core, held at its home, held and
committed, withdrawn, or returned by a scope miss. -/
inductive FState | going | nacked (until_ : Nat) | held | committed | withdrawn | missed
  deriving DecidableEq, Repr

/-- One part of an access that has issued and is not yet performed. `acc` is the access it belongs to, `idx` the
part's first byte in it; `work` is the thread or task; `ord` the page's kind (0 RC, 1 SO, 2 UO); `ok` what the window check of its
access on this page has found, once one of its parts has been checked (R89). -/
structure Flight where
  id    : Nat
  acc   : Nat
  core  : Nat
  slot  : Nat
  work  : Nat
  pc    : Word
  va    : Word
  loc   : Loc
  idx   : Nat
  len   : Nat
  total : Nat
  kind  : AccKind
  acq   : Bool
  rel   : Bool
  scope : Option Scope
  ord   : Nat
  data  : Nat
  cmp   : Nat
  dest  : Dest
  st    : FState
  fw    : Bool
  ok    : Option Bool := none
  deriving DecidableEq, Repr

/-- The parts of one access already performed: bytes gathered and parts left; `bad` is the cause of a refusal or of
an unwritten word, with the address (R117, R101). -/
structure Gather where
  acc  : Nat
  left : Nat
  data : Nat
  bad  : Option (Nat × Word)
  deriving DecidableEq, Repr

/-- A value, a refusal or a scope miss on its way back to a slot (R71, R117, R232). -/
inductive RetKind | value | failed (cause : Nat) | event (cause : Nat)
  deriving DecidableEq, Repr

/-- What travels back; `acc` is the access that gave it, 0 for none; `fw` whether that was one of the firmware context. -/
structure Ret where
  id   : Nat
  acc  : Nat := 0
  core : Nat
  slot : Nat
  work : Nat
  pc   : Word
  va   : Word
  kind : AccKind
  dest : Dest
  data : Nat
  ret  : RetKind
  fw   : Bool := false
  deriving DecidableEq, Repr

/-- An access that has issued and awaits translation, or a store that follows one that does (R114, R233), with what the slot held
before it. -/
structure Waiting where
  va    : Word
  data  : Nat
  len   : Nat
  kind  : AccKind
  acq   : Bool := false
  rel   : Bool
  cmp   : Nat := 0
  dest  : Dest := .none
  scope : Option Scope
  pc    : Word
  glen  : Nat
  id    : Nat
  sent  : Bool
  regs  : Regs
  fpc   : Word
  deriving DecidableEq, Repr

/-- A deferred trap due (R84, R192); `acc` is the access that it is due for, 0 for none (R233). -/
structure Deferred where
  cause : Nat
  eaddr : Word
  einfo : Word
  acc   : Nat := 0
  deriving DecidableEq, Repr

/-- What a slot runs: a task or a team thread (R21, R26). `id` is the model's name of it. `events`: started from the
L0 event queue (R281). `landed`: class and cell to free at its end (R129). `hclass`: the class of a handler, 64 and the
stage of a stage item's task. `q`: stream register to ring, plus one. `gmTrap`: the trap that a GMU request raised
while the thread's team was leaving, to be taken at its instruction (R219). `capHeld`: the FPC and NFC that the instruction of a saved
thread had captured (R58, R266). -/
structure Work where
  id       : Nat
  thread   : Bool
  events   : Bool
  landed   : Option (Nat × Nat)
  hclass   : Option Nat
  lvl      : Nat
  team     : Option Nat
  pc       : Word
  regs     : Regs
  ctl      : Ctl
  q        : List (Nat × Nat)
  deferred : List Deferred
  relMark  : Option Nat
  gmTrap   : Option Deferred := none
  capHeld  : Option (Word × Word) := none
  deriving DecidableEq, Repr

/-- Why a slot stalls at its instruction (R2). A walk's kind is that of R135: 0 load, 1 store, 2 fetch, 3 atomic; a walk of
the deque's page stands apart (R310); a partner is that of a `swapx`, with its offset and rows; an engine is the one that `lkfrz`
waits for; a halt ends when the number of pushes has changed (R288). -/
inductive Why
  | empty | ordering | walk (va : Word) (kind : Nat) | deque (va : Word) | queueFull | partner (off rows : Nat) | barrier | gmu | ring | command | engine (e : Nat) | halt (pushes : Nat) | frozen
  deriving DecidableEq, Repr

/-- A thread slot (R9). `res`: its first step is its level's reserved one (R16). `cap`: the FPC and NFC captured by an
instruction that waits (R58, R347). `yielded`: after `yield`, the cycles for which the slot stays no candidate, and whether it is
so on the scalar and on the vector port (R287). -/
structure Slot where
  busy    : Bool
  w       : Work
  frozen  : Bool
  res     : Bool
  len     : Nat
  stall   : Option (Why × Nat)
  yielded : Option (Nat × Bool × Bool)
  waiting : List Waiting
  held    : Option Flight
  cap     : Option (Word × Word)
  deriving DecidableEq, Repr

/-- A ready entry (R122), with the landing cell its handler frees, the parked work it resumes and its team. KIND 6 is the
model's own: the start of a team thread, `g2` its team number and `g3` its thread number. -/
structure Entry where
  kind   : Nat
  allot  : Nat
  pc     : Word
  lvl    : Nat
  frame  : Word
  g2     : Word
  g3     : Word
  landed : Option (Nat × Nat)
  hclass : Option Nat
  parked : Option Nat
  team   : Option Nat
  share  : Bool
  deriving DecidableEq, Repr

/-- A ready ring (R122): on chip, then spilled; `at_` is the place in the spill area of its oldest entry. -/
structure Ring where
  chip  : List Entry
  spill : List Entry
  at_   : Nat := 0
  deriving DecidableEq, Repr

/-- An entry of the L0 event queue (R124). -/
structure Event where
  eslot  : Nat
  epc    : Word
  ecause : Word
  eaddr  : Word
  einfo  : Word
  deriving DecidableEq, Repr

/-- A message in a network or held at a core (R317, R214, R427). `at_` is the core at whose router its head
stands; `head` is its heading after a turn and `turn` the next turn of its route word. -/
structure Packet where
  id     : Nat
  gm     : Bool
  fw     : Bool
  ctx    : Nat
  src    : Nat
  sslot  : Nat
  dst    : Nat
  cls    : Nat
  slot   : Nat
  span   : Nat
  words  : List Word
  nrw    : Bool
  topx   : Bool
  dword  : Word
  route  : Option IWord
  at_    : Nat
  head   : Option Dir
  turn   : Nat
  here   : Bool
  local_ : Bool
  deriving DecidableEq, Repr

/-- Four words: a handler-table entry (R140), a tensor-table entry (R146). -/
structure Words4 where
  w0 : Word
  w1 : Word
  w2 : Word
  w3 : Word
  deriving DecidableEq, Repr

/-- A pending start of a masked class (R128). -/
structure Pending where
  cls   : Nat
  slot  : Option Nat
  entry : Entry
  deriving DecidableEq, Repr

/-- A landing ring (R129): cells in use from the oldest on, each with whether it is freed, and the next cell. -/
structure Landing where
  used : List (Nat × Bool)
  next : Nat
  deriving DecidableEq, Repr

/-- A TLB entry (R111). -/
structure TlbEntry where
  w0 : Word
  w1 : Word
  deriving DecidableEq, Repr

/-- A stream ring (R132): the work and q register bound, first row, log2 of elements, read position, occupancy. -/
structure Stream where
  owner : Option (Nat × Nat)
  team  : Option Nat
  base  : Nat
  logk  : Nat
  rd    : Nat
  occ   : Nat
  deriving DecidableEq, Repr

/-- A watch entry (R134): the line, the context, the parked work waiting, oldest first. -/
structure Watch where
  line    : Nat
  fw      : Bool
  ctx     : Nat
  waiters : List Nat
  deriving DecidableEq, Repr

/-- A GMU request (R206): member (its fn code), addresses, block, destination register, captured GMC. -/
structure GmuReq where
  slot  : Nat
  work  : Nat
  pc    : Word
  fn    : Nat
  a     : Word
  b     : Word
  blk   : Nat
  d     : Nat
  gmc   : Word
  deriving DecidableEq, Repr

/-- R379: what a core has done in the present budget period: groups issued, transfers of its scratchpad ports, GMU requests, and beats
and arithmetic cycles of engines whose moving end it is. -/
structure Acts where
  groups    : Nat
  transfers : Nat
  requests  : Nat
  beats     : Nat
  deriving DecidableEq, Repr

/-- A page that something other than a stalled group waits for: a core's access to its deque, or a prefetch (R297, R310). -/
structure Wanted where
  deque : Bool
  fw    : Bool
  ctx   : Nat
  va    : Word
  deriving DecidableEq, Repr

/-- A core: a compute core, a management core or a translation service core. `stgMove`: the stage it will subscribe to once the tasks of
`stgWorks`, those of its old stage that ran when the governor chose it, have ended (R34). `owed`: words put into a queue of it in memory
while no TLB entry gives their page, by address (R122 to R125). `pushes`: entries pushed to its rings and its event queue so far (R288). `evSpilled`, `evAt`: how
many of its events have spilled, and the place of the first of them (R124). `dqTop`: the place of the deque's top entry (R125). -/
structure Core where
  slots    : List (Nat × Slot)
  fdr      : Nat
  share    : Nat
  htb      : Word
  cmask    : Word
  spmode   : Nat
  dqb      : Word
  stg      : Nat
  stgMove  : Option Nat
  stgWorks : List Nat
  tvec     : Word
  rrb      : List (Nat × Word)
  win      : List (Nat × Word)
  cyc      : Word
  ins      : Word
  ffc      : Word
  smc      : Word
  nkc      : Word
  flc      : Word
  fmth     : Option Packet
  dfpc     : Word
  dnfc     : Word
  dgmc     : Word
  rseq     : Nat
  ready    : List (Nat × Ring)
  events   : List Event
  deque    : List Entry
  idle     : Nat
  handlers : List (Nat × Words4)
  holding  : List (Nat × List Packet)
  pending  : List Pending
  landing  : List (Nat × Landing)
  tensors  : List (Nat × Words4)
  l1       : List TlbEntry
  rings    : List (Nat × Stream)
  watches  : List Watch
  gmu      : List GmuReq
  gmuBusy  : Bool
  halted   : Bool
  ages     : List (Nat × Nat)
  robin    : List (Nat × Nat)
  stepHold : Bool
  loading  : Bool
  acts     : Acts
  pushes   : Nat
  evSpilled : Nat
  evAt     : Nat
  dqTop    : Nat
  wanted   : List Wanted
  owed     : List (Word × Nat)
  deriving DecidableEq, Repr

/-- One half of a product (R182). `cycle`: the engine cycle of its entry into the queue (R184). -/
structure Half where
  seq    : Nat
  core   : Nat
  slot   : Nat
  work   : Nat
  team   : Option Nat
  ctx    : Nat
  moving : Bool
  low    : Bool
  pc     : Word
  td     : Words4
  ga     : Word
  gb     : Word
  eg     : Word
  pace   : Nat
  rm     : Nat
  topx   : Bool
  cmd    : Nat
  cycle  : Nat
  deriving DecidableEq, Repr

/-- A row in an engine's accumulator bank: its index, the beats pulled, the engine cycle of its last arithmetic,
its accumulators once its last beat has been pulled, and whether it has. -/
structure AccRow where
  row   : Nat
  beats : Nat
  last  : Nat
  acc   : List Nat
  done  : Bool
  deriving DecidableEq, Repr

/-- A running job (R186 to R190, R119). Cycles are engine cycles. `duty`: the least FDR of its ends, as read at the present window
(R381). -/
structure Job where
  mov     : Half
  sta     : Half
  started : Bool
  start   : Nat
  loadEnd : Nat
  b       : List Nat
  bscale  : List Nat
  row     : Nat
  out     : Nat
  sent    : Nat
  rows    : List AccRow
  next    : Nat
  duty    : Nat
  deriving DecidableEq, Repr

/-- A link engine (R118): half-queues of its low and high ends, its job, whether it is frozen, whether it stops at its next
row boundary (R120), its clock. -/
structure Engine where
  lowS   : List Half
  lowM   : List Half
  highS  : List Half
  highM  : List Half
  job    : Option Job
  frozen : Bool
  stop   : Bool
  cyc    : Nat
  deriving DecidableEq, Repr

/-- An engine result packet (R189): the engine, the moving half, the row and its accumulators, which the target converts or
adds to what it holds (R64). -/
structure ResultPkt where
  id  : Nat
  eng : Nat
  mov : Half
  row : Nat
  acc : List Nat
  deriving DecidableEq, Repr

/-- A copy job (R351 to R360): member (fn code), the card's 16 words, completion object, issuer, next unit, whether it
runs, its fault token while suspended, and the earlier jobs it waits for. -/
structure CopyJob where
  jid     : Nat
  serial  : Nat
  fn      : Nat
  card    : List Word
  obj     : Loc
  objVa   : Word
  core    : Nat
  slot    : Nat
  work    : Nat
  team    : Option Nat
  fw      : Bool
  ctx     : Nat
  unit    : Nat
  running : Bool
  token   : Option Nat
  after   : List Nat
  stopped : Bool
  deriving DecidableEq, Repr

/-- A unit of a `bct` on its way to one core (R355): its job, the issuing core with its context, the buffer and bytes. -/
structure BctUnit where
  id      : Nat
  cluster : Nat
  serial  : Nat
  core    : Nat
  fw      : Bool
  ctx     : Nat
  dst     : Nat
  buf     : Nat
  off     : Nat
  data    : List Byte
  deriving DecidableEq, Repr

/-- The governor's count for a stage (R34, R160): lowest and highest sample of the window, and consecutive high and low
windows. -/
structure Gov where
  lo   : Nat
  hi   : Nat
  highs : Nat
  lows  : Nat
  fresh : Bool
  deriving DecidableEq, Repr

/-- A cluster. `idWaits`: the `lkm` that wait for a command ID (R173), by the number of their half, with what will fill their
destination. `units`: those of its copy engine in the present budget period (R379). -/
structure Cluster where
  owner   : Option Nat
  cmd     : List (Nat × Nat)
  lastCmd : Option Nat
  idWaits : List (Nat × Ret)
  l2      : List TlbEntry
  jobs    : List CopyJob
  duty    : Nat
  stages  : List (Nat × List Word)
  cfg     : List (Nat × Word)
  gov     : List (Nat × Gov)
  quantum : Nat
  units   : Nat
  deriving DecidableEq, Repr

/-- A context (R35): its clusters, its permission table's header and ranges (R156), the reason while it aborts, and the queue of the
create record that still loads it (R398). -/
structure Context where
  clusters : List Nat
  header   : Word
  ranges   : List (Nat × (Word × Word))
  abort    : Option (Nat × Nat)
  loader   : Option Nat
  deriving DecidableEq, Repr

/-- A team (R26, R37 to R41). -/
structure Team where
  id       : Nat
  launch   : Nat
  ctx      : Nat
  number   : Nat
  threads  : Nat
  allot    : Nat
  entry    : Word
  args     : Word
  cluster  : Nat
  cores    : List Nat
  bases    : List (Nat × Nat)
  rowsW    : Nat
  rowsA    : Nat
  rowsC    : Nat
  placed   : Bool
  resident : Bool
  leaving  : Bool
  since    : Nat
  saved    : List (Nat × Nat × Work)
  savedMem : List Host.Cell
  savedVal : List Nat
  savedDq  : List (Nat × List Entry)
  savedRdy : List (Nat × List Entry)
  savedEng : List (Nat × Engine)
  ended    : List Nat
  arrived  : List (Nat × (Scope × Bool))
  deriving DecidableEq, Repr

/-- A launch or a grid of the firmware context (R37, R426). `queue` is `none` for a firmware grid. -/
structure Launch where
  id      : Nat
  queue   : Option Nat
  fw      : Bool
  ctx     : Nat
  tag     : Word
  job     : Nat
  nmod    : Nat
  wdog    : Nat
  at_     : Nat
  deriving DecidableEq, Repr

/-- What parked work waits for (R27, R284): a watched line, nothing but its timeout, a fault token, a join cell, or a barrier
object. -/
inductive Wait | line (key : Nat) | time | token (t : Nat) | cell (loc : Loc) | object (loc : Loc)
  deriving DecidableEq, Repr

/-- Parked work (R27): its saved registers, its core, what it waits for and its deadline in microseconds. -/
structure Parked where
  id    : Nat
  core  : Nat
  w     : Work
  wait  : Wait
  until_ : Option Nat
  ready : Bool
  deriving DecidableEq, Repr

/-- A submission queue with its configuration words (R397) and the completion queue of the same number: the next record
written, the records held while it is full (R137). -/
structure HostQ where
  w0   : Word
  w1   : Word
  w2   : Word
  tail : Nat
  head : Nat
  cqHead : Nat
  cqTail : Nat
  heldRecs : List Words4
  deriving DecidableEq, Repr

/-- The fault ring's words (R135, R397), the next sequence number and the records held while it is full. -/
structure FaultRing where
  base    : Word
  size    : Word
  prod    : Nat
  cons    : Nat
  res     : Word
  seq     : Nat
  heldRecs : List (Nat × Words4)
  deriving DecidableEq, Repr

/-- A link (R138, R404): the flits sent and not acknowledged, the next sequence number to send and to receive, the missing flits it
has NAKed, the numbers for which it has sent a skip token, the replay copy of each packet under way with its context (512 is the
firmware context), failed replays by packet, whether it is retired. Links 0 to 63 are those from die `n / 8` to die `n % 8`. -/
structure Link where
  window  : List Nat
  next    : Nat
  expect  : Nat
  naks    : List Nat
  skips   : List Nat
  copies  : List (Nat × Nat)
  fails   : List (Nat × Nat)
  retired : Bool
  deriving DecidableEq, Repr

/-- A checkpoint in progress (R410): queue, job, destination, tag, and whether its streaming may begin. -/
structure Checkpoint where
  queue : Nat
  job   : Nat
  dest  : Word
  tag   : Word
  copying : Bool
  deriving DecidableEq, Repr

/-- The group being issued (R246): its core, slot, address, length in words and modifier. -/
structure Cur where
  core : Nat
  slot : Nat
  pc   : Word
  len  : Nat
  mod  : Option Modifier
  deriving DecidableEq, Repr

/-- A row of the performance-state table (R161), its park mask apart: clocks in MHz and voltages in mV of the fast, medium and
efficient bands, the power envelope in units of 10 W, and whether HBM is in self-refresh. -/
structure PsRow where
  clockF : Nat
  clockM : Nat
  clockE : Nat
  voltF  : Nat
  voltM  : Nat
  voltE  : Nat
  env    : Nat
  stby   : Bool
  deriving DecidableEq, Repr

/-- What the module last answered to an access from outside, a host's (R395) or another module's (R403): bytes, poison, or a
refusal. -/
inductive Reply | none | data (bs : List Byte) | poison | refused
  deriving DecidableEq, Repr

/-- Which agent moves: a slot issues a group, an event happens, a core takes the picks of its present cycle (R10, R12), a cycle or a
microsecond passes. The others come from outside: a double-bit error in the memory word of a number or in the part of an engine's state
that holds the half of a number, counted from those of its job on (R98, R109, R191), a bad flit of what is under way on an on-die link
(R404), another module's access to this module's HBM and its write to its own (R403). -/
inductive Turn
  | issue (core slot : Nat) | event (i : Instr) | picks (core : Nat) | tick | micro
  | upset (word : Nat) | engineUpset (engine half : Nat) | badFlit (id : Nat)
  | podAccess (pa n : Nat) (kind : AccKind) (data cmp : Nat) | podWrite (m off n data : Nat)
  deriving DecidableEq, Repr

/-- The machine. `coreCtx`: the context, or none, that `ctxl` has loaded for a core; a core that it does not list is in the context that
owns its cluster (R35, R372). `poison`: the 8-byte words that hold a double-bit error, by cell key divided by 8 (R98, R109), words of host memory
with CXL poison among them (R414); `retired`: the HBM frames that firmware has retired (R412). `narrowing`: the contexts whose permission table was last written narrower, with the
model's number at that write (R158). `cycles` and `phases`: the cycles that
each island's clock has made, and what is left toward the next; number 24 is the I/O die (R7, R176). `freshDuty`: by island, the FDR that
the present window began with for a core that the table does not list (R175). `psDone`: in a transition, the islands that have stepped down or declined, and 100 and the die for a die whose
parking has begun (R391). -/
structure State where
  mem       : List Host.Cell
  valid     : List Nat
  poison    : List Nat
  retired   : List Nat
  narrowing : List (Nat × Nat)
  rowMap    : List (Nat × Nat)
  failOk    : List (Nat × Nat)
  floors    : List (Nat × (Nat × Nat × Nat))
  cores     : List (Nat × Core)
  clusters  : List (Nat × Cluster)
  engines   : List (Nat × Engine)
  contexts  : List (Nat × Context)
  coreCtx   : List (Nat × Option Nat)
  teams     : List Team
  launches  : List Launch
  parked    : List Parked
  inflight  : List Flight
  gathers   : List Gather
  returns   : List Ret
  packets   : List Packet
  results   : List ResultPkt
  bcts      : List BctUnit
  routes    : List (Nat × BitVec 16)
  routesUp  : Bool
  marks     : List (Nat × Nat)
  wakes     : List (Nat × Nat)
  tsen      : List (Nat × Nat)
  tprd      : List (Nat × BitVec 16)
  icl       : List (Nat × Nat)
  pceil     : Nat
  pmeas     : Word
  alth      : BitVec 16
  hyst      : BitVec 16
  alst      : Word
  tlogp     : Word
  usec      : Nat
  heldAlerts : List Nat
  mode      : Nat
  modnum    : Nat
  psCur     : Nat
  psReq     : Option Nat
  psBusy    : Bool
  psTarget  : Nat
  psDecl    : Nat
  psDone    : List Nat
  psPark4   : Nat
  psPark5   : Nat
  psTable   : List PsRow
  islandPs  : List (Nat × Nat)
  cycles    : List (Nat × Nat)
  phases    : List (Nat × Nat)
  freshDuty : List (Nat × Nat)
  clampOn   : Bool
  excess    : Nat
  aboveCeil : Bool
  backstop  : List (Nat × Bool)
  dieParked : List (Nat × Bool)
  dieClosed : List (Nat × Nat)
  savedFloor : List Host.Cell
  queues    : List (Nat × HostQ)
  lastQ     : Nat
  faults    : FaultRing
  attest    : List (Nat × Word)
  recov     : List (Nat × Word)
  fwImage   : List Host.Cell
  reply     : Reply
  podArrived : List (Nat × Nat)
  checkpoint : Option Checkpoint
  links     : List (Nat × Link)
  cur       : Cur
  agenda    : List Turn
  beat      : Nat
  nextId    : Nat
  deriving DecidableEq, Repr

/-- Why the machine stops with a fault. -/
inductive Fault
  /-- Raised by a step without a word whose argument names a unit the module does not have (a core ID, a cluster, an
  engine, a class or a register number beyond the last of R4, R92, R139): the spec gives no such step. Safe. -/
  | noSuchUnit
  deriving DecidableEq, Repr

/-- Why an instruction is refused. -/
inductive Refusal
  /-- Raised by an arm of `exec` that has no meaning yet. Safe. -/
  | notModelled (mnemonic : String)
  deriving DecidableEq, Repr

/-- R68, R21: zero and full; `p0` is true. -/
def Regs.reset : Regs := { g := [], ge := [], v := [], ve := [], p := 1 }

/-- R80's reset value. -/
def egReset : Word := 0x000000FFFF000081

/-- R79's start values, where the spec gives one; FPC, NFC and GMC are the reset values of R55, R52 and R79, the others
zero (log entry 2). -/
def Ctl.reset : Ctl :=
  { tid := 0, allot := 1, frame := 0, fw := false, ctx := 0, fpc := 0, nfc := 0xA307, gmc := 0xF82800, pace := 0, swp := 0,
    epc := 0, ecause := 0, eaddr := 0, einfo := 0, eslot := 8, smr := 0, eg := [] }

/-- No work (log entry 2). -/
def Work.reset : Work :=
  { id := 0, thread := false, events := false, landed := none, hclass := none, lvl := 0, team := none, pc := 0,
    regs := Regs.reset, ctl := Ctl.reset, q := [], deferred := [], relMark := none }

/-- A free slot. -/
def Slot.reset : Slot :=
  { busy := false, w := Work.reset, frozen := false, res := false, len := 0, stall := none, yielded := none, waiting := [],
    held := none, cap := none }

/-- R87's module reset values. -/
def Core.reset : Core :=
  { slots := [], fdr := 16, share := 16, htb := 0, cmask := 0, spmode := 0,
    dqb := 0, stg := 0, stgMove := none, stgWorks := [], tvec := 0, rrb := [], win := [], cyc := 0, ins := 0, ffc := 0, smc := 0, nkc := 0, flc := 0,
    fmth := none, dfpc := 0, dnfc := 0xA307, dgmc := 0xF82800, rseq := 0, ready := [], events := [], deque := [], idle := 0,
    handlers := [], holding := [], pending := [], landing := [], tensors := [], l1 := [], rings := [], watches := [],
    gmu := [], gmuBusy := false, halted := false, ages := [], robin := [], stepHold := false, loading := false,
    acts := { groups := 0, transfers := 0, requests := 0, beats := 0 }, pushes := 0, evSpilled := 0, evAt := 0, dqTop := 0, wanted := [],
    owed := [] }

/-- No owner; every command ID is FREE (R163). -/
def Cluster.reset : Cluster :=
  { owner := none, cmd := [], lastCmd := none, idWaits := [], l2 := [], jobs := [], duty := 16, stages := [], cfg := [], gov := [],
    quantum := 0, units := 0 }

/-- Idle (log entry 2). -/
def Engine.reset : Engine :=
  { lowS := [], lowM := [], highS := [], highM := [], job := none, frozen := false, stop := false, cyc := 0 }

/-- A context that owns nothing. -/
def Context.reset : Context := { clusters := [], header := 0, ranges := [], abort := none, loader := none }

/-- Not enabled (log entry 2). -/
def HostQ.reset : HostQ :=
  { w0 := 0, w1 := 0, w2 := 0, tail := 0, head := 0, cqHead := 0, cqTail := 0, heldRecs := [] }

/-- Nothing sent. -/
def Link.reset : Link := { window := [], next := 0, expect := 0, naks := [], skips := [], copies := [], fails := [], retired := false }

/-- R161: the table as Safelight's signed image has it; in PS4 and PS5 the clocks are those of PS2 and PS3. -/
def psTableReset : List PsRow :=
  let row := fun (f m e vf vm ve env : Nat) (stby : Bool) =>
    ({ clockF := f, clockM := m, clockE := e, voltF := vf, voltM := vm, voltE := ve, env := env, stby := stby } : PsRow)
  [row 3600 2700 1800 750 620 500 1000 false, row 3200 2400 1600 700 580 470 760 false, row 2700 2000 1400 640 530 450 540 false,
   row 2000 1600 1200 560 480 420 350 false, row 2700 2000 1400 640 530 450 330 false, row 2000 1600 1200 560 480 420 180 false,
   row 0 0 0 0 0 0 120 false, row 0 0 0 0 0 0 15 true]

/-- The module right after reset, before firmware runs: mode 0 (R406), no slot holds a context, every register at the
value of R55, R52, R79, R80, R87, R92, R140, R146, R150, R161; what the spec gives no reset value for is at the value of
log entries 2 to 4. -/
def State.reset : State :=
  { mem := [], valid := [], poison := [], retired := [], narrowing := [], rowMap := [], failOk := [], floors := [], cores := [],
    clusters := [], engines := [], contexts := [], coreCtx := [], teams := [], launches := [], parked := [], inflight := [], gathers := [], returns := [],
    packets := [], results := [], bcts := [], routes := [], routesUp := false, marks := [], wakes := [], tsen := [],
    tprd := [], icl := [], pceil := 1000, pmeas := 0, alth := 1000, hyst := 30, alst := 0, tlogp := 0, usec := 0,
    heldAlerts := [], mode := 0, modnum := 0, psCur := 0, psReq := none, psBusy := false, psTarget := 0, psDecl := 0, psDone := [],
    psPark4 := 0xF0, psPark5 := 0xFC, psTable := psTableReset, islandPs := [], cycles := [],
    phases := [], freshDuty := [], clampOn := false, excess := 0, aboveCeil := false, backstop := [], dieParked := [], dieClosed := [], savedFloor := [], queues := [],
    lastQ := 0, faults := { base := 0, size := 0, prod := 0, cons := 0, res := 0, seq := 1, heldRecs := [] },
    attest := [], recov := [], fwImage := [], reply := .none, podArrived := [], checkpoint := none, links := [],
    cur := { core := 0, slot := 0, pc := 0, len := 0, mod := none }, agenda := [], beat := 0,
    nextId := 1 }

end Sys2Proof.Machine
end

