-- ==== Sys2Proof/Machine/Topo.lean ====
section
/-! DEFINITION. The hierarchy of R3 to R7: core IDs, quads, clusters, dies, links, islands, and the scope
instances of R43 and R222. MC0 is 0x8000, MC1 0x8001 and the translation service core of cluster n 0x9000 + n:
names of the model's own, since the spec gives these cores no 15-bit ID (log entry 8). -/

namespace Sys2Proof.Machine

/-- R3: a module core ID. -/
def coreId (d x y : Nat) : Nat := d * 4096 + x * 64 + y

/-- Die of a core ID. -/
def coreDie (c : Nat) : Nat := c / 4096 % 8
/-- Column of a core ID. -/
def coreX (c : Nat) : Nat := c / 64 % 64
/-- Row of a core ID. -/
def coreY (c : Nat) : Nat := c % 64

/-- A compute core exists (R3, R4). -/
def isCompute (c : Nat) : Bool := decide (c < 32768) && decide (c % 64 < 48)

/-- The first management core. -/
def mc0 : Nat := 0x8000
/-- The second management core. -/
def mc1 : Nat := 0x8001
/-- A management core (R426). -/
def isMc (c : Nat) : Bool := c == mc0 || c == mc1

/-- The translation service core of a cluster (R5). -/
def tscOf (n : Nat) : Nat := 0x9000 + n
/-- A translation service core. -/
def isTsc (c : Nat) : Bool := decide (0x9000 ≤ c) && decide (c < 0x9000 + 512)

/-- A core that has slots. -/
def isCore (c : Nat) : Bool := isCompute c || isMc c || isTsc c

/-- R3: the number of core (d,x,y)'s cluster, d·64 + cy·8 + cx. -/
def clusterOf (c : Nat) : Nat :=
  if isTsc c then c - 0x9000 else coreDie c * 64 + coreY c / 6 * 8 + coreX c / 8

/-- R4: a core's cluster order. -/
def orderOf (c : Nat) : Nat := coreY c % 6 * 8 + coreX c % 8

/-- The core of a cluster at a cluster order. -/
def coreAt (n ord : Nat) : Nat := coreId (n / 64) (n % 8 * 8 + ord % 8) (n / 8 % 8 * 6 + ord / 8)

/-- The 48 cores of a cluster in cluster order. -/
def clusterCores (n : Nat) : List Nat := (List.range 48).map (coreAt n)

/-- R4: the quad of a core, as a number. -/
def quadOf (c : Nat) : Nat := coreDie c * 768 + coreX c / 2 * 24 + coreY c / 2

/-- R6: the band class of a column. -/
def bandOf (x : Nat) : Nat := if x < 16 then 0 else if x < 40 then 1 else 2

/-- R6: the island of a compute core. -/
def islandOf (c : Nat) : Nat := coreDie c * 3 + bandOf (coreX c)

/-- R7: the island of an engine: that of the slower band of its two columns. -/
def engineIsland (e : Nat) : Nat :=
  coreDie (e / 2) * 3 + max (bandOf (coreX (e / 2))) (bandOf (if e % 2 = 0 then coreX (e / 2) + 1 else coreX (e / 2)))

/-- The clock of a core: that of its island, for a translation service core that of its cluster's; number 24 for a management core
(log entry 85). -/
def clockOf (c : Nat) : Nat := if isCompute c then islandOf c else if isTsc c then islandOf (coreAt (clusterOf c) 0) else 24

/-- The cores of island `i`, die after die in order of ID. -/
def islandCores (i : Nat) : List Nat :=
  let lo := if i % 3 = 0 then 0 else if i % 3 = 1 then 16 else 40
  let n := if i % 3 = 0 then 16 else 24
  (List.range (n * 48)).map (fun k => coreId (i / 3) (lo + k / 48) (k % 48))

/-- The clusters of a die. -/
def dieClusters (d : Nat) : List Nat := natRange (d * 64) 64

/-- R222: where a location's home lies. -/
inductive Home | core (c : Nat) | die (d : Nat) | module (m : Nat) | host | io
  deriving DecidableEq, Repr

/-- R43: whether the instance of a scope around core `c` contains core `h`. A management core shares the scopes below
`.mod` with no other core; a translation service core lies in its cluster and die (log entry 8). -/
def scopeHasCore (sc : Scope) (c h : Nat) : Bool :=
  match sc with
  | .core => c == h
  | .quad => c == h || (isCompute c && isCompute h && quadOf c == quadOf h)
  | .clus => c == h || (!isMc c && !isMc h && clusterOf c == clusterOf h)
  | .die => c == h || (!isMc c && !isMc h && clusterOf c / 64 == clusterOf h / 64)
  | _ => true

/-- R222: whether the instance of a scope around core `c` contains a home. -/
def scopeHas (sc : Scope) (c : Nat) (h : Home) : Bool :=
  match h with
  | .core k => scopeHasCore sc c k
  | .die d =>
    match sc with
    | .core | .quad | .clus => false
    | .die => !isMc c && clusterOf c / 64 == d
    | _ => true
  | .module _ =>
    match sc with
    | .pod | .sys => true
    | _ => false
  | .host =>
    match sc with
    | .sys => true
    | _ => false
  | .io =>
    match sc with
    | .mod | .pod | .sys => true
    | _ => false

/-- R222: the narrowest scope whose instance around `c` contains the home. -/
def needScope (c : Nat) (h : Home) : Scope :=
  if scopeHas .core c h then .core else if scopeHas .quad c h then .quad else if scopeHas .clus c h then .clus
  else if scopeHas .die c h then .die else if scopeHas .mod c h then .mod else if scopeHas .pod c h then .pod else .sys

/-- Whether a scope is at least as wide as another. -/
def scopeLe (a b : Scope) : Bool := decide (scopeCode a ≤ scopeCode b)

/-- R178: the neighbour of a core in a direction, within its die. -/
def neighbour (c : Nat) (l : Dir) : Option Nat :=
  let d := coreDie c
  let x := coreX c
  let y := coreY c
  match l with
  | .n => if y = 0 then none else some (coreId d x (y - 1))
  | .s => if y + 1 < 48 then some (coreId d x (y + 1)) else none
  | .w => if x = 0 then none else some (coreId d (x - 1) y)
  | .e => if x + 1 < 64 then some (coreId d (x + 1) y) else none

/-- Base ticks of a microsecond; every clock makes its frequency in MHz of cycles in them. -/
def ticksPerMicro : Nat := 3600

/-- The link engine of a core's link (R178): twice the low end's core, plus 1 for a vertical engine. -/
def engineOf (c : Nat) (l : Dir) : Option Nat :=
  if isCompute c then
    match l with
    | .e => (neighbour c l).map (fun _ => 2 * c)
    | .s => (neighbour c l).map (fun _ => 2 * c + 1)
    | .w => (neighbour c l).map (fun n => 2 * n)
    | .n => (neighbour c l).map (fun n => 2 * n + 1)
  else none

/-- The low end of an engine: its west or north end. -/
def engineLow (e : Nat) : Nat := e / 2
/-- The high end. -/
def engineHigh (e : Nat) : Nat := if e % 2 = 0 then e / 2 + 64 else e / 2 + 1

/-- An engine exists. -/
def isEngine (e : Nat) : Bool := isCompute (e / 2) && (if e % 2 = 0 then decide (coreX (e / 2) < 63) else decide (coreY (e / 2) < 47))

/-- The core at a direction from a router over the whole module: dies lie 4 × 2, die d at column d mod 4 and row d div 4
(log entry 9). -/
def routerNext (c : Nat) (l : Dir) : Option Nat :=
  match neighbour c l with
  | some n => some n
  | none =>
    let d := coreDie c
    match l with
    | .n => if d / 4 = 0 then none else some (coreId (d - 4) (coreX c) 47)
    | .s => if d / 4 = 1 then none else some (coreId (d + 4) (coreX c) 0)
    | .w => if d % 4 = 0 then none else some (coreId (d - 1) 63 (coreY c))
    | .e => if d % 4 = 3 then none else some (coreId (d + 1) 0 (coreY c))

/-- The die at a direction from a die (log entry 9). -/
def dieNext (d : Nat) (l : Dir) : Option Nat :=
  match l with
  | .n => if d / 4 = 0 then none else some (d - 4)
  | .s => if d / 4 = 1 then none else some (d + 4)
  | .w => if d % 4 = 0 then none else some (d - 1)
  | .e => if d % 4 = 3 then none else some (d + 1)

/-- Column of a core over the whole module. -/
def globalX (c : Nat) : Nat := coreDie c % 4 * 64 + coreX c
/-- Row of a core over the whole module. -/
def globalY (c : Nat) : Nat := coreDie c / 4 * 48 + coreY c

/-- The direction of the first hop toward `dst`, X before Y or Y before X (R150). -/
def hopToward (xFirst : Bool) (c dst : Nat) : Option Dir :=
  let dx : Option Dir := if globalX c < globalX dst then some .e else if globalX dst < globalX c then some .w else none
  let dy : Option Dir := if globalY c < globalY dst then some .s else if globalY dst < globalY c then some .n else none
  if xFirst then (match dx with | some h => some h | none => dy) else (match dy with | some h => some h | none => dx)

/-- R152: the direction a relative turn gives from a heading: 0 straight, 1 left, 2 right. -/
def turned (h : Dir) (t : Nat) : Dir :=
  match t, h with
  | 1, .n => .w | 1, .w => .s | 1, .s => .e | 1, .e => .n
  | 2, .n => .e | 2, .e => .s | 2, .s => .w | 2, .w => .n
  | _, h => h

end Sys2Proof.Machine
end

