-- ==== Sys2Proof/Machine/Mem.lean ====
section
/-! DEFINITION. Memory: one sorted list of cells for every memory of the machine, valid bits, wakes of watched
lines, row maps and capacity (R45, R95, R101 to R104, R134). -/

namespace Sys2Proof.Machine

/-- What a byte that nothing has written reads as (log entry 1). -/
def unlistedByte : Byte := 0

/-- The cell key of a place. -/
def Loc.key (l : Loc) : Nat :=
  match l.sp with
  | .hbm => l.off
  | .host => 2 ^ 72 + l.off
  | .fw => 2 * 2 ^ 72 + l.off
  | .remote m => 3 * 2 ^ 72 + m * 2 ^ 40 + l.off
  | .buf c b => 4 * 2 ^ 72 + (c * 4 + b) * 2 ^ 20 + l.off
  | .inbox c => 5 * 2 ^ 72 + c * 2 ^ 14 + l.off
  | .ctl => 6 * 2 ^ 72 + l.off

/-- The place `n` bytes on. -/
def Loc.plus (l : Loc) (n : Nat) : Loc := { l with off := l.off + n }

/-- Whether a place lies in a buffer. -/
def Loc.isBuf (l : Loc) : Bool :=
  match l.sp with
  | .buf _ _ => true
  | _ => false

/-- The byte of a cell list at a key. -/
def memGet (m : List Host.Cell) (k : Nat) : Byte := tblGet unlistedByte m k

/-- Removal of a key from a rising list. -/
def cellDel : List Host.Cell → Nat → List Host.Cell
  | [], _ => []
  | (j, x) :: t, k => if k = j then t else (j, x) :: cellDel t k

/-- A byte written: writing what an unlisted cell reads as removes the entry. -/
def memPut (m : List Host.Cell) (k : Nat) (b : Byte) : List Host.Cell :=
  if b = unlistedByte then cellDel m k else tblSet m k b

/-- The canonical form: keys strictly rising and no entry equal to what an unlisted cell reads as. -/
def memWf (m : List Host.Cell) : Bool := tblRising 0 m && m.all (fun e => decide (e.2 ≠ unlistedByte))

/-- `bs` written from key `k` up. -/
def memPutAll : List Host.Cell → Nat → List Byte → List Host.Cell
  | m, _, [] => m
  | m, k, b :: bs => memPutAll (memPut m k b) (k + 1) bs

/-- `n` bytes from key `k` up. -/
def memGetAll (m : List Host.Cell) : Nat → Nat → List Byte
  | _, 0 => []
  | k, n + 1 => memGet m k :: memGetAll m (k + 1) n

/-- The byte at a place. -/
def State.byteAt (s : State) (l : Loc) : Byte := memGet s.mem l.key

/-- `n` bytes from a place up. -/
def State.read (s : State) (l : Loc) (n : Nat) : List Byte := memGetAll s.mem l.key n

/-- `n` bytes from a place up as a number (R45). -/
def State.readNat (s : State) (l : Loc) (n : Nat) : Nat := ofBytes (s.read l n)

/-- A sorted set of numbers with one more. -/
def setIns : List Nat → Nat → List Nat
  | [], k => [k]
  | j :: t, k => if k = j then j :: t else if k < j then k :: j :: t else j :: setIns t k

/-- The 4-byte words that a range of a buffer touches (R101). -/
def wordsTouched (l : Loc) (n : Nat) : List Nat :=
  if n = 0 then [] else natRange (l.key / 4) ((l.key + n - 1) / 4 - l.key / 4 + 1)

/-- R101: any write to a buffer word sets its valid bit. -/
def setValid (s : State) (l : Loc) (n : Nat) : List Nat :=
  if l.isBuf then (wordsTouched l n).foldl setIns s.valid else s.valid

/-- R101: whether every word of a buffer range has been written; other memories have no valid bits. -/
def State.allValid (s : State) (l : Loc) (n : Nat) : Bool :=
  if l.isBuf then (wordsTouched l n).all (fun w => s.valid.contains w) else true

/-- The 64-byte lines that a range touches (R134). -/
def linesTouched (l : Loc) (n : Nat) : List Nat :=
  if n = 0 then [] else natRange (l.key / 64) ((l.key + n - 1) / 64 - l.key / 64 + 1)

/-- R134: a write to a line with a watch mark sends one wake to each watching core. -/
def wakesOf (s : State) (l : Loc) (n : Nat) : List (Nat × Nat) :=
  s.marks.filter (fun e => (linesTouched l n).contains e.1 && !s.wakes.contains e)

/-- A write that is no write in the sense of R134: the home's own update of a barrier object's WSUM (R172). -/
def State.writeQuiet (s : State) (l : Loc) (bs : List Byte) : State :=
  { s with mem := memPutAll s.mem l.key bs, valid := setValid s l bs.length }

/-- R101: the first byte of a range of a buffer that lies in an unwritten word, counted from the range's first; 0 where all are written. -/
def State.firstUnwritten (s : State) (l : Loc) (n : Nat) : Nat :=
  ((List.range n).find? (fun i => !s.valid.contains ((l.key + i) / 4))).getD 0

/-- Whether a range of bytes meets the 8-byte word of a number. -/
def wordMeets (l : Loc) (n w : Nat) : Bool := decide (8 * w < l.key + n) && decide (l.key < 8 * w + 8)

/-- Whether the 8-byte word of a number lies within a range of bytes. -/
def wordWithin (l : Loc) (n w : Nat) : Bool := decide (l.key ≤ 8 * w) && decide (8 * w + 8 ≤ l.key + n)

/-- R98: the words with a double-bit error that an access meets: those it reads any byte of, or writes a part of. A store of a whole
word forms its check bits anew (log entry 83). -/
def State.errorsIn (s : State) (l : Loc) (n : Nat) (store : Bool) : List Nat :=
  s.poison.filter (fun w => wordMeets l n w && !(store && wordWithin l n w))

/-- Whether an access meets such a word in a buffer or in HBM (R98, R109). -/
def State.meetsError (s : State) (l : Loc) (n : Nat) (store : Bool) : Bool :=
  match l.sp with
  | .hbm => !(s.errorsIn l n store).isEmpty
  | .buf _ _ => !(s.errorsIn l n store).isEmpty
  | _ => false

/-- R98, R109: a double-bit error arises in a word of a buffer or of HBM. -/
def State.upset (s : State) (w : Nat) : State :=
  if 8 * w < 2 ^ 40 ∨ (4 * 2 ^ 72 ≤ 8 * w ∧ 8 * w < 5 * 2 ^ 72) then { s with poison := setIns s.poison w } else s

/-- Every write: bytes stored, valid bits set, the check bits of whole words formed anew, wakes sent. -/
def State.write (s : State) (l : Loc) (bs : List Byte) : State :=
  { s with mem := memPutAll s.mem l.key bs, valid := setValid s l bs.length, wakes := s.wakes ++ wakesOf s l bs.length,
           poison := s.poison.filter (fun w => !wordWithin l bs.length w) }

/-- `n` bytes of a number written (R45). -/
def State.writeNat (s : State) (l : Loc) (n x : Nat) : State := s.write l (bytesOf n x)

/-- R298: the valid bits of a range cleared. -/
def State.clearValid (s : State) (l : Loc) (n : Nat) : State :=
  { s with valid := s.valid.filter (fun w => !(wordsTouched l n).contains w) }

/-- Bytes of a place set to what reset leaves and their valid bits cleared (R107, R375, R394). -/
def State.zero (s : State) (l : Loc) (n : Nat) : State :=
  { s with mem := memPutAll s.mem l.key (List.replicate n unlistedByte),
           valid := s.valid.filter (fun w => !(wordsTouched l n).contains w),
           poison := s.poison.filter (fun w => !wordWithin l n w) }

/-- R95: logical rows of a buffer. -/
def bufRows (b : Nat) : Nat := if b = 1 then 1536 else if b = 2 then 768 else 256
/-- R95: physical rows of a buffer. -/
def bufPhys (b : Nat) : Nat := if b = 1 then 1600 else if b = 2 then 800 else 272
/-- Bytes of a buffer. -/
def bufBytes (b : Nat) : Nat := bufRows b * 64

/-- Key of a logical or physical row of a buffer in the row tables. -/
def rowKey (c b r : Nat) : Nat := (c * 4 + b) * 2048 + r

/-- R103: OK0 to OK3 of a physical row (log entry 3 for a row that the table does not list). -/
def State.okBits (s : State) (c b p : Nat) : Nat := tblGet 15 s.failOk (rowKey c b p)

/-- R103: the rows of the fail table of a buffer whose OK0 is 0: never mapped. -/
def State.deadRows (s : State) (c b : Nat) : List Nat :=
  (s.failOk.filter (fun e => decide (rowKey c b 0 ≤ e.1) && decide (e.1 < rowKey c b (bufPhys b)) && !bitAt e.2 0)).map (fun e => e.1 - rowKey c b 0)

/-- The number that a row of rank `r` has among those that the rising list leaves out. -/
def skipRows : List Nat → Nat → Nat
  | [], r => r
  | d :: t, r => skipRows t (if d ≤ r then r + 1 else r)

/-- R103: the physical row plus one, 0 for unmapped, that a logical row starts with: the logical rows take the physical rows whose OK0
is 1, in order (log entry 3). -/
def State.firstRow (s : State) (c b r : Nat) : Nat :=
  let p := skipRows (s.deadRows c b) r
  if p < bufPhys b then p + 1 else 0

/-- R102: the physical row of a logical row; the table holds the row plus one, 0 for unmapped, and a row it does not list
stands where it started. -/
def State.rowOf (s : State) (c b r : Nat) : Option Nat :=
  match tblGet (s.firstRow c b r) s.rowMap (rowKey c b r) with
  | 0 => none
  | p + 1 => some p

/-- The map of one row set. -/
def State.setRow (s : State) (c b r : Nat) (p : Option Nat) : State :=
  { s with rowMap := tblSet s.rowMap (rowKey c b r) (match p with | none => 0 | some q => q + 1) }

/-- R104: a physical row is good at point `k` when OK0 and OKk are 1. -/
def State.rowGood (s : State) (c b p k : Nat) : Bool := bitAt (s.okBits c b p) 0 && bitAt (s.okBits c b p) k

/-- Whether the row-table entry `e` belongs to a physical row of a buffer that is not good at a point. -/
def State.badEntry (s : State) (c b k : Nat) (e : Nat × Nat) : Bool :=
  decide (rowKey c b 0 ≤ e.1) && decide (e.1 < rowKey c b (bufPhys b)) && !s.rowGood c b (e.1 - rowKey c b 0) k

/-- R104: U at a point: min(L, good physical rows); the rows that the table does not list are good. -/
def State.usable (s : State) (c b k : Nat) : Nat :=
  min (bufRows b) (bufPhys b - (s.failOk.filter (s.badEntry c b k)).length)

/-- R103: the OK bit of a performance state: PS4 uses PS2's, PS5 those of PS3. -/
def okPoint (ps : Nat) : Nat := if ps < 4 then ps else if ps = 4 then 2 else 3

/-- The floors of a core (R155); a management core's are the whole buffer (R426). -/
def State.floor (s : State) (c b : Nat) : Nat :=
  if isMc c then bufRows b
  else
    match tblGet (0, 0, 0) s.floors c with
    | (w, a, k) => if b = 1 then w else if b = 2 then a else k

end Sys2Proof.Machine
end

