-- ==== Sys2Proof/Machine/Units.lean ====
section
/-! DEFINITION. The named operations over cores, slots, clusters, engines, contexts and host queues, and who owns a core (R35, R36). -/

namespace Sys2Proof.Machine

/-- R175, R13: on an island, the least of a budget share, the island's ceiling, the clamp's 8 and the backstop's 2. -/
def State.islandDuty (s : State) (i share : Nat) : Nat :=
  let d := min share (tblGet 16 s.icl i)
  let d1 := if s.clampOn then min d 8 else d
  if tblGet false s.backstop (i / 3) then min d1 2 else d1

/-- The same for a core; one that lies in no island has no limit. -/
def State.leastDuty (s : State) (c share : Nat) : Nat := if isCompute c then s.islandDuty (islandOf c) share else 16

/-- A core that nothing has touched yet: CYC has counted the cycles of its clock (R176), and FDR is what its island's present window began
with (R175). -/
def State.freshCore (s : State) (c : Nat) : Core :=
  { Core.reset with cyc := wordOf (tblGet 0 s.cycles (clockOf c)), fdr := if isCompute c then tblGet 16 s.freshDuty (islandOf c) else 16 }
/-- Core `c`. -/
def State.core (s : State) (c : Nat) : Core := tblGet (s.freshCore c) s.cores c
/-- Core `c` set. -/
def State.setCore (s : State) (c : Nat) (k : Core) : State := { s with cores := tblSet s.cores c k }
/-- Core `c` changed. -/
def State.modCore (s : State) (c : Nat) (f : Core → Core) : State := s.setCore c (f (s.core c))
/-- Slot `n` of a core. -/
def Core.slot (k : Core) (n : Nat) : Slot := tblGet Slot.reset k.slots n
/-- Slot `n` set. -/
def Core.setSlot (k : Core) (n : Nat) (x : Slot) : Core := { k with slots := tblSet k.slots n x }
/-- Slot `n` of core `c`. -/
def State.slot (s : State) (c n : Nat) : Slot := (s.core c).slot n
/-- Slot changed. -/
def State.modSlot (s : State) (c n : Nat) (f : Slot → Slot) : State :=
  s.modCore c (fun k => k.setSlot n (f (k.slot n)))
/-- The work of a slot changed. -/
def State.modWork (s : State) (c n : Nat) (f : Work → Work) : State := s.modSlot c n (fun x => { x with w := f x.w })
/-- Cluster `n`. -/
def State.cluster (s : State) (n : Nat) : Cluster := tblGet Cluster.reset s.clusters n
/-- Cluster changed. -/
def State.modCluster (s : State) (n : Nat) (f : Cluster → Cluster) : State :=
  { s with clusters := tblSet s.clusters n (f (s.cluster n)) }
/-- Engine `e`. -/
def State.engine (s : State) (e : Nat) : Engine := tblGet Engine.reset s.engines e
/-- Engine set. -/
def State.setEngine (s : State) (e : Nat) (x : Engine) : State := { s with engines := tblSet s.engines e x }
/-- Context `x` (512 is the firmware context). -/
def State.context (s : State) (x : Nat) : Context := tblGet Context.reset s.contexts x
/-- Host queue `q`. -/
def State.queue (s : State) (q : Nat) : HostQ := tblGet HostQ.reset s.queues q
/-- Host queue set. -/
def State.setQueue (s : State) (q : Nat) (x : HostQ) : State := { s with queues := tblSet s.queues q x }

/-- The index of the firmware context's permission table (R36). -/
def fwCtx : Nat := 512

/-- The context that owns a core: firmware on MC0, MC1 and the translation service cores (R36), else the owner of its
cluster (R35), or what `ctxl` has made of the core (R372). -/
def State.ownerOf (s : State) (c : Nat) : Option (Bool × Nat) :=
  if isMc c || isTsc c then some (true, 0)
  else (tblGet (s.cluster (clusterOf c)).owner s.coreCtx c).map (fun x => (false, x))

/-- Whether context `(fw, ctx)` owns the cluster of core `c`. -/
def State.ownsCore (s : State) (fw : Bool) (ctx c : Nat) : Bool :=
  !fw && isCompute c && (s.cluster (clusterOf c)).owner == some ctx

end Sys2Proof.Machine
end

