-- ==== Sys2Proof/Machine/Translate.lean ====
section
/-! DEFINITION. Usable rows, and the translation of an address (R90, R99, R104, R110 to R114, R432). -/

namespace Sys2Proof.Machine

/-! ### Capacity -/

/-- R90, R104: the usable rows of a buffer, as SPCAP shows them. A core that lies in no island has them all. -/
def State.spcap (s : State) (c b : Nat) : Nat :=
  if isCompute c then s.usable c b (okPoint (tblGet 0 s.islandPs (islandOf c))) else bufRows b

/-! ### Translation (R99, R110 to R114, R432) -/

/-- A translated address: its place, kind (0 RC, 1 SO, 2 UO), whether it is the issuing core's own buffer, and what the
page allows. -/
structure Page where
  loc : Loc
  ord : Nat
  own : Bool
  r   : Bool
  w   : Bool
  x   : Bool
  deriving DecidableEq, Repr

/-- What translating finds: a page, no entry, or a hole or lost row of the issuer's own buffers. -/
inductive Tr | page (p : Page) | miss | hole
  deriving DecidableEq, Repr

/-- R110: bits 63:57 equal bit 56. -/
def canonical (va : Word) : Bool := bits va 63 56 == 0 || bits va 63 56 == 255

/-- R99: whether an address lies in the self region and its holes. -/
def inSelf (va : Word) : Bool := decide (0xFFFFFFFFFFF00000 ≤ va.toNat)

/-- R99: the buffer and offset of a self-region address. -/
def selfPlace (va : Word) : Option (Nat × Nat) :=
  let o := va.toNat % 1048576
  if o < 0x18000 then some (1, o)
  else if 0x20000 ≤ o ∧ o < 0x2C000 then some (2, o - 0x20000)
  else if 0x30000 ≤ o ∧ o < 0x34000 then some (3, o - 0x30000)
  else none

/-- log2 of a page size (R111). -/
def pageBits (e : TlbEntry) : Nat :=
  match bits e.w0 13 12 with
  | 0 => 14
  | 1 => 21
  | _ => 30

/-- R111: whether an entry matches an access. -/
def TlbEntry.matchesAccess (e : TlbEntry) (fw : Bool) (ctx : Nat) (va : Word) : Bool :=
  let k := pageBits e
  wbit e.w0 10 && fld va.toNat k (57 - k) == fld e.w0.toNat k (57 - k) &&
  (if wbit e.w0 9 then fw else !fw && (wbit e.w0 11 || bits e.w0 8 0 == ctx))

/-- R114: the L1 of the core, then the L2 of its cluster; a management core has no L2 (log entry 20). -/
def State.tlbFind (s : State) (c : Nat) (fw : Bool) (ctx : Nat) (va : Word) : Option TlbEntry :=
  match (s.core c).l1.find? (fun e => e.matchesAccess fw ctx va) with
  | some e => some e
  | none => if isMc c then none else (s.cluster (clusterOf c)).l2.find? (fun e => e.matchesAccess fw ctx va)

/-- The place that a buffer page names, as a page; a core's own buffer below capacity only (R100). -/
def State.bufPage (s : State) (c h b off ord : Nat) (r w : Bool) : Tr :=
  if h = c ∧ s.spcap c b ≤ off / 64 then .hole
  else .page { loc := { sp := .buf h b, off := off }, ord := ord, own := h == c, r := r, w := w, x := false }

/-- R112: the place that an entry gives an address. -/
def State.tlbPage (s : State) (c : Nat) (e : TlbEntry) (va : Word) : Tr :=
  let k := pageBits e
  let pa := bits e.w1 51 14 * 2 ^ 14 / 2 ^ k * 2 ^ k + va.toNat % 2 ^ k
  let ord := bits e.w1 60 59
  let r := wbit e.w1 58
  let w := wbit e.w1 57
  let x := wbit e.w1 56
  let h := bits e.w1 31 17
  let off := bits e.w1 16 14 * 16384 + va.toNat % 16384
  let mk := fun (sp : Space) (o : Nat) => Tr.page { loc := { sp := sp, off := o }, ord := ord, own := false, r := r, w := w, x := x }
  match bits e.w1 63 61 with
  | 0 => mk .hbm pa
  | 1 => mk .host pa
  | 2 => if bits e.w1 13 0 = s.modnum then mk .hbm pa else mk (.remote (bits e.w1 13 0)) pa
  | 3 => s.bufPage c h 1 off ord r w
  | 4 => s.bufPage c h 2 off ord r w
  | 5 => s.bufPage c h 3 off ord r w
  | 6 => mk (.inbox h) (va.toNat % 16384)
  | _ => mk .ctl pa

/-- R432: the firmware context's identity window. -/
def inFwWindow (fw : Bool) (va : Word) : Bool := fw && decide (va.toNat < 2 ^ 28)

/-- R432: Safelight's part of firmware memory. -/
def inSafelight (va : Word) : Bool := decide (0x0F000000 ≤ va.toNat) && decide (va.toNat < 0x10000000)

/-- Translation of one address for a slot of core `c`. Safelight's part is closed to every core but MC0: such a page allows
nothing. -/
def State.translate (s : State) (c : Nat) (fw : Bool) (ctx : Nat) (va : Word) : Tr :=
  if inSelf va then
    match selfPlace va with
    | some (b, off) => s.bufPage c c b off 0 true true
    | none => .hole
  else if inFwWindow fw va then
    let ok := !inSafelight va || c == mc0
    .page { loc := { sp := .fw, off := va.toNat }, ord := 0, own := false, r := ok, w := ok, x := ok }
  else
    match s.tlbFind c fw ctx va with
    | some e => s.tlbPage c e va
    | none => .miss

/-- The address in a register that holds bits 56:12 of one: bits 63:57 equal bit 56 (R87, R110). -/
def baseVa (w : Word) : Word := sextWord 57 (w.toNat / 4096 * 4096)

end Sys2Proof.Machine
end

