-- ==== Sys2Proof/Machine/Ops.lean ====
section
/-! DEFINITION. Registers; completing and stalling a group; completion and fault records; the context abort; uncorrectable errors; the
queues of a core with their places in memory; taking a trap, an event, a deferred trap, and the return from a handler; parking, waking
and ending work. -/

namespace Sys2Proof.Machine

/-! ### Registers -/

/-- R69: `g0` reads as zero. -/
def Regs.getG (x : Regs) (r : Nat) : Word := if r = 0 then 0 else tblGet 0 x.g r
/-- A `g` register written full; a write to `g0` is discarded. -/
def Regs.setG (x : Regs) (r : Nat) (v : Word) : Regs :=
  if r = 0 then x else { x with g := tblSet x.g r v, ge := tblSet x.ge r false }
/-- A `g` register marked empty (R71); `g0` is always full. -/
def Regs.markG (x : Regs) (r : Nat) : Regs := if r = 0 then x else { x with ge := tblSet x.ge r true }
/-- Whether a `g` register is empty. -/
def Regs.emptyG (x : Regs) (r : Nat) : Bool := if r = 0 then false else tblGet false x.ge r
/-- A `v` register. -/
def Regs.getV (x : Regs) (r : Nat) : Vec := tblGet 0 x.v r
/-- A `v` register written full. -/
def Regs.setV (x : Regs) (r : Nat) (v : Vec) : Regs := { x with v := tblSet x.v r v, ve := tblSet x.ve r false }
/-- A `v` register marked empty. -/
def Regs.markV (x : Regs) (r : Nat) : Regs := { x with ve := tblSet x.ve r true }
/-- Whether a `v` register is empty. -/
def Regs.emptyV (x : Regs) (r : Nat) : Bool := tblGet false x.ve r
/-- R69: `p0` reads as true. -/
def Regs.getP (x : Regs) (i : Nat) : Bool := if i = 0 then true else x.p.getLsbD i
/-- A predicate written; a write to `p0` is discarded. -/
def Regs.setP (x : Regs) (i : Nat) (b : Bool) : Regs :=
  if i = 0 then x
  else { x with p := BitVec.ofNat 8 (x.p.toNat - b2n (bitAt x.p.toNat i) * 2 ^ i + b2n b * 2 ^ i) }
/-- Whether no register of the work is empty (R74). -/
def Regs.noneEmpty (x : Regs) : Bool := x.ge.all (fun e => !e.2) && x.ve.all (fun e => !e.2)

/-- The slot that is issuing. -/
def State.curSlot (s : State) : Slot := s.slot s.cur.core s.cur.slot
/-- The issuing slot's work. -/
def State.me (s : State) : Work := s.curSlot.w
/-- A `g` register of the issuing slot. -/
def State.g (s : State) (r : GReg) : Word := s.me.regs.getG r.toNat
/-- A `v` register of the issuing slot. -/
def State.vr (s : State) (r : VReg) : Vec := s.me.regs.getV r.toNat
/-- A predicate of the issuing slot. -/
def State.pr (s : State) (r : PReg) : Bool := s.me.regs.getP r.toNat
/-- The issuing slot's registers changed. -/
def State.modRegs (s : State) (f : Regs → Regs) : State :=
  s.modWork s.cur.core s.cur.slot (fun w => { w with regs := f w.regs })
/-- The issuing slot's control registers changed. -/
def State.modCtl (s : State) (f : Ctl → Ctl) : State :=
  s.modWork s.cur.core s.cur.slot (fun w => { w with ctl := f w.ctl })
/-- The issuing slot's context: firmware or not, and its number. -/
def State.myCtx (s : State) : Bool × Nat := (s.me.ctl.fw, s.me.ctl.ctx)
/-- The issuing core. -/
def State.myCore (s : State) : Core := s.core s.cur.core

/-! ### Completing and stalling -/

/-- The group completes and its slot goes on at `pc`; INS counts it (R176). -/
def State.retireTo (s : State) (pc : Word) : State :=
  s.modCore s.cur.core (fun k =>
    { k.setSlot s.cur.slot { k.slot s.cur.slot with w := { (k.slot s.cur.slot).w with pc := pc }, stall := none, cap := none } with
      ins := k.ins + 1 })

/-- The address after the group (R248). -/
def State.nextPc (s : State) : Word := s.cur.pc + wordOf (4 * s.cur.len)

/-- The group completes and its slot goes on behind it. -/
def State.retire (s : State) : State := s.retireTo s.nextPc

/-- The slot stalls at its group (R2); the cycle the stall began is kept while its reason stays. LEN is that of the group,
for a trap that it may take while it waits; one that waits for a register captures FPC and NFC, and keeps what it has captured while
it waits for something else (R58, R347). -/
def State.stallFor (s : State) (y : Why) : State :=
  s.modSlot s.cur.core s.cur.slot (fun x =>
    { x with len := s.cur.len, cap := if y = .empty then some (x.cap.getD (x.w.ctl.fpc, x.w.ctl.nfc)) else x.cap,
             stall := match x.stall with
                      | some (y', t) => if y' = y then some (y', t) else some (y, (s.core s.cur.core).cyc.toNat)
                      | none => some (y, (s.core s.cur.core).cyc.toNat) })

/-- Cycles that the issuing slot has stalled for a reason. -/
def State.stalledFor (s : State) (y : Why) : Nat :=
  match s.curSlot.stall with
  | some (y', t) => if y' = y then (s.myCore.cyc.toNat + 2 ^ 64 - t) % 2 ^ 64 else 0
  | none => 0

/-- `gd` written and the group completed: the end of every instruction with one `g` result. -/
def State.retireG (s : State) (d : GReg) (v : Word) : State := (s.modRegs (·.setG d.toNat v)).retire
/-- `vd` written and the group completed. -/
def State.retireV (s : State) (d : VReg) (v : Vec) : State := (s.modRegs (·.setV d.toNat v)).retire
/-- A predicate written and the group completed. -/
def State.retireP (s : State) (d : PReg) (b : Bool) : State := (s.modRegs (·.setP d.toNat b)).retire

/-- A fresh identity. -/
def State.bump (s : State) : State := { s with nextId := s.nextId + 1 }

/-! ### Completion and fault records -/

/-- A completion record written or, while its queue is full, held (R137, R400). Indexes count records without end;
a record's place is its index modulo the queue's size (log entry 10). -/
def State.postCompletion (s : State) (cq : Nat) (r : Words4) : State :=
  let q := s.queue cq
  let size := 2 ^ bits q.w2 12 8
  if q.cqTail - q.cqHead < size && q.heldRecs.isEmpty then
    let phase := if q.cqTail / size % 2 = 0 then 2 ^ 63 else 0
    let at_ : Loc := { sp := .host, off := q.w1.toNat + 32 * (q.cqTail % size) }
    let s1 : State := s.writeNat at_ 32 (r.w0.toNat + phase + r.w1.toNat * 2 ^ 64 + r.w2.toNat * 2 ^ 128 + r.w3.toNat * 2 ^ 192)
    s1.setQueue cq { q with cqTail := q.cqTail + 1 }
  else s.setQueue cq { q with heldRecs := q.heldRecs ++ [r] }

/-- R400: a completion record for a submission of queue `q`, on the queue paired with it (R398). -/
def State.complete (s : State) (q status kind ctx reason : Nat) (tag : Word) (core : Nat) : State :=
  s.postCompletion (bits (s.queue q).w2 21 16)
    { w0 := wordOf (status * 2 ^ 48 + kind * 2 ^ 44 + ctx * 2 ^ 35 + reason), w1 := tag, w2 := wordOf s.usec, w3 := wordOf core }

/-- The fault ring's capacity in records (R135); 0 while its size word is outside 8 to 20. -/
def FaultRing.capacity (r : FaultRing) : Nat :=
  if 8 ≤ r.size.toNat ∧ r.size.toNat ≤ 20 then 2 ^ r.size.toNat else 0

/-- A record written whole before the producer index passes it (R135); FLC counts it for its core (R176). -/
def State.putFault (s : State) (c : Nat) (r : Words4) : State :=
  let f := s.faults
  let at_ : Loc := { sp := .hbm, off := f.base.toNat + 32 * (f.prod % f.capacity) }
  let s1 : State := s.writeNat at_ 32 (r.w0.toNat + r.w1.toNat * 2 ^ 64 + r.w2.toNat * 2 ^ 128 + r.w3.toNat * 2 ^ 192)
  ({ s1 with faults := { f with prod := f.prod + 1 } } : State).modCore c (fun k => { k with flc := k.flc + 1 })

/-- R135: a fault record, written or held while the ring is full. `token` selects its TOKEN: its SEQ (R370), or 0 for a
warning (R101). -/
def State.faultRecord (s : State) (c : Nat) (fw : Bool) (ctx : Nat) (va : Word) (cause kind : Nat) (token : Bool) : State :=
  let f := s.faults
  let tok := if token then f.seq % 2 ^ 32 else 0
  let r : Words4 :=
    { w0 := va,
      w1 := wordOf (cause * 2 ^ 56 + kind * 2 ^ 53 + c % 2 ^ 15 * 2 ^ 38 + (if fw then 0 else ctx) * 2 ^ 29 + b2n fw * 2 ^ 28),
      w2 := wordOf s.usec, w3 := wordOf (tok * 2 ^ 32 + f.seq % 2 ^ 32) }
  let s1 : State := { s with faults := { f with seq := f.seq + 1 } }
  if f.prod - f.cons < f.capacity && f.heldRecs.isEmpty then s1.putFault c r
  else { s1 with faults := { s1.faults with heldRecs := f.heldRecs ++ [(c, r)] } }

/-! ### Ready rings -/

/-- The ready ring of a level. -/
def Core.ring (k : Core) (lvl : Nat) : Ring := tblGet { chip := [], spill := [] } k.ready lvl
/-- The ready ring of a level set. -/
def Core.setRing (k : Core) (lvl : Nat) (r : Ring) : Core := { k with ready := tblSet k.ready lvl r }
/-- RRBn (R87). -/
def Core.rrbOf (k : Core) (lvl : Nat) : Word := tblGet 0 k.rrb lvl
/-- Entries of a level's spill area; 0 while RRBn is 0 (R123). -/
def Core.spillCap (k : Core) (lvl : Nat) : Nat := if k.rrbOf lvl = 0 then 0 else 2 ^ bits (k.rrbOf lvl) 4 0

/-- R123: whether a message arrival is accepted at a level. -/
def Core.acceptsArrival (k : Core) (lvl : Nat) : Bool :=
  let r := k.ring lvl
  if k.rrbOf lvl = 0 then decide (r.chip.length ≤ 11)
  else (r.spill.isEmpty && decide (r.chip.length < 16)) || decide (r.spill.length + 16 < k.spillCap lvl)

/-- R123: whether any push finds room: the ring, the spill area and its reserve are not all full. -/
def Core.hasRoom (k : Core) (lvl : Nat) : Bool :=
  let r := k.ring lvl
  decide (r.chip.length < 16) || decide (r.spill.length < k.spillCap lvl)

/-- R123: an entry at the tail: on chip while nothing has spilled and there is room, else in the spill area. -/
def Core.push (k : Core) (lvl : Nat) (e : Entry) : Core :=
  let r := k.ring lvl
  if r.spill.isEmpty && decide (r.chip.length < 16) then k.setRing lvl { r with chip := r.chip ++ [e] }
  else k.setRing lvl { r with spill := r.spill ++ [e] }

/-- Whether a level's spill area is full, and its on-chip ring is not. -/
def Core.refillFirst (k : Core) (lvl : Nat) : Bool :=
  decide (k.spillCap lvl ≤ (k.ring lvl).spill.length) && !(k.ring lvl).spill.isEmpty && decide ((k.ring lvl).chip.length < 16)

/-! ### The context abort -/

/-- What the abort of its owner leaves of a slot: firmware work stays (R36, R413). -/
def Slot.aborted (fw : Bool) (x : Slot) : Slot :=
  if x.w.ctl.fw = fw then
    { x with busy := false, frozen := false, res := false, stall := none, waiting := [], held := none, cap := none,
             w := { x.w with deferred := [], relMark := none, gmTrap := none, q := [], landed := none, ctl := { x.w.ctl with smr := 0 } } }
  else x

/-- Whether a slot of a core holds work of the other kind than the abort's: of firmware on a user's core. -/
def Core.spared (fw : Bool) (k : Core) (n : Nat) : Bool := (k.slot n).busy && (k.slot n).w.ctl.fw != fw

/-- R413 steps 1 to 4 on one core: issue stops, queues, pending starts and holding queues are flushed. What belongs to firmware work in
a slot stays: its event and its GMU requests. -/
def Core.aborted (fw : Bool) (k : Core) : Core :=
  { k with slots := k.slots.map (fun e => (e.1, e.2.aborted fw)), ready := [], events := k.events.filter (fun e => k.spared fw e.eslot),
           deque := [], pending := [], holding := [], landing := [], rings := [], watches := [],
           gmu := k.gmu.filter (fun q => k.spared fw q.slot),
           gmuBusy := k.gmuBusy && (match k.gmu with | q :: _ => k.spared fw q.slot | [] => false), fmth := none, stgMove := none,
           stgWorks := [], evSpilled := 0, wanted := [], owed := [] }

/-- R36, R413: what the firmware context's abort takes from a core that another context, or none, owns: the firmware work in its slots,
with the events and the GMU requests of those slots. -/
def Core.guestsAborted (k : Core) : Core :=
  let gone := fun (n : Nat) => (k.slot n).busy && (k.slot n).w.ctl.fw
  { k with slots := k.slots.map (fun e => (e.1, e.2.aborted true)), events := k.events.filter (fun e => !gone e.eslot),
           gmu := k.gmu.filter (fun q => !gone q.slot),
           gmuBusy := k.gmuBusy && (match k.gmu with | q :: _ => !gone q.slot | [] => false),
           wanted := k.wanted.filter (fun w => !w.fw) }

/-- R173: a cluster's command ID becomes RETIRED. -/
def State.retireCmd (s : State) (cl id : Nat) : State :=
  s.modCluster cl (fun x => { x with cmd := tblSet x.cmd id 2 })

/-- The halves of an engine, in no particular order. -/
def Engine.halves (x : Engine) : List Half := x.lowS ++ x.lowM ++ x.highS ++ x.highM

/-- The moving halves of a context at an engine: those in its queues and that of its job. -/
def Engine.movers (x : Engine) (ctx : Nat) : List Half :=
  x.halves.filter (fun h => h.ctx == ctx && h.moving) ++ (match x.job with | some j => if j.mov.ctx = ctx then [j.mov] else [] | none => [])

/-- R199: every half and job of a context dropped, those of swapped-out teams too, with no arrival and no event; its command IDs retire
(R173). -/
def State.dropEngines (s : State) (ctx : Nat) : State :=
  let gone := s.engines.flatMap (fun e => e.2.movers ctx) ++ s.teams.flatMap (fun t => t.savedEng.flatMap (fun e => e.2.movers ctx))
  let s1 : State := { s with engines := s.engines.map (fun e =>
    (e.1, { e.2 with lowS := e.2.lowS.filter (fun h => h.ctx != ctx), lowM := e.2.lowM.filter (fun h => h.ctx != ctx),
                     highS := e.2.highS.filter (fun h => h.ctx != ctx), highM := e.2.highM.filter (fun h => h.ctx != ctx),
                     job := match e.2.job with | some j => if j.mov.ctx = ctx then none else some j | none => none })) }
  (gone.filter (fun h => decide (h.cmd < 255))).foldl (fun t h => t.retireCmd (clusterOf h.core) h.cmd) s1

/-- R413 step 5: an ABORTED record for each launch of the context. -/
def State.abortLaunches (s : State) (fw : Bool) (ctx reason core : Nat) : State :=
  let mine := s.launches.filter (fun l => l.fw == fw && l.ctx == ctx)
  let s1 : State := { s with launches := s.launches.filter (fun l => !(l.fw == fw && l.ctx == ctx)) }
  mine.foldl (fun t l =>
    match l.queue with
    | some q => t.complete q 3 0 ctx reason l.tag core
    | none => t) s1

/-! Barriers (R44). -/

/-- The core of a team's thread (R26). -/
def Team.coreOf (t : Team) (thr : Nat) : Nat := t.cores.getD (thr / 2) 0

/-- The grids whose threads take part in a barrier of `launch`: itself, or for `.pod` every grid of its job (R403). -/
def State.gridOf (s : State) (launch : Nat) (sc : Scope) : List Nat :=
  match s.launches.find? (fun l => l.id == launch) with
  | some l => if sc = .pod ∧ l.job ≠ 0 then (s.launches.filter (fun m => m.job == l.job)).map (fun m => m.id) else [launch]
  | none => [launch]

/-- R44: every thread of the grid whose core lies in the instance, and which has not ended, has arrived. A team that has no core yet
takes part in every instance (log entry 86). -/
def State.barReady (s : State) (launch c : Nat) (sc : Scope) : Bool :=
  let grids := s.gridOf launch sc
  s.teams.all (fun t => !grids.contains t.launch || (List.range t.threads).all (fun i =>
    t.ended.contains i || (!t.cores.isEmpty && !scopeHasCore sc c (t.coreOf i)) || tblGet (Scope.sys, false) t.arrived i == (sc, false)))

/-- R403: every module of a pod job has arrived, and no checkpoint holds the barrier (R410). -/
def State.podReady (s : State) (launch : Nat) : Bool :=
  match s.launches.find? (fun l => l.id == launch) with
  | some l =>
    !(match s.checkpoint with | some k => k.job == l.job && l.job != 0 | none => false) &&
    (l.job == 0 || decide (l.nmod ≤ 1 + tblGet 0 s.podArrived l.job))
  | none => true

/-- Completion: every participant's arrival in the instance counts as completed. -/
def State.barRelease (s : State) (launch c : Nat) (sc : Scope) : State :=
  let grids := s.gridOf launch sc
  let s1 : State := if sc = .pod then
      (match s.launches.find? (fun l => l.id == launch) with
       | some l => { s with podArrived := tblSet s.podArrived l.job 0 }
       | none => s)
    else s
  { s1 with teams := s1.teams.map (fun t =>
      if grids.contains t.launch then
        { t with arrived := t.arrived.map (fun e =>
            if e.2 == (sc, false) && scopeHasCore sc c (t.coreOf e.1) then (e.1, (sc, true)) else e) }
      else t) }

/-- Every barrier whose remaining participants have all arrived completes (R44). -/
def State.barSettle (s : State) : State :=
  let waits := s.teams.flatMap (fun t => t.arrived.filterMap (fun e => if e.2.2 then none else some (t.launch, t.coreOf e.1, e.2.1)))
  waits.foldl (fun t w =>
    if t.barReady w.1 w.2.1 w.2.2 && (w.2.2 != .pod || t.podReady w.1) then t.barRelease w.1 w.2.1 w.2.2 else t) s

/-- Whether a value on its way back is for work in a slot of its core that the abort of the owner spares. -/
def State.sparedRet (s : State) (fw : Bool) (r : Ret) : Bool := (s.core r.core).spared fw r.slot && (s.slot r.core r.slot).w.id == r.work

/-- Whether a core belongs to a context. -/
def State.owns (s : State) (fw : Bool) (ctx c : Nat) : Bool := s.ownerOf c == some (fw, ctx)

/-- Whether the abort of a context takes an access of a core: its own, wherever firmware's runs (R36, R413). -/
def State.takesFlight (s : State) (fw : Bool) (ctx : Nat) (f : Flight) : Bool := f.fw == fw && (fw || s.owns fw ctx f.core)

/-- Whether it takes a value on its way back. -/
def State.takesRet (s : State) (fw : Bool) (ctx : Nat) (r : Ret) : Bool :=
  (s.owns fw ctx r.core && !s.sparedRet fw r) || (fw && r.fw)

/-- Whether it takes parked work. -/
def Parked.ofCtx (p : Parked) (fw : Bool) (ctx : Nat) : Bool := p.w.ctl.fw == fw && p.w.ctl.ctx == ctx

/-- R134: one waiter leaves every watch entry of a core; an entry without waiters is freed. -/
def State.unwatch (s : State) (c id : Nat) : State :=
  let k := s.core c
  let ws := k.watches.map (fun w => { w with waiters := w.waiters.filter (fun i => i != id) })
  let gone := (ws.filter (fun w => w.waiters.isEmpty)).map (fun w => w.line)
  ({ s with marks := s.marks.filter (fun m => !(m.2 == c && gone.contains m.1)) } : State).setCore c
    { k with watches := ws.filter (fun w => !w.waiters.isEmpty) }

/-- R120, R195, R392: whether something waits for an engine to stop at a row boundary: a slot in `lkfrz`, a team that leaves with both its
ends, a die that parks. -/
def State.stopWanted (s : State) (e : Nat) : Bool :=
  s.cores.any (fun c => c.2.slots.any (fun x => x.2.busy && (match x.2.stall with | some (.engine i, _) => i == e | _ => false))) ||
  s.teams.any (fun t => t.leaving && t.cores.contains (engineLow e) && t.cores.contains (engineHigh e)) ||
  s.psDone.contains (100 + coreDie (engineLow e))

/-- What asked an engine to stop has gone with a context: one that nothing else asks pulls again (R200). -/
def State.unstop (s : State) : State :=
  { s with engines := s.engines.map (fun e => (e.1, { e.2 with stop := e.2.stop && s.stopWanted e.1 })) }

/-- R404: the replay copies of the packets of a context leave their links. -/
def Link.forget (k : Link) (ix : Nat) : Link :=
  { k with copies := k.copies.filter (fun q => q.2 != ix), fails := k.fails.filter (fun q => !k.copies.any (fun x => x.1 == q.1 && x.2 == ix)) }

/-- R411, R413: the context aborts. A second cause during an abort changes nothing (R414). The abort lasts until
`contextAbortEnd`. Its killed teams leave every barrier (R44). -/
def State.abortContext (s : State) (fw : Bool) (ctx reason core : Nat) : State :=
  let ix := if fw then fwCtx else ctx
  let x := s.context ix
  if x.abort.isSome then s
  else
    let s0 : State := if fw then s else s.dropEngines ctx
    let s1 : State := { s0 with
      contexts := tblSet s0.contexts ix { x with abort := some (reason, core) },
      cores := s0.cores.map (fun e => if s.owns fw ctx e.1 then (e.1, e.2.aborted fw) else if fw then (e.1, e.2.guestsAborted) else e),
      inflight := s.inflight.filter (fun f => !s.takesFlight fw ctx f),
      gathers := s.gathers.filter (fun g => !s.inflight.any (fun f => f.acc == g.acc && s.takesFlight fw ctx f)),
      returns := s.returns.filter (fun r => !s.takesRet fw ctx r),
      packets := s.packets.filter (fun p => !(p.fw == fw && p.ctx == ctx)),
      links := s.links.map (fun e => (e.1, e.2.forget ix)),
      results := s.results.filter (fun r => !(r.mov.ctx == ctx && !fw)),
      bcts := s.bcts.filter (fun b => !(b.fw == fw && b.ctx == ctx)),
      marks := s.marks.filter (fun m => !s.owns fw ctx m.2),
      wakes := s.wakes.filter (fun m => !s.owns fw ctx m.2),
      parked := s.parked.filter (fun p => !p.ofCtx fw ctx),
      teams := s.teams.filter (fun t => !(s.launches.any (fun l => l.id == t.launch && l.fw == fw) && t.ctx == ctx)),
      clusters := s0.clusters.map (fun e =>
        (e.1, { e.2 with jobs := e.2.jobs.filter (fun j => !(j.fw == fw && j.ctx == ctx)),
                         idWaits := if !fw && e.2.owner == some ctx then [] else e.2.idWaits,
                         stages := if !fw && e.2.owner == some ctx then [] else e.2.stages })) }
    let away := s.parked.filter (fun p => p.ofCtx fw ctx && !s.owns fw ctx p.core)
    ((away.foldl (fun t p => t.unwatch p.core p.id) s1.unstop).abortLaunches fw ctx reason core).barSettle

/-- The abort of the context that owns a core. -/
def State.abortOwner (s : State) (c reason : Nat) : State :=
  match s.ownerOf c with
  | some (fw, ctx) => s.abortContext fw ctx reason c
  | none => s

/-! ### Uncorrectable errors and retired pages (R98, R109, R158, R412) -/

/-- R158: the entries of a context, global ones included, leave every TLB. -/
def State.dropEntries (s : State) (ctx : Nat) : State :=
  let keep := fun (e : TlbEntry) => if ctx = fwCtx then !wbit e.w0 9 else wbit e.w0 9 || !(wbit e.w0 11 || bits e.w0 8 0 == ctx)
  { s with
    cores := s.cores.map (fun e => (e.1, { e.2 with l1 := e.2.l1.filter keep }))
    clusters := s.clusters.map (fun e => (e.1, { e.2 with l2 := e.2.l2.filter keep })) }

/-- R156: whether a range of a permission table covers an HBM frame of this module. -/
def State.frameIn (s : State) (f : Nat) (r : Word × Word) : Bool :=
  wbit r.1 63 && decide (bits r.1 51 14 ≤ f) && decide (f < bits r.2 51 14) &&
  (bits r.1 59 58 == 0 || (bits r.1 59 58 == 2 && (wbit r.1 57 || bits r.1 13 0 == s.modnum)))

/-- The contexts whose table covers a frame. -/
def State.frameHolders (s : State) (f : Nat) : List Nat :=
  (s.contexts.filter (fun e => (List.range (bits e.2.header 4 0)).any (fun i => s.frameIn f (tblGet (0, 0) e.2.ranges i)))).map (fun e => e.1)

/-- R158: a context's permission table has become narrower: its entries go, and the change counts as done once the accesses that have
been translated before it are performed. -/
def State.narrow (s : State) (ctx : Nat) : State :=
  ({ s with narrowing := tblSet s.narrowing ctx s.nextId } : State).dropEntries ctx

/-- R412: a frame leaves every permission table under R158, and every context whose table covered it, apart from `own`, aborts with
reason 10. None grants it again before module reset (log entry 84). -/
def State.loseFrame (s : State) (own : Option Nat) (f : Nat) : State :=
  let xs := s.frameHolders f
  let s1 : State := (xs.filter (fun x => some x != own)).foldl (fun t x => t.abortContext (x == fwCtx) (x % fwCtx) 10 0x7FFF)
    { s with retired := setIns s.retired f }
  xs.foldl State.narrow s1

/-- R412: a frame is retired for the access of context `(fw, ctx)` from core `c`, which aborts with reason 6. -/
def State.retireFrame (s : State) (fw : Bool) (ctx c f : Nat) : State :=
  (s.abortContext fw ctx 6 c).loseFrame (some (if fw then fwCtx else ctx)) f

/-- The same for an access of an agent outside the module, a host's or another module's. -/
def State.outerError (s : State) (l : Loc) (n : Nat) (store : Bool) : State :=
  (s.errorsIn l n store).foldl (fun t w => t.loseFrame none (8 * w / 16384)) s

/-- R98, R109: an access of context `(fw, ctx)` from core `c` has met a double-bit error and performs nothing: in a buffer the owner of
its core aborts with reason 6; in HBM the page is retired. -/
def State.eccAbort (s : State) (l : Loc) (n : Nat) (store fw : Bool) (ctx c : Nat) : State :=
  match l.sp with
  | .buf h _ => s.abortOwner h 6
  | _ => (s.errorsIn l n store).foldl (fun t w => t.retireFrame fw ctx c (8 * w / 16384)) s

/-! ### The queues of a core in memory (R122 to R125, R310) -/

/-- Whether the context that owns a core aborts. -/
def State.aborting (s : State) (c : Nat) : Bool :=
  match s.ownerOf c with
  | some (fw, ctx) => (s.context (if fw then fwCtx else ctx)).abort.isSome
  | none => false

/-- Where a core's own access to one of its queues in memory goes: a place in HBM that its owner's context may read and write, a page
that no TLB entry gives, or a fault. -/
inductive QPlace | place (l : Loc) | absent | bad
  deriving DecidableEq, Repr

/-- The place of a queue address of a core. -/
def State.queuePlace (s : State) (c : Nat) (va : Word) : QPlace :=
  match s.ownerOf c with
  | none => .bad
  | some (fw, ctx) =>
    if !canonical va then .bad
    else
      match s.translate c fw ctx va with
      | .miss => .absent
      | .hole => .bad
      | .page p => if p.r && p.w && p.loc.sp == .hbm then .place p.loc else .bad

/-- R122: an entry's four words in memory. -/
def Entry.image (e : Entry) : Nat :=
  e.kind * 2 ^ 61 + e.allot * 2 ^ 58 + bits e.pc 56 2 * 4 + e.lvl + 2 ^ 64 * e.frame.toNat + 2 ^ 128 * e.g2.toNat + 2 ^ 192 * e.g3.toNat

/-- The entry that its words in memory give; KIND and LVL, and what the words do not hold, are as the core put them (log entry 59). -/
def Entry.ofImage (e : Entry) (n : Nat) : Entry :=
  { e with allot := if 1 ≤ fld n 58 3 ∧ fld n 58 3 ≤ 4 then fld n 58 3 else e.allot, pc := wordOf (fld n 2 55 * 4),
           frame := wordOf (n / 2 ^ 64), g2 := wordOf (n / 2 ^ 128), g3 := wordOf (n / 2 ^ 192) }

/-- The address of place `i` of an array of `n` entries at a base register. -/
def slotVa (base : Word) (n i : Nat) : Word := baseVa base + wordOf (32 * (i % n))

/-- A core waits for a page, once. -/
def Core.want (k : Core) (w : Wanted) : Core := if k.wanted.contains w then k else { k with wanted := k.wanted ++ [w] }

/-- The words of a queue place that the core still owes to memory. -/
def Core.owes (k : Core) (va : Word) : Bool := k.owed.any (fun e => e.1 == va)

/-- They are owed no more. -/
def Core.paid (k : Core) (va : Word) : Core := { k with owed := k.owed.filter (fun e => e.1 != va) }

/-- Four words put into a place of a queue. Where no entry gives its page the core asks for the page and writes the words once it has come
(log entry 59); a fault of the deque's aborts the context (R310). -/
def State.putWords (s : State) (c : Nat) (deque : Bool) (va : Word) (x : Nat) : State :=
  match s.queuePlace c va with
  | .place l => (if (s.core c).owes va then s.modCore c (fun k => k.paid va) else s).writeNat l 32 x
  | .absent =>
    match s.ownerOf c with
    | some (fw, ctx) => s.modCore c (fun k =>
        ({ k.paid va with owed := (k.paid va).owed ++ [(va, x)] } : Core).want { deque := deque, fw := fw, ctx := ctx, va := va })
    | none => s
  | .bad => if deque then s.abortOwner c 5 else s

/-- What a core owes to memory is written where an entry gives the page now. -/
def State.payOwed (s : State) (c : Nat) : State :=
  (s.core c).owed.foldl (fun t e =>
    match t.queuePlace c e.1 with
    | .place l => (t.modCore c (fun k => k.paid e.1)).writeNat l 32 e.2
    | _ => t) s

/-- R122: an entry put into its place in memory. A KIND of the model's own leaves the place as it is (log entry 59). -/
def State.storeEntry (s : State) (c : Nat) (deque : Bool) (va : Word) (e : Entry) : State :=
  if e.kind < 6 then s.putWords c deque va e.image else s

/-- The entry read back from its place, and the abort that an uncorrectable error there brings (R109). One whose words have not been
written yet, or whose page no entry gives, is as the core put it (log entry 59). -/
def State.loadEntry (s : State) (c : Nat) (va : Word) (e : Entry) : State × Entry :=
  match s.queuePlace c va with
  | .place l =>
    if 6 ≤ e.kind then (s, e)
    else if (s.core c).owes va then ((s.modCore c (fun k => k.paid va)).writeNat l 32 e.image, e)
    else if s.meetsError l 32 false then
      (match s.ownerOf c with
       | some (fw, ctx) => (s.eccAbort l 32 false fw ctx c, e)
       | none => (s, e))
    else (s, e.ofImage (s.readNat l 32))
  | _ => (s, e)

/-- Several entries read back, from place `i` on. -/
def State.loadEntries (c : Nat) (base : Word) (n : Nat) : Nat → List Entry → State → State × List Entry
  | _, [], s => (s, [])
  | i, e :: t, s =>
    let r := s.loadEntry c (slotVa base n i) e
    let q := State.loadEntries c base n (i + 1) t r.1
    (q.1, r.2 :: q.2)

/-- Several entries put into their places, from place `i` on. -/
def State.storeEntries (c : Nat) (deque : Bool) (base : Word) (n : Nat) : Nat → List Entry → State → State
  | _, [], s => s
  | i, e :: t, s => State.storeEntries c deque base n (i + 1) t (s.storeEntry c deque (slotVa base n i) e)

/-- R123: spilled entries move to the on-chip tail, oldest first. -/
def State.refill (s : State) (c lvl : Nat) : State :=
  let r := (s.core c).ring lvl
  let n := 16 - r.chip.length
  let cap := (s.core c).spillCap lvl
  let q := State.loadEntries c ((s.core c).rrbOf lvl) cap r.at_ (r.spill.take n) s
  if q.1.aborting c && !s.aborting c then q.1
  else q.1.modCore c (fun k => k.setRing lvl { chip := r.chip ++ q.2, spill := r.spill.drop n, at_ := (r.at_ + (r.spill.take n).length) % cap })

/-- R123: an entry pushed to a level's ring, which a refill that is due precedes; one that spills is written to its place. -/
def State.pushEntry (s : State) (c lvl : Nat) (e : Entry) : State :=
  let s1 : State := if (s.core c).refillFirst lvl then s.refill c lvl else s
  let r := (s1.core c).ring lvl
  let s2 : State := s1.modCore c (fun k => { k.push lvl e with pushes := k.pushes + 1 })
  if r.spill.isEmpty && decide (r.chip.length < 16) then s2
  else s2.storeEntry c false (slotVa ((s1.core c).rrbOf lvl) ((s1.core c).spillCap lvl) (r.at_ + r.spill.length)) e

/-- R123's push that is no message: its one overflow outcome is the abort with reason 1. -/
def State.pushReady (s : State) (c lvl : Nat) (e : Entry) : State :=
  if (s.core c).hasRoom lvl then s.pushEntry c lvl e else s.abortOwner c 1

/-- Entries pushed one after another; an abort that one of them brings flushes those behind it (R123, R413). -/
def State.pushAll (c lvl : Nat) : List Entry → State → State
  | [], s => s
  | e :: t, s =>
    let s1 : State := s.pushReady c lvl e
    if s1.aborting c && !s.aborting c then s1 else State.pushAll c lvl t s1

/-- The place of entry `j` of a core's deque, counted from its top (R125). -/
def State.dequeVa (s : State) (c j : Nat) : Word := slotVa (s.core c).dqb 4096 ((s.core c).dqTop + j)

/-- R310: the place of entry `j` of a core's deque. -/
def State.dequePlace (s : State) (c j : Nat) : QPlace := s.queuePlace c (s.dequeVa c j)

/-- R310: a core's access to entry `j` of its deque, before what follows it: it waits for a page that no entry gives, and a fault aborts
the context. -/
def State.atDeque (s : State) (c j : Nat) (go : State) : State :=
  match s.dequePlace c j with
  | .place _ => go
  | .absent =>
    match s.ownerOf c with
    | some (fw, ctx) => s.modCore c (fun k => k.want { deque := true, fw := fw, ctx := ctx, va := s.dequeVa c j })
    | none => s
  | .bad => s.abortOwner c 5

/-- R125: entries at the bottom of a core's deque, written to their places. -/
def State.pushDeque (s : State) (c : Nat) (es : List Entry) : State :=
  let k := s.core c
  State.storeEntries c true k.dqb 4096 (k.dqTop + k.deque.length) es (s.setCore c { k with deque := k.deque ++ es })

/-- R40: entries taken out of a core's deque and L3 ring: those that stay close up, in their places. -/
def State.keepEntries (s : State) (c : Nat) (keep : Entry → Bool) : State :=
  let k := s.core c
  let r := k.ring 3
  let s1 : State := s.setCore c (({ k with deque := k.deque.filter keep } : Core).setRing 3
    { r with chip := r.chip.filter keep, spill := r.spill.filter keep })
  State.storeEntries c false (k.rrbOf 3) (k.spillCap 3) r.at_ (r.spill.filter keep)
    (State.storeEntries c true k.dqb 4096 k.dqTop (k.deque.filter keep) s1)

/-! ### Events, traps and the return from them -/

/-- An event's four words in the area that follows the L0 ring's spill area (R124); the spec gives no layout (log entry 59). -/
def Event.image (e : Event) : Nat :=
  e.epc.toNat + 2 ^ 64 * e.eaddr.toNat + 2 ^ 128 * e.einfo.toNat + 2 ^ 192 * (e.ecause.toNat % 2 ^ 16 + e.eslot * 2 ^ 60)

/-- The event that four words hold. -/
def Event.ofImage (n : Nat) : Event :=
  { eslot := fld n 252 4, epc := wordOf n, ecause := wordOf (fld n 192 16), eaddr := wordOf (n / 2 ^ 64), einfo := wordOf (n / 2 ^ 128) }

/-- No event. -/
def noEvent : Event := { eslot := 8, epc := 0, ecause := 0, eaddr := 0, einfo := 0 }

/-- R124: the address of place `i` of the event queue's spill area. -/
def Core.eventVa (k : Core) (i : Nat) : Word := slotVa (k.rrbOf 0) (k.spillCap 0) i + wordOf (32 * k.spillCap 0)

/-- R123, R124: spilled events move on chip, oldest first. -/
def State.refillEvents : Nat → Nat → State → State
  | _, 0, s => s
  | c, n + 1, s =>
    let k := s.core c
    let i := k.events.length - k.evSpilled
    if k.evSpilled = 0 ∨ 16 ≤ i then s
    else
      let back := fun (l : Loc) => k.events.take i ++ [Event.ofImage (s.readNat l 32)] ++ k.events.drop (i + 1)
      let on := fun (t : State) => t.modCore c (fun k => { k with evSpilled := k.evSpilled - 1, evAt := (k.evAt + 1) % k.spillCap 0 })
      match s.queuePlace c (k.eventVa k.evAt) with
      | .place l =>
        if k.owes (k.eventVa k.evAt) then
          State.refillEvents c n (on ((s.modCore c (fun k => k.paid (k.eventVa k.evAt))).writeNat l 32 (k.events.getD i noEvent).image))
        else if s.meetsError l 32 false then
          (match s.ownerOf c with
           | some (fw, ctx) => s.eccAbort l 32 false fw ctx c
           | none => s)
        else State.refillEvents c n (s.setCore c { k with events := back l, evSpilled := k.evSpilled - 1, evAt := (k.evAt + 1) % k.spillCap 0 })
      | _ => State.refillEvents c n (on s)

/-- R124: an entry at the tail of the L0 event queue, on chip while nothing has spilled and there is room, else in the spill area. -/
def State.putEvent (s : State) (c : Nat) (e : Event) : State :=
  let k := s.core c
  let k1 : Core := { k with events := k.events ++ [e], pushes := k.pushes + 1 }
  if k.evSpilled = 0 ∧ k.events.length < 16 then s.setCore c k1
  else
    (s.setCore c { k1 with evSpilled := k.evSpilled + 1 }).putWords c false (k.eventVa (k.evAt + k.evSpilled)) e.image

/-- R124: an event pushed; a queue whose chip and spill parts are full aborts the owner. -/
def State.pushEvent (s : State) (c : Nat) (e : Event) : State :=
  let k := s.core c
  if k.events.length < 16 + k.spillCap 0 then
    (if 0 < k.evSpilled ∧ k.spillCap 0 ≤ k.evSpilled then (State.refillEvents c 16 s).putEvent c e else s.putEvent c e)
  else s.abortOwner c 2

/-- ECAUSE of a kind and cause (R84). -/
def causeWord (kind cause : Nat) : Word := wordOf (kind * 256 + cause)

/-- An event for a core's L0 (R84: EPC is 0; ESLOT 8 when it concerns no slot). -/
def State.event (s : State) (c cause eslot : Nat) (eaddr einfo : Word) : State :=
  s.pushEvent c { eslot := eslot, epc := 0, ecause := causeWord 2 cause, eaddr := eaddr, einfo := einfo }

/-- Taking a trap (R25, R124, R248, R283, R285): the slot freezes with LEN recorded, INS counts the group of a precise trap (R176), and
an entry with EPC, ECAUSE, EADDR, EINFO and ESLOT waits for an L0 slot; a trap that freezes both L0 slots aborts the
context with reason 4. -/
def State.takeTrap (s : State) (c n kind cause len : Nat) (epc eaddr einfo : Word) : State :=
  let s1 : State := s.modCore c (fun k =>
    { k.setSlot n { k.slot n with frozen := true, len := len, stall := none, cap := none } with
      ins := if kind = 0 then k.ins + 1 else k.ins })
  if (s1.slot c 0).frozen && (s1.slot c 1).frozen then s1.abortOwner c 4
  else s1.pushEvent c { eslot := n, epc := epc, ecause := causeWord kind cause, eaddr := eaddr, einfo := einfo }

/-- A precise trap of the group being issued. It waits until every earlier store of the slot is translated, since such a
store's fault would cancel it (R233, log entry 11). -/
def State.trap (s : State) (cause : Nat) (eaddr einfo : Word) : State :=
  if s.curSlot.waiting.isEmpty then s.takeTrap s.cur.core s.cur.slot 0 cause s.cur.len s.cur.pc eaddr einfo
  else s.stallFor .ordering

/-- ILLEGAL with an EINFO of the member's own. -/
def State.illegal (s : State) (einfo : Nat) : State := s.trap 1 0 (wordOf einfo)

/-- R192: a deferred trap due to the issuer of something: saved with the work while a slot or the park area holds it,
else an event at the core's L0. `acc` is the access that it is due for. -/
def State.deferTo (s : State) (c n work cause : Nat) (eaddr einfo : Word) (acc : Nat := 0) : State :=
  let d : Deferred := { cause := cause, eaddr := eaddr, einfo := einfo, acc := acc }
  let x := s.slot c n
  if x.busy && x.w.id == work then s.modWork c n (fun w => { w with deferred := w.deferred ++ [d] })
  else if s.parked.any (fun p => p.w.id == work) then
    { s with parked := s.parked.map (fun p => if p.w.id == work then { p with w := { p.w with deferred := p.w.deferred ++ [d] } } else p) }
  else if s.teams.any (fun t => t.saved.any (fun e => e.2.2.id == work)) then
    { s with teams := s.teams.map (fun t => { t with saved := t.saved.map (fun e =>
        if e.2.2.id == work then (e.1, e.2.1, { e.2.2 with deferred := e.2.2.deferred ++ [d] }) else e) }) }
  else s.event c cause n eaddr einfo

/-! ### Waking and parking -/

/-- A resume entry (R27, R284) for parked work `id`. -/
def resumeEntry (p : Parked) : Entry :=
  { kind := 4, allot := p.w.ctl.allot, pc := 0, lvl := p.w.lvl, frame := wordOf p.id, g2 := 0, g3 := 0, landed := none,
    hclass := none, parked := some p.id, team := p.w.team, share := false }

/-- Parked work becomes ready once: its resume entry goes to the ring of its level, or to what its swapped-out team has saved. -/
def State.wake (s : State) (id : Nat) : State :=
  match s.parked.find? (fun p => p.id == id && !p.ready) with
  | none => s
  | some p =>
    let s1 : State := { s with parked := s.parked.map (fun x => if x.id == id then { x with ready := true } else x) }
    if s.teams.any (fun t => some t.id == p.w.team && !t.resident) then
      { s1 with teams := s1.teams.map (fun t =>
          if some t.id == p.w.team then { t with savedRdy := t.savedRdy ++ [(p.core, [resumeEntry p])] } else t) }
    else s1.pushReady p.core p.w.lvl (resumeEntry p)

/-- A watch entry removed with its mark at the home. -/
def State.dropWatch (s : State) (c line : Nat) : State :=
  ({ s with marks := s.marks.filter (fun m => !(m == (line, c))) } : State).modCore c
    (fun k => { k with watches := k.watches.filter (fun w => w.line != line) })

/-- R172: WSUM of a barrier object set by its home, beside the watch mark: no write in the sense of R134. -/
def State.setWsum (s : State) (l : Loc) (n : Nat) : State := s.writeQuiet (l.plus 14) (bytesOf 2 n)

/-- R172: each wake sets WSUM to 0; a double-bit error in its word aborts instead (R98). -/
def State.wakeParked (s : State) (id : Nat) : State :=
  match s.parked.find? (fun p => p.id == id) with
  | some p =>
    match p.wait with
    | .object l =>
      if s.meetsError (l.plus 8) 8 false then (s.eccAbort (l.plus 8) 8 false p.w.ctl.fw p.w.ctl.ctx p.core).wake id
      else (s.setWsum l 0).wake id
    | _ => s.wake id
  | none => s

/-- R134: the wake of a watched line releases every waiter in list order and frees the entry. -/
def State.wakeLine (s : State) (c line : Nat) : State :=
  let ws := ((s.core c).watches.filter (fun w => w.line == line)).flatMap (fun w => w.waiters)
  ws.foldl State.wakeParked (s.dropWatch c line)

/-- R134: the watched line of the entry to evict: that whose oldest waiter parked earliest. -/
def oldestWatch : List Watch → Option (Nat × Nat)
  | [] => none
  | w :: t =>
    match oldestWatch t with
    | none => some (w.line, w.waiters.headD 0)
    | some (l, i) => if w.waiters.headD 0 ≤ i then some (w.line, w.waiters.headD 0) else some (l, i)

/-- R134: work joins the watch entry of a line, after an eviction when a 17th entry is needed. -/
def State.addWatch (s : State) (c line id : Nat) (fw : Bool) (ctx : Nat) : State :=
  let k := s.core c
  if k.watches.any (fun w => w.line == line) then
    s.setCore c { k with watches := k.watches.map (fun w => if w.line == line then { w with waiters := w.waiters ++ [id] } else w) }
  else
    let s1 : State := if k.watches.length < 16 then s
              else match oldestWatch k.watches with
                   | some (l, _) => s.wakeLine c l
                   | none => s
    ({ s1 with marks := s1.marks ++ [(line, c)] } : State).modCore c
      (fun k => { k with watches := k.watches ++ [{ line := line, fw := fw, ctx := ctx, waiters := [id] }] })

/-- A slot and its steps are freed. A scope-missed access that it holds stays (log entry 15). -/
def Slot.freed (x : Slot) : Slot :=
  { x with busy := false, frozen := false, res := false, len := 0, stall := none, yielded := none, waiting := [], cap := none }

/-- R27: the work of a slot parks: saved with the pc it will resume at, its wait recorded, slot and steps freed. What is saved stands in
`State.parked` (log entry 90). -/
def State.parkSlot (s : State) (c n : Nat) (pc : Word) (wt : Wait) (until_ : Option Nat) : State :=
  let x := s.slot c n
  let id := s.nextId
  let p : Parked := { id := id, core := c, w := { x.w with pc := pc }, wait := wt, until_ := until_, ready := false }
  let s1 : State := ({ s.bump with parked := s.parked ++ [p] } : State).modSlot c n Slot.freed
  match wt with
  | .line key => s1.addWatch c key id x.w.ctl.fw x.w.ctl.ctx
  | .cell l => s1.addWatch c (l.key / 64) id x.w.ctl.fw x.w.ctl.ctx
  | .object l => s1.addWatch c (l.key / 64) id x.w.ctl.fw x.w.ctl.ctx
  | _ => s1

/-! ### Ending work -/

/-- R129: a landing cell is freed; the free point passes every leading freed cell. -/
def Landing.free (l : Landing) (cell : Nat) : Landing :=
  let marked := l.used.map (fun e => if e.1 == cell then (e.1, true) else e)
  { l with used := marked.dropWhile (fun e => e.2) }

/-- The landing ring of a class. -/
def Core.landingOf (k : Core) (cls : Nat) : Landing := tblGet { used := [], next := 0 } k.landing cls

/-- A landing cell of a core is freed. -/
def State.freeCell (s : State) (c : Nat) : Option (Nat × Nat) → State
  | none => s
  | some (cls, cell) => s.modCore c (fun k => { k with landing := tblSet k.landing cls ((k.landingOf cls).free cell) })

/-- R133: the stream rings bound by a work are unbound and their elements discarded. -/
def State.unbindAll (s : State) (c work : Nat) : State :=
  s.modCore c (fun k => { k with rings := k.rings.map (fun e =>
    match e.2.owner with
    | some (w, _) => if w == work then (e.1, { e.2 with owner := none, team := none, occ := 0 }) else e
    | none => e) })

/-- The tasks of its stage that a core runs. -/
def Core.stageWorks (k : Core) : List Nat :=
  ((List.range 8).filter (fun n => (k.slot n).busy && (k.slot n).w.hclass == some (64 + k.stg % 8))).map (fun n => (k.slot n).w.id)

/-- R34: a subscriber moves once the tasks of its old stage that ran when it was chosen have ended. -/
def Core.settleStage (k : Core) : Core :=
  match k.stgMove with
  | some j =>
    if (List.range 8).any (fun n => (k.slot n).busy && k.stgWorks.contains (k.slot n).w.id) then k
    else { k with stg := 8 + j, stgMove := none, stgWorks := [] }
  | none => k

/-- R281: what a slot runs ends: its slot and steps, stream rings and landing cell are freed; a thread leaves every
barrier (R44). -/
def State.endWork (s : State) (c n : Nat) : State :=
  let w := (s.slot c n).w
  let s1 : State := (((s.modSlot c n Slot.freed).modCore c Core.settleStage).unbindAll c w.id).freeCell c w.landed
  match w.thread, w.team with
  | true, some tid =>
    let thr := bits w.ctl.tid 7 0
    ({ s1 with teams := s1.teams.map (fun t =>
        if t.id == tid then { t with ended := t.ended ++ [thr], arrived := tblDel t.arrived thr } else t) } : State).barSettle
  | _, _ => s1

/-- A frozen slot resumes issue at `pc` (R282 ACT 0 and 1); a PC is a multiple of 4 (R246, log entry 87). -/
def State.resumeSlot (s : State) (c n : Nat) (pc : Word) : State :=
  s.modSlot c n (fun x => { x with frozen := false, stall := none, w := { x.w with pc := pc &&& ~~~3 } })

/-- R371: resolved(t) against a resolution sequence S, as a signed 32-bit difference. -/
def resolved (t sq : Nat) : Bool :=
  let d := (t + 2 ^ 32 - sq % 2 ^ 32) % 2 ^ 32
  d == 0 || decide (2 ^ 31 ≤ d)

/-- R284: the trapped work parks on a token; an already resolved token makes its resume entry ready at once (R371). -/
def State.parkToken (s : State) (c n tok : Nat) (pc : Word) : State :=
  let id := s.nextId
  let s1 : State := s.parkSlot c n (pc &&& ~~~3) (.token tok) none
  if resolved tok (s.core c).rseq then s1.wake id else s1

/-- The kind in an ECAUSE (R84). -/
def causeKind (w : Word) : Nat := bits w 9 8

/-- R281: a frozen slot ends as by `end`: a handler of a trap ends what it handles too. -/
def State.endTrapped : Nat → Nat → Nat → State → State
  | 0, c, n, s => s.endWork c n
  | k + 1, c, n, s =>
    let w := (s.slot c n).w
    let t := bits w.ctl.eslot 3 0
    let s1 : State := s.endWork c n
    if w.events && causeKind w.ctl.ecause != 2 && (s1.slot c t).busy && (s1.slot c t).frozen then State.endTrapped k c t s1 else s1

/-- R282: the action of a handler on slot `t`, after the handler has ended. An ESLOT that a handler has written and that
names no frozen slot leaves nothing to act on (log entry 16). -/
def State.returnFrom (s : State) (c t kind act tok : Nat) (epc : Word) : State :=
  if act = 4 then s.abortOwner c 3
  else if kind = 2 then s
  else if !((s.slot c t).busy && (s.slot c t).frozen) then s
  else
    match act with
    | 0 => s.resumeSlot c t epc
    | 1 => s.resumeSlot c t (epc + wordOf (4 * (s.slot c t).len))
    | 2 => s.parkToken c t tok epc
    | _ => State.endTrapped 2 c t s

end Sys2Proof.Machine
end

