-- ==== Sys2Proof/Machine/Operands.lean ====
section
/-! DEFINITION. Operands of every instruction and the checks that come before any effect, in the order of R75:
REGBOUND, PRIVILEGED, EMPTY; then the stalls of R72, R73 and R233. -/

namespace Sys2Proof.Machine

/-- The registers an instruction names: `g` sources with their e-bit (`none`: the field has none and stalls), `v`
sources, `g` and `v` destinations (R72, R251). -/
structure Opnds where
  sg : List (Nat × Option Bool)
  sv : List Nat
  dg : Option Nat
  dv : List Nat
  deriving DecidableEq, Repr

/-- No register. -/
def noOpnds : Opnds := { sg := [], sv := [], dg := none, dv := [] }

/-- Registers of each instruction, as the member descriptions of the instruction chapters list them. -/
def operands : Instr → Opnds
  | .add d a b ea eb => { sg := [(a.toNat, some ea), (b.toNat, some eb)], sv := [], dg := some d.toNat, dv := [] }
  | .sub d a b ea eb => { sg := [(a.toNat, some ea), (b.toNat, some eb)], sv := [], dg := some d.toNat, dv := [] }
  | .mul d a b ea eb => { sg := [(a.toNat, some ea), (b.toNat, some eb)], sv := [], dg := some d.toNat, dv := [] }
  | .mulhS d a b ea eb => { sg := [(a.toNat, some ea), (b.toNat, some eb)], sv := [], dg := some d.toNat, dv := [] }
  | .mulhZ d a b ea eb => { sg := [(a.toNat, some ea), (b.toNat, some eb)], sv := [], dg := some d.toNat, dv := [] }
  | .divS d a b ea eb => { sg := [(a.toNat, some ea), (b.toNat, some eb)], sv := [], dg := some d.toNat, dv := [] }
  | .divZ d a b ea eb => { sg := [(a.toNat, some ea), (b.toNat, some eb)], sv := [], dg := some d.toNat, dv := [] }
  | .remS d a b ea eb => { sg := [(a.toNat, some ea), (b.toNat, some eb)], sv := [], dg := some d.toNat, dv := [] }
  | .remZ d a b ea eb => { sg := [(a.toNat, some ea), (b.toNat, some eb)], sv := [], dg := some d.toNat, dv := [] }
  | .and d a b ea eb => { sg := [(a.toNat, some ea), (b.toNat, some eb)], sv := [], dg := some d.toNat, dv := [] }
  | .or d a b ea eb => { sg := [(a.toNat, some ea), (b.toNat, some eb)], sv := [], dg := some d.toNat, dv := [] }
  | .xor d a b ea eb => { sg := [(a.toNat, some ea), (b.toNat, some eb)], sv := [], dg := some d.toNat, dv := [] }
  | .andn d a b ea eb => { sg := [(a.toNat, some ea), (b.toNat, some eb)], sv := [], dg := some d.toNat, dv := [] }
  | .orn d a b ea eb => { sg := [(a.toNat, some ea), (b.toNat, some eb)], sv := [], dg := some d.toNat, dv := [] }
  | .shl d a b ea eb => { sg := [(a.toNat, some ea), (b.toNat, some eb)], sv := [], dg := some d.toNat, dv := [] }
  | .shr d a b ea eb => { sg := [(a.toNat, some ea), (b.toNat, some eb)], sv := [], dg := some d.toNat, dv := [] }
  | .sar d a b ea eb => { sg := [(a.toNat, some ea), (b.toNat, some eb)], sv := [], dg := some d.toNat, dv := [] }
  | .rol d a b ea eb => { sg := [(a.toNat, some ea), (b.toNat, some eb)], sv := [], dg := some d.toNat, dv := [] }
  | .ror d a b ea eb => { sg := [(a.toNat, some ea), (b.toNat, some eb)], sv := [], dg := some d.toNat, dv := [] }
  | .minS d a b ea eb => { sg := [(a.toNat, some ea), (b.toNat, some eb)], sv := [], dg := some d.toNat, dv := [] }
  | .minZ d a b ea eb => { sg := [(a.toNat, some ea), (b.toNat, some eb)], sv := [], dg := some d.toNat, dv := [] }
  | .maxS d a b ea eb => { sg := [(a.toNat, some ea), (b.toNat, some eb)], sv := [], dg := some d.toNat, dv := [] }
  | .maxZ d a b ea eb => { sg := [(a.toNat, some ea), (b.toNat, some eb)], sv := [], dg := some d.toNat, dv := [] }
  | .clz d a ea => { sg := [(a.toNat, some ea)], sv := [], dg := some d.toNat, dv := [] }
  | .ctz d a ea => { sg := [(a.toNat, some ea)], sv := [], dg := some d.toNat, dv := [] }
  | .popc d a ea => { sg := [(a.toNat, some ea)], sv := [], dg := some d.toNat, dv := [] }
  | .bswap d a ea => { sg := [(a.toNat, some ea)], sv := [], dg := some d.toNat, dv := [] }
  | .lea1 d a b ea eb => { sg := [(a.toNat, some ea), (b.toNat, some eb)], sv := [], dg := some d.toNat, dv := [] }
  | .lea2 d a b ea eb => { sg := [(a.toNat, some ea), (b.toNat, some eb)], sv := [], dg := some d.toNat, dv := [] }
  | .lea3 d a b ea eb => { sg := [(a.toNat, some ea), (b.toNat, some eb)], sv := [], dg := some d.toNat, dv := [] }
  | .cmp _ a b ea eb _ => { sg := [(a.toNat, some ea), (b.toNat, some eb)], sv := [], dg := none, dv := [] }
  | .addi d a ea _ => { sg := [(a.toNat, some ea)], sv := [], dg := some d.toNat, dv := [] }
  | .andi d a ea _ => { sg := [(a.toNat, some ea)], sv := [], dg := some d.toNat, dv := [] }
  | .ori d a ea _ => { sg := [(a.toNat, some ea)], sv := [], dg := some d.toNat, dv := [] }
  | .xori d a ea _ => { sg := [(a.toNat, some ea)], sv := [], dg := some d.toNat, dv := [] }
  | .shli d a ea _ => { sg := [(a.toNat, some ea)], sv := [], dg := some d.toNat, dv := [] }
  | .shri d a ea _ => { sg := [(a.toNat, some ea)], sv := [], dg := some d.toNat, dv := [] }
  | .sari d a ea _ => { sg := [(a.toNat, some ea)], sv := [], dg := some d.toNat, dv := [] }
  | .cmpi _ a ea _ _ => { sg := [(a.toNat, some ea)], sv := [], dg := none, dv := [] }
  | .liS d _ => { sg := [], sv := [], dg := some d.toNat, dv := [] }
  | .liZ d _ => { sg := [], sv := [], dg := some d.toNat, dv := [] }
  | .lih d _ => { sg := [(d.toNat, none)], sv := [], dg := some d.toNat, dv := [] }
  | .bextS d a ea _ _ => { sg := [(a.toNat, some ea)], sv := [], dg := some d.toNat, dv := [] }
  | .bextZ d a ea _ _ => { sg := [(a.toNat, some ea)], sv := [], dg := some d.toNat, dv := [] }
  | .bins d a ea _ _ => { sg := [(d.toNat, none), (a.toNat, some ea)], sv := [], dg := some d.toNat, dv := [] }
  | .pand _ _ _ => noOpnds
  | .por _ _ _ => noOpnds
  | .pxor _ _ _ => noOpnds
  | .pandn _ _ _ => noOpnds
  | .pnot _ _ => noOpnds
  | .pmov _ _ => noOpnds
  | .pget d => { sg := [], sv := [], dg := some d.toNat, dv := [] }
  | .pput a b ea eb => { sg := [(a.toNat, some ea), (b.toNat, some eb)], sv := [], dg := none, dv := [] }
  | .br _ _ _ => noOpnds
  | .call _ => { sg := [], sv := [], dg := some 15, dv := [] }
  | .jr a ea => { sg := [(a.toNat, some ea)], sv := [], dg := none, dv := [] }
  | .jalr d a ea => { sg := [(a.toNat, some ea)], sv := [], dg := some d.toNat, dv := [] }
  | .nop => noOpnds
  | .endTask => noOpnds
  | .yield => noOpnds
  | .trap _ => noOpnds
  | .eret a ea => { sg := [(a.toNat, some ea)], sv := [], dg := none, dv := [] }
  | .halt => noOpnds
  | .brk => noOpnds
  | .ldZ d a ea _ _ _ => { sg := [(a.toNat, some ea)], sv := [], dg := some d.toNat, dv := [] }
  | .ldS d a ea _ _ _ => { sg := [(a.toNat, some ea)], sv := [], dg := some d.toNat, dv := [] }
  | .st d a ea _ _ _ => { sg := [(a.toNat, some ea), (d.toNat, none)], sv := [], dg := none, dv := [] }
  | .ldv v a ea _ _ => { sg := [(a.toNat, some ea)], sv := [], dg := none, dv := [v.toNat] }
  | .stv v a ea _ _ => { sg := [(a.toNat, some ea)], sv := [v.toNat], dg := none, dv := [] }
  | .ldvt v a ea es _ => { sg := [(a.toNat, some ea)], sv := [], dg := none, dv := natRange v.toNat (esizeCount es) }
  | .fence _ _ => noOpnds
  | .pf a => { sg := [(a.toNat, none)], sv := [], dg := none, dv := [] }
  | .qbind _ a ea => { sg := [(a.toNat, some ea)], sv := [], dg := none, dv := [] }
  | .qfree _ => noOpnds
  | .salloc a b ea eb => { sg := [(a.toNat, some ea), (b.toNat, some eb)], sv := [], dg := none, dv := [] }
  | .qstat d _ => { sg := [], sv := [], dg := some d.toNat, dv := [] }
  | .qget d _ => { sg := [], sv := [], dg := some d.toNat, dv := [] }
  | .qgetv v _ => { sg := [], sv := [], dg := none, dv := [v.toNat] }
  | .amo32 d a b op _ => { sg := [(a.toNat, none), (b.toNat, none)] ++ (if op = .cas then [(d.toNat, none)] else []), sv := [], dg := some d.toNat, dv := [] }
  | .amo64 d a b op _ => { sg := [(a.toNat, none), (b.toNat, none)] ++ (if op = .cas then [(d.toNat, none)] else []), sv := [], dg := some d.toNat, dv := [] }
  | .faddF32 d a b ea eb => { sg := [(a.toNat, some ea), (b.toNat, some eb)], sv := [], dg := some d.toNat, dv := [] }
  | .faddF16 d a b ea eb => { sg := [(a.toNat, some ea), (b.toNat, some eb)], sv := [], dg := some d.toNat, dv := [] }
  | .faddF64 d a b ea eb => { sg := [(a.toNat, some ea), (b.toNat, some eb)], sv := [], dg := some d.toNat, dv := [] }
  | .faddBf16 d a b ea eb => { sg := [(a.toNat, some ea), (b.toNat, some eb)], sv := [], dg := some d.toNat, dv := [] }
  | .decp d a ea => { sg := [(a.toNat, some ea)], sv := [], dg := some d.toNat, dv := [] }
  | .waita t a b ea eb => { sg := [(t.toNat, none), (a.toNat, some ea), (b.toNat, some eb)], sv := [], dg := none, dv := [] }
  | .barQuad => noOpnds
  | .barClus => noOpnds
  | .barDie => noOpnds
  | .barMod => noOpnds
  | .barPod => noOpnds
  | .boinit a b ea eb => { sg := [(a.toNat, some ea), (b.toNat, some eb)], sv := [], dg := none, dv := [] }
  | .boarr a b ea eb => { sg := [(a.toNat, some ea), (b.toNat, some eb)], sv := [], dg := none, dv := [] }
  | .bowait a b ea eb => { sg := [(a.toNat, some ea), (b.toNat, some eb)], sv := [], dg := none, dv := [] }
  | .fork d a b ea eb => { sg := [(a.toNat, some ea), (b.toNat, some eb)], sv := [], dg := some d.toNat, dv := [] }
  | .join a ea => { sg := [(a.toNat, some ea)], sv := [], dg := none, dv := [] }
  | .rfork a b ea eb => { sg := [(a.toNat, some ea), (b.toNat, some eb)], sv := [], dg := none, dv := [] }
  | .post a b ea eb => { sg := [(a.toNat, some ea), (b.toNat, some eb)], sv := [], dg := none, dv := [] }
  | .cdinit a b ea eb => { sg := [(a.toNat, some ea), (b.toNat, some eb)], sv := [], dg := none, dv := [] }
  | .grow d a ea => { sg := [(a.toNat, some ea)], sv := [], dg := some d.toNat, dv := [] }
  | .shrink d a ea => { sg := [(a.toNat, some ea)], sv := [], dg := some d.toNat, dv := [] }
  | .stgpush d a b ea eb => { sg := [(a.toNat, some ea), (b.toNat, some eb)], sv := [], dg := some d.toNat, dv := [] }
  | .stgsub a ea => { sg := [(a.toNat, some ea)], sv := [], dg := none, dv := [] }
  | .park a ea => { sg := [(a.toNat, some ea)], sv := [], dg := none, dv := [] }
  | .send _ a b ea eb => { sg := [(a.toNat, some ea), (b.toNat, some eb)], sv := [], dg := none, dv := [] }
  | .cmask a ea => { sg := [(a.toNat, some ea)], sv := [], dg := none, dv := [] }
  | .cunmask a ea => { sg := [(a.toNat, some ea)], sv := [], dg := none, dv := [] }
  | .cpend d a ea => { sg := [(a.toNat, some ea)], sv := [], dg := some d.toNat, dv := [] }
  | .swapx a b ea eb => { sg := [(a.toNat, some ea), (b.toNat, some eb)], sv := [], dg := none, dv := [] }
  | .sendr _ a b ea eb _ => { sg := [(a.toNat, some ea), (b.toNat, some eb)], sv := [], dg := none, dv := [] }
  | .vadd d a b _ => { sg := [], sv := [a.toNat, b.toNat], dg := none, dv := [d.toNat] }
  | .vsub d a b _ => { sg := [], sv := [a.toNat, b.toNat], dg := none, dv := [d.toNat] }
  | .vmul d a b _ => { sg := [], sv := [a.toNat, b.toNat], dg := none, dv := [d.toNat] }
  | .vmin d a b _ => { sg := [], sv := [a.toNat, b.toNat], dg := none, dv := [d.toNat] }
  | .vmax d a b _ => { sg := [], sv := [a.toNat, b.toNat], dg := none, dv := [d.toNat] }
  | .vand d a b => { sg := [], sv := [a.toNat, b.toNat], dg := none, dv := [d.toNat] }
  | .vor d a b => { sg := [], sv := [a.toNat, b.toNat], dg := none, dv := [d.toNat] }
  | .vxor d a b => { sg := [], sv := [a.toNat, b.toNat], dg := none, dv := [d.toNat] }
  | .vandn d a b => { sg := [], sv := [a.toNat, b.toNat], dg := none, dv := [d.toNat] }
  | .vshl d a b _ => { sg := [], sv := [a.toNat, b.toNat], dg := none, dv := [d.toNat] }
  | .vshr d a b _ => { sg := [], sv := [a.toNat, b.toNat], dg := none, dv := [d.toNat] }
  | .vsar d a b _ => { sg := [], sv := [a.toNat, b.toNat], dg := none, dv := [d.toNat] }
  | .vmov d a => { sg := [], sv := [a.toNat], dg := none, dv := [d.toNat] }
  | .vfma d a b c _ => { sg := [], sv := [a.toNat, b.toNat, c.toNat], dg := none, dv := [d.toNat] }
  | .vfms d a b c _ => { sg := [], sv := [a.toNat, b.toNat, c.toNat], dg := none, dv := [d.toNat] }
  | .vfnma d a b c _ => { sg := [], sv := [a.toNat, b.toNat, c.toNat], dg := none, dv := [d.toNat] }
  | .vfnms d a b c _ => { sg := [], sv := [a.toNat, b.toNat, c.toNat], dg := none, dv := [d.toNat] }
  | .vcvt d a _ _ _ => { sg := [], sv := [a.toNat], dg := none, dv := [d.toNat] }
  | .vrcp d a _ => { sg := [], sv := [a.toNat], dg := none, dv := [d.toNat] }
  | .vrsqrt d a _ => { sg := [], sv := [a.toNat], dg := none, dv := [d.toNat] }
  | .vsqrt d a _ => { sg := [], sv := [a.toNat], dg := none, dv := [d.toNat] }
  | .vexp2 d a _ => { sg := [], sv := [a.toNat], dg := none, dv := [d.toNat] }
  | .vlog2 d a _ => { sg := [], sv := [a.toNat], dg := none, dv := [d.toNat] }
  | .vdiv d a b _ => { sg := [], sv := [a.toNat, b.toNat], dg := none, dv := [d.toNat] }
  | .vperm d a b _ => { sg := [], sv := [a.toNat, b.toNat], dg := none, dv := [d.toNat] }
  | .vbcast d a _ => { sg := [(a.toNat, none)], sv := [], dg := none, dv := [d.toNat] }
  | .vins d a _ _ => { sg := [(a.toNat, none)], sv := [d.toNat], dg := none, dv := [d.toNat] }
  | .vext d a _ _ => { sg := [], sv := [a.toNat], dg := some d.toNat, dv := [] }
  | .vredAdd d a _ => { sg := [], sv := [a.toNat], dg := none, dv := [d.toNat] }
  | .vredMin d a _ => { sg := [], sv := [a.toNat], dg := none, dv := [d.toNat] }
  | .vredMax d a _ => { sg := [], sv := [a.toNat], dg := none, dv := [d.toNat] }
  | .vpack d a b _ => { sg := [], sv := [a.toNat, b.toNat], dg := none, dv := [d.toNat] }
  | .vunpkLo d a _ => { sg := [], sv := [a.toNat], dg := none, dv := [d.toNat] }
  | .vunpkHi d a _ => { sg := [], sv := [a.toNat], dg := none, dv := [d.toNat] }
  | .vzip d a b _ => { sg := [], sv := [a.toNat, b.toNat], dg := none, dv := [d.toNat] }
  | .vunzip d a b _ => { sg := [], sv := [a.toNat, b.toNat], dg := none, dv := [d.toNat] }
  | .vcmp d a b _ _ => { sg := [], sv := [a.toNat, b.toNat], dg := none, dv := [d.toNat] }
  | .vclass d a _ => { sg := [], sv := [a.toNat], dg := none, dv := [d.toNat] }
  | .vsel d a b c => { sg := [], sv := [a.toNat, b.toNat, c.toNat], dg := none, dv := [d.toNat] }
  | .vdot d a b c _ => { sg := [], sv := [a.toNat, b.toNat, c.toNat], dg := none, dv := [d.toNat] }
  | .vdotI d a b c _ => { sg := [], sv := [a.toNat, b.toNat, c.toNat], dg := none, dv := [d.toNat] }
  | .lks a _ _ => { sg := [(a.toNat, none)], sv := [], dg := none, dv := [] }
  | .lkm d a b _ _ => { sg := [(a.toNat, none), (b.toNat, none)], sv := [], dg := some d.toNat, dv := [] }
  | .lkq d _ => { sg := [], sv := [], dg := some d.toNat, dv := [] }
  | .lkdrain a _ => { sg := [(a.toNat, none)], sv := [], dg := none, dv := [] }
  | .lkload a _ => { sg := [(a.toNat, none)], sv := [], dg := none, dv := [] }
  | .lkfrz _ => noOpnds
  | .lkthw _ => noOpnds
  | .lkcan d a _ => { sg := [(a.toNat, none)], sv := [], dg := some d.toNat, dv := [] }
  | .cpy d a b => { sg := [(a.toNat, none), (b.toNat, none)], sv := [], dg := some d.toNat, dv := [] }
  | .gat d a b => { sg := [(a.toNat, none), (b.toNat, none)], sv := [], dg := some d.toNat, dv := [] }
  | .sca d a b => { sg := [(a.toNat, none), (b.toNat, none)], sv := [], dg := some d.toNat, dv := [] }
  | .redc d a b => { sg := [(a.toNat, none), (b.toNat, none)], sv := [], dg := some d.toNat, dv := [] }
  | .bct d a b => { sg := [(a.toNat, none), (b.toNat, none)], sv := [], dg := some d.toNat, dv := [] }
  | .tdset a b => { sg := [(a.toNat, none), (b.toNat, none)], sv := [], dg := none, dv := [] }
  | .tdget d a b => { sg := [(a.toNat, none), (b.toNat, none)], sv := [], dg := some d.toNat, dv := [] }
  | .tdinv a => { sg := [(a.toNat, none)], sv := [], dg := none, dv := [] }
  | .gmacc a b _ => { sg := [(a.toNat, none), (b.toNat, none)], sv := [], dg := none, dv := [] }
  | .gmsub a b _ => { sg := [(a.toNat, none), (b.toNat, none)], sv := [], dg := none, dv := [] }
  | .gmelim d a b => { sg := [(a.toNat, none), (b.toNat, none)], sv := [], dg := some d.toNat, dv := [] }
  | .gmdamp a b => { sg := [(a.toNat, none), (b.toNat, none)], sv := [], dg := none, dv := [] }
  | .gmmean d a b => { sg := [(a.toNat, none), (b.toNat, none)], sv := [], dg := some d.toNat, dv := [] }
  | .gmres d a b => { sg := [(a.toNat, none), (b.toNat, none)], sv := [], dg := some d.toNat, dv := [] }
  | .gmsend a b => { sg := [(a.toNat, none), (b.toNat, none)], sv := [], dg := none, dv := [] }
  | .gmcpy a b => { sg := [(a.toNat, none), (b.toNat, none)], sv := [], dg := none, dv := [] }
  | .tlbw t a b ea eb => { sg := [(t.toNat, none), (a.toNat, some ea), (b.toNat, some eb)], sv := [], dg := none, dv := [] }
  | .tlbi a b ea eb => { sg := [(a.toNat, some ea), (b.toNat, some eb)], sv := [], dg := none, dv := [] }
  | .fres a b ea eb => { sg := [(a.toNat, some ea), (b.toNat, some eb)], sv := [], dg := none, dv := [] }
  | .ctxs a ea => { sg := [(a.toNat, some ea)], sv := [], dg := none, dv := [] }
  | .ctxl a ea => { sg := [(a.toNat, some ea)], sv := [], dg := none, dv := [] }
  | .wtab a b ea eb => { sg := [(a.toNat, some ea), (b.toNat, some eb)], sv := [], dg := none, dv := [] }
  | .wclose a ea => { sg := [(a.toNat, some ea)], sv := [], dg := none, dv := [] }
  | .wopen a ea => { sg := [(a.toNat, some ea)], sv := [], dg := none, dv := [] }
  | .rmap a b ea eb => { sg := [(a.toNat, some ea), (b.toNat, some eb)], sv := [], dg := none, dv := [] }
  | .evac a b ea eb => { sg := [(a.toNat, some ea), (b.toNat, some eb)], sv := [], dg := none, dv := [] }
  | .getc d _ => { sg := [], sv := [], dg := some d.toNat, dv := [] }
  | .setc a ea _ => { sg := [(a.toNat, some ea)], sv := [], dg := none, dv := [] }
  | .smrReissue _ _ _ => noOpnds
  | .fmthAdmit _ => noOpnds
  | .fmthRefuse _ => noOpnds
  | .tprdWrite _ _ => noOpnds
  | .alstClear _ => noOpnds
  | .cmaskWrite _ _ => noOpnds
  | .iclWrite _ _ => noOpnds
  | .pceilWrite _ => noOpnds
  | .counterWrite _ _ _ => noOpnds
  | .taskStart _ _ => noOpnds
  | .l0HandlerStart _ => noOpnds
  | .deferredTrapDelivery _ _ => noOpnds
  | .spillRefill _ _ => noOpnds
  | .antiStarvationTurn _ => noOpnds
  | .fetchDutyWindow _ => noOpnds
  | .stealRound _ => noOpnds
  | .stealRequest _ _ => noOpnds
  | .stagePop _ => noOpnds
  | .governorWindow _ => noOpnds
  | .swapQuantum _ => noOpnds
  | .teamSwapOut _ => noOpnds
  | .teamSwapIn _ => noOpnds
  | .watchWake _ _ => noOpnds
  | .waitaTimeout _ => noOpnds
  | .parkTimeout _ => noOpnds
  | .registerFill _ => noOpnds
  | .remoteAccessAtHome _ => noOpnds
  | .releaseRetry _ => noOpnds
  | .commitToken _ => noOpnds
  | .releaseWithdraw _ => noOpnds
  | .scopeMissReturn _ => noOpnds
  | .refusalReturn _ => noOpnds
  | .tlbMissMessage _ _ _ => noOpnds
  | .packetHeadRouting _ => noOpnds
  | .messageArrival _ => noOpnds
  | .gmRecordArrival _ => noOpnds
  | .heldAlertRetry _ => noOpnds
  | .enginePairing _ => noOpnds
  | .jobStart _ => noOpnds
  | .beatPull _ => noOpnds
  | .rowSend _ => noOpnds
  | .resultPacketArrival _ => noOpnds
  | .streamRowDelivery _ => noOpnds
  | .tileEndArrival _ => noOpnds
  | .engwaitTimeout _ _ => noOpnds
  | .swapxTimeout _ _ => noOpnds
  | .copyJobStart _ => noOpnds
  | .copyUnit _ _ _ => noOpnds
  | .bctArrival _ => noOpnds
  | .gmuRequestStart _ => noOpnds
  | .gmuRequestComplete _ => noOpnds
  | .budgetPeriod _ _ => noOpnds
  | .monitorSample _ _ => noOpnds
  | .sensorSample _ => noOpnds
  | .stateRequest _ => noOpnds
  | .transitionStart => noOpnds
  | .islandStepDown _ => noOpnds
  | .diePark _ => noOpnds
  | .dieUnpark _ => noOpnds
  | .sqDoorbell _ _ => noOpnds
  | .launchRecord _ => noOpnds
  | .createContextRecord _ => noOpnds
  | .destroyContextRecord _ => noOpnds
  | .checkpointRecord _ => noOpnds
  | .checkpointStream => noOpnds
  | .launchCompletion _ => noOpnds
  | .watchdogExpiry _ => noOpnds
  | .cqHeadWrite _ _ => noOpnds
  | .faultConsumerIndex _ => noOpnds
  | .resolutionWord _ => noOpnds
  | .attestationRequest _ _ => noOpnds
  | .recoveryRequest _ _ => noOpnds
  | .hostMemoryAccess _ _ _ => noOpnds
  | .powerOn _ _ => noOpnds
  | .remoteAccessTimeout _ => noOpnds
  | .flitArrival _ _ _ => noOpnds
  | .flitAck _ _ => noOpnds
  | .flitNak _ _ _ => noOpnds
  | .replayRequest _ _ _ => noOpnds
  | .endToEndAck _ _ => noOpnds
  | .controlSpaceTaskStart _ _ _ _ => noOpnds
  | .coreRestart _ => noOpnds
  | .stageConfigStore _ _ _ _ _ => noOpnds
  | .routeTableWrite _ _ _ => noOpnds
  | .psTableWrite _ _ => noOpnds
  | .permissionTableWrite _ _ _ _ => noOpnds
  | .floorWrite _ _ _ _ => noOpnds
  | .encodingError _ _ _ => noOpnds
  | .queueConfigurationWrite _ _ _ => noOpnds
  | .modeChange _ => noOpnds
  | .podBarrierArrival _ _ => noOpnds
  | .firmwareGridStart _ _ _ _ => noOpnds
  | .contextAbortEnd _ => noOpnds
  | .darkroomAbortRequest _ _ => noOpnds

/-- R233, R265, R323: the members that may issue past accesses awaiting translation: register-only ones, stores, and loads, which
`State.access` holds back where they name no RC page. -/
def passesWaiting : Instr → Bool
  | .add _ _ _ _ _ => true
  | .sub _ _ _ _ _ => true
  | .mul _ _ _ _ _ => true
  | .mulhS _ _ _ _ _ => true
  | .mulhZ _ _ _ _ _ => true
  | .divS _ _ _ _ _ => true
  | .divZ _ _ _ _ _ => true
  | .remS _ _ _ _ _ => true
  | .remZ _ _ _ _ _ => true
  | .and _ _ _ _ _ => true
  | .or _ _ _ _ _ => true
  | .xor _ _ _ _ _ => true
  | .andn _ _ _ _ _ => true
  | .orn _ _ _ _ _ => true
  | .shl _ _ _ _ _ => true
  | .shr _ _ _ _ _ => true
  | .sar _ _ _ _ _ => true
  | .rol _ _ _ _ _ => true
  | .ror _ _ _ _ _ => true
  | .minS _ _ _ _ _ => true
  | .minZ _ _ _ _ _ => true
  | .maxS _ _ _ _ _ => true
  | .maxZ _ _ _ _ _ => true
  | .clz _ _ _ => true
  | .ctz _ _ _ => true
  | .popc _ _ _ => true
  | .bswap _ _ _ => true
  | .lea1 _ _ _ _ _ => true
  | .lea2 _ _ _ _ _ => true
  | .lea3 _ _ _ _ _ => true
  | .cmp _ _ _ _ _ _ => true
  | .addi _ _ _ _ => true
  | .andi _ _ _ _ => true
  | .ori _ _ _ _ => true
  | .xori _ _ _ _ => true
  | .shli _ _ _ _ => true
  | .shri _ _ _ _ => true
  | .sari _ _ _ _ => true
  | .cmpi _ _ _ _ _ => true
  | .liS _ _ => true
  | .liZ _ _ => true
  | .lih _ _ => true
  | .bextS _ _ _ _ _ => true
  | .bextZ _ _ _ _ _ => true
  | .bins _ _ _ _ _ => true
  | .pand _ _ _ => true
  | .por _ _ _ => true
  | .pxor _ _ _ => true
  | .pandn _ _ _ => true
  | .pnot _ _ => true
  | .pmov _ _ => true
  | .pget _ => true
  | .pput _ _ _ _ => true
  | .br _ _ _ => true
  | .call _ => true
  | .jr _ _ => true
  | .jalr _ _ _ => true
  | .nop => true
  | .endTask => false
  | .yield => false
  | .trap _ => false
  | .eret _ _ => false
  | .halt => false
  | .brk => false
  | .ldZ _ _ _ _ _ _ => true
  | .ldS _ _ _ _ _ _ => true
  | .st _ _ _ _ _ _ => true
  | .ldv _ _ _ _ _ => true
  | .stv _ _ _ _ _ => true
  | .ldvt _ _ _ _ _ => true
  | .fence _ _ => false
  | .pf _ => false
  | .qbind _ _ _ => false
  | .qfree _ => false
  | .salloc _ _ _ _ => false
  | .qstat _ _ => false
  | .qget _ _ => false
  | .qgetv _ _ => false
  | .amo32 _ _ _ _ _ => false
  | .amo64 _ _ _ _ _ => false
  | .faddF32 _ _ _ _ _ => false
  | .faddF16 _ _ _ _ _ => false
  | .faddF64 _ _ _ _ _ => false
  | .faddBf16 _ _ _ _ _ => false
  | .decp _ _ _ => false
  | .waita _ _ _ _ _ => false
  | .barQuad => false
  | .barClus => false
  | .barDie => false
  | .barMod => false
  | .barPod => false
  | .boinit _ _ _ _ => false
  | .boarr _ _ _ _ => false
  | .bowait _ _ _ _ => false
  | .fork _ _ _ _ _ => false
  | .join _ _ => false
  | .rfork _ _ _ _ => false
  | .post _ _ _ _ => false
  | .cdinit _ _ _ _ => false
  | .grow _ _ _ => false
  | .shrink _ _ _ => false
  | .stgpush _ _ _ _ _ => false
  | .stgsub _ _ => false
  | .park _ _ => false
  | .send _ _ _ _ _ => false
  | .cmask _ _ => false
  | .cunmask _ _ => false
  | .cpend _ _ _ => false
  | .swapx _ _ _ _ => false
  | .sendr _ _ _ _ _ _ => false
  | .vadd _ _ _ _ => true
  | .vsub _ _ _ _ => true
  | .vmul _ _ _ _ => true
  | .vmin _ _ _ _ => true
  | .vmax _ _ _ _ => true
  | .vand _ _ _ => true
  | .vor _ _ _ => true
  | .vxor _ _ _ => true
  | .vandn _ _ _ => true
  | .vshl _ _ _ _ => true
  | .vshr _ _ _ _ => true
  | .vsar _ _ _ _ => true
  | .vmov _ _ => true
  | .vfma _ _ _ _ _ => true
  | .vfms _ _ _ _ _ => true
  | .vfnma _ _ _ _ _ => true
  | .vfnms _ _ _ _ _ => true
  | .vcvt _ _ _ _ _ => true
  | .vrcp _ _ _ => true
  | .vrsqrt _ _ _ => true
  | .vsqrt _ _ _ => true
  | .vexp2 _ _ _ => true
  | .vlog2 _ _ _ => true
  | .vdiv _ _ _ _ => true
  | .vperm _ _ _ _ => true
  | .vbcast _ _ _ => true
  | .vins _ _ _ _ => true
  | .vext _ _ _ _ => true
  | .vredAdd _ _ _ => true
  | .vredMin _ _ _ => true
  | .vredMax _ _ _ => true
  | .vpack _ _ _ _ => true
  | .vunpkLo _ _ _ => true
  | .vunpkHi _ _ _ => true
  | .vzip _ _ _ _ => true
  | .vunzip _ _ _ _ => true
  | .vcmp _ _ _ _ _ => true
  | .vclass _ _ _ => true
  | .vsel _ _ _ _ => true
  | .vdot _ _ _ _ _ => true
  | .vdotI _ _ _ _ _ => true
  | .lks _ _ _ => false
  | .lkm _ _ _ _ _ => false
  | .lkq _ _ => false
  | .lkdrain _ _ => false
  | .lkload _ _ => false
  | .lkfrz _ => false
  | .lkthw _ => false
  | .lkcan _ _ _ => false
  | .cpy _ _ _ => false
  | .gat _ _ _ => false
  | .sca _ _ _ => false
  | .redc _ _ _ => false
  | .bct _ _ _ => false
  | .tdset _ _ => false
  | .tdget _ _ _ => false
  | .tdinv _ => false
  | .gmacc _ _ _ => false
  | .gmsub _ _ _ => false
  | .gmelim _ _ _ => false
  | .gmdamp _ _ => false
  | .gmmean _ _ _ => false
  | .gmres _ _ _ => false
  | .gmsend _ _ => false
  | .gmcpy _ _ => false
  | .tlbw _ _ _ _ _ => false
  | .tlbi _ _ _ _ => false
  | .fres _ _ _ _ => false
  | .ctxs _ _ => false
  | .ctxl _ _ => false
  | .wtab _ _ _ _ => false
  | .wclose _ _ => false
  | .wopen _ _ => false
  | .rmap _ _ _ _ => false
  | .evac _ _ _ _ => false
  | .getc _ _ => false
  | .setc _ _ _ => false
  | .smrReissue _ _ _ => false
  | .fmthAdmit _ => false
  | .fmthRefuse _ => false
  | .tprdWrite _ _ => false
  | .alstClear _ => false
  | .cmaskWrite _ _ => false
  | .iclWrite _ _ => false
  | .pceilWrite _ => false
  | .counterWrite _ _ _ => false
  | .taskStart _ _ => false
  | .l0HandlerStart _ => false
  | .deferredTrapDelivery _ _ => false
  | .spillRefill _ _ => false
  | .antiStarvationTurn _ => false
  | .fetchDutyWindow _ => false
  | .stealRound _ => false
  | .stealRequest _ _ => false
  | .stagePop _ => false
  | .governorWindow _ => false
  | .swapQuantum _ => false
  | .teamSwapOut _ => false
  | .teamSwapIn _ => false
  | .watchWake _ _ => false
  | .waitaTimeout _ => false
  | .parkTimeout _ => false
  | .registerFill _ => false
  | .remoteAccessAtHome _ => false
  | .releaseRetry _ => false
  | .commitToken _ => false
  | .releaseWithdraw _ => false
  | .scopeMissReturn _ => false
  | .refusalReturn _ => false
  | .tlbMissMessage _ _ _ => false
  | .packetHeadRouting _ => false
  | .messageArrival _ => false
  | .gmRecordArrival _ => false
  | .heldAlertRetry _ => false
  | .enginePairing _ => false
  | .jobStart _ => false
  | .beatPull _ => false
  | .rowSend _ => false
  | .resultPacketArrival _ => false
  | .streamRowDelivery _ => false
  | .tileEndArrival _ => false
  | .engwaitTimeout _ _ => false
  | .swapxTimeout _ _ => false
  | .copyJobStart _ => false
  | .copyUnit _ _ _ => false
  | .bctArrival _ => false
  | .gmuRequestStart _ => false
  | .gmuRequestComplete _ => false
  | .budgetPeriod _ _ => false
  | .monitorSample _ _ => false
  | .sensorSample _ => false
  | .stateRequest _ => false
  | .transitionStart => false
  | .islandStepDown _ => false
  | .diePark _ => false
  | .dieUnpark _ => false
  | .sqDoorbell _ _ => false
  | .launchRecord _ => false
  | .createContextRecord _ => false
  | .destroyContextRecord _ => false
  | .checkpointRecord _ => false
  | .checkpointStream => false
  | .launchCompletion _ => false
  | .watchdogExpiry _ => false
  | .cqHeadWrite _ _ => false
  | .faultConsumerIndex _ => false
  | .resolutionWord _ => false
  | .attestationRequest _ _ => false
  | .recoveryRequest _ _ => false
  | .hostMemoryAccess _ _ _ => false
  | .powerOn _ _ => false
  | .remoteAccessTimeout _ => false
  | .flitArrival _ _ _ => false
  | .flitAck _ _ => false
  | .flitNak _ _ _ => false
  | .replayRequest _ _ _ => false
  | .endToEndAck _ _ => false
  | .controlSpaceTaskStart _ _ _ _ => false
  | .coreRestart _ => false
  | .stageConfigStore _ _ _ _ _ => false
  | .routeTableWrite _ _ _ => false
  | .psTableWrite _ _ => false
  | .permissionTableWrite _ _ _ _ => false
  | .floorWrite _ _ _ _ => false
  | .encodingError _ _ _ => false
  | .queueConfigurationWrite _ _ _ => false
  | .modeChange _ => false
  | .podBarrierArrival _ _ => false
  | .firmwareGridStart _ _ _ _ => false
  | .contextAbortEnd _ => false
  | .darkroomAbortRequest _ _ => false

/-- R20: every register named lies within an allotment of `n` steps (R15). -/
def withinAllot (n : Nat) (o : Opnds) : Bool :=
  o.sg.all (fun e => decide (e.1 < 16 * n)) && o.sv.all (fun r => decide (r < 8 * n)) &&
  (match o.dg with | some r => decide (r < 16 * n) | none => true) && o.dv.all (fun r => decide (r < 8 * n))

/-- What the source check finds: all full, a stall, or the EMPTY trap of a register (R72). -/
inductive SrcRes | full | wait | empty (r : Nat)
  deriving DecidableEq, Repr

/-- R72: the `g` sources in field order: of two empty ones the first decides between the stall and the trap (log entry 88). -/
def checkG (x : Regs) : List (Nat × Option Bool) → SrcRes
  | [] => .full
  | (r, e) :: t =>
    if x.emptyG r then (match e with | some true => .empty r | _ => .wait) else checkG x t

/-- R72: all sources. -/
def checkSources (x : Regs) (o : Opnds) : SrcRes :=
  match checkG x o.sg with
  | .full => if o.sv.any (fun r => x.emptyV r) then .wait else .full
  | r => r

/-- R73: a destination is empty. -/
def destEmpty (x : Regs) (o : Opnds) : Bool :=
  (match o.dg with | some r => x.emptyG r | none => false) || o.dv.any (fun r => x.emptyV r)

/-! ### Control register numbers (R76, R77) -/

/-- The access classes of R77; `absent` is a number that does not exist on the core. -/
inductive CrClass | rw | ro | l0 | l0r | sl | absent
  deriving DecidableEq, Repr

/-- The class of an own-slot number (R79). -/
def slotCrClass (n : Nat) : CrClass :=
  if n ≤ 4 then .ro else if 8 ≤ n ∧ n ≤ 0xC then .rw else if 0x10 ≤ n ∧ n ≤ 0x15 then .l0r
  else if 0x18 ≤ n ∧ n ≤ 0x1F then .rw else .absent

/-- The class of a per-core number (R87). -/
def coreCrClass (n : Nat) : CrClass :=
  if n = 0x100 ∨ n = 0x101 ∨ n = 0x104 ∨ n = 0x106 then .ro
  else if n = 0x108 ∨ (0x110 ≤ n ∧ n ≤ 0x117) then .rw
  else if n = 0x102 ∨ n = 0x103 ∨ n = 0x105 ∨ n = 0x107 ∨ n = 0x109 ∨ (0x10C ≤ n ∧ n ≤ 0x10F) ∨ (0x120 ≤ n ∧ n ≤ 0x126) then .l0
  else .absent

/-- The class of a management number on MC0 or MC1 (R92; on MC0 the registers of MC1's L0 are read only, log entry 12). -/
def mgmtCrClass (c n : Nat) : CrClass :=
  if (0x200 ≤ n ∧ n ≤ 0x22F) ∨ n = 0x271 ∨ n = 0x276 then .ro
  else if (0x230 ≤ n ∧ n ≤ 0x247) ∨ (0x250 ≤ n ∧ n ≤ 0x267) ∨ (0x272 ≤ n ∧ n ≤ 0x275) then (if c = mc1 then .l0 else .ro)
  else if n = 0x270 then .sl
  else .absent

/-- R76: which spaces are present on which core. -/
def crClass (c n : Nat) : CrClass :=
  if n < 0x100 then slotCrClass n
  else if n < 0x200 then (if isCompute c then coreCrClass n else .absent)
  else if n < 0x300 then (if isMc c then mgmtCrClass c n else .absent)
  else if 0x1000 ≤ n ∧ n < 0x1800 then slotCrClass (n % 0x100)
  else .absent

/-- A cross-slot number (R76, R77). -/
def crCross (n : Nat) : Bool := decide (0x1000 ≤ n)

/-- R77: the trap of a read by a slot at level 0 or not, if any (1 ILLEGAL, 21 PRIVILEGED). -/
def crReadTrap (c n : Nat) (l0 : Bool) : Option Nat :=
  match crClass c n with
  | .absent => some 1
  | .l0r => if l0 then none else some 0x15
  | _ => if crCross n && !l0 then some 0x15 else none

/-- R77: the trap of a write, if any. Every slot of MC0 runs Safelight (R405). -/
def crWriteTrap (c n : Nat) (l0 : Bool) : Option Nat :=
  match crClass c n with
  | .absent => some 1
  | .ro => if crCross n && !l0 then some 0x15 else some 1
  | .rw => if crCross n && !l0 then some 0x15 else none
  | .l0 | .l0r => if l0 then none else some 0x15
  | .sl => if c = mc0 then none else some 0x15

/-! ### Privilege (R75, R280, R348) -/

/-- The issuing slot is at L0 (R9). -/
def State.atL0 (s : State) : Bool := decide (s.cur.slot < 2)

/-- The PRIVILEGED trap of an instruction (cause 0x15), or the ILLEGAL or PRIVILEGED trap of a control register. -/
def privTrap (i : Instr) (s : State) : Option Nat :=
  let l0 := s.atL0
  let fw := s.me.ctl.fw
  let c := s.cur.core
  let need := fun (b : Bool) => if b then none else some 0x15
  match i with
  | .eret _ _ => need l0
  | .halt => need (l0 && fw)
  | .lkdrain _ _ | .lkload _ _ => need l0
  | .lkfrz _ | .lkthw _ => need l0
  | .tlbw _ _ _ _ _ | .fres _ _ _ _ => need (isTsc c && fw)
  | .tlbi _ _ _ _ => need ((isTsc c || isMc c) && fw)
  | .ctxs _ _ | .ctxl _ _ => need (l0 && fw)
  | .rmap _ _ _ _ | .evac _ _ _ _ => need (isMc c && fw)
  | .getc _ n => crReadTrap c n.toNat l0
  | .setc _ _ n => crWriteTrap c n.toNat l0
  | _ => none

/-- The checks and stalls before an instruction's own effect (R75, R72, R73, R233): `none` when it goes on, else the
state after its trap or with its slot stalled. -/
def enter (i : Instr) (s : State) : Option State :=
  let o := operands i
  let w := s.me
  if !withinAllot w.ctl.allot o then some (s.trap 2 0 0)
  else
    match privTrap i s with
    | some cause => some (s.trap cause 0 0)
    | none =>
      match checkSources w.regs o with
      | .empty r => some (s.trap 3 0 (wordOf r))
      | .wait => some (s.stallFor .empty)
      | .full =>
        if !passesWaiting i && !s.curSlot.waiting.isEmpty then some (s.stallFor .ordering)
        else if destEmpty w.regs o then some (s.stallFor .empty)
        else none

/-- An instruction whose effect, once entered, is `k`. -/
def entered (i : Instr) (s : State) (k : State → State) : Host.Outcome State Fault Refusal :=
  match enter i s with
  | some t => .next t
  | none => .next (k s)

end Sys2Proof.Machine
end

