-- ==== Sys2Proof/Machine/Flags.lean ====
section
/-! DEFINITION. Flag computations: FPC's fields, merging raised flags or taking FPEXC (R55, R57, R58), and the last
steps of a lane: the modifier word, rounding, clamp and saturation (R59, R60, R61). -/

namespace Sys2Proof.Machine

/-- The FPC that the issuing instruction captured (R58). -/
def State.fpc (s : State) : Word :=
  match s.curSlot.cap with
  | some (f, _) => f
  | none => s.me.ctl.fpc

/-- The NFC that the issuing instruction captured (R58). -/
def State.nfc (s : State) : Word :=
  match s.curSlot.cap with
  | some (_, n) => n
  | none => s.me.ctl.nfc

/-- FPC.RM. -/
def fpcRm (w : Word) : Nat := bits w 1 0
/-- FPC.FZI. -/
def fpcFzi (w : Word) : Bool := wbit w 2
/-- FPC.FZO. -/
def fpcFzo (w : Word) : Bool := wbit w 3
/-- FPC's enables, in the order of the flags. -/
def fpcEnables (w : Word) : Nat := bits w 13 9

/-- Flags ORed into FPC[8:4]. -/
def fpcMerge (w : Word) (f : Flags) : Word := w ||| wordOf (f.toNat * 16)

/-- R57: whether a raised flag has its enable set. -/
def Flags.trapped (f : Flags) (fpc : Word) : Bool := decide (f.toNat &&& fpcEnables fpc ≠ 0)

/-- The end of every flag-raising instruction (R57): the flags merge, or the instruction traps with nothing written. -/
def State.retireF (s : State) (d : VReg) (v : Vec) (f : Flags) : State :=
  if f.trapped s.fpc then s.trap 0xC 0 (wordOf f.toNat)
  else (s.modCtl (fun c => { c with fpc := fpcMerge c.fpc f })).retireV d v

/-! ### The modifier (R59, R60) -/

/-- The scale of a modifier, -32 to 31. -/
def modExp (m : Modifier) : Int := toSigned 6 m.scale.toNat

/-- abs, neg and scale on the exact value. -/
def modValue (m : Option Modifier) (x : Fv) : Fv :=
  match m with
  | none => x
  | some m =>
    let a := if m.abs then x.abs else x
    let b := if m.neg then a.neg else a
    b.scale (modExp m)

/-- A clamp bound of a format: the format's value nearest to 0, 1 or -1 (R59). -/
def clampBound (f : Fmt) (neg : Bool) (mag : Nat) : Nat :=
  match f.round 0 false (.fin neg mag 0) with
  | (c, fl) => if f.narrow && fl.of then f.signed neg f.maxCode else c

/-- The lower bound of a clamp. -/
def clampLow (f : Fmt) (clamp : Nat) : Nat := if clamp = 2 then clampBound f true 1 else clampBound f false 0

/-- Clamp of a code, with -0 less than +0 and a NaN mapped to the lower bound. -/
def clampCode (f : Fmt) (clamp : Nat) (c : Nat) : Nat :=
  if clamp = 0 then c
  else
    let lo := clampLow f clamp
    let hi := clampBound f false 1
    if (f.decode c).isNan then lo
    else
      let y := if f.key c < f.key lo then lo else c
      if clamp = 3 then y else if f.key hi < f.key y then hi else y

/-- Saturation of a code: an infinity becomes the largest finite of its sign. -/
def satCode (f : Fmt) (c : Nat) : Nat :=
  match f.decode c with
  | .inf neg => f.signed neg f.maxCode
  | _ => c

/-- R59, R326: the last steps of a lane with a floating or narrow destination. -/
def finishLane (f : Fmt) (rm : Nat) (fzo : Bool) (m : Option Modifier) (x : Fv) : Nat × Flags :=
  match f.round rm fzo (modValue m x) with
  | (c, fl) =>
    match m with
    | none => (c, fl)
    | some m =>
      let y := clampCode f m.clamp.toNat c
      (if m.sat then satCode f y else y, fl)

/-- Least value of an integer type. -/
def intMin (sg : Bool) (w : Nat) : Int := if sg then -((2 ^ (w - 1) : Nat) : Int) else 0
/-- Greatest value of an integer type. -/
def intMax (sg : Bool) (w : Nat) : Int := if sg then ((2 ^ (w - 1) : Nat) : Int) - 1 else ((2 ^ w : Nat) : Int) - 1

/-- Saturation to an integer type's range. -/
def intSat (sg : Bool) (w : Nat) (x : Int) : Int := max (intMin sg w) (min (intMax sg w) x)

/-- R60: abs, neg and clamp in the exact integer domain. -/
def modInt (m : Option Modifier) (x : Int) : Int :=
  match m with
  | none => x
  | some m =>
    let a := if m.abs then (x.natAbs : Int) else x
    let b := if m.neg then -a else a
    if m.clamp = 3 then max b 0 else b

/-- Whether the modifier saturates. -/
def modSat (m : Option Modifier) : Bool := match m with | some m => m.sat | none => false

/-- R60: the last steps of a lane with an integer destination: the code. -/
def finishInt (sg : Bool) (w : Nat) (m : Option Modifier) (x : Int) : Nat :=
  let y := modInt m x
  wrapTo w (if modSat m then intSat sg w y else y)

/-- R61, R333: a floating or narrow value into an integer type. NV goes alone (log entry 14). -/
def floatToInt (sg : Bool) (w rm : Nat) (m : Option Modifier) (x : Fv) : Nat × Flags :=
  match x with
  | .nan _ => (0, Flags.invalid)
  | .inf neg =>
    let a := if (match m with | some m => m.abs | none => false) then false else neg
    let b := if (match m with | some m => m.neg | none => false) then !a else a
    if b && (match m with | some m => m.clamp == 3 | none => false) then (0, Flags.zero)
    else (wrapTo w (if b then intMin sg w else intMax sg w), Flags.invalid)
  | .fin neg mg e =>
    match intOf rm neg mg e with
    | (q, nx) =>
      let y := modInt m q
      if y < intMin sg w ∨ intMax sg w < y then (wrapTo w (intSat sg w y), Flags.invalid)
      else (wrapTo w y, { Flags.zero with nx := nx })

end Sys2Proof.Machine
end

