-- ==== Sys2Proof/Machine/Alu.lean ====
section
/-! DEFINITION. 13_isa_scalar: the integer ALU, immediates, literals, bit fields, compares and predicate operations
(R264 to R275). -/

namespace Sys2Proof.Machine

/-! ### Shared operations -/

/-- The high half of a product of integers (R267). -/
def mulHigh (x y : Int) : Word := BitVec.ofInt 64 (x * y / 18446744073709551616)

/-- R268: the quotient, toward zero, and the remainder, with the sign of the dividend; B is not zero. -/
def quotS (a b : Word) : Word := BitVec.ofInt 64 (a.toInt.tdiv b.toInt)
/-- R268: the signed remainder. -/
def remdS (a b : Word) : Word := BitVec.ofInt 64 (a.toInt.tmod b.toInt)
/-- R268: the unsigned quotient. -/
def quotZ (a b : Word) : Word := wordOf (a.toNat / b.toNat)
/-- R268: the unsigned remainder. -/
def remdZ (a b : Word) : Word := wordOf (a.toNat % b.toNat)

/-- R268: INTDIV0 when B is 0, else `gd` is written. -/
def divide (d : GReg) (b : Word) (r : Word) (s : State) : State :=
  if b = 0 then s.trap 0x17 0 0 else s.retireG d r

/-- A shift count: bits 5:0 (R267). -/
def count6 (b : Word) : Nat := bits b 5 0

/-- Rotation left (R267). -/
def rotl (a : Word) (n : Nat) : Word := if n = 0 then a else (a <<< n) ||| (a >>> (64 - n))
/-- Rotation right (R267). -/
def rotr (a : Word) (n : Nat) : Word := if n = 0 then a else (a >>> n) ||| (a <<< (64 - n))

/-- Number of leading zero bits of the low `k` bits of `n` (R267). -/
def leadingZeros : Nat → Nat → Nat
  | 0, _ => 0
  | k + 1, n => if bitAt n k then 0 else 1 + leadingZeros k n

/-- R267: byte i of the result is byte 7 - i. -/
def byteSwap (a : Word) : Word := wordOf (ofBytes (bytesOf 8 a.toNat).reverse)

/-- R273: the condition of a compare. -/
def condHolds (cc : Cond) (a b : Word) : Bool :=
  match cc with
  | .eq => a == b
  | .ne => a != b
  | .ltS => decide (a.toInt < b.toInt)
  | .ltZ => decide (a.toNat < b.toNat)
  | .leS => decide (a.toInt ≤ b.toInt)
  | .leZ => decide (a.toNat ≤ b.toNat)
  | .gtS => decide (b.toInt < a.toInt)
  | .gtZ => decide (b.toNat < a.toNat)
  | .geS => decide (b.toInt ≤ a.toInt)
  | .geZ => decide (b.toNat ≤ a.toNat)
  | .tst => (a &&& b) != 0

/-- The sign-extended immediate of form I (R269). -/
def imm13 (i : BitVec 13) : Word := i.signExtend 64
/-- The sign-extended immediate of `cmpi` (R274). -/
def imm9 (i : BitVec 9) : Word := i.signExtend 64

/-- Width of a bit-field member (R252). -/
def fieldWidth (wm1 : BitVec 5) : Nat := wm1.toNat + 1

/-- R272: the field of A. -/
def fieldOf (a : Word) (pos : BitVec 6) (wm1 : BitVec 5) : Nat := fld a.toNat pos.toNat (fieldWidth wm1)

/-- R272: the field of A put into D. -/
def fieldIns (d a : Word) (pos : BitVec 6) (wm1 : BitVec 5) : Word :=
  let w := fieldWidth wm1
  let mask := wordOf (2 ^ w - 1)
  (d &&& ~~~(mask <<< pos.toNat)) ||| ((a &&& mask) <<< pos.toNat)

/-- R275: bit i of the value is p[i]. -/
def predWord (x : Regs) : Word := wordOf (ofLanes 1 ((List.range 8).map (fun i => b2n (x.getP i))))

/-- R275: p[i] takes A[i] where B[i] is 1, for i from 1 to 7. -/
def predPut (x : Regs) (a b : Word) : Regs :=
  [1, 2, 3, 4, 5, 6, 7].foldl (fun y i => if wbit b i then y.setP i (wbit a i) else y) x

/-! ### Integer ALU (R267, R268) -/

/-- R267: `add`. -/
def execAdd (d a b : GReg) (ea eb : Bool) (s : State) : Host.Outcome State Fault Refusal :=
  entered (.add d a b ea eb) s (fun s => s.retireG d (s.g a + s.g b))

/-- R267: `sub`. -/
def execSub (d a b : GReg) (ea eb : Bool) (s : State) : Host.Outcome State Fault Refusal :=
  entered (.sub d a b ea eb) s (fun s => s.retireG d (s.g a - s.g b))

/-- R267: `mul`. -/
def execMul (d a b : GReg) (ea eb : Bool) (s : State) : Host.Outcome State Fault Refusal :=
  entered (.mul d a b ea eb) s (fun s => s.retireG d (s.g a * s.g b))

/-- R267: `mulhS`. -/
def execMulhS (d a b : GReg) (ea eb : Bool) (s : State) : Host.Outcome State Fault Refusal :=
  entered (.mulhS d a b ea eb) s (fun s => s.retireG d (mulHigh (s.g a).toInt (s.g b).toInt))

/-- R267: `mulhZ`. -/
def execMulhZ (d a b : GReg) (ea eb : Bool) (s : State) : Host.Outcome State Fault Refusal :=
  entered (.mulhZ d a b ea eb) s (fun s => s.retireG d (mulHigh (s.g a).toNat (s.g b).toNat))

/-- R268: `divS`. -/
def execDivS (d a b : GReg) (ea eb : Bool) (s : State) : Host.Outcome State Fault Refusal :=
  entered (.divS d a b ea eb) s (fun s => divide d (s.g b) (quotS (s.g a) (s.g b)) s)

/-- R268: `divZ`. -/
def execDivZ (d a b : GReg) (ea eb : Bool) (s : State) : Host.Outcome State Fault Refusal :=
  entered (.divZ d a b ea eb) s (fun s => divide d (s.g b) (quotZ (s.g a) (s.g b)) s)

/-- R268: `remS`. -/
def execRemS (d a b : GReg) (ea eb : Bool) (s : State) : Host.Outcome State Fault Refusal :=
  entered (.remS d a b ea eb) s (fun s => divide d (s.g b) (remdS (s.g a) (s.g b)) s)

/-- R268: `remZ`. -/
def execRemZ (d a b : GReg) (ea eb : Bool) (s : State) : Host.Outcome State Fault Refusal :=
  entered (.remZ d a b ea eb) s (fun s => divide d (s.g b) (remdZ (s.g a) (s.g b)) s)

/-- R267: `and`. -/
def execAnd (d a b : GReg) (ea eb : Bool) (s : State) : Host.Outcome State Fault Refusal :=
  entered (.and d a b ea eb) s (fun s => s.retireG d (s.g a &&& s.g b))

/-- R267: `or`. -/
def execOr (d a b : GReg) (ea eb : Bool) (s : State) : Host.Outcome State Fault Refusal :=
  entered (.or d a b ea eb) s (fun s => s.retireG d (s.g a ||| s.g b))

/-- R267: `xor`. -/
def execXor (d a b : GReg) (ea eb : Bool) (s : State) : Host.Outcome State Fault Refusal :=
  entered (.xor d a b ea eb) s (fun s => s.retireG d (s.g a ^^^ s.g b))

/-- R267: `andn`. -/
def execAndn (d a b : GReg) (ea eb : Bool) (s : State) : Host.Outcome State Fault Refusal :=
  entered (.andn d a b ea eb) s (fun s => s.retireG d (s.g a &&& ~~~s.g b))

/-- R267: `orn`. -/
def execOrn (d a b : GReg) (ea eb : Bool) (s : State) : Host.Outcome State Fault Refusal :=
  entered (.orn d a b ea eb) s (fun s => s.retireG d (s.g a ||| ~~~s.g b))

/-- R267: `shl`. -/
def execShl (d a b : GReg) (ea eb : Bool) (s : State) : Host.Outcome State Fault Refusal :=
  entered (.shl d a b ea eb) s (fun s => s.retireG d (s.g a <<< count6 (s.g b)))

/-- R267: `shr`. -/
def execShr (d a b : GReg) (ea eb : Bool) (s : State) : Host.Outcome State Fault Refusal :=
  entered (.shr d a b ea eb) s (fun s => s.retireG d (s.g a >>> count6 (s.g b)))

/-- R267: `sar`. -/
def execSar (d a b : GReg) (ea eb : Bool) (s : State) : Host.Outcome State Fault Refusal :=
  entered (.sar d a b ea eb) s (fun s => s.retireG d ((s.g a).sshiftRight (count6 (s.g b))))

/-- R267: `rol`. -/
def execRol (d a b : GReg) (ea eb : Bool) (s : State) : Host.Outcome State Fault Refusal :=
  entered (.rol d a b ea eb) s (fun s => s.retireG d (rotl (s.g a) (count6 (s.g b))))

/-- R267: `ror`. -/
def execRor (d a b : GReg) (ea eb : Bool) (s : State) : Host.Outcome State Fault Refusal :=
  entered (.ror d a b ea eb) s (fun s => s.retireG d (rotr (s.g a) (count6 (s.g b))))

/-- R267: `minS`. -/
def execMinS (d a b : GReg) (ea eb : Bool) (s : State) : Host.Outcome State Fault Refusal :=
  entered (.minS d a b ea eb) s (fun s => s.retireG d (if (s.g a).toInt ≤ (s.g b).toInt then s.g a else s.g b))

/-- R267: `minZ`. -/
def execMinZ (d a b : GReg) (ea eb : Bool) (s : State) : Host.Outcome State Fault Refusal :=
  entered (.minZ d a b ea eb) s (fun s => s.retireG d (if (s.g a).toNat ≤ (s.g b).toNat then s.g a else s.g b))

/-- R267: `maxS`. -/
def execMaxS (d a b : GReg) (ea eb : Bool) (s : State) : Host.Outcome State Fault Refusal :=
  entered (.maxS d a b ea eb) s (fun s => s.retireG d (if (s.g a).toInt ≤ (s.g b).toInt then s.g b else s.g a))

/-- R267: `maxZ`. -/
def execMaxZ (d a b : GReg) (ea eb : Bool) (s : State) : Host.Outcome State Fault Refusal :=
  entered (.maxZ d a b ea eb) s (fun s => s.retireG d (if (s.g a).toNat ≤ (s.g b).toNat then s.g b else s.g a))

/-- R267: `clz`. -/
def execClz (d a : GReg) (ea : Bool) (s : State) : Host.Outcome State Fault Refusal :=
  entered (.clz d a ea) s (fun s => s.retireG d (wordOf (leadingZeros 64 (s.g a).toNat)))

/-- R267: `ctz`. -/
def execCtz (d a : GReg) (ea : Bool) (s : State) : Host.Outcome State Fault Refusal :=
  entered (.ctz d a ea) s (fun s => s.retireG d (wordOf (trailingZeros 64 (s.g a).toNat)))

/-- R267: `popc`. -/
def execPopc (d a : GReg) (ea : Bool) (s : State) : Host.Outcome State Fault Refusal :=
  entered (.popc d a ea) s (fun s => s.retireG d (wordOf (popCount 64 (s.g a).toNat)))

/-- R267: `bswap`. -/
def execBswap (d a : GReg) (ea : Bool) (s : State) : Host.Outcome State Fault Refusal :=
  entered (.bswap d a ea) s (fun s => s.retireG d (byteSwap (s.g a)))

/-- R267: `lea1`. -/
def execLea1 (d a b : GReg) (ea eb : Bool) (s : State) : Host.Outcome State Fault Refusal :=
  entered (.lea1 d a b ea eb) s (fun s => s.retireG d (s.g a + (s.g b <<< 1)))

/-- R267: `lea2`. -/
def execLea2 (d a b : GReg) (ea eb : Bool) (s : State) : Host.Outcome State Fault Refusal :=
  entered (.lea2 d a b ea eb) s (fun s => s.retireG d (s.g a + (s.g b <<< 2)))

/-- R267: `lea3`. -/
def execLea3 (d a b : GReg) (ea eb : Bool) (s : State) : Host.Outcome State Fault Refusal :=
  entered (.lea3 d a b ea eb) s (fun s => s.retireG d (s.g a + (s.g b <<< 3)))

/-! ### Compares, immediates and literals (R269 to R274, R258) -/

/-- R273. -/
def execCmp (pd : PReg) (a b : GReg) (ea eb : Bool) (cc : Cond) (s : State) : Host.Outcome State Fault Refusal :=
  entered (.cmp pd a b ea eb cc) s (fun s => s.retireP pd (condHolds cc (s.g a) (s.g b)))

/-- R269: `addi`. -/
def execAddi (d a : GReg) (ea : Bool) (imm : BitVec 13) (s : State) : Host.Outcome State Fault Refusal :=
  entered (.addi d a ea imm) s (fun s => s.retireG d (s.g a + imm13 imm))

/-- R269: `andi`. -/
def execAndi (d a : GReg) (ea : Bool) (imm : BitVec 13) (s : State) : Host.Outcome State Fault Refusal :=
  entered (.andi d a ea imm) s (fun s => s.retireG d (s.g a &&& imm13 imm))

/-- R269: `ori`. -/
def execOri (d a : GReg) (ea : Bool) (imm : BitVec 13) (s : State) : Host.Outcome State Fault Refusal :=
  entered (.ori d a ea imm) s (fun s => s.retireG d (s.g a ||| imm13 imm))

/-- R269: `xori`. -/
def execXori (d a : GReg) (ea : Bool) (imm : BitVec 13) (s : State) : Host.Outcome State Fault Refusal :=
  entered (.xori d a ea imm) s (fun s => s.retireG d (s.g a ^^^ imm13 imm))

/-- R270: `shli`. -/
def execShli (d a : GReg) (ea : Bool) (amount : BitVec 6) (s : State) : Host.Outcome State Fault Refusal :=
  entered (.shli d a ea amount) s (fun s => s.retireG d (s.g a <<< amount.toNat))

/-- R270: `shri`. -/
def execShri (d a : GReg) (ea : Bool) (amount : BitVec 6) (s : State) : Host.Outcome State Fault Refusal :=
  entered (.shri d a ea amount) s (fun s => s.retireG d (s.g a >>> amount.toNat))

/-- R270: `sari`. -/
def execSari (d a : GReg) (ea : Bool) (amount : BitVec 6) (s : State) : Host.Outcome State Fault Refusal :=
  entered (.sari d a ea amount) s (fun s => s.retireG d ((s.g a).sshiftRight amount.toNat))

/-- R274. -/
def execCmpi (pd : PReg) (a : GReg) (ea : Bool) (cc : Cond) (imm : BitVec 9) (s : State) : Host.Outcome State Fault Refusal :=
  entered (.cmpi pd a ea cc imm) s (fun s => s.retireP pd (condHolds cc (s.g a) (imm9 imm)))

/-- R258, R271: the sign-extended literal. -/
def execLiS (d : GReg) (lit : IWord) (s : State) : Host.Outcome State Fault Refusal :=
  entered (.liS d lit) s (fun s => s.retireG d (lit.signExtend 64))

/-- R258, R271: the zero-extended literal. -/
def execLiZ (d : GReg) (lit : IWord) (s : State) : Host.Outcome State Fault Refusal :=
  entered (.liZ d lit) s (fun s => s.retireG d (lit.zeroExtend 64))

/-- R258, R271: bits 63:32 set, bits 31:0 kept. -/
def execLih (d : GReg) (lit : IWord) (s : State) : Host.Outcome State Fault Refusal :=
  entered (.lih d lit) s (fun s => s.retireG d (wordOf ((s.g d).toNat % 2 ^ 32 + lit.toNat * 2 ^ 32)))

/-- R272. -/
def execBextS (d a : GReg) (ea : Bool) (pos : BitVec 6) (wm1 : BitVec 5) (s : State) : Host.Outcome State Fault Refusal :=
  entered (.bextS d a ea pos wm1) s (fun s => s.retireG d (sextWord (fieldWidth wm1) (fieldOf (s.g a) pos wm1)))

/-- R272. -/
def execBextZ (d a : GReg) (ea : Bool) (pos : BitVec 6) (wm1 : BitVec 5) (s : State) : Host.Outcome State Fault Refusal :=
  entered (.bextZ d a ea pos wm1) s (fun s => s.retireG d (wordOf (fieldOf (s.g a) pos wm1)))

/-- R272. -/
def execBins (d a : GReg) (ea : Bool) (pos : BitVec 6) (wm1 : BitVec 5) (s : State) : Host.Outcome State Fault Refusal :=
  entered (.bins d a ea pos wm1) s (fun s => s.retireG d (fieldIns (s.g d) (s.g a) pos wm1))

/-! ### Predicate operations (R275) -/

/-- R275: `pand`. -/
def execPand (pd pa pb : PReg) (s : State) : Host.Outcome State Fault Refusal :=
  entered (.pand pd pa pb) s (fun s => s.retireP pd (s.pr pa && s.pr pb))

/-- R275: `por`. -/
def execPor (pd pa pb : PReg) (s : State) : Host.Outcome State Fault Refusal :=
  entered (.por pd pa pb) s (fun s => s.retireP pd (s.pr pa || s.pr pb))

/-- R275: `pxor`. -/
def execPxor (pd pa pb : PReg) (s : State) : Host.Outcome State Fault Refusal :=
  entered (.pxor pd pa pb) s (fun s => s.retireP pd (s.pr pa != s.pr pb))

/-- R275: `pandn`. -/
def execPandn (pd pa pb : PReg) (s : State) : Host.Outcome State Fault Refusal :=
  entered (.pandn pd pa pb) s (fun s => s.retireP pd (s.pr pa && !s.pr pb))

/-- R275. -/
def execPnot (pd pa : PReg) (s : State) : Host.Outcome State Fault Refusal :=
  entered (.pnot pd pa) s (fun s => s.retireP pd (!s.pr pa))

/-- R275. -/
def execPmov (pd pa : PReg) (s : State) : Host.Outcome State Fault Refusal :=
  entered (.pmov pd pa) s (fun s => s.retireP pd (s.pr pa))

/-- R275. -/
def execPget (d : GReg) (s : State) : Host.Outcome State Fault Refusal :=
  entered (.pget d) s (fun s => s.retireG d (predWord s.me.regs))

/-- R275. -/
def execPput (a b : GReg) (ea eb : Bool) (s : State) : Host.Outcome State Fault Refusal :=
  entered (.pput a b ea eb) s (fun s => (s.modRegs (fun x => predPut x (s.g a) (s.g b))).retire)

end Sys2Proof.Machine
end

