-- ==== Sys2Proof/Machine/Control.lean ====
section
/-! DEFINITION. 13_isa_scalar: transfers of control and the control group (R276 to R288). -/

namespace Sys2Proof.Machine

/-- The target of a form B displacement, in words from the instruction itself (R276). -/
def branchTarget (pc : Word) (disp : BitVec 22) : Word := pc + (disp.signExtend 64 <<< 2)

/-- The target of a jump: bits 1:0 cleared (R278). -/
def jumpTarget (a : Word) : Word := a &&& ~~~3

/-- R276: taken when p[p] XOR n is 1. -/
def execBr (p : PReg) (n : Bool) (disp : BitVec 22) (s : State) : Host.Outcome State Fault Refusal :=
  entered (.br p n disp) s (fun s => if s.pr p != n then s.retireTo (branchTarget s.cur.pc disp) else s.retire)

/-- R277. -/
def execCall (disp : BitVec 22) (s : State) : Host.Outcome State Fault Refusal :=
  entered (.call disp) s (fun s => (s.modRegs (·.setG 15 (s.cur.pc + 4))).retireTo (branchTarget s.cur.pc disp))

/-- R278. -/
def execJr (a : GReg) (ea : Bool) (s : State) : Host.Outcome State Fault Refusal :=
  entered (.jr a ea) s (fun s => s.retireTo (jumpTarget (s.g a)))

/-- R278: the link is the word after the group; the target is read before `gd` is written. -/
def execJalr (d a : GReg) (ea : Bool) (s : State) : Host.Outcome State Fault Refusal :=
  entered (.jalr d a ea) s (fun s => (s.modRegs (·.setG d.toNat s.nextPc)).retireTo (jumpTarget (s.g a)))

/-- R280. -/
def execNop (s : State) : Host.Outcome State Fault Refusal := entered .nop s (fun s => s.retire)

/-- R281, R282, R74: whether a handler's action on slot `t` must still wait: its outstanding values land first, those of what a handler
in it handles too, and a scope-missed access is re-issued before its work parks (R86, log entry 17). -/
def Core.actionWaits (k : Core) (t kind act : Nat) : Bool :=
  let x := k.slot t
  let y := k.slot (bits x.w.ctl.eslot 3 0)
  kind != 2 && x.busy && x.frozen &&
  ((act == 2 && (!x.w.regs.noneEmpty || x.held.isSome)) ||
   (act == 3 && (!x.w.regs.noneEmpty || (x.w.events && causeKind x.w.ctl.ecause != 2 && y.busy && y.frozen && !y.w.regs.noneEmpty))))

/-- The handler in the issuing slot ends, then its action falls on the slot of its ESLOT (R282). -/
def State.endHandler (s : State) (act tok : Nat) : State :=
  let w := s.me.ctl
  let t := bits w.eslot 3 0
  if s.myCore.actionWaits t (causeKind w.ecause) act then s.stallFor .empty
  else (s.retire.endWork s.cur.core s.cur.slot).returnFrom s.cur.core t (causeKind w.ecause) act tok w.epc

/-- R281. -/
def execEndTask (s : State) : Host.Outcome State Fault Refusal :=
  entered .endTask s (fun s =>
    if !s.me.regs.noneEmpty then s.stallFor .empty
    else if s.me.events then s.endHandler 3 0
    else s.retire.endWork s.cur.core s.cur.slot)

/-- R287: the slot is no candidate until another slot of the core issues on the port, or for 16 cycles. -/
def execYield (s : State) : Host.Outcome State Fault Refusal :=
  entered .yield s (fun s =>
    s.retire.modSlot s.cur.core s.cur.slot (fun x => { x with yielded := some (16, true, true) }))

/-- R286. -/
def execTrap (code : BitVec 6) (s : State) : Host.Outcome State Fault Refusal :=
  entered (.trap code) s (fun s => s.trap 0xD 0 (wordOf code.toNat))

/-- R282: what `eret` checks of its operand. -/
def eretOk (w : Work) (a : Word) : Bool :=
  bits a 31 7 == 0 && decide (bits a 6 4 ≤ 4) && bits a 3 0 == bits w.ctl.eslot 3 0 &&
  (bits a 63 32 == 0 || bits a 6 4 == 2) && !(bits a 6 4 == 2 && causeKind w.ctl.ecause == 2) && w.events

/-- R282. -/
def execEret (a : GReg) (ea : Bool) (s : State) : Host.Outcome State Fault Refusal :=
  entered (.eret a ea) s (fun s =>
    if !eretOk s.me (s.g a) then s.illegal 0x600
    else if !s.me.regs.noneEmpty then s.stallFor .empty
    else s.endHandler (bits (s.g a) 6 4) (bits (s.g a) 63 32))

/-- Whether any slot of a core but `n` holds a context. -/
def Core.othersBusy (k : Core) (n : Nat) : Bool := (List.range 8).any (fun i => i != n && (k.slot i).busy)

/-- Whether an entry waits in the event queue or a ready ring. -/
def Core.somethingReady (k : Core) : Bool :=
  !k.events.isEmpty || (List.range 4).any (fun l => !(k.ring l).chip.isEmpty || !(k.ring l).spill.isEmpty)

/-- R288; a translation service core waits as a management core does (log entry 18). An entry that has been pushed since the stall began
ends it, though it has started already. -/
def execHalt (s : State) : Host.Outcome State Fault Refusal :=
  entered .halt s (fun s =>
    if isCompute s.cur.core then
      (if s.myCore.othersBusy s.cur.slot then s.stallFor .frozen
       else if !s.me.regs.noneEmpty then s.stallFor .empty
       else (s.retire.endWork s.cur.core s.cur.slot).modCore s.cur.core (fun k => { k with halted := true }))
    else
      match s.curSlot.stall with
      | some (.halt n, _) => if s.myCore.somethingReady || s.myCore.pushes != n then s.retire else s.stallFor (.halt n)
      | _ => if s.myCore.somethingReady then s.retire else s.stallFor (.halt s.myCore.pushes))

/-- R286. -/
def execBrk (s : State) : Host.Outcome State Fault Refusal := entered .brk s (fun s => s.trap 0xD 0 64)

end Sys2Proof.Machine
end

