-- ==== Sys2Proof/Machine/Image.lean ====
section
/-! DEFINITION. Operand fields of halves and tensor entries, and the drain image of a link engine (R118, R119, R146,
R180). -/

namespace Sys2Proof.Machine

/-- A field placed at bits `hi:lo`. -/
def putBits (v hi lo : Nat) : Nat := v % 2 ^ (hi + 1 - lo) * 2 ^ lo

/-! ### Halves (R80, R180) -/

/-- K. -/
def Half.k (h : Half) : Nat := bits h.eg 6 0
/-- N. -/
def Half.n (h : Half) : Nat := bits h.eg 13 7
/-- TRB. -/
def Half.trb (h : Half) : Bool := wbit h.eg 18
/-- NOBAR. -/
def Half.nobar (h : Half) : Bool := wbit h.eg 19
/-- The predecessors named, as command IDs. -/
def Half.preds (h : Half) : List Nat := [bits h.eg 31 24, bits h.eg 39 32].filter (fun p => p != 0xFF)
/-- The pairing tag. -/
def Half.tag (h : Half) : Nat := bits h.ga 61 54
/-- M. -/
def Half.m (h : Half) : Nat := bits h.ga 53 38
/-- Column offset. -/
def Half.col (h : Half) : Nat := bits h.ga 37 22
/-- Row offset. -/
def Half.row (h : Half) : Nat := bits h.ga 21 6
/-- Tensor ID. -/
def Half.tid (h : Half) : Nat := bits h.ga 5 0
/-- TCORE. -/
def Half.tcore (h : Half) : Nat := bits h.gb 63 49
/-- TKIND: a stream ring. -/
def Half.toRing (h : Half) : Bool := wbit h.gb 48
/-- RFMT. -/
def Half.rfmt (h : Half) : Nat := bits h.gb 47 44
/-- ACC. -/
def Half.accum (h : Half) : Bool := wbit h.gb 43
/-- TOFF. -/
def Half.toff (h : Half) : Nat := bits h.gb 42 29
/-- The barrier object's byte offset in the target's C buffer. -/
def Half.bobj (h : Half) : Nat := 16 * bits h.gb 28 19

/-! ### Tensor entries (R146) -/

/-- V. -/
def Words4.tdValid (t : Words4) : Bool := wbit t.w0 63
/-- KIND. -/
def Words4.tdKind (t : Words4) : Nat := bits t.w0 62 59
/-- The format of a narrow tensor, with its descriptor's TOPX (R53). -/
def Words4.tdNarrow (t : Words4) : Fmt :=
  ⟨bits t.w0 58 58, bits t.w0 57 54, bits t.w0 53 51, toSigned 8 (bits t.w0 50 43), true, wbit t.w0 42⟩
/-- LOC. -/
def Words4.tdLoc (t : Words4) : Nat := bits t.w0 41 40
/-- ROWS. -/
def Words4.tdRows (t : Words4) : Nat := bits t.w0 39 24
/-- COLS. -/
def Words4.tdCols (t : Words4) : Nat := bits t.w0 23 8
/-- STRIDE. -/
def Words4.tdStride (t : Words4) : Nat := bits t.w2 63 32
/-- SE. -/
def Words4.tdScaled (t : Words4) : Bool := wbit t.w2 31
/-- Elements of a scale block. -/
def Words4.tdBlk (t : Words4) : Nat := 16 * 2 ^ bits t.w2 30 29
/-- SDIM. -/
def Words4.tdSdim (t : Words4) : Nat := bits t.w2 28 28
/-- SSTRIDE. -/
def Words4.tdSstride (t : Words4) : Nat := bits t.w2 27 12
/-- Element width in bits (R147). -/
def Words4.tdBits (t : Words4) : Nat :=
  match t.tdKind with
  | 0 => 64 | 1 => 32 | 2 => 16 | 3 => 16
  | 4 => if t.tdNarrow.width ≤ 4 then 4 else 8
  | 5 => 8 | 6 => 16
  | _ => 32

/-- R147: the address of an element, for widths of a byte and more; the byte that holds a nibble else. -/
def Words4.tdAddr (t : Words4) (row col : Nat) : Nat :=
  let e := t.tdBits
  t.w1.toNat + row * t.tdStride + (if 8 ≤ e then col * (e / 8) else col / 2)

/-- R147: the address of an element's scale. -/
def Words4.tdScaleAddr (t : Words4) (row col : Nat) : Nat :=
  if t.tdSdim = 0 then t.w3.toNat + row * t.tdSstride + col / t.tdBlk
  else t.w3.toNat + col * t.tdSstride + row / t.tdBlk

/-- The buffer of a tensor: 1 W, 2 A, 3 C. -/
def bufBase (b : Nat) : Nat := if b = 1 then 0xFFFFFFFFFFF00000 else if b = 2 then 0xFFFFFFFFFFF20000 else 0xFFFFFFFFFFF30000

/-- R99: the self-region address of a buffer byte on its owning core. -/
def selfVa (b off : Nat) : Word := wordOf (bufBase b + off)

/-! ### The drain image (R119) -/

/-- Bytes of the accumulators of FP64 operands, and of the others (R118). -/
def accBytes (kind : Nat) : Nat := if kind = 0 then 8 else 4

/-- Whether the load of B has ended (R186). -/
def Job.isLoaded (j : Job) (cyc : Nat) : Bool := j.started && decide (j.loadEnd ≤ cyc)

/-- The header of an engine's image. -/
def Engine.header (e : Engine) : List Word :=
  match e.job with
  | none => [wordOf (2 ^ 62), 0, 0, 0, 0, 0, 0, 0]
  | some j =>
    let m := j.mov
    [wordOf (2 ^ 63 + 2 ^ 62 + putBits (b2n (j.isLoaded e.cyc)) 61 61 + putBits (max m.pace j.sta.pace) 60 57 + putBits (b2n m.accum) 56 56 +
        putBits (b2n m.nobar) 55 55 + putBits (b2n m.trb) 54 54 + putBits m.k 53 47 + putBits m.n 46 40 + putBits m.cmd 39 32 +
        putBits j.row 31 16 + putBits m.m 15 0),
     wordOf (putBits j.out 63 48 + putBits m.tag 47 40 + putBits m.td.tdKind 39 36 + putBits j.sta.td.tdKind 35 32 +
        putBits m.rfmt 31 28 + putBits m.rm 27 26 + putBits (b2n m.topx) 25 25),
     wordOf (bits m.ga 53 0), wordOf (bits j.sta.ga 53 0),
     wordOf (putBits m.tcore 63 49 + putBits (b2n m.toRing) 48 46 + m.toff),
     selfVa 3 m.bobj,
     wordOf (putBits m.core 63 49 + putBits m.slot 48 46 + putBits j.sta.core 45 31 + putBits j.sta.slot 30 28 + putBits m.ctx 27 19),
     0]

/-- Scale block length along K of the stationary operand, as its bank places count it. -/
def Job.scaleBlk (j : Job) : Nat := j.sta.td.tdBlk

/-- The scale codes as the bank holds them: column `c`, block `b` at byte 4·c + b, from the code of the block's first
element (log entry 19). -/
def Job.scaleBank (j : Job) : List Byte :=
  let n := j.mov.n
  (List.range 64).flatMap (fun c => (List.range 4).map (fun b =>
    BitVec.ofNat 8 (if c < n then j.bscale.getD (b * j.scaleBlk * n + c) 0 else 0)))

/-- The accumulator bank: row `i` lies in slot `i mod 3` (log entry 19), then the scale codes. -/
def Job.bank (j : Job) : List Byte :=
  let w := accBytes j.mov.td.tdKind
  let slot := fun (r : Nat) =>
    match j.rows.find? (fun a => a.row % 3 == r) with
    | some a => (a.acc.flatMap (bytesOf w) ++ List.replicate 256 0).take 256
    | none => List.replicate 256 0
  slot 0 ++ slot 1 ++ slot 2 ++ j.scaleBank

/-- The image of a frozen engine: 3,136 bytes. -/
def Engine.image (e : Engine) : List Byte :=
  e.header.flatMap (fun w => bytesOf 8 w.toNat) ++
  (match e.job with
   | some j =>
     bytesOf 2048 (ofLanes j.sta.td.tdBits j.b) ++ j.bank
   | none => List.replicate 3072 0)

/-- R120: what the engine inbox of core `c` reads at a page offset: the east link's engine from 0, the south link's from
0x1000; an engine that is not frozen, or that does not exist, reads as zeros. From 0x1000 on the south image repeats every 4 KiB (log
entry 93). -/
def State.inboxWord (s : State) (c off : Nat) : Nat :=
  match engineOf c (if off < 4096 then .e else .s) with
  | none => 0
  | some x =>
    let e := s.engine x
    if e.frozen then ofBytes (((e.image).drop (off % 4096)).take 8) else 0

end Sys2Proof.Machine
end

