-- ==== Sys2Proof/Machine/Home.lean ====
section
/-! DEFINITION. What a page permits, the control space, windows, codelets, and what an access does
at its home (R95, R99 to R104, R110 to R117, R159, R164 to R167, R290, R301 to R303, R390, R396, R397, R432). -/

namespace Sys2Proof.Machine

/-! ### The operations a place permits (R95, R96, R120, R227, R302, R303) -/

/-- Whether an access writes. -/
def AccKind.writes : AccKind → Bool
  | .store | .vstore | .amo _ _ | .fadd _ | .decp => true
  | _ => false
/-- Whether an access reads. -/
def AccKind.reads : AccKind → Bool
  | .store | .vstore => false
  | _ => true
/-- Whether an access is a read-modify-write. -/
def AccKind.atomic : AccKind → Bool
  | .amo _ _ | .fadd _ | .decp => true
  | _ => false
/-- Whether an access gives a value back. -/
def AccKind.returns (k : AccKind) : Bool := k.reads
/-- R135: the kind in a fault record. -/
def AccKind.code (k : AccKind) : Nat := if k.atomic then 3 else if k.writes then 1 else 0
/-- R115, R290: EINFO of a trap of the access. -/
def AccKind.einfo (k : AccKind) : Nat := b2n k.writes

/-- Whether an atomic may name a space: amo and fadd a C buffer, decp an A or C buffer, amo the memories outside the cores
as well (R302, R303; firmware memory: log entry 21). -/
def AccKind.spaceOk (k : AccKind) (sp : Space) : Bool :=
  match k, sp with
  | .amo _ _, .buf _ b => b == 3
  | .amo _ _, .ctl => false
  | .amo _ _, .inbox _ => false
  | .amo _ _, _ => true
  | .fadd _, .buf _ b => b == 3
  | .fadd _, _ => false
  | .decp, .buf _ b => b == 2 || b == 3
  | .decp, _ => false
  | _, _ => true

/-- R290 step 7: the cause that stops an access to a page at its issuer, if any. Stores to the control space are L0's
(R159, log entry 22); the inbox gives 8-byte zero-extending loads at L0 only (R120, R292). -/
def Page.denies (p : Page) (l0 : Bool) (k : AccKind) (n : Nat) (ann : Bool) : Option Nat :=
  match p.loc.sp with
  | .inbox _ => if l0 && k == .load false && n == 8 then (if p.r then none else some 6) else some 0x15
  | sp =>
    if (k.reads && !p.r) || (k.writes && !p.w) then some 6
    else if !k.spaceOk sp then some 6
    else if p.ord == 2 && (ann || k.atomic) then some 6
    else if sp == .ctl && k.writes && !l0 then some 6
    else none

/-! ### Homes and windows (R88, R117, R222) -/

/-- R222: the home of a place. -/
def Loc.home (l : Loc) : Home :=
  match l.sp with
  | .hbm => .die (l.off / 2 ^ 36 / 2)
  | .host => .host
  | .fw => .io
  | .remote m => .module m
  | .buf c _ => .core c
  | .inbox _ => .io
  | .ctl => .io

/-- The right a window must give: 34 loads, 35 stores, 36 atomics (R88). -/
def AccKind.right (k : AccKind) : Nat := if k.atomic then 36 else if k.writes then 35 else 34

/-- Whether a window covers bytes `lo` to `hi - 1` of buffer `b` with a right, for accessing core `a`. -/
def windowCovers (w : Word) (owner b lo hi right a : Nat) : Bool :=
  bits w 33 32 == b && b != 0 && decide (bits w 10 0 * 64 ≤ lo) && decide (hi ≤ (bits w 10 0 + bits w 26 16) * 64) &&
  wbit w right && (match scopeOf (bits w 42 40) with | some sc => scopeHasCore sc owner a | none => false)

/-- R88: at least one enabled window covers all of the access. -/
def State.windowOk (s : State) (owner b lo hi right a : Nat) : Bool :=
  (List.range 8).any (fun i => windowCovers (tblGet 0 (s.core owner).win i) owner b lo hi right a)

/-- R392, R393: whether a die is parked, or its parking has begun. -/
def State.parking (s : State) (d : Nat) : Bool := tblGet false s.dieParked d || s.psDone.contains (100 + d)

/-- R393: whether a core stands on a parked die. -/
def State.parkedCore (s : State) (c : Nat) : Bool := isCompute c && tblGet false s.dieParked (coreDie c)

/-- R117, R392: whether a buffer range of a core admits a remote access: its die is not parked, the rows lie below
capacity, a window covers it. -/
def State.admits (s : State) (owner b lo hi right a : Nat) : Bool :=
  !s.parkedCore owner &&
  decide (hi ≤ s.spcap owner b * 64) && s.windowOk owner b lo hi right a

/-! ### The control space (R396, R397, R159, R390) -/

/-- The status word of R390. -/
def State.psStatus (s : State) : Nat := s.psCur * 512 + b2n s.psBusy * 256 + s.psDecl

/-- The stage configuration word `w` of stage `i` of a cluster. -/
def Cluster.cfgWord (k : Cluster) (i w : Nat) : Word := tblGet 0 k.cfg (4 * i + w)

/-- An 8-byte word of the control space; words not listed read as zero. -/
def State.ctlWord (s : State) (off : Nat) : Nat :=
  let o := off / 8 * 8
  if 0x100000 ≤ o then
    let n := (o - 0x100000) / 0x4000
    let b := (o - 0x100000) % 0x4000
    if n < 512 ∧ b < 0x100 then ((s.cluster n).cfgWord (b / 32) (b % 32 / 8)).toNat else 0
  else if o = 0 then s.mode
  else if o = 8 then s.modnum
  else if o = 0x400 then s.psReq.getD s.psTarget
  else if o = 0x408 then s.psStatus
  else if 0x1000 ≤ o ∧ o < 0x1200 then (s.queue ((o - 0x1000) / 8)).tail
  else if 0x1200 ≤ o ∧ o < 0x1400 then (s.queue ((o - 0x1200) / 8)).head
  else if 0x1400 ≤ o ∧ o < 0x1600 then (s.queue ((o - 0x1400) / 8)).cqHead
  else if 0x2000 ≤ o ∧ o < 0x2800 then
    let q := s.queue ((o - 0x2000) / 32)
    match (o - 0x2000) % 32 / 8 with
    | 0 => q.w0.toNat
    | 1 => q.w1.toNat
    | 2 => q.w2.toNat
    | _ => 0
  else if o = 0x3000 then s.faults.base.toNat
  else if o = 0x3008 then s.faults.size.toNat
  else if o = 0x3010 then s.faults.prod % 2 ^ 64
  else if o = 0x3018 then s.faults.cons
  else if o = 0x3020 then s.faults.res.toNat
  else if 0x3800 ≤ o ∧ o < 0x3830 then (tblGet 0 s.attest ((o - 0x3800) / 8)).toNat
  else if 0x3830 ≤ o ∧ o < 0x3840 then (tblGet 0 s.recov ((o - 0x3830) / 8)).toNat
  else 0

/-- `n` bytes of the control space. -/
def State.ctlRead (s : State) (off n : Nat) : Nat :=
  (s.ctlWord off + 2 ^ 64 * s.ctlWord (off + 8)) / 2 ^ (8 * (off % 8)) % 2 ^ (8 * n)

/-- R390: a state request: it waits during a transition, a later one replaces it, and one for the current state completes
at once. -/
def State.requestState (s : State) (v : Nat) : State :=
  if s.psBusy then { s with psReq := some (v % 8) }
  else if v % 8 = s.psCur then { s with psReq := none, psTarget := s.psCur }
  else { s with psReq := some (v % 8) }

/-- R159: what a store of a stage configuration word may not do. -/
def stageStoreBad (k : Cluster) (i w : Nat) (v : Word) : Bool :=
  let w0 := if w = 0 then v else k.cfgWord i 0
  let w2 := if w = 2 then v else k.cfgWord i 2
  match w with
  | 0 => bits v 59 57 != 0 || bits v 1 0 != 0 || decide (4 < bits v 62 60) || (wbit w0 63 && decide (bits w2 24 16 < bits w2 8 0))
  | 1 => false
  | 2 => bits v 63 25 != 0 || bits v 15 9 != 0 || (wbit w0 63 && decide (bits w2 24 16 < bits w2 8 0))
  | _ => v != 0

/-- R159, R160: a stage configuration word written; one of word 2 restarts the two-window count, and a stage given to the governor starts
at the next window. -/
def State.stageStore (s : State) (n i w : Nat) (v : Word) : State :=
  s.modCluster n (fun k => { k with cfg := tblSet k.cfg (4 * i + w) v,
                                    gov := if w = 2 ∨ (w = 0 ∧ wbit v 63 ∧ !wbit (k.cfgWord i 0) 63) then tblSet k.gov i { lo := 0, hi := 0, highs := 0, lows := 0, fresh := true } else k.gov })

/-- An 8-byte store of a slot to the control space: the state after it, or `none` when it is refused. Of the I/O die's words
firmware writes the state request; the others keep their own writers (R397, R405). -/
def State.ctlWrite (s : State) (fw : Bool) (ctx off : Nat) (v : Word) : Option State :=
  if 0x100000 ≤ off then
    let n := (off - 0x100000) / 0x4000
    let b := (off - 0x100000) % 0x4000
    if n < 512 ∧ b < 0x100 then
      (if !fw && (s.cluster n).owner != some ctx then none
       else if stageStoreBad (s.cluster n) (b / 32) (b % 32 / 8) v then none
       else some (s.stageStore n (b / 32) (b % 32 / 8) v))
    else some s
  else if off = 0x400 then some (if fw && bits v 63 3 == 0 then s.requestState (bits v 2 0) else s)
  else some s

/-! ### Codelets (R164 to R167) -/

/-- The words of a codelet record. -/
def State.record (s : State) (l : Loc) : Words4 :=
  { w0 := wordOf (s.readNat l 8), w1 := wordOf (s.readNat (l.plus 8) 8), w2 := wordOf (s.readNat (l.plus 16) 8),
    w3 := wordOf (s.readNat (l.plus 24) 8) }

/-- R165: a codelet entry pushed to the owner's ring at the record's level. Its task belongs to no team, so a swap neither waits for it
nor holds it (log entry 89). -/
def State.dispatch (s : State) (c b off lvl : Nat) : State :=
  s.pushReady c lvl { kind := 1, allot := 0, pc := 0, lvl := lvl, frame := selfVa b off, g2 := 0, g3 := 0, landed := none,
                      hclass := none, parked := none, team := none, share := false }

/-- R165: one `decp` at its bank: the old count, sign-extended, and the state after it. -/
def State.decrement (s : State) (c b off : Nat) : Word × State :=
  let l : Loc := { sp := .buf c b, off := off }
  let old := toSigned 32 (s.readNat l 4)
  let new := if old = -2147483648 then old else old - 1
  let s1 : State := s.writeNat l 4 (wrapTo 32 new)
  let s2 : State := if old = 1 then s1.dispatch c b off (fld (s.readNat l 8) 62 2) else s1
  let s3 : State := if new < 0 then s2.event c 0x1B 8 (selfVa b off) (BitVec.ofInt 64 new) else s2
  (BitVec.ofInt 64 old, s3)

/-! ### What an access does (R66, R292 to R303) -/

/-- R301: the new value of an atomic, none for a `cas` that fails. -/
def amoNew (w : Nat) (op : Aop) (old b d : Nat) : Option Nat :=
  match op with
  | .add => some ((old + b) % 2 ^ w)
  | .and => some (old &&& b)
  | .or => some (old ||| b)
  | .xor => some (old ^^^ b)
  | .minS => some (if toSigned w old ≤ toSigned w b then old else b)
  | .maxS => some (if toSigned w old ≤ toSigned w b then b else old)
  | .swap => some b
  | .cas => if old = d then some b else none

/-- R66: the sum at a bank: rounded to nearest even, with no flush and no flag. -/
def faddNew (f : Fmt) (old b : Nat) : Nat := f.rne (sumF 0 [f.decode old, f.decode b]).1

/-- R101: a read of unwritten words: nothing, a warning, or UNINIT. -/
def State.uninit (s : State) (l : Loc) (n : Nat) : Nat :=
  match l.sp with
  | .buf c _ => if s.allValid l n then 0 else (s.core c).spmode
  | _ => 0

/-- R101: the warning record of a read of unwritten words, for the core that owns them. MARK (DESIGN CHOICE, log entry 111): one record for
the part of an access, block, GM record, stream element or engine row that is read, however many of its words are unwritten. -/
def State.warnUninit (s : State) (l : Loc) (va : Word) : State :=
  match l.sp with
  | .buf c _ =>
    match s.ownerOf c with
    | some (fw, ctx) => s.faultRecord c fw ctx va 0x11 6 false
    | none => s.faultRecord c false 0 va 0x11 6 false
  | _ => s

/-- What one part of an access gives: the value read, or the cause that failed it. -/
inductive PartRes | ok (data : Nat) | bad (cause : Nat)
  deriving DecidableEq, Repr

/-- A read-modify-write or a write or a read of one part at its place, its checks passed. A value is what the part
returns, not yet extended. -/
def State.apply (s : State) (f : Flight) : State × PartRes :=
  let old := s.readNat f.loc f.len
  match f.kind with
  | .load _ | .vload | .tload _ =>
    (s, .ok (match f.loc.sp with
             | .ctl => s.ctlRead f.loc.off f.len
             | .inbox c => s.inboxWord c f.loc.off
             | _ => old))
  | .store | .vstore =>
    match f.loc.sp with
    | .ctl =>
      if f.len = 8 then
        (match s.ctlWrite f.fw (match s.ownerOf f.core with | some (_, x) => x | none => 512) f.loc.off (wordOf f.data) with
         | some t => (t, .ok 0)
         | none => (s, .bad 8))
      else (s, .bad 8)
    | _ => (s.writeNat f.loc f.len f.data, .ok 0)
  | .amo w op =>
    (match amoNew w op old f.data f.cmp with
     | some v => s.writeNat f.loc f.len v
     | none => s, .ok old)
  | .fadd ty => (s.writeNat f.loc f.len (faddNew (fmtOf 0 ty) old f.data), .ok old)
  | .decp =>
    match f.loc.sp with
    | .buf c b =>
      match s.decrement c b f.loc.off with
      | (v, t) => (t, .ok v.toNat)
    | _ => (s, .bad 8)

/-- The bytes that the whole access touches on the page of this part: what the windows must cover (R117, R228). -/
def Flight.span (f : Flight) : Nat × Nat :=
  let page := f.loc.off / 16384 * 16384
  let lo := if f.idx ≤ f.loc.off - page then f.loc.off - f.idx else page
  (lo, min (f.loc.off + f.total - f.idx) (page + 16384))

/-- R117: whether the owner of a buffer admits the access; R165 checks `decp` on its count alone. -/
def State.homeAdmits (s : State) (f : Flight) : Bool :=
  match f.loc.sp with
  | .buf c b => c == f.core || s.admits c b f.span.1 f.span.2 f.kind.right f.core
  | _ => true

/-- One part performed at its home: refusal, valid bits, effect (R290 steps 8 and 9). What the window check of the access has found on
an earlier part stands (R89). -/
def State.performPart (s : State) (f : Flight) : State × PartRes :=
  if !f.ok.getD (s.homeAdmits f) then (s, .bad 8)
  else
    match (if f.kind.reads then s.uninit f.loc f.len else 0) with
    | 0 => s.apply f
    | 1 => (s.warnUninit f.loc f.va).apply f
    | _ => (s, .bad 0x11)

/-- The value that an access returns, extended (R292, R301, R303, R165). -/
def AccKind.value (k : AccKind) (total data : Nat) : Nat :=
  match k with
  | .load true => (sextWord (8 * total) data).toNat
  | _ => data

end Sys2Proof.Machine
end

