-- ==== Sys2Proof/Machine/Access.lean ====
section
/-! DEFINITION. Issuing an access, its parts on their way, the order in which they may be performed, stores that wait for
translation, scope misses, held releases and returned values (R71, R117, R224 to R233, R290 to R295). -/

namespace Sys2Proof.Machine

/-- An access as its instruction names it. -/
structure Req where
  va    : Word
  n     : Nat
  kind  : AccKind
  acq   : Bool
  rel   : Bool
  scope : Option Scope
  data  : Nat
  cmp   : Nat
  dest  : Dest
  deriving DecidableEq, Repr

/-- R224, R295: the parts of an access, each performed whole: offset and length. -/
def Req.parts (q : Req) : List (Nat × Nat) :=
  match q.kind with
  | .vload | .vstore => if q.va.toNat % 16 = 0 then [(0, 16)] else [(0, 4), (4, 4), (8, 4), (12, 4)]
  | .tload es => (List.range (esizeCount es)).map (fun i => (16 * i, 16))
  | _ => [(0, q.n)]

/-- A part with where it lies. -/
structure Placed where
  off  : Nat
  len  : Nat
  page : Page
  deriving DecidableEq, Repr

/-- What the checks of R290 steps 3 to 7 find: the parts placed, a trap with the address of the part at fault, or a
translation to wait for. -/
inductive Plan | go (ps : List Placed) | trap (cause : Nat) (va : Word) | walk (va : Word)
  deriving DecidableEq, Repr

/-- R228, R290: the address that a trap at one place of an access names: that of the access, or of its part on the second page. -/
def portionVa (a va : Word) : Word := if va.toNat / 16384 = a.toNat / 16384 then a else wordOf (va.toNat / 16384 * 16384)

/-- Steps 3, 5, 6 and 7 over the parts, each step over every part before the next; annotated is `q.acq || q.rel`. -/
def State.plan (s : State) (c : Nat) (l0 fw : Bool) (ctx : Nat) (q : Req) : Plan :=
  let vs := q.parts.map (fun p => (p, q.va + wordOf p.1))
  match vs.find? (fun e => !canonical e.2) with
  | some e => .trap 6 (portionVa q.va e.2)
  | none =>
    let ts := vs.map (fun e => (e, s.translate c fw ctx e.2))
    match ts.find? (fun e => e.2 == .hole) with
    | some e => .trap 6 (portionVa q.va e.1.2)
    | none =>
      match ts.find? (fun e => e.2 == .miss) with
      | some e => .walk (portionVa q.va e.1.2)
      | none =>
        let ps := ts.filterMap (fun e => match e.2 with | .page g => some (e.1, g) | _ => none)
        match ps.findSome? (fun e => (e.2.denies l0 q.kind e.1.1.2 (q.acq || q.rel)).map (fun c => (c, portionVa q.va e.1.2))) with
        | some (c, va) => .trap c va
        | none => .go (ps.map (fun e => { off := e.1.1.1, len := e.1.1.2, page := e.2 }))

/-- The plan of the issuing slot's access. -/
def State.planHere (s : State) (q : Req) : Plan := s.plan s.cur.core s.atL0 s.me.ctl.fw s.me.ctl.ctx q

/-! ### Order (R223, R225 to R228) -/

/-- Two parts that touch one location in common: a byte, in a buffer a word of 8 bytes, to which a bank applies one slot's accesses in
order (R67, R222; log entry 100). -/
def Flight.overlaps (f g : Flight) : Bool :=
  if f.loc.isBuf then
    decide (f.loc.key / 8 ≤ (g.loc.key + g.len - 1) / 8) && decide (g.loc.key / 8 ≤ (f.loc.key + f.len - 1) / 8)
  else decide (f.loc.key < g.loc.key + g.len) && decide (g.loc.key < f.loc.key + f.len)

/-- Whether an earlier access `g` of the same work holds `f` back. An access to a UO page stands outside the order of acquires and
releases (R225, R227). -/
def Flight.blocks (g f : Flight) : Bool :=
  g.st != .withdrawn &&
  (if g.acc == f.acc then g.ord == 1 && f.ord == 1 && decide (g.idx < f.idx)
   else g.acq && f.ord != 2 || f.rel && g.ord != 2 || (g.ord == 1 && f.ord == 1) || g.overlaps f)

/-- Whether nothing before `f` among the accesses of its work holds it back; `l` are the accesses in issue order. -/
def mayPerform (f : Flight) : List Flight → Bool
  | [] => true
  | g :: t => if g.id == f.id then true else !(g.work == f.work && g.blocks f) && mayPerform f t

/-- A part of the issuing slot's access. -/
def State.flightOf (s : State) (q : Req) (acc id : Nat) (p : Placed) : Flight :=
  { id := id, acc := acc, core := s.cur.core, slot := s.cur.slot, work := s.me.id, pc := s.cur.pc, va := q.va + wordOf p.off,
    loc := p.page.loc, idx := p.off, len := p.len, total := q.n, kind := q.kind, acq := q.acq, rel := q.rel, scope := q.scope,
    ord := p.page.ord, data := q.data / 2 ^ (8 * p.off) % 2 ^ (8 * p.len), cmp := q.cmp, dest := q.dest, st := .going,
    fw := s.me.ctl.fw }

/-- The parts of an access, with identities from `id` on. -/
def State.flightsOf (s : State) (q : Req) (acc : Nat) : Nat → List Placed → List Flight
  | _, [] => []
  | id, p :: t => s.flightOf q acc id p :: s.flightsOf q acc (id + 1) t

/-- The accesses of a work that are not yet performed. -/
def State.outstanding (s : State) (work : Nat) : List Flight := s.inflight.filter (fun f => f.work == work && f.st != .withdrawn)

/-- R225: whether a `fence.rel` before this point still waits for an access before it. -/
def State.relBlocked (s : State) : Bool :=
  match s.me.relMark with
  | some m => (s.outstanding s.me.id).any (fun f => decide (f.id < m) && f.ord != 2)
  | none => false

/-- Every earlier access of the issuing slot is performed: what `fence.full` and a barrier wait for (R227). -/
def State.drained (s : State) : Bool := (s.outstanding s.me.id).isEmpty

/-- The same apart from accesses to UO pages, which no other release orders (R227). -/
def State.settled (s : State) : Bool := (s.outstanding s.me.id).all (fun f => f.ord == 2)

/-- R226: whether an SO access must wait for what a `fence.rel` before it follows. -/
def State.soBlocked (s : State) (ps : List Placed) : Bool := s.relBlocked && ps.any (fun p => p.page.ord == 1)

/-! ### Values on their way back (R71, R117) -/

/-- A value, a refusal or an event put on its way back to a slot. -/
def State.sendBack (s : State) (r : Ret) : State := { s.bump with returns := s.returns ++ [{ r with id := s.nextId }] }

/-- The destination registers of an access marked empty (R71); `g0` is not. -/
def Regs.markDest (x : Regs) (k : AccKind) (d : Dest) : Regs :=
  match d with
  | .none => x
  | .g r => x.markG r
  | .v r =>
    match k with
    | .tload es => (natRange r (esizeCount es)).foldl Regs.markV x
    | _ => x.markV r

/-- R295: register `j` of a transposed block whose rows are the 16-byte parts of `data`. -/
def transposed (es : ESize) (data j : Nat) : Vec :=
  let c := esizeCount es
  let w := 128 / c
  BitVec.ofNat 128 (ofLanes w ((List.range c).map (fun i => lane w data (i * c + j))))

/-- A value put into its destination registers. -/
def Regs.fillDest (x : Regs) (k : AccKind) (d : Dest) (data : Nat) : Regs :=
  match d with
  | .none => x
  | .g r => x.setG r (wordOf data)
  | .v r =>
    match k with
    | .tload es => (List.range (esizeCount es)).foldl (fun y j => y.setV (r + j) (transposed es data j)) x
    | _ => x.setV r (BitVec.ofNat 128 data)

/-- Whether the first destination register of a value still waits for it. -/
def Regs.waitsFor (x : Regs) (d : Dest) : Bool :=
  match d with
  | .none => false
  | .g r => x.emptyG r
  | .v r => x.emptyV r

/-- A value filled into a work's registers, and into the registers that an access awaiting translation would restore. -/
def State.fill (s : State) (r : Ret) (data : Nat) : State :=
  let x := s.slot r.core r.slot
  if x.busy && x.w.id == r.work then
    s.modSlot r.core r.slot (fun x =>
      { x with
        w := { x.w with regs := x.w.regs.fillDest r.kind r.dest data }
        waiting := x.waiting.map (fun e =>
          if e.regs.waitsFor r.dest then { e with regs := e.regs.fillDest r.kind r.dest data } else e) })
  else s

/-- One part's outcome: a store's refusal is an event for the issuer, once for each page portion; a value joins its access
and goes back when the access is whole (R117, R101, R294). -/
def State.landPart (s : State) (f : Flight) (r : PartRes) : State :=
  let at_ := portionVa (f.va - wordOf f.idx) f.va
  let ret : Ret := { id := 0, acc := f.acc, core := f.core, slot := f.slot, work := f.work, pc := f.pc, va := at_, kind := f.kind,
                     dest := f.dest, data := 0, ret := .value, fw := f.fw }
  if !f.kind.returns then
    match r with
    | .ok _ => s
    | .bad c => if f.loc.off = f.span.1 then s.sendBack { ret with ret := .event c } else s
  else
    match s.gathers.find? (fun g => g.acc == f.acc) with
    | none => s
    | some g =>
      let g1 : Gather :=
        match r with
        | .ok d => { g with left := g.left - 1, data := g.data + d % 2 ^ (8 * (if f.kind = .decp then 8 else f.len)) * 2 ^ (8 * f.idx) }
        | .bad c => { g with left := g.left - 1, bad := match g.bad with | some b => some b | none => some (c, at_) }
      if g1.left = 0 then
        let s1 : State := { s with gathers := s.gathers.filter (fun h => h.acc != f.acc) }
        match g1.bad with
        | some (c, va) => s1.sendBack { ret with va := va, ret := .failed c }
        | none => s1.sendBack { ret with data := f.kind.value f.total g1.data }
      else { s with gathers := s.gathers.map (fun h => if h.acc == f.acc then g1 else h) }

/-- What the window check of an access has found, kept for its other parts on the same page (R89). -/
def State.checkedOnce (s : State) (f : Flight) : State :=
  { s with inflight := s.inflight.map (fun g =>
      if g.acc == f.acc && g.loc.sp == f.loc.sp && g.span == f.span && g.ok.isNone then { g with ok := some (s.homeAdmits f) } else g) }

/-- A part leaves `inflight`. -/
def State.dropFlight (s : State) (f : Flight) : State := { s with inflight := s.inflight.filter (fun g => g.id != f.id) }

/-- A part is performed at its home and leaves. One that meets a double-bit error performs nothing: the abort takes it, or, where it is
another context's, it is refused (R98, R109, log entry 83). -/
def State.performFlight (s : State) (f : Flight) : State :=
  if f.ok.getD (s.homeAdmits f) && s.meetsError f.loc f.len (!f.kind.reads) then
    let t := s.eccAbort f.loc f.len (!f.kind.reads) f.fw (match s.ownerOf f.core with | some (_, x) => x | none => 0) f.core
    if t.inflight.any (fun g => g.id == f.id) then (t.dropFlight f).landPart f (.bad 8) else t
  else
    match ((s.checkedOnce f).dropFlight f).performPart f with
    | (t, r) => t.landPart f r

/-! ### Issue -/

/-- Parts sent on their way, with a gather for a value. -/
def State.launchParts (s : State) (q : Req) (ps : List Placed) : State :=
  let acc := s.nextId
  let fs := s.flightsOf q acc (acc + 1) ps
  { s with
    inflight := s.inflight ++ fs
    nextId := acc + 1 + fs.length
    gathers := if q.kind.returns then s.gathers ++ [{ acc := acc, left := fs.length, data := 0, bad := none }] else s.gathers }

/-- The parts of a self-region access read or written in order of address, their values put together. -/
def State.performHere (s : State) (fs : List Flight) : State × Nat :=
  fs.foldl (fun a f =>
    match a.1.performPart f with
    | (t, .ok d) => (t, a.2 + d % 2 ^ (8 * (if f.kind = .decp then 8 else f.len)) * 2 ^ (8 * f.idx))
    | (t, .bad _) => (t, a.2)) (s, 0)

/-- R98: a self-region access that meets a double-bit error: the core's owner aborts; where firmware work had issued the access it goes on,
and the access is refused (log entry 83). -/
def State.eccSelf (s : State) (q : Req) : State :=
  let t := s.abortOwner s.cur.core 6
  if !t.curSlot.busy then t
  else if q.kind.returns then
    ((t.modRegs (fun x => x.fillDest q.kind q.dest 0)).retire).deferTo s.cur.core s.cur.slot s.me.id 8 q.va s.cur.pc
  else t.retire.event s.cur.core 8 s.cur.slot q.va 0

/-- A self-region access, performed at once (R100): an unwritten word under SPMODE 2 traps precisely (R101); a load writes its
destination full, an atomic marks it empty until its value comes (R71). A double-bit error aborts the context (R98). -/
def State.issueSelf (s : State) (q : Req) (fs : List Flight) : State :=
  if fs.any (fun f => s.meetsError f.loc f.len (!q.kind.reads)) then s.eccSelf q
  else
  match fs.find? (fun f => q.kind.reads && s.uninit f.loc f.len == 2) with
  | some f => s.trap 0x11 (portionVa q.va f.va) (wordOf q.kind.einfo)
  | none =>
    match s.performHere fs with
    | (t, d) =>
      let v := q.kind.value q.n d
      if q.kind.atomic then
        (let t1 := t.modRegs (fun x => x.markDest q.kind q.dest)
         (t1.sendBack { id := 0, core := s.cur.core, slot := s.cur.slot, work := s.me.id, pc := s.cur.pc, va := q.va,
                        kind := q.kind, dest := q.dest, data := v, ret := .value, fw := s.me.ctl.fw }).retire)
      else (t.modRegs (fun x => x.fillDest q.kind q.dest v)).retire

/-- A translated access that no earlier store of its slot holds back: performed at once in the self region when its order
allows, else sent to its home (R71, R100, R225). -/
def State.issuePlaced (s : State) (q : Req) (ps : List Placed) : State :=
  let fs := s.flightsOf q s.nextId (s.nextId + 1) ps
  if ps.all (fun p => p.page.own) then
    (if fs.all (fun f => mayPerform f s.inflight) then s.issueSelf q fs else s.stallFor .ordering)
  else ((s.launchParts q ps).modRegs (fun x => x.markDest q.kind q.dest)).retire

/-- An access that waits at its core (R114, R233). -/
def State.waitingOf (s : State) (q : Req) (id : Nat) (sent : Bool) : Waiting :=
  { va := q.va, data := q.data, len := q.n, kind := q.kind, acq := q.acq, rel := q.rel, cmp := q.cmp, dest := q.dest, scope := q.scope,
    pc := s.cur.pc, glen := s.cur.len, id := id, sent := sent, regs := s.me.regs, fpc := s.me.ctl.fpc }

/-- The access that a waiting entry names. -/
def Waiting.req (e : Waiting) : Req :=
  { va := e.va, n := e.len, kind := e.kind, acq := e.acq, rel := e.rel, scope := e.scope, data := e.data, cmp := e.cmp, dest := e.dest }

/-- The waiting stores that still miss their translation. -/
def State.untranslated (s : State) (c n : Nat) : List Waiting :=
  let x := s.slot c n
  x.waiting.filter (fun e =>
    !e.sent && !e.kind.reads && (match s.plan c (decide (n < 2)) x.w.ctl.fw x.w.ctl.ctx e.req with | .walk _ => true | _ => false))

/-- Whether an access may touch a word of a waiting one: a translation keeps the low 14 bits of an address (R111, R112, R67). -/
def Waiting.mayTouch (e : Waiting) (off n : Nat) : Bool :=
  let a := e.va.toNat % 16384
  let d := (off / 8 + 2048 - a / 8) % 2048
  decide (d < (a % 8 + e.len + 7) / 8) || decide (2048 < d + (off % 8 + n + 7) / 8)

/-- Whether a waiting access holds back a later one at an offset: an acquire, or one that may touch the same bytes (R225, R230). -/
def Waiting.holds (e : Waiting) (off n : Nat) : Bool := !e.sent && (e.acq || e.mayTouch off n)

/-- The issuing slot's access joins those that wait. -/
def State.addWaiting (s : State) (q : Req) (id : Nat) (sent : Bool) : State :=
  s.modSlot s.cur.core s.cur.slot (fun x => { x with waiting := x.waiting ++ [s.waitingOf q id sent] })

/-- R233: a store: a ninth that awaits translation stalls; one whose translation misses, and a relaxed one behind it, waits
at the core; a translated release leaves for its home. -/
def State.issueStore (s : State) (q : Req) (p : Plan) : State :=
  match p with
  | .trap c va => s.trap c va (wordOf q.kind.einfo)
  | .walk _ =>
    if (s.untranslated s.cur.core s.cur.slot).length < 8 then (s.addWaiting q s.nextId false).bump.retire
    else s.stallFor .ordering
  | .go ps =>
    if s.curSlot.waiting.isEmpty then s.issuePlaced q ps
    else if q.rel then ((s.addWaiting q s.nextId true).launchParts q ps).retire
    else (s.addWaiting q s.nextId false).bump.retire

/-- R114, R233: a load or an atomic: one whose translation misses waits at the core with its destination empty, and the slot goes on; past
accesses that wait it may name RC pages and the self region alone, and not what they may touch. A load of an SO page, and one whose page is
not known yet, waits for what an earlier `fence.rel` follows (R226). -/
def State.issueRead (s : State) (q : Req) (p : Plan) : State :=
  match p with
  | .trap c va => s.trap c va (wordOf q.kind.einfo)
  | .walk _ =>
    if s.relBlocked then s.stallFor .ordering
    else ((s.addWaiting q s.nextId false).bump.modRegs (fun x => x.markDest q.kind q.dest)).retire
  | .go ps =>
    if s.soBlocked ps then s.stallFor .ordering
    else if s.curSlot.waiting.isEmpty then s.issuePlaced q ps
    else if ps.any (fun p => p.page.ord != 0) then s.stallFor .ordering
    else if ps.all (fun p => p.page.own) && s.curSlot.waiting.any (fun e => ps.any (fun p => e.holds (p.page.loc.off % 16384) p.len)) then
      s.stallFor .ordering
    else s.issuePlaced q ps

/-- An addressed access of the issuing slot, past its alignment check: the order of R290, then the waits that R225 and R232
name. -/
def State.access (s : State) (q : Req) : State :=
  if (q.acq || q.rel) && s.curSlot.held.isSome then s.stallFor .ordering
  else if q.kind.writes && s.relBlocked then s.stallFor .ordering
  else
    match q.kind with
    | .store | .vstore => s.issueStore q (s.planHere q)
    | _ => s.issueRead q (s.planHere q)

/-- R290 step 4, after step 3: an access whose address must be a multiple of `al`. -/
def State.aligned (s : State) (al : Nat) (q : Req) : State :=
  if !canonical q.va then s.trap 6 q.va (wordOf q.kind.einfo)
  else if q.va.toNat % al ≠ 0 then s.trap 7 q.va (wordOf q.kind.einfo)
  else s.access q

/-! ### Accesses awaiting translation, continued (R114, R233) -/

/-- A part of a waiting access of slot `n`. -/
def State.waitingFlight (s : State) (c n : Nat) (e : Waiting) (id : Nat) (p : Placed) : Flight :=
  let w := (s.slot c n).w
  { id := id, acc := e.id, core := c, slot := n, work := w.id, pc := e.pc, va := e.va + wordOf p.off, loc := p.page.loc,
    idx := p.off, len := p.len, total := e.len, kind := e.kind, acq := e.acq, rel := e.rel, scope := e.scope, ord := p.page.ord,
    data := e.data / 2 ^ (8 * p.off) % 2 ^ (8 * p.len), cmp := e.cmp, dest := e.dest, st := .going, fw := w.ctl.fw }

/-- The parts of a waiting access of slot `n`, once translated; they stand before the accesses that follow it in program order and have
already left. -/
def State.releaseWaiting (s : State) (c n : Nat) (e : Waiting) (ps : List Placed) : State :=
  let work := (s.slot c n).w.id
  let later := fun (f : Flight) => f.work == work && decide (e.id < f.acc)
  let fs := List.zipWith (fun p i => s.waitingFlight c n e (s.nextId + i) p) ps (List.range ps.length)
  { s with
    inflight := s.inflight.takeWhile (fun f => !later f) ++ fs ++ s.inflight.dropWhile (fun f => !later f)
    nextId := s.nextId + fs.length
    gathers := if e.kind.returns then s.gathers ++ [{ acc := e.id, left := fs.length, data := 0, bad := none }] else s.gathers }

/-- R115, R233: a waiting access faults: every instruction after it is cancelled: loads sent after it are dropped with the traps due for
them, and releases withdrawn, and the slot traps at the access, which INS counted when it issued (R176, log entry 35). -/
def State.cancelAt (s : State) (c n : Nat) (e : Waiting) (cause : Nat) (va einfo : Word) : State :=
  let work := (s.slot c n).w.id
  let mine := fun (f : Flight) => f.work == work && decide (e.id < f.acc)
  let s1 : State := { s with
    gathers := s.gathers.filter (fun g => !s.inflight.any (fun f => mine f && f.acc == g.acc))
    inflight := (s.inflight.filter (fun f => !(mine f && f.kind.reads))).map (fun f => if mine f then { f with st := .withdrawn } else f)
    returns := s.returns.filter (fun r => !(r.work == work && decide (e.id < r.acc))) }
  let s2 : State := (s1.modCore c (fun k => { k with ins := k.ins - 1 })).modSlot c n (fun x =>
    { x with
      waiting := []
      stall := none
      held := match x.held with | some f => if mine f then none else some f | none => none
      w := { x.w with
        pc := e.pc
        regs := e.regs
        deferred := x.w.deferred.filter (fun d => !decide (e.id < d.acc))
        ctl := { x.w.ctl with
          fpc := e.fpc
          smr := match x.held with | some f => if mine f then 0 else x.w.ctl.smr | none => x.w.ctl.smr } } })
  s2.takeTrap c n 0 cause e.glen e.pc va einfo

/-- The accesses at the head of a slot's list that are translated leave; the list stops at one that is not, or at a fault. -/
def State.drainList (c n : Nat) : List Waiting → State → State
  | [], s => s.modSlot c n (fun x => { x with waiting := [] })
  | e :: t, s =>
    if e.sent then State.drainList c n t s
    else
      let x := s.slot c n
      match s.plan c (decide (n < 2)) x.w.ctl.fw x.w.ctl.ctx e.req with
      | .walk _ => s.modSlot c n (fun x => { x with waiting := e :: t })
      | .trap k va => (s.modSlot c n (fun x => { x with waiting := e :: t })).cancelAt c n e k va (wordOf e.kind.einfo)
      | .go ps => State.drainList c n t (s.releaseWaiting c n e ps)

/-- The translated accesses of a slot leave (R233). -/
def State.drainWaiting (s : State) (c n : Nat) : State := State.drainList c n (s.slot c n).waiting s

/-- R233: whether a release has left its core before an earlier store of its slot is translated. -/
def State.uncommitted (s : State) (f : Flight) : Bool :=
  (s.slot f.core f.slot).w.id == f.work && (s.slot f.core f.slot).waiting.any (fun e => e.id == f.acc && e.sent)

/-- Whether an access is stopped at the boundary of its scope's instance (R232). -/
def Flight.outOfScope (f : Flight) : Bool :=
  match f.scope with
  | some sc => !scopeHas sc f.core f.loc.home
  | none => false

/-- Whether an access that waits for its translation, and precedes a load in program order, holds it back. -/
def State.behindWaiting (s : State) (f : Flight) : Bool :=
  (s.slot f.core f.slot).w.id == f.work && f.kind.reads &&
  (s.slot f.core f.slot).waiting.any (fun e => decide (e.id < f.acc) && e.holds (f.loc.off % 16384) f.len)

/-! ### Die-to-die and fabric links (R138, R404) -/

/-- A link. -/
def State.link (s : State) (l : Nat) : Link := tblGet Link.reset s.links l

/-- A link changed. -/
def State.modLink (s : State) (l : Nat) (f : Link → Link) : State := { s with links := tblSet s.links l (f (s.link l)) }

/-- The die-to-die link that a hop crosses. -/
def crossing (a b : Nat) : Option Nat := if coreDie a = coreDie b then none else some (coreDie a * 8 + coreDie b)

/-- R138: `n` flits sent: they stay in the window, under the next sequence numbers, until they are acknowledged. -/
def Link.send (k : Link) (n : Nat) : Link :=
  { k with window := k.window ++ (List.range n).map (fun i => (k.next + i) % 4096), next := (k.next + n) % 4096 }

/-- A path of at most `n` hops from one die to another over links that are not retired, as the directions to take (R404). -/
def State.dieReach (s : State) : Nat → Nat → Nat → Option (List Dir)
  | 0, a, b => if a = b then some [] else none
  | n + 1, a, b =>
    if a = b then some []
    else [Dir.e, .w, .s, .n].findSome? (fun h =>
      match dieNext a h with
      | some d => if (s.link (8 * a + d)).retired then none else (s.dieReach n d b).map (fun p => h :: p)
      | none => none)

/-- R404: the shortest such path: what the routes that Darkroom regenerates follow (log entry 110). -/
def State.diePath (s : State) (a b : Nat) : Option (List Dir) := (List.range 8).findSome? (fun n => s.dieReach n a b)

/-- The links of a path. -/
def pathLinks : Nat → List Dir → List Nat
  | _, [] => []
  | a, h :: t => match dieNext a h with | some d => (8 * a + d) :: pathLinks d t | none => []

/-- The die-to-die links between two dies; `none` where no path is left. -/
def State.dieLinks (s : State) (a b : Nat) : Option (List Nat) := (s.diePath a b).map (pathLinks a)

/-- R138: the links from die `d` to a home, and back where a value returns. The I/O die and the host have none; number `9 d` is the fabric
link of die `d` (log entry 71). -/
def State.linksTo (s : State) (d : Nat) (h : Home) (back : Bool) : Option (List Nat) :=
  let both := fun (e : Nat) =>
    match s.dieLinks d e, s.dieLinks e d with
    | some go, some ret => some (if back then go ++ ret else go)
    | _, _ => none
  match h with
  | .core k => if isMc k then some [] else both (clusterOf k / 64)
  | .die e => both e
  | .module _ => some [9 * d]
  | _ => some []

/-- R138: the links that an access crosses. -/
def State.flightLinks (s : State) (f : Flight) : Option (List Nat) :=
  if isMc f.core then some [] else s.linksTo (clusterOf f.core / 64) f.loc.home f.kind.returns

/-- Whether every link of a list has room for as many flits as the list names it; a transfer of more than 128 crosses an empty window (log
entry 71). -/
def State.roomOn (s : State) (ls : Option (List Nat)) : Bool :=
  match ls with
  | some l => l.all (fun i => decide ((s.link i).window.length + min (l.count i) 128 ≤ 128))
  | none => false

/-- A flit sent on each of them. -/
def State.flitsOn (s : State) (ls : Option (List Nat)) : State := (ls.getD []).foldl (fun t l => t.modLink l (fun k => k.send 1)) s

/-- Whether every link that an access crosses has room for its flit. -/
def State.linksFree (s : State) (f : Flight) : Bool := s.roomOn (s.flightLinks f)

/-- The flits of an access sent on its links. -/
def State.sendFlits (s : State) (f : Flight) : State := s.flitsOn (s.flightLinks f)

/-- The links that a compound access of the issuing slot crosses to the place of a page; `back` when a value returns. -/
def State.spans (s : State) (p : Page) (back : Bool) : Option (List Nat) :=
  if isMc s.cur.core then some [] else s.linksTo (clusterOf s.cur.core / 64) p.loc.home back

/-- Its flits sent. -/
def State.cross (s : State) (p : Page) (back : Bool) : State := s.flitsOn (s.spans p back)

/-- The links that blocks at a list of places cross, one flit each. -/
def State.spansAll (s : State) (ps : List Page) (back : Bool) : Option (List Nat) :=
  (ps.mapM (fun p => s.spans p back)).map List.flatten

/-- Whether a part may be performed now. -/
def State.ready (s : State) (f : Flight) : Bool :=
  (f.st == .going || f.st == .committed) && !f.outOfScope && !s.behindWaiting f && s.linksFree f && mayPerform f s.inflight

end Sys2Proof.Machine
end

