-- ==== Sys2Proof/Machine/Memory.lean ====
section
/-! DEFINITION. 14_isa_memory_tasks: loads, stores, fences, prefetch, valid bits, stream registers and atomics (R292 to
R303). -/

namespace Sys2Proof.Machine

/-! ### Loads and stores (R292 to R295) -/

/-- Whether an access is ordered, and at which scope. -/
def annScope : Ann → Option Scope
  | .relaxed => none
  | .ordered s => some s

/-- The effective address of form M: the offset scaled by the size (R292). -/
def addrM (a : Word) (sz : Size) (off : BitVec 7) : Word := a + off.signExtend 64 * wordOf (sizeBytes sz)
/-- The effective address of form W: the offset scaled by 16 (R294). -/
def addrW (a : Word) (off : BitVec 10) : Word := a + off.signExtend 64 * 16

/-- A scalar load. -/
def loadReq (d : GReg) (va : Word) (sz : Size) (ann : Ann) (signed : Bool) : Req :=
  { va := va, n := sizeBytes sz, kind := .load signed, acq := (annScope ann).isSome, rel := false, scope := annScope ann,
    data := 0, cmp := 0, dest := if d = 0 then .none else .g d.toNat }

/-- A scalar store. -/
def storeReq (va : Word) (sz : Size) (ann : Ann) (v : Word) : Req :=
  { va := va, n := sizeBytes sz, kind := .store, acq := false, rel := (annScope ann).isSome, scope := annScope ann,
    data := v.toNat % 2 ^ (8 * sizeBytes sz), cmp := 0, dest := .none }

/-- R292: `ld.z`. -/
def execLdZ (d a : GReg) (ea : Bool) (sz : Size) (ann : Ann) (off : BitVec 7) (s : State) : Host.Outcome State Fault Refusal :=
  entered (.ldZ d a ea sz ann off) s (fun s => s.aligned (sizeBytes sz) (loadReq d (addrM (s.g a) sz off) sz ann false))

/-- R292: `ld.s`. -/
def execLdS (d a : GReg) (ea : Bool) (sz : Size) (ann : Ann) (off : BitVec 7) (s : State) : Host.Outcome State Fault Refusal :=
  entered (.ldS d a ea sz ann off) s (fun s => s.aligned (sizeBytes sz) (loadReq d (addrM (s.g a) sz off) sz ann true))

/-- R292: `st`. -/
def execSt (d a : GReg) (ea : Bool) (sz : Size) (ann : Ann) (off : BitVec 7) (s : State) : Host.Outcome State Fault Refusal :=
  entered (.st d a ea sz ann off) s (fun s => s.aligned (sizeBytes sz) (storeReq (addrM (s.g a) sz off) sz ann (s.g d)))

/-- R294: `ldv`. -/
def execLdv (v : VReg) (a : GReg) (ea : Bool) (ann : Ann) (off : BitVec 10) (s : State) : Host.Outcome State Fault Refusal :=
  entered (.ldv v a ea ann off) s (fun s =>
    s.aligned 4 { va := addrW (s.g a) off, n := 16, kind := .vload, acq := (annScope ann).isSome, rel := false, scope := annScope ann,
                  data := 0, cmp := 0, dest := .v v.toNat })

/-- R294: `stv`. -/
def execStv (v : VReg) (a : GReg) (ea : Bool) (ann : Ann) (off : BitVec 10) (s : State) : Host.Outcome State Fault Refusal :=
  entered (.stv v a ea ann off) s (fun s =>
    s.aligned 4 { va := addrW (s.g a) off, n := 16, kind := .vstore, acq := false, rel := (annScope ann).isSome, scope := annScope ann,
                  data := (s.vr v).toNat, cmp := 0, dest := .none })

/-- R295: `ldvt`: rows of 16 bytes, transposed into consecutive registers. -/
def execLdvt (v : VReg) (a : GReg) (ea : Bool) (es : ESize) (off : BitVec 10) (s : State) : Host.Outcome State Fault Refusal :=
  entered (.ldvt v a ea es off) s (fun s =>
    s.aligned 16 { va := addrW (s.g a) off, n := 16 * esizeCount es, kind := .tload es, acq := false, rel := false, scope := none,
                   data := 0, cmp := 0, dest := .v v.toNat })

/-! ### Fences, prefetch, valid bits (R296 to R298) -/

/-- Whether an earlier load or atomic of the issuing slot has not given its value (R296), or an earlier access to an SO page is not performed
(R226). -/
def State.readsPending (s : State) : Bool :=
  (s.outstanding s.me.id).any (fun f => f.kind.reads || f.ord == 1) ||
  s.returns.any (fun r => r.work == s.me.id && r.kind.reads)

/-- R296: a fence; `rel` marks the accesses that later stores, atomics, sends, halves and cards wait for. -/
def execFence (k : FenceKind) (sc : Scope) (s : State) : Host.Outcome State Fault Refusal :=
  entered (.fence k sc) s (fun s =>
    match k with
    | .acq => if s.readsPending then s.stallFor .ordering else s.retire
    | .rel => (s.modWork s.cur.core s.cur.slot (fun w => { w with relMark := some s.nextId })).retire
    | .full => if s.drained then s.retire else s.stallFor .ordering)

/-- R297: the translation of a line started: a page that no entry gives is asked for, with no trap and no record. -/
def State.prefetch (s : State) (va : Word) : State :=
  if canonical va && s.translate s.cur.core s.me.ctl.fw s.me.ctl.ctx va == .miss then
    s.modCore s.cur.core (fun k => k.want { deque := false, fw := s.me.ctl.fw, ctx := s.me.ctl.ctx, va := va })
  else s

/-- R297: `pf`; the read of the line at its home gives no value and changes nothing. -/
def execPf (a : GReg) (s : State) : Host.Outcome State Fault Refusal :=
  entered (.pf a) s (fun s => (s.prefetch (s.g a &&& ~~~63)).retire)

/-- R298: the range as an access, for its order against the slot's earlier accesses. -/
def sallocReq (va : Word) (n : Nat) : Req :=
  { va := va, n := n, kind := .store, acq := false, rel := false, scope := none, data := 0, cmp := 0, dest := .none }

/-- R298. -/
def execSalloc (a b : GReg) (ea eb : Bool) (s : State) : Host.Outcome State Fault Refusal :=
  entered (.salloc a b ea eb) s (fun s =>
    let va := s.g a
    let n := (s.g b).toNat
    if !canonical va then s.trap 6 va 1
    else if va.toNat % 4 ≠ 0 ∨ n % 4 ≠ 0 then s.trap 7 va 1
    else if n = 0 then s.retire
    else
      match (if inSelf va then selfPlace va else none) with
      | none => s.trap 6 va 1
      | some (bf, off) =>
        if s.spcap s.cur.core bf * 64 < off + n then s.trap 6 va 1
        else
          let l : Loc := { sp := .buf s.cur.core bf, off := off }
          let pg : Page := { loc := l, ord := 0, own := true, r := true, w := true, x := false }
          let f := s.flightOf (sallocReq va n) s.nextId (s.nextId + 1) { off := 0, len := n, page := pg }
          if s.relBlocked || !mayPerform f s.inflight then s.stallFor .ordering
          else (s.clearValid l n).retire)

/-! ### Stream registers (R299, R300, R132, R133) -/

/-- A ring of a core. -/
def Core.stream (k : Core) (r : Nat) : Stream :=
  tblGet { owner := none, team := none, base := 0, logk := 3, rd := 0, occ := 0 } k.rings r

/-- A ring of a core set. -/
def Core.setStream (k : Core) (r : Nat) (x : Stream) : Core := { k with rings := tblSet k.rings r x }

/-- The ring that a q register of the issuing slot is bound to. -/
def State.boundRing (s : State) (q : QReg) : Option Nat :=
  match tblGet 0 s.me.q q.toNat with
  | 0 => none
  | r + 1 => some r

/-- The place of element `i` of a ring, counted from its read position (R132). -/
def Stream.place (x : Stream) (c i : Nat) : Loc := { sp := .buf c 2, off := x.base * 64 + 8 * ((x.rd + i) % 2 ^ x.logk) }

/-- Elements that a ring has room for. -/
def Stream.room (x : Stream) : Nat := 2 ^ x.logk - x.occ

/-- R299: `qbind`. -/
def execQbind (q : QReg) (a : GReg) (ea : Bool) (s : State) : Host.Outcome State Fault Refusal :=
  entered (.qbind q a ea) s (fun s =>
    let w := s.g a
    let lk := bits w 17 14
    let base := bits w 13 4
    let r := bits w 3 0
    if bits w 63 18 ≠ 0 ∨ lk < 3 ∨ 10 < lk then s.illegal 0xA00
    else if (s.boundRing q).isSome then s.illegal (16 + q.toNat)
    else if (s.myCore.stream r).owner.isSome then s.illegal r
    else if s.spcap s.cur.core 2 < base + 2 ^ (lk - 3) then s.trap 6 0 0
    else
      let ring : Stream := { owner := some (s.me.id, q.toNat), team := s.me.team, base := base, logk := lk, rd := 0, occ := 0 }
      ((s.modCore s.cur.core (fun k => k.setStream r ring)).modWork s.cur.core s.cur.slot (fun x =>
        { x with q := tblSet x.q q.toNat (r + 1) })).retire)

/-- R299: `qfree`. -/
def execQfree (q : QReg) (s : State) : Host.Outcome State Fault Refusal :=
  entered (.qfree q) s (fun s =>
    match s.boundRing q with
    | none => s.retire
    | some r =>
      let ring : Stream := { s.myCore.stream r with owner := none, team := none, occ := 0 }
      ((s.modCore s.cur.core (fun k => k.setStream r ring)).modWork s.cur.core s.cur.slot (fun x =>
        { x with q := tblSet x.q q.toNat 0 })).retire)

/-- R299: `qstat`. -/
def execQstat (d : GReg) (q : QReg) (s : State) : Host.Outcome State Fault Refusal :=
  entered (.qstat d q) s (fun s =>
    match s.boundRing q with
    | none => s.retireG d 0
    | some r => s.retireG d (wordOf (2 ^ 63 + r * 2 ^ 16 + (s.myCore.stream r).occ)))

/-- R300: `k` elements taken from a ring, the destination empty until they come. A double-bit error aborts the context (R98). -/
def State.takeStream (s : State) (r k : Nat) (kind : AccKind) (d : Dest) : State :=
  let x := s.myCore.stream r
  if (List.range k).any (fun i => s.meetsError (x.place s.cur.core i) 8 false) then s.abortOwner s.cur.core 6 else
  let v := ofLanes 64 ((List.range k).map (fun i => s.readNat (x.place s.cur.core i) 8))
  let x1 : Stream := { x with rd := (x.rd + k) % 2 ^ x.logk, occ := x.occ - k }
  let s1 : State := (s.modCore s.cur.core (fun c => c.setStream r x1)).modRegs (fun y => y.markDest kind d)
  (s1.sendBack { id := 0, core := s.cur.core, slot := s.cur.slot, work := s.me.id, pc := s.cur.pc, va := 0, kind := kind,
                 dest := d, data := v, ret := .value }).retire

/-- R300: a read of `k` elements of a q register. -/
def State.streamRead (s : State) (q : QReg) (k : Nat) (kind : AccKind) (d : Dest) : State :=
  match s.boundRing q with
  | none => s.trap 0x18 0 (wordOf q.toNat)
  | some r => if (s.myCore.stream r).occ < k then s.stallFor .ring else s.takeStream r k kind d

/-- R300: `qget`. -/
def execQget (d : GReg) (q : QReg) (s : State) : Host.Outcome State Fault Refusal :=
  entered (.qget d q) s (fun s => s.streamRead q 1 (.load false) (.g d.toNat))

/-- R300: `qgetv`. -/
def execQgetv (v : VReg) (q : QReg) (s : State) : Host.Outcome State Fault Refusal :=
  entered (.qgetv v q) s (fun s => s.streamRead q 2 .vload (.v v.toNat))

/-! ### Atomics (R301 to R303) -/

/-- Whether an atomic acquires, whether it releases, and at which scope. -/
def aannParts : AAnn → Bool × Bool × Option Scope
  | .relaxed => (false, false, none)
  | .acq s => (true, false, some s)
  | .rel s => (false, true, some s)
  | .acqrel s => (true, true, some s)

/-- An atomic of width `w`. -/
def amoReq (w : Nat) (d : GReg) (va b dv : Word) (op : Aop) (ann : AAnn) : Req :=
  { va := va, n := w / 8, kind := .amo w op, acq := (aannParts ann).1, rel := (aannParts ann).2.1, scope := (aannParts ann).2.2,
    data := b.toNat % 2 ^ w, cmp := dv.toNat % 2 ^ w, dest := .g d.toNat }

/-- R301: `amo.32`. -/
def execAmo32 (d a b : GReg) (op : Aop) (ann : AAnn) (s : State) : Host.Outcome State Fault Refusal :=
  entered (.amo32 d a b op ann) s (fun s => s.aligned 4 (amoReq 32 d (s.g a) (s.g b) (s.g d) op ann))

/-- R301: `amo.64`. -/
def execAmo64 (d a b : GReg) (op : Aop) (ann : AAnn) (s : State) : Host.Outcome State Fault Refusal :=
  entered (.amo64 d a b op ann) s (fun s => s.aligned 8 (amoReq 64 d (s.g a) (s.g b) (s.g d) op ann))

/-- A relaxed read-modify-write of `n` bytes. -/
def rmwReq (d : GReg) (va : Word) (n : Nat) (k : AccKind) (b : Word) : Req :=
  { va := va, n := n, kind := k, acq := false, rel := false, scope := none, data := b.toNat % 2 ^ (8 * n), cmp := 0, dest := .g d.toNat }

/-- R303: `fadd.f32`. -/
def execFaddF32 (d a b : GReg) (ea eb : Bool) (s : State) : Host.Outcome State Fault Refusal :=
  entered (.faddF32 d a b ea eb) s (fun s => s.aligned 4 (rmwReq d (s.g a) 4 (.fadd .f32) (s.g b)))

/-- R303: `fadd.f16`. -/
def execFaddF16 (d a b : GReg) (ea eb : Bool) (s : State) : Host.Outcome State Fault Refusal :=
  entered (.faddF16 d a b ea eb) s (fun s => s.aligned 2 (rmwReq d (s.g a) 2 (.fadd .f16) (s.g b)))

/-- R303: `fadd.f64`. -/
def execFaddF64 (d a b : GReg) (ea eb : Bool) (s : State) : Host.Outcome State Fault Refusal :=
  entered (.faddF64 d a b ea eb) s (fun s => s.aligned 8 (rmwReq d (s.g a) 8 (.fadd .f64) (s.g b)))

/-- R303: `fadd.bf16`. -/
def execFaddBf16 (d a b : GReg) (ea eb : Bool) (s : State) : Host.Outcome State Fault Refusal :=
  entered (.faddBf16 d a b ea eb) s (fun s => s.aligned 2 (rmwReq d (s.g a) 2 (.fadd .bf16) (s.g b)))

/-- R303, R165: `decp` on the 4-byte count of a record. -/
def execDecp (d a : GReg) (ea : Bool) (s : State) : Host.Outcome State Fault Refusal :=
  entered (.decp d a ea) s (fun s => s.aligned 32 (rmwReq d (s.g a) 4 .decp 0))

end Sys2Proof.Machine
end

