-- ==== Sys2Proof/Machine/Objects.lean ====
section
/-! DEFINITION. Accesses that an instruction makes whole at their home: finding the place, its checks, barrier objects,
join cells, and the register pool (R15 to R19, R115, R117, R168 to R172, R290). -/

namespace Sys2Proof.Machine

/-! ### Finding a place -/

/-- What finding an address gives: its page, or the state after a trap or a stall. -/
inductive Found | page (p : Page) | stop (t : State)
  deriving DecidableEq, Repr

/-- R290 steps 3, 5 and 6 for an address of the issuing slot; `code` is the kind of a fault record and `einfo` that of a
trap. With no route left to the home the context aborts (R404). -/
def State.find (s : State) (va : Word) (code einfo : Nat) : Found :=
  if !canonical va then .stop (s.trap 6 va (wordOf einfo))
  else
    match s.translate s.cur.core s.me.ctl.fw s.me.ctl.ctx va with
    | .hole => .stop (s.trap 6 va (wordOf einfo))
    | .miss => .stop (s.stallFor (.walk va code))
    | .page p =>
      if (s.spans p true).isNone then .stop (s.abortContext s.me.ctl.fw s.me.ctl.ctx 9 s.cur.core) else .page p

/-- R290 steps 3 and 4 with the rest of `find` behind them. -/
def State.findAligned (s : State) (va : Word) (al code einfo : Nat) : Found :=
  if !canonical va then .stop (s.trap 6 va (wordOf einfo))
  else if va.toNat % al ≠ 0 then .stop (s.trap 7 va (wordOf einfo))
  else s.find va code einfo

/-- The issuing slot's accesses that stand in for a compound access of `n` bytes at a place: what its order is checked with. -/
def State.probe (s : State) (va : Word) (p : Page) (n : Nat) (k : AccKind) : Flight :=
  s.flightOf { va := va, n := n, kind := k, acq := false, rel := false, scope := none, data := 0, cmp := 0, dest := .none }
    s.nextId (s.nextId + 1) { off := 0, len := n, page := p }

/-- Whether the order of the slot's earlier accesses (R223 to R226) and the links to the home (R138) let a relaxed access of `n` bytes act
now. -/
def State.mayAct (s : State) (va : Word) (p : Page) (n : Nat) (k : AccKind) : Bool :=
  mayPerform (s.probe va p n k) s.inflight && !((k.writes || p.ord == 1) && s.relBlocked) && s.roomOn (s.spans p k.returns)

/-- Whether the owner of a place admits `n` bytes of an access of the issuing core with a right (34 loads, 35 stores, 36
atomics). -/
def State.homeOk (s : State) (l : Loc) (n right : Nat) : Bool :=
  match l.sp with
  | .buf c b => c == s.cur.core || s.admits c b l.off (l.off + n) right s.cur.core
  | _ => true

/-- R117: a refused access without a destination: the instruction completes and takes REFUSED, deferred. -/
def State.refusedHere (s : State) (va : Word) : State :=
  (s.retire).deferTo s.cur.core s.cur.slot s.me.id 8 va s.cur.pc

/-- R117: a refused store of an instruction: an event at the issuing core's L0. -/
def State.refusedStore (s : State) (va : Word) : State :=
  (s.retire).event s.cur.core 8 s.cur.slot va 0

/-- R98, R109: a double-bit error that an instruction's own read meets: what the abort leaves in its slot is refused (log entry 83). -/
def State.eccHere (s : State) (va : Word) (l : Loc) (n : Nat) : State :=
  let t := s.eccAbort l n false s.me.ctl.fw s.me.ctl.ctx s.cur.core
  if t.curSlot.busy then t.refusedHere va else t

/-- R101, R117: a fault that a read meets at another core: `late` takes it deferred, after the instruction; else it is precise. -/
def State.awayFault (s : State) (late : Bool) (cause : Nat) (va einfo : Word) : State :=
  if late then (s.retire).deferTo s.cur.core s.cur.slot s.me.id cause va s.cur.pc else s.trap cause va einfo

/-- A read of `n` bytes that meets a double-bit error (R98, R109), or R101: of bytes that are not all written: a trap (precise in the own
buffers), a warning, or nothing; `none` when the read goes on in the state given. -/
def State.readCheck (s : State) (va : Word) (p : Page) (n einfo : Nat) (late : Bool := true) : State × Option State :=
  if s.meetsError p.loc n false then (s, some (s.eccHere va p.loc n)) else
  match s.uninit p.loc n with
  | 0 => (s, none)
  | 1 => (s.warnUninit p.loc va, none)
  | _ =>
    if p.own then (s, some (s.trap 0x11 va (wordOf einfo)))
    else (s, some (s.awayFault late 0x11 va (wordOf einfo)))

/-- A block read whole as a load of the issuing slot, its address a multiple of its length (R312, R314, R351, R362): the
bytes as a number, or the state after a trap or a stall. -/
inductive Block | data (n : Nat) (s : State) | stop (t : State)
  deriving DecidableEq, Repr

/-- The bytes of a place, of the control space and of the inbox included. -/
def State.fetchNat (s : State) (l : Loc) (n : Nat) : Nat :=
  match l.sp with
  | .ctl => s.ctlRead l.off n
  | _ => s.readNat l n

/-- A block of `n` bytes at a multiple of `al`, which lies in one page; every fault is precise but, where the instruction's rule does not say
so (`late`), those met at another core. -/
def State.readBlock (s : State) (va : Word) (n al : Nat) (late : Bool := false) : Block :=
  match s.findAligned va al 0 0 with
  | .stop t => .stop t
  | .page p =>
    match p.denies s.atL0 (.load false) n false with
    | some c => .stop (s.trap c va 0)
    | none =>
      if !s.mayAct va p n .vload then .stop (s.stallFor .ordering)
      else if !s.homeOk p.loc n 34 then .stop ((s.cross p true).awayFault late 8 va s.cur.pc)
      else
        match (s.cross p true).readCheck va p n 0 late with
        | (_, some t) => .stop t
        | (s1, none) => .data (s1.fetchNat p.loc n) s1

/-- Word `i` of a block. -/
def blockWord (d i : Nat) : Word := wordOf (d / 2 ^ (64 * i) % 2 ^ 64)

/-! ### Barrier objects (R170 to R172, R306) -/

/-- The object's words. -/
def State.obj0 (s : State) (l : Loc) : Nat := s.readNat l 8
/-- Word 1. -/
def State.obj1 (s : State) (l : Loc) : Nat := s.readNat (l.plus 8) 8

/-- R171: an arrival of `n` on the object at a place; `status` sets STATUS and `wd` sets WD. -/
def State.arrive (s : State) (l : Loc) (n : Nat) (status : Option Nat) (wd : Bool) : State :=
  let w0 := s.obj0 l
  let w1 := s.obj1 l
  let target := fld w0 32 32
  let sm := fld w0 0 32 + n
  let gen := fld w1 0 32
  let count := if target = 0 then sm % 2 ^ 32 else if target ≤ sm then sm % target else sm
  let gen1 := if target ≠ 0 ∧ target ≤ sm then (gen + sm / target) % 2 ^ 32 else gen
  let st := status.getD (fld w1 33 3)
  let wd1 := b2n (wd || bitAt w1 32)
  s.writeNat l 16 (target * 2 ^ 32 + count + 2 ^ 64 * (fld w1 48 16 * 2 ^ 48 + fld w1 36 12 * 2 ^ 36 + st * 2 ^ 33 + wd1 * 2 ^ 32 + gen1))

/-- R306: the place of a barrier object that an instruction names: a multiple of 16 in a C buffer (log entry 23). -/
def State.findObject (s : State) (va : Word) : Found :=
  if canonical va && va.toNat % 16 != 0 then .stop (s.trap 6 va 1)
  else
    match s.find va 3 1 with
    | .stop t => .stop t
    | .page p =>
      match p.loc.sp with
      | .buf _ 3 => if p.r && p.w then .page p else .stop (s.trap 6 va 1)
      | _ => .stop (s.trap 6 va 1)

/-- R172: whether a `bowait` that expects generation `g` is satisfied. -/
def boSatisfied (w1 g : Nat) : Bool := fld w1 0 32 != g || bitAt w1 32 || fld w1 33 3 != 0

/-! ### Join cells (R168, R169, R311) -/

/-- R311: the place of a join cell. -/
def State.findCell (s : State) (va : Word) : Found :=
  match s.findAligned va 16 3 1 with
  | .stop t => .stop t
  | .page p =>
    let ok := match p.loc.sp with
      | .buf _ 3 => true
      | .hbm => p.ord == 0
      | .remote _ => p.ord == 0
      | _ => false
    if ok && p.r && p.w then .page p else .stop (s.trap 6 va 1)

/-- COUNT of a cell. -/
def State.cellCount (s : State) (l : Loc) : Int := toSigned 32 (s.readNat l 4)
/-- PK of a cell. -/
def State.cellPk (s : State) (l : Loc) : Bool := bitAt (s.readNat l 8) 32
/-- CONT of a cell. -/
def State.cellCont (s : State) (l : Loc) : Word := wordOf (fld (s.readNat (l.plus 8) 8) 2 55 * 4)

/-- The issuing slot's work may end or park here: no register of it is empty, and a handler's action would not wait. -/
def State.mayEnd (s : State) : Bool :=
  s.me.regs.noneEmpty &&
  !(s.me.events && s.myCore.actionWaits (bits s.me.ctl.eslot 3 0) (causeKind s.me.ctl.ecause) 3)

/-- The issuing slot's work ends, as by `end` (R281). -/
def State.endSelf (s : State) : State :=
  if s.me.events then s.endHandler 3 0 else s.retire.endWork s.cur.core s.cur.slot

/-- Whether the issuing slot's work may park: R74, and no scope-missed access is held (R86). -/
def State.mayPark (s : State) : Bool := s.me.regs.noneEmpty && s.curSlot.held.isNone

/-- The microsecond at whose start `n` microseconds from now have passed: a park within a microsecond counts its rest for nothing (R304). -/
def State.deadline (s : State) (n : Nat) : Nat := s.usec + n + (if s.beat % ticksPerMicro = 0 then 0 else 1)

/-- The issuing slot's group completes and its work parks, to go on at `pc`. -/
def State.parkAt (s : State) (pc : Word) (wt : Wait) (until_ : Option Nat) : State :=
  s.retire.parkSlot s.cur.core s.cur.slot pc wt until_

/-- R169: the branch for a count that stays above zero. -/
def State.joinWait (s : State) (l : Loc) : State :=
  if s.me.thread && !s.cellPk l then
    (s.writeNat l 8 (s.readNat l 8 + 2 ^ 32)).parkAt (s.cellCont l) (.cell l) none
  else s.endSelf

/-! ### The register pool (R15 to R19) -/

/-- General steps that a slot holds: its first step may be its level's reserve (R16). -/
def Slot.generalSteps (x : Slot) : Nat := if x.busy then x.w.ctl.allot - b2n x.res else 0

/-- Steps that a recruit holds back for shares not yet started (R31). -/
def Core.reservedSteps (k : Core) : Nat :=
  (((k.ring 3).chip ++ (k.ring 3).spill).filter (fun e => e.share)).foldl (fun a e => a + e.allot) 0

/-- L3 slots that a recruit holds back. -/
def Core.reservedSlots (k : Core) : Nat := (((k.ring 3).chip ++ (k.ring 3).spill).filter (fun e => e.share)).length

/-- The general steps in use by slots (R15). -/
def Core.usedSteps (k : Core) : Nat := (List.range 8).foldl (fun a n => a + (k.slot n).generalSteps) 0

/-- The general steps free now: 14 less those held and those reserved (R16, R31). -/
def Core.freeSteps (k : Core) : Nat := 14 - k.usedSteps - k.reservedSteps

/-- The slots of a level. -/
def levelSlots (lvl : Nat) : List Nat := [2 * lvl, 2 * lvl + 1]

/-- Free slots of a level, those held back by a recruit included (R31). -/
def Core.freeSlots (k : Core) (lvl : Nat) : List Nat := (levelSlots lvl).filter (fun n => !(k.slot n).busy)

/-- Whether a level's reserved step is free (R16). -/
def Core.reserveFree (k : Core) (lvl : Nat) : Bool :=
  decide (lvl < 2) && !(levelSlots lvl).any (fun n => (k.slot n).busy && (k.slot n).res)

/-- General steps that a start of `allot` steps takes at a level: one less where the reserve is free. -/
def Core.needs (k : Core) (lvl allot : Nat) : Nat := if k.reserveFree lvl then allot - 1 else allot

/-- Steps that the head of a level declares: an event task one (R25), a codelet what its record holds, a resume what its
work holds. -/
def State.headAllot (s : State) (c : Nat) (e : Entry) : Nat :=
  match e.kind with
  | 1 =>
    (match selfPlace e.frame with
     | some (b, off) => fld (s.readNat { sp := .buf c b, off := off } 8) 59 3
     | none => e.allot)
  | 4 => (match s.parked.find? (fun p => some p.id == e.parked) with | some p => p.w.ctl.allot | none => e.allot)
  | _ => e.allot

/-- R17: whether a level's head has a free slot and waits for steps alone. -/
def State.waitsForSteps (s : State) (c lvl : Nat) : Bool :=
  let k := s.core c
  !(k.freeSlots lvl).isEmpty &&
  (if lvl = 0 ∧ !k.events.isEmpty then decide (k.freeSteps < k.needs 0 1)
   else
     match (k.ring lvl).chip with
     | e :: _ => !e.share && decide (k.freeSteps < k.needs lvl (s.headAllot c e))
     | [] => false)

/-- R17: whether a head of a level above waits for steps: freed steps are its own. -/
def State.higherWaits (s : State) (c lvl : Nat) : Bool := (List.range lvl).any (fun l => s.waitsForSteps c l)

/-- The registers above an allotment cleared: zero and full (R19). -/
def Regs.clip (x : Regs) (n : Nat) : Regs :=
  { x with
    g := x.g.filter (fun e => decide (e.1 < 16 * n))
    ge := x.ge.filter (fun e => decide (e.1 < 16 * n))
    v := x.v.filter (fun e => decide (e.1 < 8 * n))
    ve := x.ve.filter (fun e => decide (e.1 < 8 * n)) }

/-- Whether every register above an allotment is full. -/
def Regs.fullAbove (x : Regs) (n : Nat) : Bool :=
  x.ge.all (fun e => !e.2 || decide (e.1 < 16 * n)) && x.ve.all (fun e => !e.2 || decide (e.1 < 8 * n))

end Sys2Proof.Machine
end

