-- ==== Sys2Proof/Machine/Tasks.lean ====
section
/-! DEFINITION. 14_isa_memory_tasks: waiting, barriers, barrier objects, and creating and joining work (R304 to R316). -/

namespace Sys2Proof.Machine

/-- R290 step 2: BLOCKINTASK for work that is no team thread; EADDR is the address of a member that has one, else 0, and EINFO bit 0 is set
for one that writes there. -/
def State.threadOnly (s : State) (va einfo : Word) (k : State → State) : State := if s.me.thread then k s else s.trap 4 va einfo

/-! ### Waiting (R304, R305, R308) -/

/-- R304: the places a `waita` may watch. -/
def waitaPlace (p : Page) : Bool :=
  p.ord != 2 && p.r &&
  (match p.loc.sp with
   | .buf _ _ => true
   | .hbm => true
   | .remote _ => true
   | _ => false)

/-- R304: the read at the home, and the park when the word is the one expected. MARK (DESIGN CHOICE, log entry 104): one that completes
without parking saves nothing and does not wait for empty registers, and so does a `bowait`. -/
def State.waitWord (s : State) (va : Word) (p : Page) (b : Word) (us : Nat) : State :=
  if !s.mayAct va p 8 (.load false) then s.stallFor .ordering
  else if !s.homeOk p.loc 8 34 then (s.cross p true).refusedHere va
  else if s.readNat p.loc 8 = b.toNat && !s.mayPark then s.stallFor .empty
  else
    match (s.cross p true).readCheck va p 8 0 with
    | (_, some t) => t
    | (s1, none) =>
      if s1.readNat p.loc 8 = b.toNat then
        s1.parkAt s1.nextPc (.line (p.loc.key / 64)) (if us = 0 then none else some (s1.deadline us))
      else s1.retire

/-- R304: `waita`. -/
def execWaita (d a b : GReg) (ea eb : Bool) (s : State) : Host.Outcome State Fault Refusal :=
  entered (.waita d a b ea eb) s (fun s => s.threadOnly (s.g a) 0 (fun s =>
    if bits (s.g d) 63 32 ≠ 0 then s.illegal 0xB00
    else
      match s.findAligned (s.g a) 8 0 0 with
      | .stop t => t
      | .page p => if waitaPlace p then s.waitWord (s.g a) p (s.g b) (bits (s.g d) 31 0) else s.trap 6 (s.g a) 0))

/-- R44: the thread's number in its team. -/
def Work.threadNo (w : Work) : Nat := bits w.ctl.tid 7 0

/-- R305, R236: the arrival of the issuing thread, made once its earlier accesses are performed; the group completes when the
barrier has. -/
def State.barrier (s : State) (sc : Scope) : State :=
  s.threadOnly 0 0 (fun s =>
    let thr := s.me.threadNo
    let mine := fun (t : Team) => some t.id == s.me.team
    let put := fun (s : State) (f : Team → Team) => ({ s with teams := s.teams.map (fun t => if mine t then f t else t) } : State)
    match s.teams.find? mine with
    | none => s.stallFor .barrier
    | some t =>
      if tblGet (Scope.sys, false) t.arrived thr == (sc, true) then
        (put s (fun t => { t with arrived := tblDel t.arrived thr })).retire
      else if tblGet (Scope.sys, false) t.arrived thr == (sc, false) then s.stallFor .barrier
      else if !s.drained then s.stallFor .ordering
      else ((put s (fun t => { t with arrived := tblSet t.arrived thr (sc, false) })).barSettle).stallFor .barrier)

/-- R305: `bar.quad`. -/
def execBarQuad (s : State) : Host.Outcome State Fault Refusal := entered .barQuad s (fun s => s.barrier .quad)
/-- R305: `bar.clus`. -/
def execBarClus (s : State) : Host.Outcome State Fault Refusal := entered .barClus s (fun s => s.barrier .clus)
/-- R305: `bar.die`. -/
def execBarDie (s : State) : Host.Outcome State Fault Refusal := entered .barDie s (fun s => s.barrier .die)
/-- R305: `bar.mod`. -/
def execBarMod (s : State) : Host.Outcome State Fault Refusal := entered .barMod s (fun s => s.barrier .mod)
/-- R305: `bar.pod`. -/
def execBarPod (s : State) : Host.Outcome State Fault Refusal := entered .barPod s (fun s => s.barrier .pod)

/-- R308: `park`. -/
def execPark (a : GReg) (ea : Bool) (s : State) : Host.Outcome State Fault Refusal :=
  entered (.park a ea) s (fun s => s.threadOnly 0 0 (fun s =>
    let us := (s.g a).toNat
    if 2 ^ 32 ≤ us then s.illegal 0xB00
    else if !s.mayPark then s.stallFor .empty
    else if us = 0 then (s.parkAt s.nextPc .time none).wake s.nextId
    else s.parkAt s.nextPc .time (some (s.deadline us))))

/-! ### Barrier objects (R306, R307) -/

/-- R306: `boinit`. -/
def execBoinit (a b : GReg) (ea eb : Bool) (s : State) : Host.Outcome State Fault Refusal :=
  entered (.boinit a b ea eb) s (fun s =>
    match s.findObject (s.g a) with
    | .stop t => t
    | .page p =>
      let t := bits (s.g b) 31 0
      let w1 := s.obj1 p.loc
      if t = 0 then s.illegal 0
      else if !s.mayAct (s.g a) p 16 (.amo 64 .swap) then s.stallFor .ordering
      else if !s.homeOk p.loc 16 36 then (s.cross p false).refusedHere (s.g a)
      else if s.meetsError (p.loc.plus 8) 8 false then (s.cross p false).eccHere (s.g a) (p.loc.plus 8) 8
      else ((s.cross p false).writeNat p.loc 16 (t * 2 ^ 32 + 2 ^ 64 * (fld w1 48 16 * 2 ^ 48 + fld w1 0 32))).retire)

/-- R306: `boarr`, a release. -/
def execBoarr (a b : GReg) (ea eb : Bool) (s : State) : Host.Outcome State Fault Refusal :=
  entered (.boarr a b ea eb) s (fun s =>
    match s.findObject (s.g a) with
    | .stop t => t
    | .page p =>
      if !s.settled || !s.roomOn (s.spans p false) then s.stallFor .ordering
      else if !s.homeOk p.loc 16 36 then (s.cross p false).refusedHere (s.g a)
      else
        match (s.cross p false).readCheck (s.g a) p 16 1 with
        | (_, some t) => t
        | (s1, none) => (s1.arrive p.loc (bits (s1.g b) 31 0) none false).retire)

/-- R307: `bowait`: it completes satisfied; else it parks and runs again from its own address. -/
def execBowait (a b : GReg) (ea eb : Bool) (s : State) : Host.Outcome State Fault Refusal :=
  entered (.bowait a b ea eb) s (fun s => s.threadOnly (s.g a) 1 (fun s =>
    match s.findObject (s.g a) with
    | .stop t => t
    | .page p =>
      let g := bits (s.g b) 31 0
      if s.curSlot.held.isSome || !s.mayAct (s.g a) p 16 (.load false) then s.stallFor .ordering
      else if !s.homeOk p.loc 16 36 then (s.cross p true).refusedHere (s.g a)
      else if !boSatisfied (s.obj1 p.loc) g && !s.mayPark then s.stallFor .empty
      else
        match (s.cross p true).readCheck (s.g a) p 16 1 with
        | (_, some t) => t
        | (s1, none) =>
          if boSatisfied (s1.obj1 p.loc) g then s1.retire
          else (s1.setWsum p.loc (min (fld (s1.obj1 p.loc) 48 16 + 1) 0xFFFF)).parkSlot s.cur.core s.cur.slot s.cur.pc
                 (.object p.loc) none))

/-! ### Creating and joining work (R309 to R316) -/

/-- R309: whether an entry word is well formed for a member that accepts a set of levels. -/
def entryWordOk (w : Word) (levels : List Nat) : Bool :=
  bits w 63 61 == 0 && bits w 57 57 == 0 && decide (1 ≤ bits w 60 58) && decide (bits w 60 58 ≤ 4) && levels.contains (bits w 1 0)

/-- The address in bits 56:2 of an entry word. -/
def entryPc (w : Word) : Word := wordOf (bits w 56 2 * 4)

/-- A ready entry of a kind, from an entry word and a frame. -/
def entryOf (kind : Nat) (w frame : Word) (team : Option Nat) : Entry :=
  { kind := kind, allot := bits w 60 58, pc := entryPc w, lvl := bits w 1 0, frame := frame, g2 := 0, g3 := 0, landed := none,
    hclass := none, parked := none, team := team, share := false }

/-- R310: `fork`. -/
def execFork (d a b : GReg) (ea eb : Bool) (s : State) : Host.Outcome State Fault Refusal :=
  entered (.fork d a b ea eb) s (fun s =>
    if !entryWordOk (s.g a) [3] then s.illegal 0x700
    else if s.myCore.dqb = 0 then s.illegal 0x701
    else if !s.settled then s.stallFor .ordering
    else if 4096 ≤ s.myCore.deque.length then s.retireG d 1
    else
      match s.dequePlace s.cur.core s.myCore.deque.length with
      | .absent => s.stallFor (.deque (s.dequeVa s.cur.core s.myCore.deque.length))
      | .bad => s.abortContext s.me.ctl.fw s.me.ctl.ctx 5 s.cur.core
      | .place _ => (s.pushDeque s.cur.core [entryOf 5 (s.g a) (s.g b) s.me.team]).retireG d 0)

/-- R169 at the cell's home, its checks passed: the count, the flag and what the issuer does. -/
def State.joinAt (s : State) (va : Word) (l : Loc) : State :=
  let old := s.cellCount l
  let w0 := s.readNat l 8
  if old ≤ 0 then
    (s.event s.cur.core 0x1B 8 va (BitVec.ofInt 64 old)).endSelf
  else
    let dec := fld w0 32 32 * 2 ^ 32 + wrapTo 32 (old - 1)
    if old = 1 then
      (if s.cellPk l then (s.writeNat l 8 0).endSelf else (s.writeNat l 8 dec).retireTo (s.cellCont l))
    else (s.writeNat l 8 dec).joinWait l

/-- Whether the issuer of a `join` may do what the cell will ask of it now: go on, end, or park. -/
def State.joinReady (s : State) (l : Loc) : Bool :=
  let old := s.cellCount l
  if old = 1 && !s.cellPk l then true
  else if 1 < old && s.me.thread && !s.cellPk l then s.mayPark
  else s.mayEnd

/-- R311: `join`. -/
def execJoin (a : GReg) (ea : Bool) (s : State) : Host.Outcome State Fault Refusal :=
  entered (.join a ea) s (fun s =>
    match s.findCell (s.g a) with
    | .stop t => t
    | .page p =>
      if !s.settled || !s.roomOn (s.spans p true) then s.stallFor .ordering
      else if !s.homeOk p.loc 16 36 then (s.cross p true).refusedHere (s.g a)
      else if !s.joinReady p.loc then s.stallFor .empty
      else
        match (s.cross p true).readCheck (s.g a) p 16 1 with
        | (_, some t) => t
        | (s1, none) => s1.joinAt (s1.g a) p.loc)

/-- R31: a core that a recruit may take for shares of `allot` steps. -/
def Core.idleFor (k : Core) (allot : Nat) : Bool :=
  !k.halted && !(k.freeSlots 3).isEmpty && (k.ring 3).chip.isEmpty && (k.ring 3).spill.isEmpty && k.deque.isEmpty &&
  decide (allot ≤ k.freeSteps)

/-- R31: the cores that the recruit tree passes, in the order it finds them: the quad, the cluster, the die. -/
def State.recruitOrder (s : State) (c scope : Nat) (ctx : Nat) : List Nat :=
  let cl := clusterOf c
  let near := (clusterCores cl).filter (fun h => quadOf h == quadOf c)
  let own := (clusterCores cl).filter (fun h => quadOf h != quadOf c)
  let far := ((dieClusters (cl / 64)).filter (fun n => n != cl && (s.cluster n).owner == some ctx)).flatMap clusterCores
  near ++ (if 2 ≤ scope then own else []) ++ (if 3 ≤ scope then far else [])

/-- R31: the idle cores within the descriptor's scope. -/
def State.recruits (s : State) (scope allot : Nat) : List Nat :=
  (s.recruitOrder s.cur.core scope s.me.ctl.ctx).filter (fun h =>
    h != s.cur.core && s.ownsCore s.me.ctl.fw s.me.ctl.ctx h && (s.core h).idleFor allot)

/-- R312: whether a descriptor is well formed. -/
def descOk (d : Nat) : Bool :=
  let w0 := blockWord d 0
  bits w0 63 61 == 0 && bits w0 57 57 == 0 && decide (1 ≤ bits w0 60 58) && decide (bits w0 60 58 ≤ 4) && bits w0 1 0 != 0 &&
  bits (blockWord d 3) 63 32 == 0 && bits (blockWord d 3) 31 0 != 0

/-- R31: the first index of share `i` of `k` over `n`. -/
def shareFirst (n k i : Nat) : Nat := i * (n / k) + min i (n % k)

/-- A share's entry (KIND 3); a recruited core holds a slot and the steps for it. -/
def shareEntry (d n k i : Nat) (team : Option Nat) (held : Bool) : Entry :=
  { kind := 3, allot := bits (blockWord d 0) 60 58, pc := entryPc (blockWord d 0), lvl := 3, frame := blockWord d 1,
    g2 := wordOf (shareFirst n k i), g3 := wordOf (shareFirst n k (i + 1)), landed := none, hclass := none, parked := none,
    team := team, share := held }

/-- R31, R312: the split: the cell's count, the shares, and the issuer's branch. -/
def State.split (s : State) (d n : Nat) (l : Loc) : State :=
  let grain := bits (blockWord d 3) 31 0
  let idle := s.recruits (bits (blockWord d 0) 1 0) (bits (blockWord d 0) 60 58)
  let k := min idle.length ((n + grain - 1) / grain)
  if k = 0 then
    ((s.writeNat l 8 1).joinWait l).pushReady s.cur.core 3 (shareEntry d n 1 0 s.me.team false)
  else
    let s1 : State := (List.zipWith (fun (c i : Nat) => (c, i)) idle (List.range k)).foldl
      (fun (t : State) e =>
        if t.aborting s.cur.core && !s.aborting s.cur.core then t else t.pushReady e.1 3 (shareEntry d n k e.2 s.me.team true))
      (s.writeNat l 8 k)
    if s1.aborting s.cur.core && !s.aborting s.cur.core then s1 else s1.joinWait l

/-- R312: `rfork`. -/
def execRfork (a b : GReg) (ea eb : Bool) (s : State) : Host.Outcome State Fault Refusal :=
  entered (.rfork a b ea eb) s (fun s =>
    let n := (s.g a).toNat
    if !s.settled then s.stallFor .ordering
    else
      match s.readBlock (s.g b) 32 32 with
      | .stop t => t
      | .data d s1 =>
        if !descOk d then s1.illegal 0x702
        else
          match s1.findCell (blockWord d 2) with
          | .stop t => t
          | .page p =>
            if !s1.roomOn (s1.spans p true) then s.stallFor .ordering
            else if !s1.homeOk p.loc 16 36 then (s1.cross p true).refusedHere (blockWord d 2)
            else if n = 0 then
              (match (s1.cross p true).readCheck (blockWord d 2) p 16 1 with
               | (_, some t) => t
               | (s2, none) => s2.retireTo (s2.cellCont p.loc))
            else if !(if s.me.thread then s.mayPark else s.mayEnd) then s.stallFor .empty
            else if s.me.thread && s1.meetsError (p.loc.plus 8) 8 false then
              (s1.cross p true).eccHere (blockWord d 2) (p.loc.plus 8) 8
            else (s1.cross p true).split d n p.loc)

/-- R313: `post`. -/
def execPost (a b : GReg) (ea eb : Bool) (s : State) : Host.Outcome State Fault Refusal :=
  entered (.post a b ea eb) s (fun s =>
    let w := s.g a
    if !entryWordOk w [0, 1, 2, 3] then s.illegal 0x700
    else if bits w 1 0 = 0 && !s.me.ctl.fw then s.trap 0x15 0 0
    else if !s.settled then s.stallFor .ordering
    else s.retire.pushReady s.cur.core (bits w 1 0) (entryOf 2 w (s.g b) (if bits w 1 0 = 3 then s.me.team else none)))

/-- R164, R166: whether an image is a well-formed record. -/
def recordOk (d : Nat) : Bool :=
  let w0 := blockWord d 0
  let w1 := blockWord d 1
  decide (1 ≤ bits w0 61 59) && decide (bits w0 61 59 ≤ 4) && bits w0 58 32 == 0 && !wbit w0 31 &&
  bits w1 63 57 == 0 && bits w1 1 0 == 0 && blockWord d 3 == 0

/-- R314: the place of a record. -/
def State.findRecord (s : State) (va : Word) : Found :=
  match s.findAligned va 32 1 1 with
  | .stop t => .stop t
  | .page p =>
    let ok := match p.loc.sp with
      | .buf _ 2 => true
      | .buf _ 3 => true
      | _ => false
    if ok && p.w then .page p else .stop (s.trap 6 va 1)

/-- R314: a record written whole; a COUNT of 0 dispatches at once (R166). -/
def State.writeRecord (s : State) (l : Loc) (d : Nat) : State :=
  let s1 : State := (s.writeNat l 32 d).retire
  if bits (blockWord d 0) 31 0 = 0 then
    (match l.sp with
     | .buf c b => s1.dispatch c b l.off (bits (blockWord d 0) 63 62)
     | _ => s1)
  else s1

/-- R314: `cdinit`. -/
def execCdinit (a b : GReg) (ea eb : Bool) (s : State) : Host.Outcome State Fault Refusal :=
  entered (.cdinit a b ea eb) s (fun s =>
    match s.findRecord (s.g a) with
    | .stop t => t
    | .page p =>
      if !s.mayAct (s.g a) p 32 .store then s.stallFor .ordering
      else
        match s.readBlock (s.g b) 32 32 with
        | .stop t => t
        | .data d s1 =>
          if !recordOk d then s1.illegal 0x700
          else if bits (blockWord d 0) 63 62 = 0 && !s.me.ctl.fw then s1.trap 0x15 0 0
          else if bits (blockWord d 0) 31 0 = 0 && !s.settled then s.stallFor .ordering
          else if !s1.roomOn (s1.spans p false) then s.stallFor .ordering
          else if !s1.homeOk p.loc 32 35 then (s1.cross p false).refusedStore (s.g a)
          else (s1.cross p false).writeRecord p.loc d)

/-- R18: the steps that team threads hold on a core. -/
def Core.threadSteps (k : Core) : Nat :=
  (List.range 8).foldl (fun a n => a + if (k.slot n).busy && (k.slot n).w.thread then (k.slot n).w.ctl.allot else 0) 0

/-- The issuing slot's allotment and the registers it keeps set. -/
def State.setAllot (s : State) (n keep : Nat) : State :=
  s.modWork s.cur.core s.cur.slot (fun w => { w with regs := w.regs.clip keep, ctl := { w.ctl with allot := n } })

/-- R315: `grow`. -/
def execGrow (d a : GReg) (ea : Bool) (s : State) : Host.Outcome State Fault Refusal :=
  entered (.grow d a ea) s (fun s =>
    let n := (s.g a).toNat
    let al := s.me.ctl.allot
    if n < 1 ∨ 4 < n ∨ n < al then s.illegal 0x703
    else if n = al then s.retireG d 0
    else if s.me.thread && decide (8 < s.myCore.threadSteps + (n - al)) then s.retireG d 2
    else if s.myCore.freeSteps < n - al || s.higherWaits s.cur.core (s.cur.slot / 2) then s.retireG d 1
    else (s.setAllot n al).retireG d 0)

/-- R315: `shrink`. -/
def execShrink (d a : GReg) (ea : Bool) (s : State) : Host.Outcome State Fault Refusal :=
  entered (.shrink d a ea) s (fun s =>
    let n := (s.g a).toNat
    let al := s.me.ctl.allot
    if n < 1 ∨ 4 < n ∨ al < n then s.illegal 0x703
    else if 16 * n ≤ d.toNat then s.trap 2 0 0
    else if !s.me.regs.fullAbove n then s.stallFor .empty
    else (s.setAllot n n).retireG d (wordOf (al - n)))

/-- R316: `stgpush`. -/
def execStgpush (d a b : GReg) (ea eb : Bool) (s : State) : Host.Outcome State Fault Refusal :=
  entered (.stgpush d a b ea eb) s (fun s =>
    let i := (s.g a).toNat
    let n := clusterOf s.cur.core
    if 8 ≤ i then s.illegal 0x704
    else if !s.settled then s.stallFor .ordering
    else if isMc s.cur.core then s.retireG d 1
    else
      let ring := tblGet [] (s.cluster n).stages i
      if 256 ≤ ring.length || bits ((s.cluster n).cfgWord i 0) 62 60 == 0 then s.retireG d 1
      else (s.modCluster n (fun k => { k with stages := tblSet k.stages i (ring ++ [s.g b]) })).retireG d 0)

/-- R316: `stgsub`. -/
def execStgsub (a : GReg) (ea : Bool) (s : State) : Host.Outcome State Fault Refusal :=
  entered (.stgsub a ea) s (fun s =>
    if 16 ≤ (s.g a).toNat then s.illegal 0x704
    else (s.modCore s.cur.core (fun k => { k with stg := (s.g a).toNat, stgMove := none, stgWorks := [] })).retire)

end Sys2Proof.Machine
end

