-- ==== Sys2Proof/Machine/Messages.lean ====
section
/-! DEFINITION. Messages: sending, routing, arrival, the class mask, and the transpose exchange (R94, R127 to R130, R143, R150
to R152, R201, R215, R317 to R321, R427, R431). -/

namespace Sys2Proof.Machine

/-- A step that is no instruction: its effect, or the fault of a unit that does not exist. -/
def occurs (unit : Bool) (t : State) : Host.Outcome State Fault Refusal := if unit then .next t else .fault .noSuchUnit

/-! ### The handler table (R140) -/

/-- An empty entry. -/
def words0 : Words4 := { w0 := 0, w1 := 0, w2 := 0, w3 := 0 }
/-- The entry of a class. -/
def Core.handler (k : Core) (cls : Nat) : Words4 := tblGet words0 k.handlers cls
/-- STATE. -/
def Words4.hState (h : Words4) : Nat := bits h.w0 63 62
/-- LVL. -/
def Words4.hLvl (h : Words4) : Nat := bits h.w0 61 60
/-- ALLOT. -/
def Words4.hAllot (h : Words4) : Nat := bits h.w0 59 57
/-- LKIND. -/
def Words4.hKind (h : Words4) : Nat := bits h.w2 63 62
/-- BASE. -/
def Words4.hBase (h : Words4) : Nat := bits h.w2 61 52
/-- Cells of the landing ring. -/
def Words4.hCells (h : Words4) : Nat := 2 ^ bits h.w2 51 49
/-- NSLOT. -/
def Words4.hSlots (h : Words4) : Nat := bits h.w2 48 41
/-- RING. -/
def Words4.hRing (h : Words4) : Nat := bits h.w2 40 37

/-- Whether a class of a core is masked. -/
def Core.masked (k : Core) (cls : Nat) : Bool := wbit k.cmask cls
/-- CPEND (R128). -/
def Core.cpend (k : Core) : Word :=
  wordOf ((List.range 64).foldl (fun a c => a + if k.pending.any (fun p => p.cls == c) then 2 ^ c else 0) 0)
/-- The holding queue of a class. -/
def Core.holdingOf (k : Core) (cls : Nat) : List Packet := tblGet [] k.holding cls

/-! ### Refusal -/

/-- R117, R318, R94: a packet refused: an event at the sender's L0; the comparator's own post is held instead. -/
def State.refusePacket (s : State) (p : Packet) (cause : Nat) : State :=
  if p.local_ then { s with heldAlerts := setIns s.heldAlerts (match p.words with | w :: _ => w.toNat | [] => 0) }
  else s.event p.src cause p.sslot p.dword (if cause = 9 then wordOf p.cls else 0)

/-! ### Arrival (R127, R143, R215) -/

/-- Bytes of a GM record with a header word 1 (R203). -/
def gmSize (w1 : Word) : Nat :=
  let n := bits w1 15 12 + bits w1 11 8
  16 + (n + n * (n + 1) / 2) * (if wbit w1 7 then 8 else 4)

/-- The slots of a mailbox that a record of a size takes (R203). -/
def gmSpan (size : Nat) : Nat := (size + 383) / 384

/-- Byte offset of mailbox slot `i` in A (R140). -/
def Words4.slotOff (h : Words4) (i : Nat) : Nat := (h.hBase + 6 * i) * 64

/-- R117, R88: whether the receiver admits a packet's write of bytes `lo` to `hi - 1` of its A buffer. -/
def State.packetAdmitted (s : State) (c : Nat) (p : Packet) (lo hi : Nat) : Bool :=
  p.local_ || p.src == c || s.admits c 2 lo hi 35 p.src

/-- R127 step 3 with R133, R143, R215 and R318: whether the entry's area takes a packet. -/
def State.areaTakes (s : State) (c : Nat) (p : Packet) (h : Words4) : Bool :=
  match h.hKind with
  | 0 =>
    let l := (s.core c).landingOf p.cls
    !p.gm && decide (p.words.length ≤ 8) && decide (l.used.length < h.hCells) &&
    s.packetAdmitted c p ((h.hBase + l.next) * 64) ((h.hBase + l.next) * 64 + 64)
  | 1 =>
    (p.gm || decide (p.words.length ≤ 47)) && decide (p.slot + p.span ≤ h.hSlots) &&
    s.packetAdmitted c p (h.slotOff p.slot) (h.slotOff p.slot + 384 * p.span)
  | _ =>
    let r := (s.core c).stream h.hRing
    !p.gm && r.owner.isSome &&
    (match r.team with
     | some t => s.teams.any (fun x => x.id == t && x.resident)
     | none => true) &&
    decide (p.words.length ≤ r.room) &&
    (List.range p.words.length).all (fun i =>
      let row := (r.place c (r.occ + i)).off / 64 * 64
      s.packetAdmitted c p row (row + 64))

/-- Words written in order of address. -/
def State.writeWords (s : State) (l : Loc) (ws : List Word) : State := s.write l (ws.flatMap (fun w => bytesOf 8 w.toNat))

/-- R130, R215: the version of two bytes at a place; unwritten bytes read as 0. -/
def State.versionAt (s : State) (l : Loc) : Nat := if s.allValid l 2 then s.readNat l 2 else 0

/-- Step 5 into a mailbox: the payload, then the version. A double-bit error in a word that it keeps a part of aborts the owner (R98). -/
def State.putMailbox (s : State) (c : Nat) (p : Packet) (h : Words4) : State :=
  let l : Loc := { sp := .buf c 2, off := h.slotOff p.slot }
  let old := if p.gm then l else l.plus 376
  if s.meetsError old 8 false || (p.gm && s.meetsError l (gmSize (p.words.getD 1 0)) true) then s.abortOwner c 6
  else if p.gm then
    let bs := (p.words.flatMap (fun w => bytesOf 8 w.toNat)).take (gmSize (p.words.getD 1 0))
    let v := s.versionAt (l.plus 2)
    ((s.write (l.plus 4) (bs.drop 4)).writeNat l 2 (p.src % 32768)).writeNat (l.plus 2) 2 ((v + 1) % 65536)
  else
    let v := s.versionAt (l.plus 382)
    (s.writeWords l p.words).writeNat (l.plus 382) 2 ((v + 1) % 65536)

/-- R132: elements appended to a ring. -/
def State.putRing (s : State) (c r : Nat) (ws : List Word) : State :=
  let x := (s.core c).stream r
  let s1 : State := (List.zipWith (fun (w : Word) (i : Nat) => (w, i)) ws (List.range ws.length)).foldl
    (fun (t : State) e => t.writeNat (x.place c (x.occ + e.2)) 8 e.1.toNat) s
  s1.modCore c (fun k => k.setStream r { x with occ := x.occ + ws.length })

/-- A handler's entry: PC, FRAME, LVL and ALLOT of the table entry as it stands (R143). -/
def handlerEntry (h : Words4) (cls : Nat) (g2 : Word) (landed : Option (Nat × Nat)) : Entry :=
  { kind := 0, allot := h.hAllot, pc := entryPc h.w0, lvl := h.hLvl, frame := h.w1, g2 := g2, g3 := 0, landed := landed,
    hclass := some cls, parked := none, team := none, share := false }

/-- R127 step 6, R128: the start pends while its class is masked, a mailbox slot's merging with one that pends; else it is
ready, as an arrival (step 4 has found room) or as a non-message push. -/
def State.startHandler (s : State) (c cls : Nat) (slot : Option Nat) (e : Entry) : State :=
  let k := s.core c
  if k.masked cls then
    (if slot.isSome && k.pending.any (fun q => q.cls == cls && q.slot == slot) then s
     else s.setCore c { k with pending := k.pending ++ [{ cls := cls, slot := slot, entry := e }] })
  else s.pushReady c e.lvl e

/-- R127 steps 5 and 6. -/
def State.landPacket (s : State) (c : Nat) (p : Packet) (h : Words4) : State :=
  match h.hKind with
  | 0 =>
    let l := (s.core c).landingOf p.cls
    let off := (h.hBase + l.next) * 64
    let l1 : Landing := { used := l.used ++ [(l.next, false)], next := (l.next + 1) % h.hCells }
    let s1 : State := (s.writeWords { sp := .buf c 2, off := off } p.words).modCore c (fun k =>
      { k with landing := tblSet k.landing p.cls l1 })
    s1.startHandler c p.cls none (handlerEntry h p.cls (selfVa 2 off) (some (p.cls, l.next)))
  | 1 =>
    let s1 : State := s.putMailbox c p h
    if s1.aborting c && !s.aborting c then s1
    else s1.startHandler c p.cls (some p.slot) (handlerEntry h p.cls (selfVa 2 (h.slotOff p.slot)) none)
  | _ => s.putRing c h.hRing p.words

/-- What the checks of R127 decide. -/
inductive Verdict | refuse (cause : Nat) | hold | land
  deriving DecidableEq, Repr

/-- R127 steps 2 to 4. -/
def State.judge (s : State) (c : Nat) (p : Packet) : Verdict :=
  let k := s.core c
  let h := k.handler p.cls
  if h.hState = 0 then .refuse 9
  else if h.hState = 2 then (if (k.holdingOf p.cls).length < 8 then .hold else .refuse 8)
  else if !s.areaTakes c p h then .refuse 8
  else if !k.masked p.cls && !k.acceptsArrival h.hLvl then .refuse 8
  else .land

/-- A verdict carried out. -/
def State.settle (s : State) (c : Nat) (p : Packet) : State :=
  match s.judge c p with
  | .refuse cause => s.refusePacket p cause
  | .hold => s.modCore c (fun k => { k with holding := tblSet k.holding p.cls (k.holdingOf p.cls ++ [p]) })
  | .land => s.landPacket c p ((s.core c).handler p.cls)

/-- R127, R373, R393, R431: a packet arrives at a core; one in another TOPX is taken aside after step 1. -/
def State.arriveAt (s : State) (c : Nat) (p : Packet) : State :=
  let k := s.core c
  if s.parkedCore c then s.refusePacket p 8
  else if !p.local_ && !s.ownsCore p.fw p.ctx c then s.refusePacket p 8
  else if k.loading || (k.handler p.cls).hState == 0 then s.refusePacket p 9
  else if p.nrw && p.topx != wbit k.dnfc 16 then
    (if k.fmth.isSome then s.refusePacket p 8
     else (s.setCore c { k with fmth := some p }).event c 0xA 8 0
            (wordOf (p.cls + b2n p.topx * 2 ^ 8 + p.src % 2 ^ 15 * 2 ^ 16)))
  else s.settle c p

/-- R128: the pending starts of the classes of a mask become ready in arrival order; an overflow's abort flushes those behind it (R413). -/
def State.drainPending (s : State) (c : Nat) (mask : Word) : State :=
  let k := s.core c
  let go := k.pending.filter (fun p => wbit mask p.cls)
  go.foldl (fun t p => if t.aborting c && !s.aborting c then t else t.pushReady c p.entry.lvl p.entry)
    (s.setCore c { k with pending := k.pending.filter (fun p => !wbit mask p.cls) })

/-- R129: a class opens: its held packets pass steps 3, 5 and 6, oldest first; an overflow's abort flushes those behind it (R413). -/
def State.drainHolding (s : State) (c cls : Nat) : State :=
  let ps := (s.core c).holdingOf cls
  ps.foldl (fun t p =>
      let h := (t.core c).handler cls
      if t.aborting c && !s.aborting c then t
      else if t.areaTakes c p h then t.landPacket c p h else t.refusePacket p 8)
    (s.modCore c (fun k => { k with holding := tblSet k.holding cls [] }))

/-- R129: a closed entry is emptied: every held packet is refused with NOHANDLER. -/
def State.refuseHolding (s : State) (c cls : Nat) : State :=
  ((s.core c).holdingOf cls).foldl (fun t p => t.refusePacket p 9)
    (s.modCore c (fun k => { k with holding := tblSet k.holding cls [] }))

/-! ### The comparator's post (R94, R427) -/

/-- The post of island `n`: a local message of class 0 to MC1. -/
def alertPacket (n : Nat) : Packet :=
  { id := 0, gm := false, fw := true, ctx := 0, src := mc1, sslot := 8, dst := mc1, cls := 0, slot := 0, span := 1,
    words := [wordOf n], nrw := false, topx := false, dword := 0, route := none, at_ := mc1, head := none, turn := 0,
    here := true, local_ := true }

/-- R94: a post is offered, or merges into one that is held. -/
def State.postAlert (s : State) (n : Nat) : State := if s.heldAlerts.contains n then s else s.arriveAt mc1 (alertPacket n)

/-- R94: a held post is offered again, and admitted when no step of R127 would refuse it. -/
def execHeldAlertRetry (n : Nat) (s : State) : Host.Outcome State Fault Refusal :=
  occurs (decide (n < 24))
    (if s.heldAlerts.contains n then
       (match s.judge mc1 (alertPacket n) with
        | .refuse _ => s
        | _ => ({ s with heldAlerts := s.heldAlerts.filter (fun m => m != n) } : State).settle mc1 (alertPacket n))
     else s)

/-! ### send and sendr (R317 to R319) -/

/-- R317: whether a destination word is well formed. -/
def destWordOk (w : Word) (routed : Bool) : Bool :=
  bits w 34 0 == 0 && decide (1 ≤ bits w 41 36) && decide (bits w 41 36 ≤ 48) && (!routed || bits w 63 49 == 0)

/-- A packet of the issuing slot. -/
def State.packetOf (s : State) (cls : Nat) (w : Word) (ws : List Word) (route : Option IWord) : Packet :=
  { id := s.nextId, gm := false, fw := s.me.ctl.fw, ctx := s.me.ctl.ctx, src := s.cur.core, sslot := s.cur.slot,
    dst := bits w 63 49, cls := cls, slot := bits w 48 42, span := 1, words := ws, nrw := wbit w 35, topx := wbit s.nfc 16,
    dword := w, route := route, at_ := s.cur.core, head := none, turn := 0, here := false, local_ := false }

/-- R317: the payload read whole from the own buffers (R98), and the packet sent. -/
def State.sendFrom (s : State) (cls : Nat) (va w : Word) (route : Option IWord) : State :=
  let n := 8 * bits w 41 36
  if !canonical va then s.trap 6 va 0
  else if va.toNat % 8 ≠ 0 then s.trap 7 va 0
  else
    match (if inSelf va then selfPlace va else none) with
    | none => s.trap 6 va 0
    | some (b, off) =>
      if s.spcap s.cur.core b * 64 < off + n then s.trap 6 va 0
      else
        let l : Loc := { sp := .buf s.cur.core b, off := off }
        let p : Page := { loc := l, ord := 0, own := true, r := true, w := true, x := false }
        if s.relBlocked || !s.mayAct va p n .vload then s.stallFor .ordering
        else if s.meetsError l n false then s.abortOwner s.cur.core 6
        else
          match s.readCheck va p n 0 with
          | (_, some t) => t
          | (s1, none) =>
            let ws := (List.range (bits w 41 36)).map (fun i => wordOf (s1.readNat (l.plus (8 * i)) 8))
            ({ s1.bump with packets := s1.packets ++ [s1.packetOf cls w ws route] } : State).retire

/-- R318: `send`. -/
def execSend (cls : BitVec 6) (a b : GReg) (ea eb : Bool) (s : State) : Host.Outcome State Fault Refusal :=
  entered (.send cls a b ea eb) s (fun s =>
    let w := s.g b
    if !destWordOk w false then s.illegal 0xC00
    else if !s.ownsCore s.me.ctl.fw s.me.ctl.ctx (bits w 63 49) then s.trap 6 0 0
    else s.sendFrom cls.toNat (s.g a) w none)

/-- Turn `i` of a route word (R152). -/
def turnOf (r : IWord) (i : Nat) : Nat := fld r.toNat (26 - 2 * i) 2

/-- R152: whether a route word is well formed. -/
def routeOk (r : IWord) : Bool :=
  let n := fld r.toNat 28 4
  decide (2 ≤ n) && decide (n ≤ 13) && decide (fld r.toNat 0 2 < 2) && turnOf r (n - 1) == 3 &&
  (List.range 13).all (fun i => (i == 0 || decide (n - 1 ≤ i) || turnOf r i != 3) && (decide (i < n) || turnOf r i == 0))

/-- R319: `sendr`, its route word checked at execution (R259). -/
def execSendr (cls : BitVec 6) (a b : GReg) (ea eb : Bool) (route : IWord) (s : State) : Host.Outcome State Fault Refusal :=
  entered (.sendr cls a b ea eb route) s (fun s =>
    if !routeOk route then s.illegal 0x500
    else if !destWordOk (s.g b) true then s.illegal 0xC00
    else s.sendFrom cls.toNat (s.g a) (s.g b) (some route))

/-! ### Routing (R150 to R152) -/

/-- The entry of a router's class table: after start-up V and ACT 0 unless written (R150). -/
def State.routeEntry (s : State) (router cls : Nat) : Nat :=
  (tblGet (if s.routesUp then 0x8000 else 0) s.routes (router * 64 + cls)).toNat

/-- Where a router sends a packet: it ejects, goes on to a router with a heading, is refused with a cause, or no route is left. -/
inductive Hop | eject | go (c : Nat) (h : Dir) | stop (cause : Nat) | lost
  deriving DecidableEq, Repr

/-- A move in a direction over the module, to the next die at a die's edge, or REFUSED where there is no link (log entry 94). -/
def hopIn (c : Nat) (h : Dir) : Hop :=
  match routerNext c h with
  | some n => .go n h
  | none => .stop 8

/-- Toward a core, X before Y or Y before X. -/
def hopTo (xFirst : Bool) (c dst : Nat) : Hop :=
  match hopToward xFirst c dst with
  | some h => hopIn c h
  | none => .eject

/-- Whether the hop from a router in a direction crosses a link that is not retired; `none` is no hop. -/
def State.clearHop (s : State) (c : Nat) (h : Dir) : Option Nat :=
  (routerNext c h).bind (fun n =>
    match crossing c n with
    | some l => if (s.link l).retired then none else some n
    | none =>
      match engineOf c h with
      | some e => if (s.link (64 + e)).retired then none else some n
      | none => some n)

/-- Whether every hop of the path from a router to a core, X before Y or Y before X, is clear. -/
def State.clear (s : State) (xFirst : Bool) (dst : Nat) : Nat → Nat → Bool
  | 0, _ => false
  | n + 1, c =>
    match hopToward xFirst c dst with
    | none => true
    | some h => match s.clearHop c h with | some d => s.clear xFirst dst n d | none => false

/-- R150, R404: the hop of a class route that goes X first or Y first. Where a link has been retired, Darkroom has regenerated the routes: the
entry's order where its path is clear, else the other order, else toward the next die of the shortest path over the links left (log
entry 110). -/
def State.classHop (s : State) (xFirst : Bool) (c dst : Nat) : Hop :=
  if !s.links.any (fun e => e.2.retired) || s.clear xFirst dst 512 c then hopTo xFirst c dst
  else if s.clear (!xFirst) dst 512 c then hopTo (!xFirst) c dst
  else
    match s.diePath (coreDie c) (coreDie dst) with
    | some (h :: _) => match s.clearHop c h with | some n => .go n h | none => .lost
    | _ => .lost

/-- The die-to-die port of an edge router: its first link off the die, north first; a router without one refuses with NOHANDLER (log
entry 94). -/
def diePort (c : Nat) : Hop :=
  match [Dir.n, Dir.e, Dir.s, Dir.w].find? (fun h => (neighbour c h).isNone && (routerNext c h).isSome) with
  | some h => hopIn c h
  | none => .stop 9

/-- R152: the next hop of a routed packet; leaving the die is refused. -/
def routedHop (p : Packet) (r : IWord) : Hop :=
  let t := turnOf r p.turn
  match (if p.turn = 0 then some (dirOf t) else if t = 3 then none else p.head.map (fun h => turned h t)) with
  | none => .eject
  | some h => match neighbour p.at_ h with | some n => .go n h | none => .stop 8

/-- R150: whether an entry refuses a packet: V = 0, a reserved ACT or PORT, or ACT 3 without a route word. -/
def entryStops (e : Nat) (routed : Bool) : Bool :=
  !bitAt e 15 || decide (5 ≤ fld e 12 3) || (fld e 12 3 == 2 && decide (6 ≤ fld e 9 3)) || (fld e 12 3 == 3 && !routed)

/-- R150: the decision of the router where a packet's head stands. A management or service core has no router: a head there is refused
(log entry 94). MARK (DESIGN CHOICE, log entry 106): a packet with a route word follows it at every entry with V = 1 and an ACT of 0 to 4,
as R152 and R319 say, and not the entry's own action. -/
def State.hop (s : State) (p : Packet) : Hop :=
  let e := s.routeEntry p.at_ p.cls
  let act := fld e 12 3
  if !isCompute p.at_ then .stop 8
  else if entryStops e p.route.isSome then .stop 9
  else
    match p.route with
    | some r => routedHop p r
    | none =>
      match act with
      | 1 => s.classHop false p.at_ p.dst
      | 2 => if fld e 9 3 = 4 then .eject else if fld e 9 3 = 5 then diePort p.at_ else hopIn p.at_ (dirOf (fld e 9 3))
      | _ => s.classHop true p.at_ p.dst

/-- Whether a packet is the oldest of its source, class and destination (R217). -/
def State.firstOf (s : State) (p : Packet) : Bool :=
  (s.packets.takeWhile (fun q => q.id != p.id)).all (fun q => !(q.src == p.src && q.cls == p.cls && q.dst == p.dst))

/-- The packets without one; its replay copies go with it (R404). -/
def State.dropPacket (s : State) (id : Nat) : State :=
  { s with packets := s.packets.filter (fun q => q.id != id)
           links := s.links.map (fun e => (e.1, { e.2 with copies := e.2.copies.filter (fun x => x.1 != id) })) }

/-- R138: the 64-byte flits of a link that a packet takes: its 16-byte flits (R317, R214), four to one (log entry 71). -/
def Packet.linkFlits (p : Packet) : Nat := ((p.words.length + 1) / 2 + 4) / 4

/-- R139: the number of the die-to-die router of a link, behind those of the mesh (log entry 97). -/
def dieRouter (l : Nat) : Nat := 0x8000 + l

/-- R138: whether a packet ahead of another waits for the window of a link: the traffic behind it waits too. -/
def State.waitsAhead (s : State) (id l : Nat) : Bool :=
  (s.packets.takeWhile (fun q => q.id != id)).any (fun q =>
    !q.here && decide (128 < (s.link l).window.length + q.linkFlits) &&
    (match s.hop q with
     | .go c _ => crossing q.at_ c == some l
     | _ => false))

/-- A packet's head goes on to a router. Over a die boundary the entry of the die-to-die router lets it pass or refuses it (R150); it
waits while the link's window has no room for its flits, its source keeps a replay copy; a retired link that a route word or a fixed port
names is refused (R138, R152, R404). -/
def State.hopOn (s : State) (p : Packet) (c : Nat) (h : Dir) : State :=
  let moved : State := { s with packets := s.packets.map (fun x =>
    if x.id == p.id then { p with at_ := c, head := some h, turn := p.turn + 1 } else x) }
  match crossing p.at_ c with
  | none =>
    (match engineOf p.at_ h with
     | some e => if (s.link (64 + e)).retired then (s.dropPacket p.id).refusePacket p 8 else moved
     | none => moved)
  | some l =>
    if (s.link l).retired then (s.dropPacket p.id).refusePacket p 8
    else if entryStops (s.routeEntry (dieRouter l) p.cls) p.route.isSome then (s.dropPacket p.id).refusePacket p 9
    else if s.waitsAhead p.id l then s
    else if 128 < (s.link l).window.length + p.linkFlits then s
    else moved.modLink l (fun k => { k.send p.linkFlits with copies := k.copies ++ [(p.id, if p.fw then fwCtx else p.ctx)] })

/-- R150: a packet's head meets a router. -/
def execPacketHeadRouting (id : Nat) (s : State) : Host.Outcome State Fault Refusal :=
  .next (match s.packets.find? (fun p => p.id == id && !p.here) with
    | none => s
    | some p =>
      match s.hop p with
      | .eject => { s with packets := s.packets.map (fun x => if x.id == id then { p with here := true } else x) }
      | .go c h => s.hopOn p c h
      | .stop cause => (s.dropPacket id).refusePacket p cause
      | .lost => (s.dropPacket id).abortContext p.fw p.ctx 9 p.src)

/-- A packet of a kind that has reached its core, and before which none of its stream stands. -/
def State.arriving (s : State) (id : Nat) (gm : Bool) : Option Packet :=
  match s.packets.find? (fun p => p.id == id && p.here && p.gm == gm) with
  | some p => if s.firstOf p then some p else none
  | none => none

/-- R127: a message arrives. -/
def execMessageArrival (id : Nat) (s : State) : Host.Outcome State Fault Refusal :=
  .next (match s.arriving id false with
    | none => s
    | some p => (s.dropPacket id).arriveAt p.at_ p)

/-- R215: a GM packet arrives. -/
def execGmRecordArrival (id : Nat) (s : State) : Host.Outcome State Fault Refusal :=
  .next (match s.arriving id true with
    | none => s
    | some p => (s.dropPacket id).arriveAt p.at_ p)

/-! ### Class masks and the format-hold place (R320, R431) -/

/-- R320: `cmask`. -/
def execCmask (a : GReg) (ea : Bool) (s : State) : Host.Outcome State Fault Refusal :=
  entered (.cmask a ea) s (fun s => (s.modCore s.cur.core (fun k => { k with cmask := k.cmask ||| s.g a })).retire)

/-- R128: CMASK set; the starts of every class whose bit it clears become ready. -/
def State.setCmask (s : State) (c : Nat) (v : Word) : State :=
  let old := (s.core c).cmask
  (s.modCore c (fun k => { k with cmask := v })).drainPending c (old &&& ~~~v)

/-- R320: `cunmask`. -/
def execCunmask (a : GReg) (ea : Bool) (s : State) : Host.Outcome State Fault Refusal :=
  entered (.cunmask a ea) s (fun s => s.retire.setCmask s.cur.core (s.myCore.cmask &&& ~~~(s.g a)))

/-- R320: the pending starts of the masked classes of a word discarded; their landing cells are freed. -/
def State.discardPending (s : State) (c : Nat) (mask : Word) : State :=
  let k := s.core c
  let drop := fun (p : Pending) => wbit mask p.cls && k.masked p.cls
  (k.pending.filter drop).foldl (fun t p => t.freeCell c p.entry.landed)
    (s.setCore c { k with pending := k.pending.filter (fun p => !drop p) })

/-- R320: `cpend`. -/
def execCpend (d a : GReg) (ea : Bool) (s : State) : Host.Outcome State Fault Refusal :=
  entered (.cpend d a ea) s (fun s => (s.discardPending s.cur.core (s.g a)).retireG d s.myCore.cpend)

/-- R431: the held packet admitted, through steps 2 to 6 as they stand. -/
def State.fmthAdmitAt (s : State) (c : Nat) : State :=
  match (s.core c).fmth with
  | none => s
  | some p => (s.modCore c (fun k => { k with fmth := none })).settle c p

/-- R431: the held packet refused to its sender. -/
def State.fmthRefuseAt (s : State) (c : Nat) : State :=
  match (s.core c).fmth with
  | none => s
  | some p => (s.modCore c (fun k => { k with fmth := none })).refusePacket p 8

/-- R431: FMTH written with ACT 1. -/
def execFmthAdmit (core : Nat) (s : State) : Host.Outcome State Fault Refusal := occurs (isCore core) (s.fmthAdmitAt core)
/-- R431: FMTH written with ACT 2. -/
def execFmthRefuse (core : Nat) (s : State) : Host.Outcome State Fault Refusal := occurs (isCore core) (s.fmthRefuseAt core)
/-- R87, R128: CMASK written. -/
def execCmaskWrite (core : Nat) (value : Word) (s : State) : Host.Outcome State Fault Refusal :=
  occurs (isCore core) (s.setCmask core value)

/-! ### swapx (R83, R201, R321) -/

/-- Side, column and row of the tile of an SWP. -/
def tileOf (swp : Word) : Nat × Nat × Nat := (bits swp 14 12, bits swp 5 0, bits swp 11 6)

/-- R201: the mirror of a core in its tile, none outside it. -/
def mirrorOf (swp : Word) (c : Nat) : Option Nat :=
  match tileOf swp with
  | (n, x0, y0) =>
    let x := coreX c
    let y := coreY c
    if isCompute c ∧ x0 ≤ x ∧ x < x0 + n ∧ y0 ≤ y ∧ y < y0 + n then some (coreId (coreDie c) (x0 + (y - y0)) (y0 + (x - x0)))
    else none

/-- The slot of the mirror that waits at `swapx` for this core: its number, offset and rows. -/
def State.partnerAt (s : State) (c m : Nat) : Option (Nat × Nat × Nat) :=
  [6, 7].findSome? (fun n =>
    let x := s.slot m n
    match x.stall with
    | some (.partner off rows, _) => if x.busy && !x.frozen && mirrorOf x.w.ctl.swp m == some c then some (n, off, rows) else none
    | _ => none)

/-- A slot stalled at a group completes it. -/
def State.completeSlot (s : State) (c n : Nat) : State :=
  s.modCore c (fun k =>
    let x := k.slot n
    { k.setSlot n { x with stall := none, cap := none, w := { x.w with pc := x.w.pc + wordOf (4 * x.len) } } with ins := k.ins + 1 })

/-- R321: rows exchanged between the A buffers of two cores, both read whole before either is written. -/
def State.exchange (s : State) (c off m moff rows : Nat) : State :=
  let mine : Loc := { sp := .buf c 2, off := off }
  let theirs : Loc := { sp := .buf m 2, off := moff }
  (s.write mine (s.read theirs (64 * rows))).write theirs (s.read mine (64 * rows))

/-- R321 with R98, R101 and R290: the exchange of the issuing slot's rows with those of slot `n` of core `m`. A side whose rows are not all
written takes UNINIT under SPMODE 2, and the other side waits on; a double-bit error aborts its core's owner. -/
def State.swapRows (s : State) (va : Word) (off m n moff rows : Nat) : State :=
  let c := s.cur.core
  let mine : Loc := { sp := .buf c 2, off := off }
  let theirs : Loc := { sp := .buf m 2, off := moff }
  let x := s.slot m n
  if s.meetsError mine (64 * rows) false then s.abortOwner c 6
  else if s.meetsError theirs (64 * rows) false then s.abortOwner m 6
  else if s.uninit mine (64 * rows) = 2 then s.trap 0x11 va 1
  else if s.uninit theirs (64 * rows) = 2 then
    (s.takeTrap m n 0 0x11 x.len x.w.pc (wordOf moff) 1).stallFor (.partner off rows)
  else
    let s1 : State := if s.uninit mine (64 * rows) = 1 then s.warnUninit mine (selfVa 2 off) else s
    let s2 : State := if s.uninit theirs (64 * rows) = 1 then s1.warnUninit theirs (selfVa 2 moff) else s1
    ((s2.exchange c off m moff rows).completeSlot m n).retire

/-- R321: `swapx`. -/
def execSwapx (a b : GReg) (ea eb : Bool) (s : State) : Host.Outcome State Fault Refusal :=
  entered (.swapx a b ea eb) s (fun s => s.threadOnly (s.g a) 1 (fun s =>
    let off := (s.g a).toNat
    let rows := (s.g b).toNat
    let c := s.cur.core
    let swp := s.me.ctl.swp
    if off % 64 ≠ 0 then s.trap 7 (s.g a) 1
    else if rows < 1 ∨ 768 < rows then s.illegal 0x803
    else if s.spcap c 2 < off / 64 + rows then s.trap 6 (s.g a) 1
    else if bits swp 14 12 = 0 then s.illegal 0x800
    else
      match mirrorOf swp c with
      | none => s.illegal 0x801
      | some m =>
        if !s.settled then s.stallFor .ordering
        else if m = c then s.retire
        else
          match s.partnerAt c m with
          | none => s.stallFor (.partner off rows)
          | some (n, moff, mrows) =>
            if mrows = rows then s.swapRows (s.g a) off m n moff rows
            else
              let x := s.slot m n
              (s.takeTrap m n 0 1 x.len x.w.pc 0 0x802).illegal 0x802))

/-- R321: a `swapx` stalled for longer than 2^24 cycles. -/
def execSwapxTimeout (core slot : Nat) (s : State) : Host.Outcome State Fault Refusal :=
  occurs (isCore core && decide (slot < 8))
    (let x := s.slot core slot
     match x.stall with
     | some (.partner _ _, t) =>
       if x.busy && !x.frozen && decide (2 ^ 24 < ((s.core core).cyc.toNat + 2 ^ 64 - t) % 2 ^ 64) then
         s.takeTrap core slot 0 0x19 x.len x.w.pc 0 0
       else s
     | _ => s)

end Sys2Proof.Machine
end

