-- ==== Sys2Proof/Machine/Product.lean ====
section
/-! DEFINITION. The arithmetic of a link engine's product: classes, elements, slices and results (R54, R63, R64, R147, R179,
R188). -/

namespace Sys2Proof.Machine

/-- The operand classes of R179. -/
inductive PClass | f64 | f32 | h16 | n8 | n4 | i8 | i16 | i32
  deriving DecidableEq, Repr

/-- Whether a tensor is narrow of a width of at most 4. -/
def Words4.tdNibble (t : Words4) : Bool := t.tdKind == 4 && t.tdBits == 4

/-- R179: the class that two tensors form, in either order. -/
def classOf (a b : Words4) : Option PClass :=
  let x := a.tdKind
  let y := b.tdKind
  let half := fun (k : Nat) => k == 2 || k == 3
  if x = 0 ∧ y = 0 then some .f64
  else if x = 1 ∧ y = 1 then some .f32
  else if (half x && (half y || y == 4)) || (half y && x == 4) then some .h16
  else if x = 4 ∧ y = 4 then some (if a.tdNibble && b.tdNibble then .n4 else .n8)
  else if x = 5 ∧ y = 5 then some .i8
  else if x = 6 ∧ y = 6 then some .i16
  else if x = 7 ∧ y = 7 then some .i32
  else none

/-- R179: the largest N of a class. -/
def PClass.maxN : PClass → Nat
  | .f64 => 8 | .f32 => 8 | .h16 => 16 | .n8 => 32 | .n4 => 64 | .i8 => 32 | .i16 => 16 | .i32 => 8

/-- R179: multiply-adds in an engine cycle. -/
def PClass.macs : PClass → Nat
  | .f64 => 16 | .f32 => 64 | .h16 => 256 | .n8 => 512 | .n4 => 1024 | .i8 => 512 | .i16 => 256 | .i32 => 64

/-- Whether a class takes the integer path (R64). -/
def PClass.isInt : PClass → Bool
  | .i8 | .i16 | .i32 => true
  | _ => false

/-- R63, R179: the slice length. -/
def PClass.slice : PClass → Nat
  | .f64 | .f32 => 8
  | _ => 16

/-- The accumulator format of the floating classes. -/
def PClass.accFmt : PClass → Fmt
  | .f64 => fp64
  | _ => fp32

/-- Whether a result format is a code of R180. -/
def rfmtOk (r : Nat) : Bool := decide (r ≤ 6) || (decide (8 ≤ r) && decide (r ≤ 12))

/-- R179: whether a class gives a result format. -/
def PClass.gives (c : PClass) (r : Nat) : Bool :=
  if c.isInt then r == 4 || r == 5 || r == 6 else decide (r ≤ 3) || (decide (8 ≤ r) && decide (r ≤ 12))

/-- The format of a floating or narrow result, the preset that RFMT names (R51, R188), under the captured TOPX. -/
def rfmtFmt (r : Nat) (topx : Bool) : Fmt :=
  match r with
  | 0 => fp64 | 1 => fp32 | 2 => fp16 | 3 => bf16
  | 8 => ⟨1, 4, 3, 7, true, topx⟩
  | 9 => ⟨1, 5, 2, 15, true, topx⟩
  | 10 => ⟨1, 3, 2, 3, true, topx⟩
  | 11 => ⟨1, 2, 3, 1, true, topx⟩
  | _ => ⟨1, 2, 1, 1, true, topx⟩

/-- Bits of a result element (R49, R180). -/
def rfmtBits (r : Nat) : Nat :=
  match r with
  | 0 => 64 | 1 => 32 | 2 => 16 | 3 => 16 | 4 => 8 | 5 => 16 | 6 => 32 | 12 => 4
  | _ => 8

/-- R80: the issue limit of N for a kind. -/
def issueMaxN (t : Words4) : Nat :=
  match t.tdKind with
  | 0 => 8 | 1 => 8 | 7 => 8 | 2 => 16 | 3 => 16 | 6 => 16 | 5 => 32
  | _ => if t.tdNibble then 64 else 32

/-! ### Elements (R54, R147) -/

/-- The place of a buffer byte of a tensor on a core. -/
def Words4.tdPlace (t : Words4) (c addr : Nat) : Loc := { sp := .buf c t.tdLoc, off := addr }

/-- The stored code of an element. -/
def State.elemCode (s : State) (c : Nat) (t : Words4) (row col : Nat) : Nat :=
  let e := t.tdBits
  let l := t.tdPlace c (t.tdAddr row col)
  if 8 ≤ e then s.readNat l (e / 8) else fld (s.readNat l 1) (4 * (col % 2)) 4

/-- The scale code of an element; 127 (the scale 1) for a tensor without scales. -/
def State.elemScale (s : State) (c : Nat) (t : Words4) (row col : Nat) : Nat :=
  if t.tdScaled then s.readNat (t.tdPlace c (t.tdScaleAddr row col)) 1 else 127

/-- The first unwritten word of an element or its scale, as a buffer offset (R101). -/
def State.elemUnwritten (s : State) (c : Nat) (t : Words4) (row col : Nat) : Option Nat :=
  let a := t.tdAddr row col
  if !s.allValid (t.tdPlace c a) (max 1 (t.tdBits / 8)) then some a
  else if t.tdScaled && !s.allValid (t.tdPlace c (t.tdScaleAddr row col)) 1 then some (t.tdScaleAddr row col)
  else none

/-- The format of a floating or narrow tensor, under its descriptor's TOPX (R53). -/
def Words4.tdFmt (t : Words4) : Fmt :=
  match t.tdKind with
  | 0 => fp64 | 1 => fp32 | 2 => fp16 | 3 => bf16
  | _ => t.tdNarrow

/-- R54: the expanded value of a code with its scale code. -/
def expandElem (t : Words4) (code scale : Nat) : Fv := (t.tdFmt.decode code).scale ((scale : Int) - 127)

/-! ### Slices and accumulators (R63, R64) -/

/-- The exact products of a slice. -/
def sliceTerms (a b : List Fv) : List (Fv × Flags) := List.zipWith mulF a b

/-- One slice joined to the accumulator: two roundings to T; `bad` stays set once a NaN or an invalid product or sum is met. -/
def sliceStep (f : Fmt) (acc : Nat × Bool) (ts : List (Fv × Flags)) : Nat × Bool :=
  match sumF 0 (ts.map (fun t => t.1)) with
  | (v, fl) =>
    match sumF 0 [f.decode acc.1, f.decode (f.rne v)] with
    | (w, fl2) => (f.rne w, acc.2 || v.isNan || w.isNan || fl.nv || fl2.nv || ts.any (fun t => t.2.nv))

/-- The slices of two rows of values, from element `k` on; `fuel` counts slices. -/
def sliceAll (f : Fmt) (len : Nat) : Nat → List Fv → List Fv → Nat × Bool → Nat × Bool
  | 0, _, _, acc => acc
  | fuel + 1, a, b, acc => sliceAll f len fuel (a.drop len) (b.drop len) (sliceStep f acc (sliceTerms (a.take len) (b.take len)))

/-- R63: one accumulator of a floating class. -/
def dotFloat (c : PClass) (a b : List Fv) : Nat :=
  match sliceAll c.accFmt c.slice ((a.length + c.slice - 1) / c.slice) a b (0, false) with
  | (v, bad) => if bad then c.accFmt.nanCode else v

/-- R64: one accumulator of an integer class, a wrapping 32-bit sum. -/
def dotInt (w : Nat) (a b : List Nat) : Nat :=
  wrapTo 32 ((List.zipWith (fun x y => toSigned w x * toSigned w y) a b).foldl (· + ·) 0)

/-! ### Rows and results -/

/-- Row `i` of A as codes and scale codes. -/
def State.rowCodes (s : State) (h : Half) (i : Nat) : List (Nat × Nat) :=
  (List.range h.k).map (fun k => (s.elemCode h.core h.td (h.row + i) (h.col + k), s.elemScale h.core h.td (h.row + i) (h.col + k)))

/-- Tensor row and column of element (k, j) of B (R180). -/
def Half.bAt (h : Half) (k j : Nat) : Nat × Nat := if h.trb then (h.row + j, h.col + k) else (h.row + k, h.col + j)

/-- The pairs (k, j) of B, row-major. -/
def Half.bPairs (h : Half) : List (Nat × Nat) := (List.range h.k).flatMap (fun k => (List.range h.n).map (fun j => (k, j)))

/-- Column `j` of a row-major list of `n` columns. -/
def columnOf (l : List Nat) (n j k : Nat) : List Nat := (List.range k).map (fun i => l.getD (i * n + j) 0)

/-- The accumulators of a row from its codes (R63, R64). -/
def rowAcc (c : PClass) (job : Job) (codes : List (Nat × Nat)) : List Nat :=
  let n := job.mov.n
  let k := job.mov.k
  (List.range n).map (fun j =>
    let bc := columnOf job.b n j k
    if c.isInt then dotInt job.sta.td.tdBits (codes.map (fun e => e.1)) bc
    else
      let bs := if job.sta.td.tdScaled then columnOf job.bscale n j k else List.replicate k 127
      dotFloat c (codes.map (fun e => expandElem job.mov.td e.1 e.2)) (List.zipWith (expandElem job.sta.td) bc bs))

/-- R188, R64: a result element: converted, or added to the old element with one rounding. -/
def resultElem (c : PClass) (h : Half) (acc : Nat) (old : Option Nat) : Nat :=
  let w := rfmtBits h.rfmt
  if c.isInt then (acc + old.getD 0) % 2 ^ w
  else
    let f := rfmtFmt h.rfmt h.topx
    let v := c.accFmt.decode acc
    match old with
    | none => (f.round h.rm false v).1 % 2 ^ w
    | some o => (f.round h.rm false (sumF h.rm [v, f.decode o]).1).1 % 2 ^ w

/-- R189: bytes of a row in the target. -/
def Half.rowBytes (h : Half) : Nat := ((h.n * rfmtBits h.rfmt + 7) / 8 + 3) / 4 * 4

/-- The bytes of a result row, its padding zero; `old` is the target's row when the job accumulates. -/
def resultRow (c : PClass) (h : Half) (acc : List Nat) (old : Option Nat) : List Byte :=
  let w := rfmtBits h.rfmt
  let codes := List.zipWith (fun (a : Nat) (j : Nat) => resultElem c h a (old.map (fun o => lane w o j))) acc (List.range acc.length)
  bytesOf h.rowBytes (ofLanes w codes)

end Sys2Proof.Machine
end

