-- ==== Sys2Proof/Machine/Engines.lean ====
section
/-! DEFINITION. Link engines: halves, pairing, jobs, rows, withdrawal, engine control (R119, R120, R173, R174, R178 to R200). -/

namespace Sys2Proof.Machine

/-! ### Blocks of an image (R196, R372) -/

/-- The 64-byte blocks of an image found, or the state after a trap or a stall. -/
inductive Blocks | ok (ps : List Page) | stop (t : State)
  deriving DecidableEq, Repr

/-- Blocks `i`, ... of an image: every page found and permitted before any byte moves. -/
def State.findBlocks (s : State) (va : Word) (k : AccKind) : List Nat → Blocks
  | [] => .ok []
  | i :: t =>
    match s.find (va + wordOf (64 * i)) k.code k.einfo with
    | .stop x => .stop x
    | .page p =>
      if p.loc.sp == .ctl then .stop (s.trap 6 (va + wordOf (64 * i)) (wordOf k.einfo))
      else
        match p.denies s.atL0 k 64 false with
        | some c => .stop (s.trap c (va + wordOf (64 * i)) (wordOf k.einfo))
        | none =>
          match s.findBlocks va k t with
          | .stop x => .stop x
          | .ok ps => .ok (p :: ps)

/-- An image of `n` blocks found at a multiple of 64, its order against the slot's earlier accesses kept. -/
def State.findImage (s : State) (va : Word) (n : Nat) (k : AccKind) : Blocks :=
  if !canonical va then .stop (s.trap 6 va (wordOf k.einfo))
  else if va.toNat % 64 ≠ 0 then .stop (s.trap 7 va (wordOf k.einfo))
  else
    match s.findBlocks va k (List.range n) with
    | .stop t => .stop t
    | .ok ps =>
      if ps.all (fun p => s.mayAct va p 64 k) && s.roomOn (s.spansAll ps k.returns) then .ok ps else .stop (s.stallFor .ordering)

/-- Block `i` of an image written as a store of 64 bytes of its own, or refused and told to L0 (R117). -/
def State.writeBlock (s0 : State) (va : Word) (bs : List Byte) (s : State) (e : Page × Nat) : State :=
  if s0.homeOk e.1.loc 64 35 then s.write e.1.loc ((bs.drop (64 * e.2)).take 64)
  else s.event s0.cur.core 8 s0.cur.slot (va + wordOf (64 * e.2)) 0

/-- The blocks of an image written. -/
def State.writeBlocks (s : State) (va : Word) (ps : List Page) (bs : List Byte) : State :=
  ((ps.zip (List.range ps.length)).foldl (State.writeBlock s va bs) s).flitsOn (s.spansAll ps false)

/-- The bytes of an image read whole, or the state after a refusal or an unwritten word. -/
inductive Image | ok (bs : List Byte) (t : State) | stop (t : State)
  deriving DecidableEq, Repr

/-- The blocks of an image read; `late` as for one block. -/
def State.readBlocks (s : State) (va : Word) (ps : List Page) (late : Bool := false) : Image :=
  let s0 : State := s.flitsOn (s.spansAll ps true)
  if !ps.all (fun p => s.homeOk p.loc 64 34) then .stop (s0.awayFault late 8 va s.cur.pc)
  else
    match ps.find? (fun p => s.meetsError p.loc 64 false || s.uninit p.loc 64 == 2) with
    | some p => .stop ((s0.readCheck va p 64 0 late).2.getD s0)
    | none => .ok (ps.flatMap (fun p => s.read p.loc 64)) (ps.foldl (fun t p => (t.readCheck va p 64 0).1) s0)

/-! ### Command IDs (R173) -/

/-- The half of a number changed in an engine's state. -/
def Engine.modHalf (x : Engine) (seq : Nat) (f : Half → Half) : Engine :=
  let g := fun (h : Half) => if h.seq = seq then f h else h
  { x with lowS := x.lowS.map g, lowM := x.lowM.map g, highS := x.highS.map g, highM := x.highM.map g,
           job := x.job.map (fun j => { j with mov := g j.mov, sta := g j.sta }) }

/-- The half of a number changed, wherever it stands: at an engine, or saved with a team that has been swapped out (R195). -/
def State.modHalf (s : State) (seq : Nat) (f : Half → Half) : State :=
  { s with engines := s.engines.map (fun e => (e.1, e.2.modHalf seq f)),
           teams := s.teams.map (fun t => { t with savedEng := t.savedEng.map (fun e => (e.1, e.2.modHalf seq f)) }) }

/-- Whether a half still stands at an engine, or is saved with a team that has been swapped out (R195). -/
def State.hasHalf (s : State) (seq : Nat) : Bool :=
  let at_ := fun (x : Engine) => x.halves.any (fun h => h.seq == seq) || (match x.job with | some j => j.mov.seq == seq | none => false)
  s.engines.any (fun e => at_ e.2) || s.teams.any (fun t => t.savedEng.any (fun e => at_ e.2))

/-- The ID after the last one allocated. -/
def Cluster.nextCmd (k : Cluster) : Nat := match k.lastCmd with | none => 0 | some l => (l + 1) % 255

/-- The state of an ID: 0 FREE, 1 PENDING, 2 RETIRED. -/
def Cluster.cmdState (k : Cluster) (id : Nat) : Nat := tblGet 0 k.cmd id

/-- R173: the next ID taken for a half; its destination fills. An `lkm` whose half is gone retires it at once. -/
def State.grantId (s : State) (cl seq : Nat) (r : Ret) : State :=
  let id := (s.cluster cl).nextCmd
  let st := if s.hasHalf seq then 1 else 2
  ((s.modCluster cl (fun k => { k with cmd := tblSet k.cmd id st, lastCmd := some id })).modHalf seq
    (fun h => { h with cmd := id })).sendBack { r with data := id }

/-- The waiting `lkm` of a cluster take IDs in order, until the next ID is PENDING. -/
def State.grantList (cl : Nat) : List (Nat × Ret) → State → State
  | [], s => s.modCluster cl (fun k => { k with idWaits := [] })
  | e :: t, s =>
    if (s.cluster cl).cmdState (s.cluster cl).nextCmd = 1 then s.modCluster cl (fun k => { k with idWaits := e :: t })
    else State.grantList cl t (s.grantId cl e.1 e.2)

/-- R173: an ID retires; `lkm` that wait may now take theirs. -/
def State.retireId (s : State) (cl id : Nat) : State :=
  let s1 : State := s.retireCmd cl id
  State.grantList cl (s1.cluster cl).idWaits s1

/-- The ID of a moving half retires; 255 stands for one not yet allocated. -/
def State.retireHalf (s : State) (h : Half) : State := if h.cmd < 255 then s.retireId (clusterOf h.core) h.cmd else s

/-! ### What is due to an issuer (R191, R192) -/

/-- An event at the L0 of the core that issued a half. -/
def State.issuerEvent (s : State) (h : Half) (cause : Nat) (eaddr einfo : Word) : State := s.event h.core cause h.slot eaddr einfo
/-- A deferred trap due to the issuer of a half. -/
def State.issuerTrap (s : State) (h : Half) (cause : Nat) (eaddr : Word) : State := s.deferTo h.core h.slot h.work cause eaddr h.pc
/-- PARTNERGONE for the issuer of a half. -/
def State.partnerGone (s : State) (h : Half) : State := s.issuerEvent h 0xF 0 h.pc

/-- R190: whether the target admits bytes of a buffer for the moving end's core, that core's own buffer included. -/
def State.targetOk (s : State) (h : Half) (b lo hi right : Nat) : Bool := s.admits h.tcore b lo hi right h.core

/-- A job acts on its barrier object: the state after it, or `none` when it is refused. One that meets a double-bit error there changes
nothing (R98). -/
def State.atTarget (s : State) (h : Half) (act : Loc → State) : Option State :=
  let l : Loc := { sp := .buf h.tcore 3, off := h.bobj }
  if !s.targetOk h 3 h.bobj (h.bobj + 16) 36 then none
  else if s.meetsError l 16 false then some (s.abortOwner h.tcore 6)
  else some (act l)

/-- The arrival of a job on its barrier object: the state after it, or `none` when it is refused. -/
def State.halfArrives (s : State) (h : Half) : Option State := s.atTarget h (fun l => s.arrive l 1 none false)

/-- The withdrawn arrival (R171, R194): WD alone is set. MARK (DESIGN CHOICE, log entry 108): one that its target refuses is dropped without an
event. -/
def State.withdrawnArrival (s : State) (h : Half) : State :=
  if h.nobar then s
  else
    match s.atTarget h (fun l => s.writeNat (l.plus 8) 8 (s.obj1 l - putBits (fld (s.obj1 l) 32 1) 32 32 + 2 ^ 32)) with
    | some t => t
    | none => s

/-- A job withdrawn (R194): its state discarded, the withdrawn arrival made, its ID retired. A row that has left the engine and is not yet
performed is discarded with it (log entry 96). -/
def State.withdrawJob (s : State) (e : Nat) (j : Job) : State :=
  let s1 : State := { s with results := s.results.filter (fun r => !(r.eng == e && r.mov.seq == j.mov.seq)) }
  ((s1.setEngine e { s1.engine e with job := none, stop := false }).withdrawnArrival j.mov).retireHalf j.mov

/-- A removed half: an `lkm` retires its ID with the withdrawn arrival (R195, R198). -/
def State.dropHalf (s : State) (h : Half) : State := if h.moving then (s.withdrawnArrival h).retireHalf h else s

/-! ### Issue of a half (R180 to R183) -/

/-- Whether a core's context owns the core where a half of the issuing slot reaches. -/
def State.reaches (s : State) (c : Nat) : Bool := s.ownsCore s.me.ctl.fw s.me.ctl.ctx c

/-- R181's checks of the geometry: K, N, and K·N of FP64. -/
def geometryOk (t : Words4) (k n : Nat) : Bool :=
  decide (1 ≤ k) && decide (k ≤ 64) && decide (1 ≤ n) && decide (n ≤ issueMaxN t) && !(t.tdKind == 0 && decide (256 < k * n))

/-- R181's checks of `ga`, and for `lkm` of `gb`. -/
def operandsOk (moving : Bool) (ga gb : Word) : Bool :=
  bits ga 63 62 == 0 && (if moving then bits ga 53 38 != 0 else bits ga 53 38 == 0) &&
  (!moving || (bits gb 18 0 == 0 && rfmtOk (bits gb 47 44)))

/-- R181's checks of the target of `lkm`. -/
def targetFormOk (h : Half) : Bool :=
  if h.toRing then !h.accum && decide (h.toff ≤ 15)
  else !h.nobar && h.toff % max 4 (rfmtBits h.rfmt / 8) == 0

/-- The half that the issuing slot makes (R182), which enters its queue at an engine cycle. -/
def State.halfOf (s : State) (moving low : Bool) (ga gb : Word) (eg cycle : Nat) : Half :=
  let g := tblGet egReset s.me.ctl.eg eg
  { seq := s.nextId, core := s.cur.core, slot := s.cur.slot, work := s.me.id, team := s.me.team, ctx := s.me.ctl.ctx,
    moving := moving, low := low, pc := s.cur.pc, td := tblGet words0 s.myCore.tensors (bits ga 5 0), ga := ga, gb := gb, eg := g,
    pace := max (bits g 17 14) (bits s.me.ctl.pace 3 0), rm := fpcRm s.fpc, topx := wbit s.nfc 16, cmd := 255,
    cycle := cycle }

/-- A half put into its queue. -/
def Engine.enqueue (e : Engine) (h : Half) : Engine :=
  match h.moving, h.low with
  | true, true => { e with lowM := e.lowM ++ [h] }
  | true, false => { e with highM := e.highM ++ [h] }
  | false, true => { e with lowS := e.lowS ++ [h] }
  | false, false => { e with highS := e.highS ++ [h] }

/-- Halves in the queue that a half would join. -/
def Engine.queued (e : Engine) (moving low : Bool) : Nat :=
  match moving, low with
  | true, true => e.lowM.length
  | true, false => e.highM.length
  | false, true => e.lowS.length
  | false, false => e.highS.length

/-- R183, R231: whether an access before this point still keeps an engine from seeing the issuer's own buffers: a store to one of them,
or an acquire. -/
def State.ownStoresOut (s : State) : Bool :=
  (s.outstanding s.me.id).any (fun f => f.acq || (f.kind.writes && (match f.loc.sp with | .buf c _ => c == s.cur.core | _ => false)))

/-- R178, R181: the engine of a core's link; a retired link has none. -/
def State.engineAt (s : State) (c : Nat) (l : Dir) : Option Nat :=
  match engineOf c l with
  | some e => if (s.link (64 + e)).retired then none else some e
  | none => none

/-- R181 in order, then the half's entry into its queue; `d` is the destination of an `lkm`. -/
def State.issueHalf (s : State) (moving : Bool) (d : Nat) (ga gb : Word) (eg : Nat) (l : Dir) : State :=
  let c := s.cur.core
  match s.engineAt c l, (if isCompute c then neighbour c l else none) with
  | some e, some nb =>
    let h := s.halfOf moving (engineLow e == c) ga gb eg (s.engine e).cyc
    if !geometryOk h.td h.k h.n then s.illegal (0x100 + eg)
    else if !operandsOk moving ga gb then s.illegal 0
    else if moving && !targetFormOk h then s.illegal 0
    else if !s.reaches nb || (moving && !s.reaches h.tcore) then s.trap 6 0 0
    else if 2 ≤ (s.engine e).queued moving h.low then s.stallFor .queueFull
    else if s.relBlocked || s.ownStoresOut then s.stallFor .ordering
    else
      let s1 : State := s.bump.setEngine e ((s.engine e).enqueue h)
      if moving then
        let dest : Dest := if d = 0 then .none else .g d
        let r : Ret := { id := 0, core := c, slot := s.cur.slot, work := s.me.id, pc := s.cur.pc, va := 0, kind := .load false,
                         dest := dest, data := 0, ret := .value }
        let cl := clusterOf c
        let s2 : State := s1.modCluster cl (fun k => { k with idWaits := k.idWaits ++ [(h.seq, r)] })
        ((State.grantList cl (s2.cluster cl).idWaits s2).modRegs (fun x => x.markDest (.load false) dest)).retire
      else s1.retire
  | _, _ => s.illegal (0x300 + (if moving then 4 else 0) + dirCode l)

/-- R180, R349: `lks`. -/
def execLks (a : GReg) (eg : BitVec 3) (l : Dir) (s : State) : Host.Outcome State Fault Refusal :=
  entered (.lks a eg l) s (fun s => s.issueHalf false 0 (s.g a) 0 eg.toNat l)

/-- R180, R349: `lkm`. -/
def execLkm (d a b : GReg) (eg : BitVec 3) (l : Dir) (s : State) : Host.Outcome State Fault Refusal :=
  entered (.lkm d a b eg l) s (fun s => s.issueHalf true d.toNat (s.g a) (s.g b) eg.toNat l)

/-! ### Engine control (R196 to R198) -/

/-- The engine of a link of the issuing core, or the trap of R181's link check. -/
def State.withEngine (s : State) (l : Dir) (fn : Nat) (k : Nat → State) : State :=
  match s.engineAt s.cur.core l with
  | some e => k e
  | none => s.illegal (0x300 + 4 * fn + dirCode l)

/-- R197: STATE. -/
def Engine.stateCode (e : Engine) : Nat :=
  if e.frozen then 5
  else
    match e.job with
    | none => 0
    | some j => if !j.started then 1 else if !j.isLoaded e.cyc then 2 else if j.row = j.mov.m then 4 else 3

/-- R197: the status word at an end. -/
def Engine.status (e : Engine) (low : Bool) : Word :=
  let n := fun (m b : Bool) => e.queued m b
  let j := match e.job with | some j => (j.mov.cmd, j.row, j.out) | none => (255, 0, 0)
  wordOf (e.stateCode * 2 ^ 61 + n false low * 2 ^ 59 + n true low * 2 ^ 57 + n false (!low) * 2 ^ 55 + n true (!low) * 2 ^ 53 +
    j.1 * 2 ^ 45 + j.2.1 * 2 ^ 29 + j.2.2 * 2 ^ 13)

/-- R197: `lkq`. -/
def execLkq (d : GReg) (l : Dir) (s : State) : Host.Outcome State Fault Refusal :=
  entered (.lkq d l) s (fun s => s.withEngine l 2 (fun e => s.retireG d ((s.engine e).status (engineLow e == s.cur.core))))

/-- Whether an engine stands at a row boundary of its pull, with no row of its own under way (R120, R196). -/
def State.atBoundary (s : State) (e : Nat) : Bool :=
  !s.results.any (fun r => r.eng == e) &&
  (match (s.engine e).job with
   | none => true
   | some j => !j.started || (j.isLoaded (s.engine e).cyc && j.rows.all (fun r => r.done)))

/-- R196: `lkfrz`. -/
def execLkfrz (l : Dir) (s : State) : Host.Outcome State Fault Refusal :=
  entered (.lkfrz l) s (fun s => s.withEngine l 5 (fun e =>
    let x := s.engine e
    if x.frozen then s.retire
    else if s.atBoundary e then (s.setEngine e { x with frozen := true, stop := false }).retire
    else (s.setEngine e { x with stop := true }).stallFor (.engine e)))

/-- R196: `lkthw`. -/
def execLkthw (l : Dir) (s : State) : Host.Outcome State Fault Refusal :=
  entered (.lkthw l) s (fun s => s.withEngine l 6 (fun e =>
    (s.setEngine e { s.engine e with frozen := false, stop := false }).retire))

/-- R196, R349: `lkdrain`: the image written as stores of the slot. -/
def execLkdrain (a : GReg) (l : Dir) (s : State) : Host.Outcome State Fault Refusal :=
  entered (.lkdrain a l) s (fun s => s.withEngine l 3 (fun e =>
    if !(s.engine e).frozen then s.illegal 0
    else
      match s.findImage (s.g a) 49 .vstore with
      | .stop t => t
      | .ok ps => (s.retire).writeBlocks (s.g a) ps (s.engine e).image))

/-- Word `i` of an image. -/
def imageWord (bs : List Byte) (i : Nat) : Word := wordOf (ofBytes ((bs.drop (8 * i)).take 8))

/-- R119, R120: whether an image may be loaded into an engine for a context (log entry 24). -/
def imageOk (e : Nat) (fw : Bool) (ctx : Nat) (bs : List Byte) : Bool :=
  let w := imageWord bs
  let m := bits (w 6) 63 49
  let st := bits (w 6) 45 31
  let row := bits (w 0) 31 16
  let out := bits (w 1) 63 48
  wbit (w 0) 62 &&
  (!wbit (w 0) 63 ||
   (!fw && bits (w 6) 27 19 == ctx && decide (out ≤ row) && decide (row ≤ bits (w 0) 15 0) && decide (row - out ≤ 3) &&
    ((m == engineLow e && st == engineHigh e) || (m == engineHigh e && st == engineLow e))))

/-- A half rebuilt from an image: the tensor entry is that of its ID on its core, its kind the image's (log entry 24). MARK (DESIGN CHOICE, log
entry 109): its PC is 0, it has no predecessors, and its issuer is the work that runs in the image's slot now. -/
def State.imageHalf (s : State) (e : Nat) (bs : List Byte) (moving : Bool) : Half :=
  let w := imageWord bs
  let core := if moving then bits (w 6) 63 49 else bits (w 6) 45 31
  let slot := if moving then bits (w 6) 48 46 else bits (w 6) 30 28
  let ref := if moving then bits (w 2) 53 0 else bits (w 3) 53 0
  let td := tblGet words0 (s.core core).tensors (ref % 64)
  let kind := if moving then bits (w 1) 39 36 else bits (w 1) 35 32
  let x := s.slot core slot
  { seq := s.nextId + b2n moving, core := core, slot := slot, work := if x.busy then x.w.id else 0,
    team := if x.busy then x.w.team else none, ctx := bits (w 6) 27 19, moving := moving, low := engineLow e == core, pc := 0,
    td := { td with w0 := wordOf (td.w0.toNat - putBits (bits td.w0 62 59) 62 59 + putBits kind 62 59) },
    ga := wordOf (bits (w 1) 47 40 * 2 ^ 54 + ref),
    gb := wordOf (putBits (bits (w 4) 63 49) 63 49 + putBits (bits (w 4) 46 46) 48 48 + putBits (bits (w 1) 31 28) 47 44 +
            putBits (bits (w 0) 56 56) 43 43 + putBits (bits (w 4) 13 0) 42 29 +
            putBits (bits (w 5) 13 4) 28 19),
    eg := wordOf (putBits (bits (w 0) 53 47) 6 0 + putBits (bits (w 0) 46 40) 13 7 + putBits (bits (w 0) 60 57) 17 14 +
            putBits (bits (w 0) 54 54) 18 18 + putBits (bits (w 0) 55 55) 19 19 + 0xFF * 2 ^ 24 + 0xFF * 2 ^ 32),
    pace := bits (w 0) 60 57, rm := bits (w 1) 27 26, topx := bits (w 1) 25 25 == 1, cmd := bits (w 0) 39 32,
    cycle := (s.engine e).cyc }

/-- R381: the FDR that bounds an engine: the lesser of its ends'. -/
def State.dutyAt (s : State) (e : Nat) : Nat := min (s.core (engineLow e)).fdr (s.core (engineHigh e)).fdr

/-- A job rebuilt from an image (R120): it goes on at ROW and OUT; one whose B was not loaded starts again. -/
def State.imageJob (s : State) (e : Nat) (bs : List Byte) : Job :=
  let w := imageWord bs
  let mv := s.imageHalf e bs true
  let st := s.imageHalf e bs false
  let cyc := (s.engine e).cyc
  let n := mv.n
  let acc := accBytes mv.td.tdKind
  let row := bits (w 0) 31 16
  let out := bits (w 1) 63 48
  let bank := bs.drop 2112
  let stored := ofBytes ((bs.drop 64).take 2048)
  { mov := mv, sta := st, started := wbit (w 0) 61, start := cyc, loadEnd := cyc,
    b := (List.range (mv.k * n)).map (fun i => lane st.td.tdBits stored i),
    bscale := if st.td.tdScaled then
        (List.range (mv.k * n)).map (fun i => ((bank.drop 768).getD (4 * (i % n) + i / n / st.td.tdBlk) 0).toNat)
      else [],
    row := row, out := out, sent := out,
    rows := (natRange out (row - out)).map (fun r =>
      { row := r, beats := 0, last := cyc, done := true,
        acc := (List.range n).map (fun j => ofBytes ((bank.drop (256 * (r % 3) + acc * j)).take acc)) }),
    next := cyc, duty := s.dutyAt e }

/-- R196, R349: `lkload`. -/
def execLkload (a : GReg) (l : Dir) (s : State) : Host.Outcome State Fault Refusal :=
  entered (.lkload a l) s (fun s => s.withEngine l 4 (fun e =>
    let x := s.engine e
    if !x.frozen || x.job.isSome || !x.halves.isEmpty then s.illegal 0
    else
      match s.findImage (s.g a) 49 .vload with
      | .stop t => t
      | .ok ps =>
        match s.readBlocks (s.g a) ps true with
        | .stop t => t
        | .ok bs s1 =>
          if !imageOk e s.me.ctl.fw s.me.ctl.ctx bs then s1.illegal 0
          else if !wbit (imageWord bs 0) 63 then s1.retire
          else
            let j := s1.imageJob e bs
            ({ (s1.setEngine e { x with job := some j }) with nextId := s1.nextId + 2 } : State).retire))

/-- Removal of halves from an engine's queues. -/
def Engine.without (x : Engine) (gone : Half → Bool) : Engine :=
  { x with lowS := x.lowS.filter (fun h => !gone h), lowM := x.lowM.filter (fun h => !gone h),
           highS := x.highS.filter (fun h => !gone h), highM := x.highM.filter (fun h => !gone h) }

/-- The halves and the job that a test names leave an engine (R195, R198); the issuers that `tell` names receive PARTNERGONE. -/
def State.clearEngine (s : State) (e : Nat) (gone : Half → Bool) (tell : Half → Bool) : State :=
  let x := s.engine e
  let hs := x.halves.filter gone
  let s1 : State := hs.foldl (fun t h => let t1 := t.dropHalf h; if tell h then t1.partnerGone h else t1)
    (s.setEngine e (x.without gone))
  match x.job with
  | some j =>
    if gone j.mov || gone j.sta then
      let s2 : State := s1.withdrawJob e j
      let s3 : State := if tell j.mov then s2.partnerGone j.mov else s2
      if tell j.sta then s3.partnerGone j.sta else s3
    else s1
  | none => s1

/-- R198: `lkcan`. -/
def execLkcan (d a : GReg) (l : Dir) (s : State) : Host.Outcome State Fault Refusal :=
  entered (.lkcan d a l) s (fun s => s.withEngine l 7 (fun e =>
    let w := s.g a
    if bits w 63 1 ≠ 0 then s.illegal 0
    else if w = 1 && !s.atL0 then s.trap 0x15 0 0
    else
      let mine := fun (h : Half) => h.core == s.cur.core && h.slot == s.cur.slot
      let gone := fun (h : Half) => w == 1 || mine h
      let x := s.engine e
      let n := (x.halves.filter gone).length + (match x.job with | some j => b2n (gone j.mov || gone j.sta) | none => 0)
      (s.retireG d (wordOf n)).clearEngine e gone (fun h => !mine h)))

/-! ### Rendezvous (R184, R185) -/

/-- R184: the couple to pair: the moving half and the stationary half. The first is the one whose later half entered earlier, or, when
both did in one engine cycle, the one whose moving half lies at the low end. -/
def Engine.couple (x : Engine) : Option (Half × Half) :=
  let a := match x.lowM, x.highS with | m :: _, t :: _ => some (m, t) | _, _ => none
  let b := match x.highM, x.lowS with | m :: _, t :: _ => some (m, t) | _, _ => none
  match a, b with
  | some p, some q => if max p.1.cycle p.2.cycle ≤ max q.1.cycle q.2.cycle then some p else some q
  | some p, none => some p
  | none, q => q

/-- A step of an engine that exists. -/
def engineStep (e : Nat) (t : State) : Host.Outcome State Fault Refusal := occurs (isEngine e) t

/-- R184, R185: the heads of the two queues pair. -/
def execEnginePairing (e : Nat) (s : State) : Host.Outcome State Fault Refusal :=
  engineStep e (
    let x := s.engine e
    if x.frozen || x.job.isSome then s
    else
      match x.couple with
      | none => s
      | some (m, t) =>
        let x1 := x.without (fun h => h.seq == m.seq || h.seq == t.seq)
        if m.tag = t.tag ∧ m.k = t.k ∧ m.n = t.n ∧ m.trb = t.trb then
          let j : Job := { mov := m, sta := t, started := false, start := 0, loadEnd := 0, b := [], bscale := [], row := 0, out := 0,
                           sent := 0, rows := [], next := 0, duty := 16 }
          s.setEngine e { x1 with job := some j }
        else (((s.setEngine e x1).retireHalf m).issuerEvent m 0xE 0 m.pc).issuerEvent t 0xE 0 t.pc)

/-! ### Starting a job (R174, R186, R191) -/

/-- Last row and column of a half's operand, counted from its reference. -/
def Half.extent (h : Half) : Nat × Nat := if h.moving then (h.m, h.k) else if h.trb then (h.n, h.k) else (h.k, h.n)

/-- R191: a half's source at fault: the cause's address. EADDR names the first element of a reference that leaves the tensor, and the last
one, or its scale, where the data or the scales reach SPCAP (log entry 95). -/
def State.sourceFault (s : State) (h : Half) : Option Word :=
  let t := h.td
  let b := t.tdLoc
  let rows := h.extent.1
  let cols := h.extent.2
  if !t.tdValid || b == 0 || b == 3 then some (wordOf h.tid)
  else if t.tdRows < h.row + rows || t.tdCols < h.col + cols then some (wordOf (t.tdAddr h.row h.col))
  else
    let cap := s.spcap h.core b * 64
    let r := h.row + rows - 1
    let c := h.col + cols - 1
    if cap < t.tdAddr r c + max 1 (t.tdBits / 8) then some (wordOf (t.tdAddr r c))
    else if t.tdScaled && decide (cap ≤ t.tdScaleAddr r c) then some (wordOf (t.tdScaleAddr r c))
    else none

/-- What the checks before a start decide: a fault of a half with its cause and address, a refusal, a wait, or a start. -/
inductive StartRes | fault (moving : Bool) (cause : Nat) (eaddr : Word) | pred | wait | go (c : PClass)
  deriving DecidableEq, Repr

/-- R174: the predecessors of a half: 0 when one is FREE or the command's own ID, 1 when one is PENDING, 2 when all are
RETIRED. -/
def State.predsOf (s : State) (h : Half) (ownCl own : Nat) : Nat :=
  let cl := clusterOf h.core
  let k := s.cluster cl
  if h.preds.any (fun p => k.cmdState p == 0 || (cl == ownCl && p == own)) then 0
  else if h.preds.any (fun p => k.cmdState p == 1) then 1 else 2

/-- R191 before the start, then R174. Of two sources at fault that of the moving half is reported (log entry 95). -/
def State.startCheck (s : State) (j : Job) : StartRes :=
  match s.sourceFault j.mov with
  | some a => .fault true 6 a
  | none =>
    match s.sourceFault j.sta with
    | some a => .fault false 6 a
    | none =>
      match classOf j.mov.td j.sta.td with
      | none => .fault true 0xA 0
      | some c =>
        if !c.gives j.mov.rfmt then .fault true 0xA 0
        else if c.maxN < j.mov.n || (c == .f64 && decide (256 < j.mov.k * j.mov.n)) then .fault true 1 0
        else if j.mov.cmd = 255 then .wait
        else
          let cl := clusterOf j.mov.core
          let a := s.predsOf j.mov cl j.mov.cmd
          let b := s.predsOf j.sta cl j.mov.cmd
          if a = 0 || b = 0 then .pred else if a = 1 || b = 1 then .wait else .go c

/-- R101, R191: unwritten words of elements of a half's operand: the state to go on in, or the buffer offset of the fault. -/
def State.sourceUnwritten (s : State) (h : Half) (es : List (Nat × Nat)) : State × Option Nat :=
  let bad := es.filterMap (fun e => s.elemUnwritten h.core h.td e.1 e.2)
  match (s.core h.core).spmode, bad with
  | 0, _ => (s, none)
  | _, [] => (s, none)
  | 1, off :: _ => (s.warnUninit (h.td.tdPlace h.core off) (selfVa h.td.tdLoc off), none)
  | _, off :: _ => (s, some off)

/-- A job withdrawn for a fault of one half: its issuer takes the trap, the other receives nothing (R191). -/
def State.faultJob (s : State) (e : Nat) (j : Job) (moving : Bool) (cause : Nat) (eaddr : Word) : State :=
  (s.withdrawJob e j).issuerTrap (if moving then j.mov else j.sta) cause eaddr

/-- R98, R191: whether an element that a half reads, or its scale, holds a double-bit error. -/
def State.sourceLost (s : State) (h : Half) (es : List (Nat × Nat)) : Bool :=
  !s.poison.isEmpty && es.any (fun e =>
    s.meetsError (h.td.tdPlace h.core (h.td.tdAddr e.1 e.2)) (max 1 (h.td.tdBits / 8)) false ||
    (h.td.tdScaled && s.meetsError (h.td.tdPlace h.core (h.td.tdScaleAddr e.1 e.2)) 1 false))

/-- R186: the start, and the load of B, whose elements are read now. MARK (DESIGN CHOICE, log entry 103): an engine's reads of its two ends'
buffers are checked against no window. -/
def State.startJob (s : State) (e : Nat) (j : Job) : State :=
  let h := j.sta
  let ps := h.bPairs.map (fun p => h.bAt p.1 p.2)
  if s.sourceLost h ps then s.abortOwner h.core 6 else
  match s.sourceUnwritten h ps with
  | (_, some off) => s.faultJob e j false 0x11 (wordOf off)
  | (s1, none) =>
    let x := s1.engine e
    let load := (h.k * h.n * h.td.tdBits + 255) / 256
    s1.setEngine e { x with job := some { j with
      started := true, start := x.cyc, loadEnd := x.cyc + load
      b := ps.map (fun p => s1.elemCode h.core h.td p.1 p.2)
      bscale := if h.td.tdScaled then ps.map (fun p => s1.elemScale h.core h.td p.1 p.2) else []
      next := x.cyc + load + 1
      duty := s1.dutyAt e } }

/-- R186: a paired job starts, is refused, or is withdrawn. -/
def execJobStart (e : Nat) (s : State) : Host.Outcome State Fault Refusal :=
  engineStep e (
    let x := s.engine e
    match x.job with
    | none => s
    | some j =>
      if x.frozen || j.started then s
      else
        match s.startCheck j with
        | .fault m cause a => s.faultJob e j m cause a
        | .pred => ((s.setEngine e { x with job := none }).retireHalf j.mov).issuerTrap j.mov 0x1A 0
        | .wait => s
        | .go _ => s.startJob e j)

/-! ### Beats and rows (R187 to R190) -/

/-- R187, R381: whether a pull may occur at the engine's cycle. -/
def Engine.pullAt (x : Engine) (j : Job) : Bool :=
  let f := min (16 - max j.mov.pace j.sta.pace) j.duty
  let c := (x.cyc - j.start) % 16
  decide (j.loadEnd < x.cyc) && decide (j.next ≤ x.cyc) && decide (c * f / 16 < (c + 1) * f / 16)

/-- R187: whether a beat may be pulled: a row's later beats, or a new row while a slot of the bank is free. -/
def Engine.mayPull (x : Engine) (j : Job) : Bool :=
  !x.frozen && j.started && x.pullAt j && decide (j.row < j.mov.m) &&
  (j.rows.any (fun r => !r.done) || (decide (j.rows.length < 3) && !x.stop))

/-- R379: a beat and its arithmetic cycles charged to the core at the moving end. -/
def State.chargeBeat (s : State) (c n : Nat) : State := s.modCore c (fun k => { k with acts := { k.acts with beats := k.acts.beats + n } })

/-- One beat pulled: with its last beat a row's accumulators form. -/
def State.pull (s : State) (e : Nat) (x : Engine) (j : Job) : State :=
  let h := j.mov
  let per := 256 / h.td.tdBits
  let cls := (classOf h.td j.sta.td).getD .f32
  let beats := match j.rows.find? (fun r => !r.done) with | some r => r.beats | none => 0
  let els := min per (h.k - beats * per)
  let cb := max 1 ((els * h.n + cls.macs - 1) / cls.macs)
  let others := j.rows.filter (fun r => r.done)
  if (beats + 1) * per < h.k then
    (s.chargeBeat h.core (1 + cb)).setEngine e { x with job := some { j with
      rows := others ++ [{ row := j.row, beats := beats + 1, last := x.cyc + cb, acc := [], done := false }]
      next := x.cyc + cb } }
  else
    let els := (List.range h.k).map (fun k => (h.row + j.row, h.col + k))
    if s.sourceLost h els then s.abortOwner h.core 6 else
    match s.sourceUnwritten h els with
    | (_, some off) => s.faultJob e j true 0x11 (wordOf off)
    | (s1, none) =>
      (s1.chargeBeat h.core (1 + cb)).setEngine e { x with job := some { j with
        rows := others ++ [{ row := j.row, beats := beats + 1, last := x.cyc + cb, acc := rowAcc cls j (s1.rowCodes h j.row), done := true }]
        row := j.row + 1
        next := x.cyc + cb } }

/-- R187: a beat. -/
def execBeatPull (e : Nat) (s : State) : Host.Outcome State Fault Refusal :=
  engineStep e (
    let x := s.engine e
    match x.job with
    | none => s
    | some j => if x.mayPull j then s.pull e x j else s)

/-- The row of an engine that may leave: the oldest, three cycles after its last arithmetic cycle (R189). -/
def Engine.leaving (x : Engine) (ring : Bool) : Option (Job × AccRow × List AccRow) :=
  match x.job with
  | none => none
  | some j =>
    match j.rows with
    | [] => none
    | r :: t => if !x.frozen && r.done && decide (r.last + 3 ≤ x.cyc) && j.mov.toRing == ring then some (j, r, t) else none

/-- R138: the 64-byte flits of a link that a row takes: its 16-byte flits (R189), four to one (log entry 71). -/
def Half.linkFlits (h : Half) : Nat := (1 + (h.rowBytes + 15) / 16 + 3) / 4

/-- The die-to-die links that a row crosses from the moving end to its target, each named once for a flit. -/
def State.rowLinks (s : State) (h : Half) : Option (List Nat) :=
  (s.dieLinks (coreDie h.core) (coreDie h.tcore)).map (fun ls => ls.flatMap (fun l => List.replicate h.linkFlits l))

/-- Whether those links' windows have room for a row. -/
def State.linkRoom (s : State) (h : Half) : Bool := s.roomOn (s.rowLinks h)

/-- A row's flits sent. -/
def State.sendRow (s : State) (h : Half) : State := s.flitsOn (s.rowLinks h)

/-- R189: a row leaves as a result packet and frees its slot. -/
def execRowSend (e : Nat) (s : State) : Host.Outcome State Fault Refusal :=
  engineStep e (
    let x := s.engine e
    match x.leaving false with
    | none => s
    | some (j, r, t) =>
      if (s.rowLinks j.mov).isNone then s.abortContext false j.mov.ctx 9 j.mov.core
      else if !s.linkRoom j.mov then s else
      let p : ResultPkt := { id := s.nextId, eng := e, mov := j.mov, row := r.row, acc := r.acc }
      let s1 : State := { s.bump with results := s.results ++ [p] }
      (s1.sendRow j.mov).setEngine e { x with job := some { j with rows := t, out := j.out + 1 } })

/-- A row of a job counted as performed at the target, or refused there. -/
def State.rowDone (s : State) (e seq : Nat) : State :=
  let x := s.engine e
  match x.job with
  | some j => if j.mov.seq = seq then s.setEngine e { x with job := some { j with sent := j.sent + 1 } } else s
  | none => s

/-- R188, R190: a result packet performed at its target, or refused; one that meets a double-bit error performs nothing (R98). -/
def State.performResult (s : State) (r : ResultPkt) : State :=
  let h := r.mov
  let n := h.rowBytes
  let off := h.toff + r.row * n
  if s.targetOk h 3 off (off + n) 35 then
    let l : Loc := { sp := .buf h.tcore 3, off := off }
    if s.meetsError l n (!h.accum) then s.abortOwner h.tcore 6 else
    let old := if h.accum then some (s.readNat l n) else none
    s.write l (resultRow ((classOf h.td h.td).getD .f32) h r.acc old)
  else s.issuerEvent h 8 (wordOf off) 0

/-- R189, R190: a result packet arrives; rows are performed in order. -/
def execResultPacketArrival (id : Nat) (s : State) : Host.Outcome State Fault Refusal :=
  .next (match s.results.find? (fun r => r.id == id) with
    | none => s
    | some r =>
      if (s.results.takeWhile (fun q => q.id != id)).any (fun q => q.eng == r.eng) then s
      else (({ s with results := s.results.filter (fun q => q.id != id) } : State).performResult r).rowDone r.eng r.mov.seq)

/-- R132: the words of a row in a ring, padding zero. -/
def ringWords (h : Half) (bs : List Byte) : List Word :=
  (List.range ((h.n * rfmtBits h.rfmt + 63) / 64)).map (fun i => wordOf (ofBytes ((bs.drop (8 * i)).take 8)))

/-- R133: what the target ring does with a row: it waits for room, is refused, or lands. The target offset of a refused one is its ring's
number (log entry 95). -/
def State.ringRow (s : State) (h : Half) (ws : List Word) : Option State :=
  let r := (s.core h.tcore).stream h.toff
  let out := match r.team with
    | some t => !s.teams.any (fun x => x.id == t && x.resident)
    | none => false
  if r.owner.isNone || out then some (s.issuerEvent h 8 (wordOf h.toff) 0)
  else if r.room < ws.length then none
  else if (List.range ws.length).all (fun i =>
      let row := (r.place h.tcore (r.occ + i)).off / 64 * 64
      s.targetOk h 2 row (row + 64) 35) then some (s.putRing h.tcore h.toff ws)
  else some (s.issuerEvent h 8 (wordOf h.toff) 0)

/-- R133, R189: a row is delivered into a stream ring once the ring has room for all of it. -/
def execStreamRowDelivery (e : Nat) (s : State) : Host.Outcome State Fault Refusal :=
  engineStep e (
    let x := s.engine e
    match x.leaving true with
    | none => s
    | some (j, r, t) =>
      if (s.rowLinks j.mov).isNone then s.abortContext false j.mov.ctx 9 j.mov.core
      else if !s.linkRoom j.mov then s else
      match s.ringRow j.mov (ringWords j.mov (resultRow ((classOf j.mov.td j.mov.td).getD .f32) j.mov r.acc none)) with
      | none => s
      | some s1 =>
        if (s1.engine e).job.isNone then s1
        else (s1.sendRow j.mov).setEngine e { x with job := some { j with rows := t, out := j.out + 1, sent := j.sent + 1 } })

/-- R138: the links that a job's arrival on its barrier object crosses. -/
def State.endLinks (s : State) (h : Half) : Option (List Nat) :=
  if h.nobar then some [] else s.dieLinks (coreDie h.core) (coreDie h.tcore)

/-- R190: every row performed: the arrival on the barrier object, and the job retires. -/
def execTileEndArrival (e : Nat) (s : State) : Host.Outcome State Fault Refusal :=
  engineStep e (
    let x := s.engine e
    match x.job with
    | none => s
    | some j =>
      if x.frozen || !j.started || j.sent < j.mov.m then s
      else if (s.endLinks j.mov).isNone then s.abortContext false j.mov.ctx 9 j.mov.core
      else if !s.roomOn (s.endLinks j.mov) then s
      else
        let s1 : State := (s.flitsOn (s.endLinks j.mov)).setEngine e { x with job := none, stop := false }
        let s2 : State := if j.mov.nobar then s1
          else match s1.halfArrives j.mov with
               | some t => t
               | none => s1.issuerEvent j.mov 8 (wordOf j.mov.bobj) 0
        s2.retireHalf j.mov)

/-- R131, R181: an issuer stalled at a full queue for longer than 2^24 cycles. -/
def execEngwaitTimeout (core slot : Nat) (s : State) : Host.Outcome State Fault Refusal :=
  occurs (isCore core && decide (slot < 8))
    (let x := s.slot core slot
     match x.stall with
     | some (.queueFull, t) =>
       if x.busy && !x.frozen && decide (2 ^ 24 < ((s.core core).cyc.toNat + 2 ^ 64 - t) % 2 ^ 64) then
         s.takeTrap core slot 0 0x19 x.len x.w.pc 0 0
       else s
     | _ => s)

end Sys2Proof.Machine
end

