-- ==== Sys2Proof/Machine/Tlb.lean ====
section
/-! DEFINITION. TLB entries: their form, the permission check, invalidation of overlaps, installation (R111 to R116, R153,
R156). -/

namespace Sys2Proof.Machine

/-- Pages of 16 KiB in a page. -/
def pageUnits (e : TlbEntry) : Nat := 2 ^ (pageBits e - 14)

/-- R112: whether a target type allows the entry's frame, size, kind and permissions. -/
def typeOk (e : TlbEntry) : Bool :=
  let sz := bits e.w0 13 12
  let ord := bits e.w1 60 59
  let x := wbit e.w1 56
  let frame := bits e.w1 51 14
  let modz := bits e.w1 13 0 == 0
  let page := frame % 8
  let high := frame / 2 ^ 18 == 0
  let buf := fun (last : Nat) => sz == 0 && decide (ord ≤ 1) && !x && modz && high && decide (page ≤ last)
  match bits e.w1 63 61 with
  | 0 => modz && decide (frame * 2 ^ 14 + 2 ^ pageBits e ≤ 2 ^ 40)
  | 1 => !x && modz
  | 2 => !x && decide (frame * 2 ^ 14 + 2 ^ pageBits e ≤ 2 ^ 40)
  | 3 => buf 5
  | 4 => buf 2
  | 5 => buf 0
  | 6 => sz == 0 && ord == 1 && !x && modz && high && page == 0
  | _ => sz == 0 && ord == 1 && !x && modz

/-- R110: whether an entry's page reaches the top 1 MiB. -/
def overSelf (e : TlbEntry) : Bool := decide (2 ^ 57 - 2 ^ 20 < bits e.w0 56 14 * 2 ^ 14 + 2 ^ pageBits e)

/-- R111, R112: whether an entry is well formed. -/
def entryFormOk (e : TlbEntry) : Bool :=
  let k := pageBits e - 14
  bits e.w0 63 57 == 0 && bits e.w0 13 12 != 3 && bits e.w0 56 14 % 2 ^ k == 0 &&
  (!wbit e.w0 9 || (bits e.w0 8 0 == 0 && !wbit e.w0 11)) &&
  bits e.w1 55 52 == 0 && bits e.w1 60 59 != 3 && bits e.w1 51 14 % 2 ^ k == 0 && !overSelf e && typeOk e

/-- R156: whether one range covers a page and grants its permissions. -/
def rangeCovers (e : TlbEntry) (r : Word × Word) : Bool :=
  let frame := bits e.w1 51 14
  wbit r.1 63 && bits r.1 59 58 == bits e.w1 63 61 && decide (bits r.1 51 14 ≤ frame) &&
  decide (frame + pageUnits e ≤ bits r.2 51 14) && (wbit r.1 62 || !wbit e.w1 58) && (wbit r.1 61 || !wbit e.w1 57) &&
  (wbit r.1 60 || !wbit e.w1 56) && (bits e.w1 63 61 != 2 || wbit r.1 57 || bits r.1 13 0 == bits e.w1 13 0)

/-- R396: whether a context may name a page of the control space: the I/O die page is firmware's, a cluster's page its owner's and
firmware's. -/
def State.ctlPageOk (s : State) (fw : Bool) (ctx frame : Nat) : Bool :=
  fw || (decide (64 ≤ frame) && decide (frame < 64 + 512) && (s.cluster (frame - 64)).owner == some ctx)

/-- R412: whether a page of this module's HBM holds a retired frame. -/
def State.holdsRetired (s : State) (e : TlbEntry) : Bool :=
  (bits e.w1 63 61 == 0 || (bits e.w1 63 61 == 2 && bits e.w1 13 0 == s.modnum)) &&
  s.retired.any (fun f => decide (bits e.w1 51 14 ≤ f) && decide (f < bits e.w1 51 14 + pageUnits e))

/-- R113: the permission check of an entry. -/
def State.entryPermitted (s : State) (e : TlbEntry) : Bool :=
  let fw := wbit e.w0 9
  let ctx := bits e.w0 8 0
  let x := s.context (if fw then fwCtx else ctx)
  let ty := bits e.w1 63 61
  if ty ≤ 2 then !s.holdsRetired e && (List.range (bits x.header 4 0)).any (fun i => rangeCovers e (tblGet (0, 0) x.ranges i))
  else if ty ≤ 6 then s.ownsCore fw ctx (bits e.w1 31 17)
  else wbit x.header 63 && s.ctlPageOk fw ctx (bits e.w1 51 14)

/-- Whether two pages share an address. -/
def pagesMeet (a b : TlbEntry) : Bool :=
  let la := bits a.w0 56 14
  let lb := bits b.w0 56 14
  decide (la < lb + pageUnits b) && decide (lb < la + pageUnits a)

/-- R114: whether a new entry drops an old one: of its context, or global. -/
def dropsEntry (new old : TlbEntry) : Bool :=
  pagesMeet new old &&
  (if wbit new.w0 9 then wbit old.w0 9 || wbit old.w0 11
   else !wbit old.w0 9 && (wbit old.w0 11 || wbit new.w0 11 || bits old.w0 8 0 == bits new.w0 8 0))

/-- An entry put into a TLB after the overlapping ones have left. `same` says which entries share its set; with all the `ways` of the
set in use, the one that `pick` names is replaced (R153, log entry 77). -/
def tlbPut (same : TlbEntry → Bool) (ways pick : Nat) (l : List TlbEntry) (e : TlbEntry) : List TlbEntry :=
  let r := l.filter (fun o => !dropsEntry e o)
  let st := r.filter same
  e :: (if st.length < ways then r else r.erase (st.getD (pick % ways) e))

/-- R153: the set of an entry in the L2: nine bits of its address above its page's offset. -/
def l2Set (e : TlbEntry) : Nat := fld e.w0.toNat (pageBits e) 9

/-- R114: an entry written to the L1 of 64 entries. -/
def Core.fillL1 (k : Core) (pick : Nat) (e : TlbEntry) : Core := { k with l1 := tlbPut (fun _ => true) 64 pick k.l1 e }

/-- R153: an entry written to the L2 of 512 sets of 8 ways. -/
def Cluster.fillL2 (k : Cluster) (pick : Nat) (e : TlbEntry) : Cluster :=
  { k with l2 := tlbPut (fun o => l2Set o == l2Set e) 8 pick k.l2 e }

/-- R114, R153: an entry written to the L2 of a core's cluster and, unless `l2only`, to the core's L1. A management core has no
L2 (log entry 20). -/
def State.installEntry (s : State) (c : Nat) (e : TlbEntry) (l2only : Bool) : State :=
  let s1 : State := if isMc c then s.bump else s.bump.modCluster (clusterOf c) (fun k => k.fillL2 (Config.victim s.nextId) e)
  if l2only then s1 else s1.modCore c (fun k => k.fillL1 (Config.victim s.nextId) e)

/-- The addresses that a core asks its L1 for in a cycle, with their context: those of its accesses under way and of the groups its
slots stand at. -/
def State.lookups (s : State) (c : Nat) (k : Core) : List (Bool × Nat × Word) :=
  let ctx := fun (fw : Bool) => if fw then 0 else (match s.ownerOf c with | some (false, x) => x | _ => 0)
  (s.inflight.filter (fun f => f.core == c)).map (fun f => (f.fw, ctx f.fw, f.va)) ++
  (k.slots.filter (fun e => e.2.busy)).map (fun e => (e.2.w.ctl.fw, e.2.w.ctl.ctx, e.2.w.pc))

/-- R114, R153: a hit in the L2 refills the L1 with the entry, unchanged (log entry 76). -/
def State.refilledFor (s : State) (c : Nat) (qs : List (Bool × Nat × Word)) (k : Core) : Core :=
  if isMc c then k
  else
    qs.foldl (fun x q =>
      if inSelf q.2.2 || inFwWindow q.1 q.2.2 || x.l1.any (fun e => e.matchesAccess q.1 q.2.1 q.2.2) then x
      else
        match (s.cluster (clusterOf c)).l2.find? (fun e => e.matchesAccess q.1 q.2.1 q.2.2) with
        | some e => x.fillL1 (Config.victim s.nextId) e
        | none => x) k

/-- The same for what a core looks up in every cycle. -/
def State.refilled (s : State) (c : Nat) (k : Core) : Core := s.refilledFor c (s.lookups c k) k

/-- R135: whether a fault record of a context is held at the translation service core that serves core `c`, which then serves no walks
for it. A management core is served by itself (log entry 20). -/
def State.walksHeld (s : State) (c : Nat) (fw : Bool) (ctx : Nat) : Bool :=
  let at_ := fun (h : Nat) => if isMc h then h else tscOf (clusterOf h)
  s.faults.heldRecs.any (fun e => at_ e.1 == at_ c && wbit e.2.w1 28 == fw && (fw || bits e.2.w1 37 29 == ctx))

/-- What a walk's answer comes to: an entry written, a refusal, or no page (R114, R115). -/
inductive Walked | entry (t : State) | refused | absent
  deriving DecidableEq, Repr

/-- The answer of the walker for core `c`. -/
def State.walked (s : State) (c : Nat) (l2only : Bool) (a : WalkAnswer) : Walked :=
  match a with
  | .entry w0 w1 =>
    let e : TlbEntry := { w0 := w0, w1 := w1 }
    if entryFormOk e && s.entryPermitted e then .entry (s.installEntry c e l2only) else .refused
  | .absent => .absent
  | .refused => .refused

end Sys2Proof.Machine
end

