-- ==== Sys2Proof/Machine/CopyEngine.lean ====
section
/-! DEFINITION. The cluster copy engine: cards, edges, units, faults (R131, R234, R351 to R360). -/

namespace Sys2Proof.Machine

/-! ### Cards (R352, R353) -/

/-- Word `i` of a card. -/
def cardWord (card : List Word) (i : Nat) : Word := card.getD i 0
/-- Element size in bytes. -/
def cardEsz (card : List Word) : Nat := 2 ^ bits (cardWord card 0) 63 62
/-- ROP. -/
def cardRop (card : List Word) : Nat := bits (cardWord card 0) 61 58
/-- NR. -/
def cardNr (card : List Word) : Nat := bits (cardWord card 0) 57 55
/-- NW. -/
def cardNw (card : List Word) : Nat := bits (cardWord card 0) 54 53
/-- Address of read region `i`. -/
def rdAddr (card : List Word) (i : Nat) : Nat := (cardWord card (4 + 2 * i)).toNat
/-- Length of read region `i`. -/
def rdLen (card : List Word) (i : Nat) : Nat := (cardWord card (5 + 2 * i)).toNat
/-- Address of write region `i`. -/
def wrAddr (card : List Word) (i : Nat) : Nat := (cardWord card (12 + 2 * i)).toNat
/-- Length of write region `i`. -/
def wrLen (card : List Word) (i : Nat) : Nat := (cardWord card (13 + 2 * i)).toNat
/-- BBUF. -/
def cardBuf (card : List Word) : Nat := bits (cardWord card 0) 49 48
/-- The rectangle of a `bct`: X0, Y0, X1, Y1. -/
def cardRect (card : List Word) : Nat × Nat × Nat × Nat :=
  let w := cardWord card 0
  (bits w 47 42, bits w 41 36, bits w 35 30, bits w 29 24)

/-- The cores of a rectangle on a die, column after column. -/
def rectCores (d : Nat) (r : Nat × Nat × Nat × Nat) : List Nat :=
  (natRange r.1 (r.2.2.1 + 1 - r.1)).flatMap (fun x => (natRange r.2.1 (r.2.2.2 + 1 - r.2.1)).map (fun y => coreId d x y))

/-- R353: whether a used region's self-region address names a buffer of the issuing core below its capacity. -/
def State.selfRegionOk (s : State) (c addr len : Nat) : Bool :=
  if 0xFFFFFFFFFFF00000 ≤ addr then
    (match selfPlace (wordOf addr) with
     | some (b, off) => decide (off + len ≤ s.spcap c b * 64)
     | none => false)
  else decide (addr + len ≤ 0xFFFFFFFFFFF00000)

/-- R353: a region, used or not; `off` says that it holds a buffer offset. -/
def State.regionOk (s : State) (c esz : Nat) (used off : Bool) (a l : Word) : Bool :=
  if !used then a == 0 && l == 0
  else
    bits l 63 32 == 0 && l != 0 && a.toNat % esz == 0 && l.toNat % esz == 0 &&
    (if off then bits a 63 17 == 0 else s.selfRegionOk c a.toNat l.toNat)

/-- R352, R353: the form of a card that every member shares. -/
def State.cardFormOk (s : State) (c fn : Nat) (card : List Word) : Bool :=
  let w := cardWord card 0
  let esz := cardEsz card
  cardWord card 1 == 0 && cardWord card 2 == 0 && cardWord card 3 == 0 && bits w 52 50 == 0 && bits w 23 0 == 0 &&
  decide (1 ≤ cardNr card) && decide (cardNr card ≤ 4) && decide (1 ≤ cardNw card) && decide (cardNw card ≤ 2) &&
  (fn == 4 || (cardBuf card == 0 && bits w 47 24 == 0)) &&
  (if fn = 3 then decide (cardRop card ≤ 9) &&
      (cardRop card < 6 || bits w 63 62 == (if cardRop card = 6 then 3 else if cardRop card = 7 then 2 else 1))
   else cardRop card == 0) &&
  (List.range 4).all (fun i => s.regionOk c esz (decide (i < cardNr card)) false (cardWord card (4 + 2 * i)) (cardWord card (5 + 2 * i))) &&
  (List.range 2).all (fun i => s.regionOk c esz (decide (i < cardNw card)) (fn == 4) (cardWord card (12 + 2 * i)) (cardWord card (13 + 2 * i)))

/-- R355: the card rules of each member (0 `cpy`, 1 `gat`, 2 `sca`, 3 `redc`, 4 `bct`). -/
def memberRulesOk (fn : Nat) (card : List Word) : Bool :=
  let nr := cardNr card
  let nw := cardNw card
  let esz := cardEsz card
  match fn with
  | 0 => decide (nw ≤ nr) && (List.range nw).all (fun i => rdLen card i == wrLen card i)
  | 1 => decide (2 ≤ nr) && nw == 1 && rdLen card 0 % 4 == 0 && wrLen card 0 == rdLen card 0 / 4 * esz
  | 2 => decide (2 ≤ nr) && nw == 1 && rdLen card 0 % 4 == 0 && rdLen card 1 == rdLen card 0 / 4 * esz
  | 3 => nw == 1 && (List.range nr).all (fun i => rdLen card i == wrLen card 0)
  | _ =>
    let r := cardRect card
    nr == 1 && nw == 1 && rdLen card 0 == wrLen card 0 && cardBuf card != 0 && decide (r.1 ≤ r.2.2.1) && decide (r.2.1 ≤ r.2.2.2)

/-! ### Edges (R131, R357) -/

/-- A range of a card: of virtual addresses of a context, or of a buffer in the cores of a rectangle. -/
inductive Span | va (lo len core : Nat) (fw : Bool) (ctx : Nat) | rect (buf lo len : Nat) (cores : List Nat)
  deriving DecidableEq, Repr

/-- Two ranges of numbers that share one. -/
def meets (a n b m : Nat) : Bool := decide (a < b + m) && decide (b < a + n)

/-- R357: two ranges that share a byte; virtual ones do so within a context. -/
def Span.overlaps : Span → Span → Bool
  | .va a n _ fw ctx, .va b m _ fw2 ctx2 => fw == fw2 && ctx == ctx2 && meets a n b m
  | .rect b a n cs, .rect b2 a2 n2 cs2 => b == b2 && meets a n a2 n2 && cs.any (fun c => cs2.contains c)
  | .va a n c _ _, .rect b lo m cs => cs.contains c && meets a n (bufBase b + lo) m
  | .rect b lo m cs, .va a n c _ _ => cs.contains c && meets a n (bufBase b + lo) m

/-- The read ranges of a job's card. -/
def CopyJob.readSpans (j : CopyJob) : List Span :=
  (List.range (cardNr j.card)).map (fun i => .va (rdAddr j.card i) (rdLen j.card i) j.core j.fw j.ctx)

/-- The write ranges of a job's card. -/
def CopyJob.writeSpans (j : CopyJob) : List Span :=
  (List.range (cardNw j.card)).map (fun i =>
    if j.fn = 4 then .rect (cardBuf j.card) (wrAddr j.card i) (wrLen j.card i) (rectCores (coreDie j.core) (cardRect j.card))
    else .va (wrAddr j.card i) (wrLen j.card i) j.core j.fw j.ctx)

/-- R357: two cards overlap when two of their ranges do and at least one of these is written. -/
def CopyJob.overlaps (j k : CopyJob) : Bool :=
  j.writeSpans.any (fun x => (k.writeSpans ++ k.readSpans).any (fun y => x.overlaps y)) ||
  j.readSpans.any (fun x => k.writeSpans.any (fun y => x.overlaps y))

/-! ### Issue (R351, R354) -/

/-- A free slot of a cluster's job queue, the one that a number names among them (log entry 80). -/
def Cluster.freeJob (k : Cluster) (pick : Nat) : Option Nat :=
  let free := (List.range 64).filter (fun i => !k.jobs.any (fun j => j.jid == i))
  if free.isEmpty then none else some (free.getD (pick % free.length) 0)

/-- A card queued, its edges found, and its ID on its way to the destination. -/
def State.queueCard (s : State) (fn d jid : Nat) (card : List Word) (obj : Loc) (objVa : Word) : State :=
  let cl := clusterOf s.cur.core
  let j : CopyJob :=
    { jid := jid, serial := s.nextId, fn := fn, card := card, obj := obj, objVa := objVa, core := s.cur.core, slot := s.cur.slot,
      work := s.me.id, team := s.me.team, fw := s.me.ctl.fw, ctx := s.me.ctl.ctx, unit := 0, running := false, token := none,
      after := [], stopped := false }
  let j1 : CopyJob := { j with after := ((s.cluster cl).jobs.filter (fun k => k.overlaps j)).map (fun k => k.serial) }
  let dest : Dest := if d = 0 then .none else .g d
  let s1 : State := (s.bump.modCluster cl (fun k => { k with jobs := k.jobs ++ [j1] })).modRegs (fun x => x.markDest (.load false) dest)
  (s1.sendBack { id := 0, core := s.cur.core, slot := s.cur.slot, work := s.me.id, pc := s.cur.pc, va := 0, kind := .load false,
                 dest := dest, data := jid, ret := .value }).retire

/-- R354: a copy command. A core without a cluster has no copy engine (log entry 25). -/
def State.copyCommand (s : State) (fn d : Nat) (a b : Word) : State :=
  if isMc s.cur.core then s.illegal (0xD00 + fn)
  else if !s.settled then s.stallFor .ordering
  else if a.toNat % 64 ≠ 0 then s.trap 7 a 0
  else
    match s.findImage a 2 .vload with
    | .stop t => t
    | .ok ps =>
      match s.readBlocks a ps with
      | .stop t => t
      | .ok bs s1 =>
        let card := (List.range 16).map (fun i => imageWord bs i)
        if !s.cardFormOk s.cur.core fn card || !memberRulesOk fn card then s1.illegal (0xD00 + fn)
        else
          match s1.findObject b with
          | .stop t => t
          | .page p =>
            if fn = 4 && !(rectCores (coreDie s.cur.core) (cardRect card)).all (fun h => s.reaches h) then s1.trap 6 0 0
            else
              match (s.cluster (clusterOf s.cur.core)).freeJob (Config.jobSlot s.nextId) with
              | none => s.stallFor .command
              | some jid => s1.queueCard fn d jid card p.loc b

/-- R351: `cpy`. -/
def execCpy (d a b : GReg) (s : State) : Host.Outcome State Fault Refusal :=
  entered (.cpy d a b) s (fun s => s.copyCommand 0 d.toNat (s.g a) (s.g b))
/-- R351: `gat`. -/
def execGat (d a b : GReg) (s : State) : Host.Outcome State Fault Refusal :=
  entered (.gat d a b) s (fun s => s.copyCommand 1 d.toNat (s.g a) (s.g b))
/-- R351: `sca`. -/
def execSca (d a b : GReg) (s : State) : Host.Outcome State Fault Refusal :=
  entered (.sca d a b) s (fun s => s.copyCommand 2 d.toNat (s.g a) (s.g b))
/-- R351: `redc`. -/
def execRedc (d a b : GReg) (s : State) : Host.Outcome State Fault Refusal :=
  entered (.redc d a b) s (fun s => s.copyCommand 3 d.toNat (s.g a) (s.g b))
/-- R351: `bct`. -/
def execBct (d a b : GReg) (s : State) : Host.Outcome State Fault Refusal :=
  entered (.bct d a b) s (fun s => s.copyCommand 4 d.toNat (s.g a) (s.g b))

/-! ### Ends of a job (R358, R359) -/

/-- A job of a cluster changed. -/
def State.modJob (s : State) (cl serial : Nat) (f : CopyJob → CopyJob) : State :=
  s.modCluster cl (fun k => { k with jobs := k.jobs.map (fun j => if j.serial = serial then f j else j) })

/-- A job leaves the queue. What it has sent by multicast stays under way (R358). -/
def State.dropJob (s : State) (cl serial : Nat) : State :=
  s.modCluster cl (fun k =>
    { k with jobs := k.jobs.filter (fun j => j.serial != serial) })

/-- Whether a work still runs, is parked or is swapped out. -/
def State.alive (s : State) (c n work : Nat) : Bool :=
  ((s.slot c n).busy && (s.slot c n).w.id == work) || s.parked.any (fun p => p.w.id == work) ||
  s.teams.any (fun t => t.saved.any (fun e => e.2.2.id == work))

/-- R359: CPYFAULT at the issuing core's L0. -/
def State.cpyFault (s : State) (j : CopyJob) (cause tok : Nat) (res : Bool) (va : Word) : State :=
  s.event j.core 0x1C (if s.alive j.core j.slot j.work then j.slot else 8) va
    (wordOf (tok * 2 ^ 32 + b2n res * 2 ^ 16 + j.jid * 2 ^ 8 + cause))

/-- An arrival of a job on its completion object, as an atomic of the issuing core (log entry 26); a parked core refuses it, the issuing
one too (R393). A double-bit error in the object aborts (R98). -/
def State.jobArrives (s : State) (j : CopyJob) (n status : Nat) : State :=
  match j.obj.sp with
  | .buf c b =>
    if (c = j.core && !s.parkedCore c) || s.admits c b j.obj.off (j.obj.off + 16) 36 j.core then
      (if s.meetsError j.obj 16 false then s.eccAbort j.obj 16 false j.fw j.ctx j.core else s.arrive j.obj n (some status) false)
    else s.event j.core 8 (if s.alive j.core j.slot j.work then j.slot else 8) j.objVa 0
  | _ => s

/-- R358: a job ends refused. -/
def State.refuseJob (s : State) (cl : Nat) (j : CopyJob) (cause : Nat) (va : Word) : State :=
  ((s.dropJob cl j.serial).cpyFault j cause 0 false va).jobArrives j 0 2

/-- R98, R109, R358: a job meets a double-bit error: its context's abort drops it; where the abort is another context's, it ends refused. -/
def State.loseJob (s : State) (cl : Nat) (j : CopyJob) (l : Loc) (n : Nat) (store : Bool) (va : Word) : State :=
  let t := s.eccAbort l n store j.fw j.ctx j.core
  if (t.cluster cl).jobs.any (fun k => k.serial == j.serial) then t.refuseJob cl j 8 va else t

/-- R358: a job is suspended: a fault record of KIND 5, its token kept. -/
def State.suspendJob (s : State) (cl : Nat) (j : CopyJob) (va : Word) : State :=
  let tok := s.faults.seq % 2 ^ 32
  (((s.faultRecord j.core j.fw j.ctx va 5 5 true).modJob cl j.serial (fun k => { k with token := some tok })).cpyFault j 5 tok true
    va).jobArrives j 0 1

/-- R358: the last unit is done. -/
def State.completeJob (s : State) (cl : Nat) (j : CopyJob) : State := (s.dropJob cl j.serial).jobArrives j 1 0

/-! ### Units (R355, R356) -/

/-- A piece of a unit at its place, or why it stops: a missing page, a refusal with its cause. -/
inductive Piece | ok (l : Loc) (ord : Nat) | miss (va : Word) | bad (cause : Nat) (va : Word)
  deriving DecidableEq, Repr

/-- Translation by the copy engine through its cluster's L2, under the issuing context (R353). -/
def State.cceTranslate (s : State) (j : CopyJob) (va : Word) : Tr :=
  if inSelf va then
    match selfPlace va with
    | some (b, off) => s.bufPage j.core j.core b off 0 true true
    | none => .hole
  else if inFwWindow j.fw va then
    .page { loc := { sp := .fw, off := va.toNat }, ord := 0, own := false, r := !inSafelight va, w := !inSafelight va, x := false }
  else
    match (s.cluster (clusterOf j.core)).l2.find? (fun e => e.matchesAccess j.fw j.ctx va) with
    | some e => s.tlbPage j.core e va
    | none => .miss

/-- One piece of `n` bytes within a page: read, written or updated (rights 34, 35, 36). -/
def State.piece (s : State) (j : CopyJob) (va : Word) (n right : Nat) : Piece :=
  if !canonical va then .bad 6 va
  else
    match s.cceTranslate j va with
    | .hole => .bad 6 va
    | .miss => .miss va
    | .page p =>
      match p.loc.sp with
      | .ctl => .bad 6 va
      | .inbox _ => .bad 6 va
      | .buf c b =>
        if (right != 35 && !p.r) || (right != 34 && !p.w) || (right == 36 && b != 3) then .bad 6 va
        else if (c = j.core && !s.parkedCore c) || s.admits c b p.loc.off (p.loc.off + n) right j.core then .ok p.loc p.ord
        else .bad 8 va
      | sp =>
        if (right != 35 && !p.r) || (right != 34 && !p.w) || (right == 36 && !(sp == .hbm && p.ord == 0)) then .bad 6 va
        else .ok p.loc p.ord

/-- A range of at most 64 bytes cut at a page boundary. -/
def cuts (va n : Nat) : List (Nat × Nat) :=
  let m := 16384 - va % 16384
  if n ≤ m then [(va, n)] else [(va, m), (va + m, n - m)]

/-- Pieces found in order, or the first that stops; `lost` names a range with a double-bit error. -/
inductive Pieces
  | ok (ls : List (Loc × Nat)) | miss (va : Word) | bad (cause : Nat) (va : Word) | lost (l : Loc) (n : Nat) (store : Bool) (va : Word)
  deriving DecidableEq, Repr

/-- The pieces of a list of ranges: translated and admitted all of them, then free of errors. -/
def State.pieces (s : State) (j : CopyJob) (right : Nat) : List (Nat × Nat) → Pieces
  | [] => .ok []
  | (a, n) :: t =>
    match s.piece j (wordOf a) n right with
    | .miss v => .miss v
    | .bad c v => .bad c v
    | .ok l _ =>
      match s.pieces j right t with
      | .ok ls => if s.meetsError l n (right == 35) then .lost l n (right == 35) (wordOf a) else .ok ((l, n) :: ls)
      | r => r

/-- What a range read gives. -/
inductive CRead
  | ok (bs : List Byte) (t : State) | miss (va : Word) | bad (cause : Nat) (va : Word)
  | lost (l : Loc) (n : Nat) (store : Bool) (va : Word)
  deriving DecidableEq, Repr

/-- R101: the warnings of the pieces of a range: each names the first element of `e` bytes that is not written. -/
def State.warnPieces (s : State) (e va n : Nat) (ls : List (Loc × Nat)) : State :=
  ((cuts va n).zip ls).foldl (fun t q =>
    if t.uninit q.2.1 q.2.2 = 1 then t.warnUninit q.2.1 (wordOf ((q.1.1 + t.firstUnwritten q.2.1 q.2.2) / e * e)) else t) s

/-- A range of elements of `e` bytes read (R101). -/
def State.cceRead (s : State) (j : CopyJob) (e va n : Nat) : CRead :=
  match s.pieces j 34 (cuts va n) with
  | .miss v => .miss v
  | .bad c v => .bad c v
  | .lost l n st v => .lost l n st v
  | .ok ls =>
    if ls.any (fun e => s.uninit e.1 e.2 == 2) then .bad 0x11 (wordOf va)
    else .ok (ls.flatMap (fun e => s.read e.1 e.2)) (s.warnPieces e va n ls)

/-- Bytes written over pieces in order. -/
def State.writePieces (s : State) : List (Loc × Nat) → List Byte → State
  | [], _ => s
  | (l, n) :: t, bs => (s.write l (bs.take n)).writePieces t (bs.drop n)

/-- What a unit comes to: done, a missing page, or the end of the job. -/
inductive UnitRes
  | done (t : State) | miss (va : Word) | bad (cause : Nat) (va : Word) | lost (l : Loc) (n : Nat) (store : Bool) (va : Word)
  deriving DecidableEq, Repr

/-- A range written, translated before any byte moves. -/
def State.cceWrite (s : State) (j : CopyJob) (va right : Nat) (bs : List Byte) : UnitRes :=
  match s.pieces j right (cuts va bs.length) with
  | .miss v => .miss v
  | .bad c v => .bad c v
  | .lost l n st v => .lost l n st v
  | .ok ls => .done (s.writePieces ls bs)

/-- Aligned 64-byte blocks of a range. -/
def blockCount (a n : Nat) : Nat := if n = 0 then 0 else (a + n - 1) / 64 - a / 64 + 1

/-- Block `i` of a range: its first byte and length. -/
def blockOf (a n i : Nat) : Nat × Nat :=
  let lo := max a ((a / 64 + i) * 64)
  (lo, min (a + n) ((a / 64 + i + 1) * 64) - lo)

/-- Units of a job (R356). -/
def CopyJob.units (j : CopyJob) : Nat :=
  match j.fn with
  | 1 => rdLen j.card 0 / 4
  | 2 => rdLen j.card 0 / 4
  | 0 => (List.range (cardNw j.card)).foldl (fun a i => a + blockCount (wrAddr j.card i) (wrLen j.card i)) 0
  | _ => blockCount (wrAddr j.card 0) (wrLen j.card 0)

/-- A `cpy` unit: its region, first byte and length. -/
def CopyJob.cpyBlock (j : CopyJob) (u : Nat) : Nat × Nat × Nat :=
  let n0 := blockCount (wrAddr j.card 0) (wrLen j.card 0)
  if u < n0 then (0, blockOf (wrAddr j.card 0) (wrLen j.card 0) u) else (1, blockOf (wrAddr j.card 1) (wrLen j.card 1) (u - n0))

/-- `cpy`. -/
def State.cpyUnit (s : State) (j : CopyJob) : UnitRes :=
  match j.cpyBlock j.unit with
  | (i, lo, n) =>
    match s.cceRead j (cardEsz j.card) (rdAddr j.card i + (lo - wrAddr j.card i)) n with
    | .miss v => .miss v
    | .bad c v => .bad c v
    | .lost l n st v => .lost l n st v
    | .ok bs t => t.cceWrite j lo 35 bs

/-- Index `u` of `gat` and `sca`, within the region it names. -/
def State.indexOf (s : State) (j : CopyJob) (u len : Nat) : CRead :=
  match s.cceRead j 4 (rdAddr j.card 0 + 4 * u) 4 with
  | .ok bs t => if len ≤ ofBytes bs * cardEsz j.card then .bad 8 (wordOf (rdAddr j.card 0 + 4 * u)) else .ok bs t
  | r => r

/-- `gat`. -/
def State.gatUnit (s : State) (j : CopyJob) : UnitRes :=
  let e := cardEsz j.card
  match s.indexOf j j.unit (rdLen j.card 1) with
  | .miss v => .miss v
  | .bad c v => .bad c v
  | .lost l n st v => .lost l n st v
  | .ok ib t =>
    match t.cceRead j e (rdAddr j.card 1 + ofBytes ib * e) e with
    | .miss v => .miss v
    | .bad c v => .bad c v
    | .lost l n st v => .lost l n st v
    | .ok bs t2 => t2.cceWrite j (wrAddr j.card 0 + j.unit * e) 35 bs

/-- `sca`. -/
def State.scaUnit (s : State) (j : CopyJob) : UnitRes :=
  let e := cardEsz j.card
  match s.indexOf j j.unit (wrLen j.card 0) with
  | .miss v => .miss v
  | .bad c v => .bad c v
  | .lost l n st v => .lost l n st v
  | .ok ib t =>
    match t.cceRead j e (rdAddr j.card 1 + j.unit * e) e with
    | .miss v => .miss v
    | .bad c v => .bad c v
    | .lost l n st v => .lost l n st v
    | .ok bs t2 => t2.cceWrite j (wrAddr j.card 0 + ofBytes ib * e) 35 bs

/-- R355: one `redc` operation on elements of `w` bits. -/
def redcOp (rop w x y : Nat) : Nat :=
  match rop with
  | 0 => (x + y) % 2 ^ w
  | 1 => x &&& y
  | 2 => x ||| y
  | 3 => x ^^^ y
  | 4 => if toSigned w x ≤ toSigned w y then x else y
  | 5 => if toSigned w x ≤ toSigned w y then y else x
  | 6 => faddNew fp64 x y
  | 7 => faddNew fp32 x y
  | 8 => faddNew fp16 x y
  | _ => faddNew bf16 x y

/-- The blocks of the read regions that meet a `redc` unit. -/
def State.redcReads (s : State) (j : CopyJob) (lo n : Nat) : List Nat → CRead
  | [] => .ok [] s
  | i :: t =>
    match s.cceRead j (cardEsz j.card) (rdAddr j.card i + (lo - wrAddr j.card 0)) n with
    | .ok bs s1 =>
      (match s1.redcReads j lo n t with
       | .ok r s2 => .ok (bs ++ r) s2
       | r => r)
    | r => r

/-- `redc`: the elements of a block in order, the read regions in order for each. -/
def State.redcUnit (s : State) (j : CopyJob) : UnitRes :=
  match blockOf (wrAddr j.card 0) (wrLen j.card 0) j.unit with
  | (lo, n) =>
    let e := cardEsz j.card
    let w := 8 * e
    match s.redcReads j lo n (List.range (cardNr j.card)) with
    | .miss v => .miss v
    | .bad c v => .bad c v
    | .lost l n st v => .lost l n st v
    | .ok rs t =>
      match t.pieces j 36 (cuts lo n) with
      | .miss v => .miss v
      | .bad c v => .bad c v
      | .lost l n st v => .lost l n st v
      | .ok ls =>
        if ls.any (fun p => t.uninit p.1 p.2 == 2) then .bad 0x11 (wordOf lo)
        else
          let t1 : State := t.warnPieces e lo n ls
          let old := ls.flatMap (fun p => t.read p.1 p.2)
          let at_ := fun (l : List Byte) (k : Nat) => ofBytes ((l.drop k).take e)
          let new := (List.range (n / e)).flatMap (fun k =>
            bytesOf e ((List.range (cardNr j.card)).foldl (fun x i => redcOp (cardRop j.card) w x (at_ rs (i * n + k * e))) (at_ old (k * e))))
          .done (t1.writePieces ls new)

/-- `bct`: a block sent to every core of the rectangle. -/
def State.bctUnit (s : State) (cl : Nat) (j : CopyJob) : UnitRes :=
  match blockOf (wrAddr j.card 0) (wrLen j.card 0) j.unit with
  | (lo, n) =>
    match s.cceRead j (cardEsz j.card) (rdAddr j.card 0 + (lo - wrAddr j.card 0)) n with
    | .miss v => .miss v
    | .bad c v => .bad c v
    | .lost l n st v => .lost l n st v
    | .ok bs t =>
      let cs := rectCores (coreDie j.core) (cardRect j.card)
      let us := List.zipWith (fun (h i : Nat) =>
        ({ id := t.nextId + i, cluster := cl, serial := j.serial, core := j.core, fw := j.fw, ctx := j.ctx, dst := h, buf := cardBuf j.card,
           off := lo, data := bs } : BctUnit))
        cs (List.range cs.length)
      .done { t with bcts := t.bcts ++ us, nextId := t.nextId + cs.length }

/-- The next unit of a job. -/
def State.unitOf (s : State) (cl : Nat) (j : CopyJob) : UnitRes :=
  match j.fn with
  | 0 => s.cpyUnit j
  | 1 => s.gatUnit j
  | 2 => s.scaUnit j
  | 3 => s.redcUnit j
  | _ => s.bctUnit cl j

/-- A unit counted (R379); the last one of a job that sends nothing completes it. -/
def State.unitDone (s : State) (cl : Nat) (j : CopyJob) : State :=
  let s1 : State := (s.modJob cl j.serial (fun k => { k with unit := k.unit + 1 })).modCluster cl (fun k => { k with units := k.units + 1 })
  if j.unit + 1 = j.units ∧ j.fn ≠ 4 then s1.completeJob cl j else s1

/-- A job of a cluster that runs and may take its next unit. -/
def Cluster.jobReady (k : Cluster) (jid : Nat) : Option CopyJob :=
  k.jobs.find? (fun j => j.jid == jid && j.running && j.token.isNone && !j.stopped && decide (j.unit < j.units))

/-- R380: whether a cluster's copy engine may start a unit now: the pattern of R175 with its duty, at the cycle of the cluster's first
core (log entry 33). On a parked die its clock stands still (R392). -/
def State.cceOpen (s : State) (n : Nat) : Bool :=
  let c := (s.core (coreAt n 0)).cyc.toNat % 16
  !tblGet false s.dieParked (n / 64) && decide (c * (s.cluster n).duty / 16 < (c + 1) * (s.cluster n).duty / 16)

/-- R360: whether a region of a job's card reaches rows of a buffer of a core through a TLB entry of type 3, 4 or 5. -/
def State.entryReaches (s : State) (j : CopyJob) (c b lo n : Nat) : Bool :=
  (j.readSpans ++ j.writeSpans).any (fun sp =>
    match sp with
    | .va a m _ _ _ =>
      (s.cluster (clusterOf j.core)).l2.any (fun e =>
        let v := bits e.w0 56 14 * 16384
        let off := bits e.w1 16 14 * 16384
        let x := max a v
        let y := min (a + m) (v + 16384)
        e.matchesAccess j.fw j.ctx (wordOf v) && bits e.w1 63 61 == b + 2 && bits e.w1 31 17 == c &&
        decide (x < y) && meets (off + (x - v)) (y - x) lo n)
    | .rect _ _ _ _ => false)

/-- R360: whether a region of a job's card reaches a team's scratchpad: by the self region, by a rectangle, or by a TLB entry. -/
def State.reachesTeam (s : State) (t : Team) (j : CopyJob) : Bool :=
  t.cores.any (fun c => [1, 2, 3].any (fun b =>
    let lo := 64 * tblGet 0 t.bases (4 * c + b)
    let n := 64 * (if b = 1 then t.rowsW else if b = 2 then t.rowsA else t.rowsC)
    (j.readSpans ++ j.writeSpans).any (fun sp => sp.overlaps (.rect b lo n [c])) || s.entryReaches j c b lo n))

/-- R360: whether a job must wait for the return of its team. -/
def State.jobHeld (s : State) (j : CopyJob) : Bool := s.teams.any (fun t => some t.id == j.team && !t.resident && s.reachesTeam t j)

/-- The ranges of addresses that the next unit of a job reads. -/
def State.unitReads (s : State) (j : CopyJob) : List (Nat × Nat) :=
  let e := cardEsz j.card
  let b := blockOf (wrAddr j.card 0) (wrLen j.card 0) j.unit
  match j.fn with
  | 0 => let q := j.cpyBlock j.unit; [(rdAddr j.card q.1 + (q.2.1 - wrAddr j.card q.1), q.2.2)]
  | 1 =>
    let ix := match s.cceRead j 4 (rdAddr j.card 0 + 4 * j.unit) 4 with | .ok bs _ => ofBytes bs | _ => 0
    [(rdAddr j.card 0 + 4 * j.unit, 4), (rdAddr j.card 1 + ix * e, e)]
  | 2 => [(rdAddr j.card 0 + 4 * j.unit, 4), (rdAddr j.card 1 + j.unit * e, e)]
  | 3 => (List.range (cardNr j.card)).map (fun i => (rdAddr j.card i + (b.1 - wrAddr j.card 0), b.2))
  | _ => [(rdAddr j.card 0 + (b.1 - wrAddr j.card 0), b.2)]

/-- The ranges of addresses that it writes; a multicast unit names none. -/
def State.unitWrites (s : State) (j : CopyJob) : List (Nat × Nat) :=
  let e := cardEsz j.card
  match j.fn with
  | 0 => [(j.cpyBlock j.unit).2]
  | 1 => [(wrAddr j.card 0 + j.unit * e, e)]
  | 2 =>
    let ix := match s.cceRead j 4 (rdAddr j.card 0 + 4 * j.unit) 4 with | .ok bs _ => ofBytes bs | _ => 0
    [(wrAddr j.card 0 + ix * e, e)]
  | 3 => [blockOf (wrAddr j.card 0) (wrLen j.card 0) j.unit]
  | _ => []

/-- Both. -/
def State.unitRanges (s : State) (j : CopyJob) : List (Nat × Nat) := s.unitReads j ++ s.unitWrites j

/-- R138: the links that a range of a job crosses from its cluster's die; a place that is not known yet has none. -/
def State.rangeLinks (s : State) (j : CopyJob) (back : Bool) (r : Nat × Nat) : Option (List Nat) :=
  ((cuts r.1 r.2).mapM (fun (q : Nat × Nat) =>
    match s.cceTranslate j (wordOf q.1) with
    | .page p => s.linksTo (clusterOf j.core / 64) p.loc.home back
    | _ => some [])).map List.flatten

/-- R138: the links that the next unit of a job crosses, one flit for a piece, and after the last unit those to its completion object. -/
def State.unitLinks (s : State) (j : CopyJob) : Option (List Nat) :=
  let last := if j.unit + 1 = j.units ∧ j.fn ≠ 4 then s.linksTo (clusterOf j.core / 64) j.obj.home false else some []
  match (s.unitReads j).mapM (s.rangeLinks j true), (s.unitWrites j).mapM (s.rangeLinks j false), last with
  | some a, some b, some c => some (a.flatten ++ b.flatten ++ c)
  | _, _, _ => none

/-- R356, R358, R380: a unit of a running job; `ans` is the walker's answer where a page misses. A multicast unit follows once the one
before it has reached every core. The unit waits for room on the links that it crosses; with no route left the job's context aborts (R138,
R404). -/
def execCopyUnit (cluster job : Nat) (ans : WalkAnswer) (s : State) : Host.Outcome State Fault Refusal :=
  occurs (decide (cluster < 512) && decide (job < 64))
    (match (if s.cceOpen cluster then (s.cluster cluster).jobReady job else none) with
     | none => s
     | some j =>
       if s.bcts.any (fun b => b.serial == j.serial) then s
       else if s.jobHeld j then s.modJob cluster j.serial (fun k => { k with stopped := true, running := false })
       else if (s.unitLinks j).isNone then s.abortContext j.fw j.ctx 9 j.core
       else if !s.roomOn (s.unitLinks j) then s
       else
         match s.unitOf cluster j with
         | .done t => (t.flitsOn (s.unitLinks j)).unitDone cluster j
         | .bad c va => s.refuseJob cluster j c va
         | .lost l n st va => s.loseJob cluster j l n st va
         | .miss va =>
           if s.walksHeld j.core j.fw j.ctx then s
           else
             match s.walked j.core true ans with
             | .entry t => t
             | .refused => s.refuseJob cluster j 6 va
             | .absent => s.suspendJob cluster j va)

/-- Whether the next unit of a job names another module's memory. -/
def State.unitRemote (s : State) (j : CopyJob) : Bool :=
  ((s.unitRanges j).flatMap (fun r => cuts r.1 r.2)).any (fun r =>
    match s.cceTranslate j (wordOf r.1) with
    | .page p => (match p.loc.sp with | .remote _ => true | _ => false)
    | _ => false)

/-- R403: the job of a number waits for another module, which gives no answer: it ends refused. -/
def State.jobTimeout (s : State) (serial : Nat) : State :=
  match (s.clusters.map (fun e => (e.1, e.2.jobs.find? (fun j => j.serial == serial && j.running && j.token.isNone && !j.stopped)))).find?
      (fun e => e.2.isSome) with
  | some (cl, some j) => if decide (j.unit < j.units) && s.unitRemote j then s.refuseJob cl j 8 (wordOf (((s.unitRanges j).headD (0, 0)).1)) else s
  | _ => s

/-- R131, R358, R234: the oldest card that no earlier one holds back starts, while fewer than 4 run; a suspended job keeps its slot. What an
earlier card has sent by multicast holds it back too. -/
def execCopyJobStart (cluster : Nat) (s : State) : Host.Outcome State Fault Refusal :=
  occurs (decide (cluster < 512))
    (let k := s.cluster cluster
     let active := k.jobs.filter (fun j => j.running)
     let ready := k.jobs.find? (fun j => !j.running && !j.stopped && !s.jobHeld j && !k.jobs.any (fun i => j.after.contains i.serial) &&
       !s.bcts.any (fun b => j.after.contains b.serial))
     match ready with
     | some j => if active.length < 4 && !tblGet false s.dieParked (cluster / 64) then s.modJob cluster j.serial (fun j => { j with running := true }) else s
     | none => s)

/-- Whether the receiving core of a multicast unit, the issuing one too, admits it: against its windows and its capacity (R355). -/
def State.bctOk (s : State) (b : BctUnit) : Bool :=
  s.admits b.dst b.buf b.off (b.off + b.data.length) 35 b.core

/-- R355, R358: a multicast unit reaches one core; the last of a job's last unit completes it, a refusal ends it. What a job has sent
before its end is written. -/
def execBctArrival (id : Nat) (s : State) : Host.Outcome State Fault Refusal :=
  .next (match s.bcts.find? (fun b => b.id == id) with
    | none => s
    | some b =>
      let s1 : State := { s with bcts := s.bcts.filter (fun x => x.id != id) }
      let l : Loc := { sp := .buf b.dst b.buf, off := b.off }
      let job := (s1.cluster b.cluster).jobs.find? (fun j => j.serial == b.serial)
      if !s1.bctOk b then
        (match job with
         | some j => s1.refuseJob b.cluster j 8 (wordOf b.off)
         | none => s1)
      else if s1.meetsError l b.data.length true then
        (match job with
         | some j => s1.loseJob b.cluster j l b.data.length true (wordOf b.off)
         | none => s1.eccAbort l b.data.length true b.fw b.ctx b.core)
      else
        let s2 : State := s1.write l b.data
        match job with
        | some j => if j.unit = j.units && !s2.bcts.any (fun x => x.serial == j.serial) then s2.completeJob b.cluster j else s2
        | none => s2)

end Sys2Proof.Machine
end

