-- ==== Sys2Proof/Machine/Tensor.lean ====
section
/-! DEFINITION. The tensor table (R146, R148, R361 to R364). -/

namespace Sys2Proof.Machine

/-- R148, R146: the form of an entry whose V and TOPX are set. -/
def tensorFormOk (t : Words4) : Bool :=
  let scale := t.tdScaled
  let ext := if t.tdSdim = 0 then t.tdCols else t.tdRows
  decide (t.tdKind < 8) && (if t.tdKind = 4 then t.tdNarrow.narrowOk else bits t.w0 58 43 == 0) &&
  t.tdRows != 0 && t.tdCols != 0 && bits t.w0 7 0 == 0 && bits t.w2 11 0 == 0 && bits t.w2 30 29 != 3 &&
  (t.tdLoc == 0 || bits t.w1 63 17 == 0) && (scale || t.w3 == 0) && (t.tdLoc == 0 || bits t.w3 63 17 == 0) &&
  decide ((t.tdCols * t.tdBits + 7) / 8 ≤ t.tdStride) &&
  (!scale || decide ((ext + t.tdBlk - 1) / t.tdBlk ≤ t.tdSstride))

/-- R148: one past the last byte of the data. -/
def Words4.tdEnd (t : Words4) : Nat := t.w1.toNat + (t.tdRows - 1) * t.tdStride + (t.tdCols * t.tdBits + 7) / 8

/-- R148: one past the last byte of the scales. -/
def Words4.tdScaleEnd (t : Words4) : Nat := t.tdScaleAddr (t.tdRows - 1) (t.tdCols - 1) + 1

/-- R148: whether a buffer tensor lies below the usable capacity. -/
def State.tensorFits (s : State) (c : Nat) (t : Words4) : Bool :=
  t.tdLoc == 0 ||
  (let cap := s.spcap c t.tdLoc * 64
   decide (t.tdEnd ≤ cap) && (!t.tdScaled || decide (t.tdScaleEnd ≤ cap)))

/-- R362: the entry that an image makes: V set, TOPX that of the slot's NFC for a narrow tensor, else 0. -/
def tensorOf (d : Nat) (topx : Bool) : Words4 :=
  let w0 := blockWord d 0
  let kind := bits w0 62 59
  { w0 := wordOf (2 ^ 63 + kind * 2 ^ 59 + bits w0 58 43 * 2 ^ 43 + (if kind = 4 ∧ topx then 2 ^ 42 else 0) + bits w0 41 0),
    w1 := blockWord d 1, w2 := blockWord d 2, w3 := blockWord d 3 }

/-- R362: `tdset`. -/
def execTdset (a b : GReg) (s : State) : Host.Outcome State Fault Refusal :=
  entered (.tdset a b) s (fun s =>
    let id := (s.g a).toNat
    if 64 ≤ id then s.illegal 0xF00
    else
      match s.readBlock (s.g b) 32 32 with
      | .stop t => t
      | .data d s1 =>
        let e := tensorOf d (wbit s.nfc 16)
        if !tensorFormOk e then s1.illegal id
        else if !s1.tensorFits s.cur.core e then s1.trap 6 0 (wordOf id)
        else (s1.modCore s.cur.core (fun k => { k with tensors := tblSet k.tensors id e })).retire)

/-- R363: `tdget`. -/
def execTdget (d a b : GReg) (s : State) : Host.Outcome State Fault Refusal :=
  entered (.tdget d a b) s (fun s =>
    if 64 ≤ (s.g a).toNat ∨ 4 ≤ (s.g b).toNat then s.illegal 0xF00
    else
      let e := tblGet words0 s.myCore.tensors (s.g a).toNat
      s.retireG d (match (s.g b).toNat with | 0 => e.w0 | 1 => e.w1 | 2 => e.w2 | _ => e.w3))

/-- An entry with V cleared. -/
def Words4.invalid (t : Words4) : Words4 := { t with w0 := wordOf (t.w0.toNat % 2 ^ 63) }

/-- R363: `tdinv`. -/
def execTdinv (a : GReg) (s : State) : Host.Outcome State Fault Refusal :=
  entered (.tdinv a) s (fun s =>
    let w := s.g a
    if wbit w 63 then
      (if bits w 62 6 ≠ 0 then s.illegal 0xF00
       else (s.modCore s.cur.core (fun k => { k with tensors := k.tensors.map (fun e => (e.1, e.2.invalid)) })).retire)
    else if bits w 62 6 ≠ 0 then s.illegal 0xF00
    else
      let id := bits w 5 0
      (s.modCore s.cur.core (fun k =>
        { k with tensors := tblSet k.tensors id (tblGet words0 k.tensors id).invalid })).retire)

end Sys2Proof.Machine
end

