-- ==== Sys2Proof/Machine/Gmu.lean ====
section
/-! DEFINITION. The Gaussian message unit: records, the request queue, the checks and the arithmetic (R82, R202 to R220). -/

namespace Sys2Proof.Machine

/-! ### Records (R202 to R204) -/

/-- A record's place with its two header words. -/
structure Rec where
  loc : Loc
  w0  : Word
  w1  : Word
  deriving DecidableEq, Repr

/-- DA. -/
def Rec.da (r : Rec) : Nat := bits r.w1 15 12
/-- DB. -/
def Rec.db (r : Rec) : Nat := bits r.w1 11 8
/-- n. -/
def Rec.n (r : Rec) : Nat := r.da + r.db
/-- FMT: FP64. -/
def Rec.wide (r : Rec) : Bool := wbit r.w1 7
/-- Bytes of an element. -/
def Rec.es (r : Rec) : Nat := if r.wide then 8 else 4
/-- The record's format. -/
def Rec.fmt (r : Rec) : Fmt := if r.wide then fp64 else fp32
/-- STATUS. -/
def Rec.status (r : Rec) : Nat := bits r.w1 6 5
/-- Whether the record contributes nothing: empty or skipped. -/
def Rec.void (r : Rec) : Bool := r.status == 0 || r.status == 2
/-- Elements of the payload of a message of dimension n. -/
def payloadCount (n : Nat) : Nat := n + n * (n + 1) / 2
/-- Size in bytes. -/
def Rec.size (r : Rec) : Nat := 16 + payloadCount r.n * r.es
/-- R202: whether the header is well formed. -/
def Rec.ok (r : Rec) : Bool :=
  decide (1 ≤ r.da) && decide (r.da ≤ 8) && decide (r.db ≤ 8) && !wbit r.w0 15 && bits r.w1 4 0 == 0

/-- R203: the payload index of Λ[i][j], either triangle. -/
def lamAt (n i j : Nat) : Nat := if j ≤ i then n + i * (i + 1) / 2 + j else n + j * (j + 1) / 2 + i

/-- The record at a place. -/
def State.recAt (s : State) (l : Loc) : Rec :=
  { loc := l, w0 := wordOf (s.readNat l 8), w1 := wordOf (s.readNat (l.plus 8) 8) }

/-- The codes of a record's payload. -/
def State.payload (s : State) (r : Rec) : List Nat :=
  (List.range (payloadCount r.n)).map (fun e => s.readNat (r.loc.plus (16 + e * r.es)) r.es)

/-- A header word 1 with another STATUS. -/
def withStatus (w1 : Word) (st : Nat) : Word := wordOf (w1.toNat - bits w1 6 5 * 32 + st * 32)

/-- A record written whole: header and payload. -/
def State.putRec (s : State) (l : Loc) (w0 w1 : Word) (es : Nat) (cs : List Nat) : State :=
  s.write l (bytesOf 8 w0.toNat ++ bytesOf 8 w1.toNat ++ cs.flatMap (bytesOf es))

/-- Only the byte that holds STATUS written. -/
def State.putStatus (s : State) (r : Rec) (st : Nat) : State :=
  s.writeNat (r.loc.plus 8) 1 ((withStatus r.w1 st).toNat % 256)

/-- R204: the place of `n` bytes of a record: A or C of the issuing core, below capacity. -/
def State.recPlace (s : State) (c : Nat) (va : Word) (n : Nat) : Option Loc :=
  match (if inSelf va then selfPlace va else none) with
  | some (b, off) => if b ≠ 1 ∧ off + n ≤ s.spcap c b * 64 then some { sp := .buf c b, off := off } else none
  | none => none

/-! ### Arithmetic (R208) -/

/-- A value in a format: rounded to nearest even. -/
def Fmt.near (f : Fmt) (x : Fv) : Fv := f.decode (f.rne x)
/-- x·y + z with one rounding. -/
def Fmt.fma (f : Fmt) (x y z : Fv) : Fv := f.near (sumF 0 [(mulF x y).1, z]).1
/-- One rounded addition. -/
def Fmt.plus (f : Fmt) (x y : Fv) : Fv := f.near (sumF 0 [x, y]).1
/-- One correctly rounded division. -/
def Fmt.quotient (f : Fmt) (x y : Fv) : Fv := f.near (divF x y).1
/-- +0. -/
def fvZero : Fv := .fin false 0 0
/-- 1. -/
def fvOne : Fv := .fin false 1 0

/-- Element `i` of a vector of values. -/
def nthF (l : List Fv) (i : Nat) : Fv := l.getD i fvZero
/-- Element `(i, j)` of a matrix held by rows. -/
def nthM (m : List (List Fv)) (i j : Nat) : Fv := nthF (m.getD i []) j

/-! ### The factorisation (R210, R211) -/

/-- GMC.MODE. -/
def gmcMode (w : Word) : Nat := bits w 1 0
/-- GMC.EPS. -/
def gmcEps (w : Word) : Nat := bits w 13 8
/-- GMC.RHO. -/
def gmcRho (w : Word) : Int := toSigned 8 (bits w 23 16)

/-- The greatest magnitude of the diagonal; a NaN stays one. -/
def diagMax (l : List Fv) : Fv :=
  l.foldl (fun a x => if a.isNan || x.isNan then .nan false else if cmpF a x.abs < 0 then x.abs else a) fvZero

/-- τ (R211). -/
def pivotTau (f : Fmt) (gmc : Word) (diag : List Fv) : Fv := f.near ((diagMax diag).scale (-(gmcEps gmc : Int)))

/-- R211: a singular pivot. -/
def singular (tau p : Fv) : Bool := p.isNan || tau.isNan || decide (cmpF p tau ≤ 0)

/-- A factor in the making: the rows of L and the pivots. -/
structure Factor where
  l : List (List Fv)
  d : List Fv
  deriving DecidableEq, Repr

/-- Row `k` of W and L, from the rows before it. -/
def factorRow (f : Fmt) (b : List (List Fv)) (x : Factor) (k : Nat) : List Fv × List Fv :=
  (List.range k).foldl (fun a j =>
    let w := (List.range j).foldl (fun w m => f.fma (nthF a.1 m).neg (nthM x.l j m) w) (nthM b k j)
    (a.1 ++ [w], a.2 ++ [f.quotient w (nthF x.d j)])) ([], [])

/-- The rows from `k` on, or the index of a singular pivot. -/
def factorGo (f : Fmt) (b : List (List Fv)) (tau : Fv) : List Nat → Factor → Factor ⊕ Nat
  | [], x => .inl x
  | k :: ks, x =>
    match factorRow f b x k with
    | (w, l) =>
      let p := (List.range k).foldl (fun p m => f.fma (nthF w m).neg (nthF l m) p) (nthM b k k)
      if singular tau p then .inr k else factorGo f b tau ks { l := x.l ++ [l], d := x.d ++ [p] }

/-- The diagonal of a lower triangle held by rows. -/
def diagOf (b : List (List Fv)) : List Fv := (List.range b.length).map (fun k => nthM b k k)

/-- One attempt. -/
def factorTry (f : Fmt) (gmc : Word) (b : List (List Fv)) : Factor ⊕ Nat :=
  factorGo f b (pivotTau f gmc (diagOf b)) (List.range b.length) { l := [], d := [] }

/-- R211: 2^RHO added to the diagonal of the working copy. -/
def regularised (f : Fmt) (gmc : Word) (b : List (List Fv)) : List (List Fv) :=
  (List.range b.length).map (fun k => (List.range (k + 1)).map (fun j =>
    if j = k then f.plus (nthM b k k) (.fin false 1 (gmcRho gmc)) else nthM b k j))

/-- What the factorisation comes to: a factor and whether it was regularised, a trap's EINFO, or a skip. -/
inductive Pivots | ok (x : Factor) (reg : Bool) | trap (einfo : Nat) | skip
  deriving DecidableEq, Repr

/-- R211. -/
def factor (f : Fmt) (gmc : Word) (b : List (List Fv)) : Pivots :=
  match factorTry f gmc b with
  | .inl x => .ok x false
  | .inr k =>
    match gmcMode gmc with
    | 1 =>
      (match factorTry f gmc (regularised f gmc b) with
       | .inl x => .ok x true
       | .inr j => .trap (256 + j))
    | 2 => .skip
    | _ => .trap k

/-- L⁻¹ applied to a vector. -/
def forward (f : Fmt) (x : Factor) (v : List Fv) : List Fv :=
  (List.range v.length).foldl (fun y k =>
    y ++ [(List.range k).foldl (fun t m => f.fma (nthM x.l k m).neg (nthF y m) t) (nthF v k)]) []

/-- R210: η' and Λ' of the kept part, from the payload's values. -/
def schur (f : Fmt) (da db : Nat) (v : List Fv) (x : Factor) : List Fv :=
  let n := da + db
  let y := forward f x ((List.range db).map (fun k => nthF v (da + k)))
  let cols := (List.range da).map (fun i => forward f x ((List.range db).map (fun k => nthF v (lamAt n (da + k) i))))
  let z := cols.map (fun col => (List.range db).map (fun k => f.quotient (nthF col k) (nthF x.d k)))
  (List.range da).map (fun i =>
    (List.range db).foldl (fun t k => f.fma (nthM z i k).neg (nthF y k) t) (nthF v i)) ++
  (List.range da).flatMap (fun i => (List.range (i + 1)).map (fun j =>
    (List.range db).foldl (fun t k => f.fma (nthM z i k).neg (nthM cols j k) t) (nthF v (lamAt n i j))))

/-- R212: μ, from the last element down; the list built so far starts at element `k + 1`. -/
def backward (f : Fmt) (n : Nat) (x : Factor) (z : List Fv) : List Fv :=
  (List.range n).foldl (fun mu r =>
    let k := n - 1 - r
    (List.range r).foldl (fun t q => f.fma (nthM x.l (k + 1 + q) k).neg (nthF mu q) t) (f.quotient (nthF z k) (nthF x.d k)) :: mu) []

/-- R212: σ[i]: column `i` of L⁻¹, weighted. -/
def variance (f : Fmt) (n : Nat) (x : Factor) (i : Nat) : Fv :=
  ((List.range (n - i)).foldl (fun (a : List Fv × Fv) q =>
    let k := i + q
    let v := if q = 0 then fvOne
             else ((List.range q).foldl (fun t m => f.fma (nthM x.l k (i + m)) (nthF a.1 m) t) fvZero).neg
    (a.1 ++ [v], f.fma (f.quotient v (nthF x.d k)) v a.2)) ([], fvZero)).2

/-- R212: μ, then σ. -/
def meanOf (f : Fmt) (n : Nat) (v : List Fv) (x : Factor) : List Fv :=
  backward f n x (forward f x ((List.range n).map (nthF v))) ++ (List.range n).map (variance f n x)

/-! ### The members (R208 to R214) -/

/-- What a request comes to once its checks have passed: a state and gd's value, or SINGULAR with its EINFO. -/
inductive Done | ok (t : State) (v : Word) | singular (einfo : Nat)
  deriving DecidableEq, Repr

/-- R208: the payload of D after `gmacc` or `gmsub`. -/
def accPayload (f : Fmt) (sub : Bool) (s d : Rec) (blk : Nat) (sc dc : List Nat) : List Nat :=
  let o := blk * s.da
  let n := d.n
  let add := fun (e se : Nat) =>
    let x := f.decode (sc.getD se 0)
    f.rne (sumF 0 [f.decode (dc.getD e 0), if sub then x.neg else x]).1
  let inBlk := fun (i : Nat) => decide (o ≤ i) && decide (i < o + s.da)
  (List.range n).map (fun i => if inBlk i then add i (i - o) else dc.getD i 0) ++
  (List.range n).flatMap (fun i => (List.range (i + 1)).map (fun j =>
    if inBlk i && inBlk j then add (lamAt n i j) (lamAt s.da (i - o) (j - o)) else dc.getD (lamAt n i j) 0))

/-- R208: `gmacc` and `gmsub`. -/
def State.gmAcc (s : State) (sub : Bool) (x d : Rec) (blk : Nat) : State :=
  if x.void then s
  else
    let dc := if d.status = 0 then List.replicate (payloadCount d.n) 0 else s.payload d
    s.putRec d.loc d.w0 (if d.void then withStatus d.w1 1 else d.w1) d.es (accPayload d.fmt sub x d blk (s.payload x) dc)

/-- R209: one damped entry. -/
def damped (f : Fmt) (delta xs xd : Nat) : Nat :=
  f.rne (sumF 0 [(mulF (.fin false (65536 - delta) (-16)) (f.decode xs)).1, (mulF (.fin false delta (-16)) (f.decode xd)).1]).1

/-- R209: `gmdamp`. -/
def State.gmDamp (s : State) (x d : Rec) : State :=
  if x.void then s
  else
    let sc := s.payload x
    let cs := if d.status = 0 then sc else List.zipWith (damped d.fmt (bits d.w1 31 16)) sc (s.payload d)
    let w0 := wordOf (d.w0.toNat - bits d.w0 31 16 * 2 ^ 16 + (bits d.w0 31 16 + 1) % 65536 * 2 ^ 16)
    s.putRec d.loc w0 (withStatus d.w1 x.status) d.es cs

/-- A header word 1 with another shape, format and STATUS. -/
def reshaped (w1 : Word) (da db : Nat) (wide : Bool) (st : Nat) : Word :=
  wordOf (w1.toNat - w1.toNat % 65536 + da * 4096 + db * 256 + b2n wide * 128 + st * 32 + w1.toNat % 32)

/-- R210, R212: `gmelim`, and `gmmean` with the whole of Λ as the block. -/
def State.gmElim (s : State) (mean : Bool) (x d : Rec) (gmc : Word) : Done :=
  if x.void then .ok (s.putStatus d x.status) (wordOf x.status)
  else
    let f := x.fmt
    let v := (s.payload x).map f.decode
    let da := if mean then 0 else x.da
    let b := (List.range (x.n - da)).map (fun k => (List.range (k + 1)).map (fun j => nthF v (lamAt x.n (da + k) (da + j))))
    match factor f gmc b with
    | .trap e => .singular e
    | .skip => .ok (s.putStatus d 2) 2
    | .ok y reg =>
      let st := if reg then 3 else 1
      let w1 := if mean then reshaped d.w1 (min x.n 8) (x.n - min x.n 8) x.wide st else reshaped d.w1 x.da 0 x.wide st
      let out := if mean then meanOf f x.n v y else schur f x.da x.db v y
      .ok (s.putRec d.loc d.w0 w1 x.es (out.map f.rne)) (wordOf st)

/-- R213: the residual's FP64 bits; a NaN is above infinity in their order. -/
def State.gmRes (s : State) (x d : Rec) : Word :=
  if x.status = 2 ∨ d.status = 2 then 0
  else if x.status = 0 ∨ d.status = 0 then wordOf (fp64.infCode)
  else
    let f := x.fmt
    let diffs := List.zipWith (fun a b => fp64.rne (sumF 0 [f.decode b, (f.decode a).neg]).1.abs) (s.payload x) (s.payload d)
    wordOf (diffs.foldl max 0)

/-- R214: the packet of a `gmsend`. -/
def State.gmPacket (s : State) (c : Nat) (q : GmuReq) (x : Rec) : Packet :=
  let w := (s.slot c q.slot).w.ctl
  { id := s.nextId, gm := true, fw := w.fw, ctx := w.ctx, src := c, sslot := q.slot, dst := bits q.b 63 49,
    cls := bits q.b 48 43, slot := bits q.b 42 36, span := gmSpan x.size,
    words := (List.range ((x.size + 7) / 8)).map (fun i => wordOf (s.readNat (x.loc.plus (8 * i)) (min 8 (x.size - 8 * i)))),
    nrw := false, topx := false, dword := q.b, route := none, at_ := c, head := none, turn := 0, here := false, local_ := false }

/-! ### The checks (R207) -/

/-- A request's outcome: the state and gd's value, a trap with cause, EADDR and EINFO, or a double-bit error (R98). -/
inductive GmuEnd | ok (t : State) (v : Word) | lost | trap (cause : Nat) (eaddr : Word) (einfo : Nat)
  deriving DecidableEq, Repr

/-- Whether a member reads D. -/
def gmReadsD (fn : Nat) : Bool := fn == 0 || fn == 1 || fn == 3 || fn == 5

/-- The bytes of D that a member reads or writes, from the headers. -/
def gmExtent (fn : Nat) (x d : Rec) : Nat :=
  match fn with
  | 2 => if x.ok && !x.void then 16 + payloadCount x.da * x.es else 16
  | 4 => if x.ok && !x.void then 16 + 2 * x.n * x.es else 16
  | 7 => if x.ok then x.size else 16
  | _ => if d.ok then d.size else 16

/-- R207's shape conditions. -/
def gmShapes (fn blk : Nat) (x d : Rec) : Bool :=
  match fn with
  | 0 | 1 => x.db == 0 && x.wide == d.wide && decide (blk * x.da + x.da ≤ d.n)
  | 2 => decide (1 ≤ x.db)
  | 3 | 5 => x.da == d.da && x.db == d.db && x.wide == d.wide
  | _ => true

/-- The unwritten words that a request reads (R101): those of S, and of D what the member reads. -/
def State.gmUnwritten (s : State) (fn : Nat) (x d : Rec) : Option Loc :=
  if s.uninit x.loc x.size == 2 then some x.loc
  else if gmReadsD fn && s.uninit d.loc (if d.status = 0 && fn != 5 then 16 else d.size) == 2 then some d.loc
  else none

/-- R101: the warning of SPMODE 1 for the first unwritten word of a record, under its self-region address. -/
def State.warnRec (s : State) (l : Loc) (n : Nat) : State :=
  match l.sp, (wordsTouched l n).find? (fun w => !s.valid.contains w) with
  | .buf _ b, some w => s.warnUninit l (selfVa b (l.off + (4 * w - l.key)))
  | _, _ => s

/-- The bytes of D that a member reads. -/
def gmRead (fn : Nat) (d : Rec) : Nat := if d.status = 0 && fn != 5 then 16 else d.size

/-- The warnings of SPMODE 1 for the records read. -/
def State.gmWarn (s : State) (fn : Nat) (x d : Rec) : State :=
  let s1 : State := if s.uninit x.loc x.size == 1 then s.warnRec x.loc x.size else s
  if gmReadsD fn && s.uninit d.loc (gmRead fn d) == 1 then s1.warnRec d.loc (gmRead fn d) else s1

/-- R98: whether a request meets a double-bit error: in what it reads, or in the parts of words that it writes. -/
def State.gmLost (s : State) (fn : Nat) (x d : Rec) : Bool :=
  s.meetsError x.loc x.size false || (gmReadsD fn && s.meetsError d.loc (gmRead fn d) false) ||
  (fn != 5 && fn != 6 && s.meetsError d.loc (gmExtent fn x d) true)

/-- A member's effect, its checks passed. -/
def State.gmApply (s : State) (c : Nat) (q : GmuReq) (x d : Rec) : GmuEnd :=
  match q.fn with
  | 0 => .ok (s.gmAcc false x d q.blk) 0
  | 1 => .ok (s.gmAcc true x d q.blk) 0
  | 3 => .ok (s.gmDamp x d) 0
  | 5 => .ok s (s.gmRes x d)
  | 6 => .ok { s.bump with packets := s.packets ++ [s.gmPacket c q x] } 0
  | 7 => .ok (s.write d.loc (s.read x.loc x.size)) 0
  | fn =>
    match s.gmElim (fn == 4) x d q.gmc with
    | .ok t v => .ok t v
    | .singular e => .trap 0xB q.b e

/-- R207 in order, then the effect. For `gmsend` S is the record at `ga` and there is no D. -/
def State.gmRun (s : State) (c : Nat) (q : GmuReq) : GmuEnd :=
  let send := q.fn == 6
  let xa := if send then q.a else q.b
  let bad := fun (va : Word) => va.toNat % 16 != 0
  if bad q.a then .trap 7 q.a 0
  else if bad xa then .trap 7 xa 0
  else
    match s.recPlace c xa 16, (if send then s.recPlace c xa 16 else s.recPlace c q.a 16) with
    | none, _ => .trap 6 xa 0
    | some _, none => .trap 6 q.a 0
    | some xl, some dl =>
      let x := s.recAt xl
      let d := s.recAt dl
      if x.ok && (s.recPlace c xa x.size).isNone then .trap 6 xa 0
      else if !send && (s.recPlace c q.a (gmExtent q.fn x d)).isNone then .trap 6 q.a 0
      else if !x.ok then .trap 1 0 0x400
      else if gmReadsD q.fn && !d.ok then .trap 1 0 0x401
      else if !gmShapes q.fn q.blk x d then .trap 1 0 0x402
      else
        if s.gmLost q.fn x d then .lost else
        match s.gmUnwritten q.fn x d with
        | some l => .trap 0x11 (if l = xl then xa else q.a) 0
        | none => (s.gmWarn q.fn x d).gmApply c q x d

/-! ### Issue and completion (R206, R218, R219) -/

/-- R218, R225: an earlier access of the issuing slot to its own buffers, or an acquire anywhere, is not yet performed. -/
def State.ownOutstanding (s : State) : Bool :=
  (s.outstanding s.me.id).any (fun f => f.acq || f.loc.home == .core s.cur.core)

/-- R206: a request queued; the slot stalls at its instruction until the request completes. `d` is `gd`, 0 where the member has
none. -/
def State.gmIssue (s : State) (fn : Nat) (a b : Word) (blk d : Nat) : State :=
  let k := s.myCore
  if k.gmu.any (fun q => q.work == s.me.id && q.slot == s.cur.slot) then s.stallFor .gmu
  else if s.relBlocked || s.ownOutstanding then s.stallFor .ordering
  else if 8 ≤ k.gmu.length then s.stallFor .gmu
  else
    let q : GmuReq := { slot := s.cur.slot, work := s.me.id, pc := s.cur.pc, fn := fn, a := a, b := b, blk := blk, d := d, gmc := s.me.ctl.gmc }
    ((s.modCore s.cur.core (fun k => { k with gmu := k.gmu ++ [q] })).stallFor .gmu).modRegs (fun x => x.markG d)

/-- R208: `gmacc`. -/
def execGmacc (a b : GReg) (blk : BitVec 3) (s : State) : Host.Outcome State Fault Refusal :=
  entered (.gmacc a b blk) s (fun s => s.gmIssue 0 (s.g a) (s.g b) blk.toNat 0)
/-- R208: `gmsub`. -/
def execGmsub (a b : GReg) (blk : BitVec 3) (s : State) : Host.Outcome State Fault Refusal :=
  entered (.gmsub a b blk) s (fun s => s.gmIssue 1 (s.g a) (s.g b) blk.toNat 0)
/-- R210: `gmelim`. -/
def execGmelim (d a b : GReg) (s : State) : Host.Outcome State Fault Refusal :=
  entered (.gmelim d a b) s (fun s => s.gmIssue 2 (s.g a) (s.g b) 0 d.toNat)
/-- R209: `gmdamp`. -/
def execGmdamp (a b : GReg) (s : State) : Host.Outcome State Fault Refusal :=
  entered (.gmdamp a b) s (fun s => s.gmIssue 3 (s.g a) (s.g b) 0 0)
/-- R212: `gmmean`. -/
def execGmmean (d a b : GReg) (s : State) : Host.Outcome State Fault Refusal :=
  entered (.gmmean d a b) s (fun s => s.gmIssue 4 (s.g a) (s.g b) 0 d.toNat)
/-- R213: `gmres`. -/
def execGmres (d a b : GReg) (s : State) : Host.Outcome State Fault Refusal :=
  entered (.gmres d a b) s (fun s => s.gmIssue 5 (s.g a) (s.g b) 0 d.toNat)
/-- R214: `gmsend`; its destination word is checked at issue (log entry 27). -/
def execGmsend (a b : GReg) (s : State) : Host.Outcome State Fault Refusal :=
  entered (.gmsend a b) s (fun s =>
    if bits (s.g b) 35 0 ≠ 0 then s.illegal 0
    else if !s.ownsCore s.me.ctl.fw s.me.ctl.ctx (bits (s.g b) 63 49) then s.trap 6 0 0
    else s.gmIssue 6 (s.g a) (s.g b) 0 0)
/-- R214: `gmcpy`. -/
def execGmcpy (a b : GReg) (s : State) : Host.Outcome State Fault Refusal :=
  entered (.gmcpy a b) s (fun s => s.gmIssue 7 (s.g a) (s.g b) 0 0)

/-- A `g` register full again with the value it had. -/
def Regs.unmarkG (x : Regs) (r : Nat) : Regs := if r = 0 then x else { x with ge := tblSet x.ge r false }

/-- A request leaves its slot without an effect: `gd` holds its value again and the instruction will run again (R219). -/
def State.gmRelease (s : State) (c : Nat) (q : GmuReq) : State :=
  s.modSlot c q.slot (fun x => { x with stall := none, w := { x.w with regs := x.w.regs.unmarkG q.d } })

/-- The head request ends: its slot goes on, or traps at its instruction. The trap of a team on its way out is saved with its thread
(R219, log entry 28). -/
def State.gmFinish (s : State) (c : Nat) (q : GmuReq) : State :=
  let s1 : State := s.modCore c (fun k => { k with gmu := k.gmu.drop 1, gmuBusy := false })
  match s1.gmRun c q with
  | .ok t v => (t.modWork c q.slot (fun w => { w with regs := w.regs.setG q.d v })).completeSlot c q.slot
  | .lost => s1.abortOwner c 6
  | .trap cause ea ei =>
    let t := s1.gmRelease c q
    let x := t.slot c q.slot
    if x.w.thread && t.teams.any (fun m => some m.id == x.w.team && m.leaving) then
      t.modWork c q.slot (fun w => { w with gmTrap := some { cause := cause, eaddr := ea, einfo := wordOf ei } })
    else t.takeTrap c q.slot 0 cause x.len x.w.pc ea (wordOf ei)

/-- R219, R379: the unit takes the head request. -/
def execGmuRequestStart (core : Nat) (s : State) : Host.Outcome State Fault Refusal :=
  occurs (isCore core)
    (let k := s.core core
     if k.gmuBusy || k.gmu.isEmpty then s
     else s.modCore core (fun k => { k with gmuBusy := true, acts := { k.acts with requests := k.acts.requests + 1 } }))

/-- R219: the request that has started completes or traps. -/
def execGmuRequestComplete (core : Nat) (s : State) : Host.Outcome State Fault Refusal :=
  occurs (isCore core)
    (match (s.core core).gmuBusy, (s.core core).gmu with
     | true, q :: _ => s.gmFinish core q
     | _, _ => s)

end Sys2Proof.Machine
end

