-- ==== Sys2Proof/Machine/Registers.lean ====
section
/-! DEFINITION. Control registers read and written by number: `getc`, `setc`, and the effects that a write has of its own
(R52, R55, R76 to R94, R175 to R177, R365, R366). -/

namespace Sys2Proof.Machine

/-! ### Reading (R79, R87, R92, R365) -/

/-- R79: register `n` of slot `k` of core `c`. -/
def State.slotCr (s : State) (c k n : Nat) : Word :=
  let x := (s.slot c k).w.ctl
  match n with
  | 0x0 => x.tid
  | 0x1 => wordOf (k / 2)
  | 0x2 => wordOf x.allot
  | 0x3 => x.frame
  | 0x4 => wordOf (if x.fw then 512 else x.ctx)
  | 0x8 => x.fpc
  | 0x9 => x.nfc
  | 0xA => x.gmc
  | 0xB => x.pace
  | 0xC => x.swp
  | 0x10 => x.epc
  | 0x11 => x.ecause
  | 0x12 => x.eaddr
  | 0x13 => x.einfo
  | 0x14 => x.eslot
  | 0x15 => x.smr
  | n => tblGet egReset x.eg (n - 0x18)

/-- R90. -/
def State.spcapWord (s : State) (c : Nat) : Word :=
  wordOf (s.spcap c 1 * 2 ^ 32 + s.spcap c 2 * 2 ^ 16 + s.spcap c 3)

/-- R87: register `n` of core `c`. -/
def State.coreCr (s : State) (c n : Nat) : Word :=
  let k := s.core c
  match n with
  | 0x100 => wordOf c
  | 0x101 => wordOf k.fdr
  | 0x102 => k.htb
  | 0x103 => k.cmask
  | 0x104 => k.cpend
  | 0x105 => wordOf k.spmode
  | 0x106 => s.spcapWord c
  | 0x107 => k.dqb
  | 0x108 => wordOf k.stg
  | 0x109 => k.tvec
  | 0x120 => k.cyc
  | 0x121 => k.ins
  | 0x122 => k.ffc
  | 0x123 => k.smc
  | 0x124 => k.nkc
  | 0x125 => k.flc
  | 0x126 => wordOf (b2n k.fmth.isSome * 2 ^ 63)
  | n => if n < 0x110 then k.rrbOf (n - 0x10C) else tblGet 0 k.win (n - 0x110)

/-- R92: management register `n`. -/
def State.mgmtCr (s : State) (n : Nat) : Word :=
  if n < 0x230 then wordOf (tblGet 0 s.tsen (n - 0x200))
  else if n < 0x250 then (tblGet 0 s.tprd (n - 0x230)).setWidth 64
  else if n < 0x270 then wordOf (tblGet 16 s.icl (n - 0x250))
  else
    match n with
    | 0x270 => wordOf s.pceil
    | 0x271 => s.pmeas
    | 0x272 => s.alth.setWidth 64
    | 0x273 => s.hyst.setWidth 64
    | 0x274 => s.alst
    | 0x275 => s.tlogp
    | _ => wordOf s.usec

/-- R76: the register that a number names for slot `k` of core `c`. -/
def State.readCr (s : State) (c k n : Nat) : Word :=
  if n < 0x100 then s.slotCr c k n
  else if n < 0x200 then s.coreCr c n
  else if n < 0x300 then s.mgmtCr n
  else s.slotCr c ((n - 0x1000) / 256) (n % 256)

/-- R365. -/
def execGetc (d : GReg) (n : BitVec 13) (s : State) : Host.Outcome State Fault Refusal :=
  entered (.getc d n) s (fun s => s.retireG d (s.readCr s.cur.core s.cur.slot n.toNat))

/-! ### Writing a slot's register (R52, R55, R79 to R86) -/

/-- The fields of a value kept: bits `hi:lo` of each pair. -/
def keepBits (v : Word) (fs : List (Nat × Nat)) : Word :=
  wordOf (fs.foldl (fun a f => a + bits v f.1 f.2 * 2 ^ f.2) 0)

/-- R52: whether NFC takes a value. -/
def nfcOk (v : Word) : Bool := (narrowOf v).narrowOk

/-- R83: whether SWP of a slot of core `c` takes a value: a tile within the core's cluster. -/
def swpOk (c : Nat) (v : Word) : Bool :=
  match tileOf v with
  | (n, x0, y0) =>
    let cx := clusterOf c % 8
    let cy := clusterOf c / 8 % 8
    n == 0 || (decide (n < 7) && !isMc c && x0 / 8 == cx && (x0 + n - 1) / 8 == cx && y0 / 6 == cy && (y0 + n - 1) / 6 == cy)

/-- A slot's registers after a write of number `n` on core `c`; `none` where the value is refused (ILLEGAL). MARK (DESIGN CHOICE, log entry
101): ECAUSE takes a reserved CAUSE code (00H, 1DH to FFH) as it is. -/
def slotSet (c : Nat) (x : Ctl) (n : Nat) (v : Word) : Option Ctl :=
  match n with
  | 0x8 => some { x with fpc := keepBits v [(13, 0)] }
  | 0x9 => if nfcOk v then some { x with nfc := keepBits v [(16, 0)] } else none
  | 0xA => if bits v 1 0 = 3 then none else some { x with gmc := keepBits v [(23, 16), (13, 8), (1, 0)] }
  | 0xB => some { x with pace := keepBits v [(3, 0)] }
  | 0xC => if swpOk c v then some { x with swp := keepBits v [(14, 0)] } else none
  | 0x10 => some { x with epc := v }
  | 0x11 => if bits v 9 8 = 3 then none else some { x with ecause := keepBits v [(9, 0)] }
  | 0x12 => some { x with eaddr := v }
  | 0x13 => some { x with einfo := v }
  | 0x14 => if 8 < bits v 3 0 then none else some { x with eslot := keepBits v [(3, 0)] }
  | n => if 0x18 ≤ n then some { x with eg := tblSet x.eg (n - 0x18) (keepBits v [(39, 24), (19, 0)]) } else some x

/-- R86: whether a write re-issues the held access of a slot. -/
def smrWriteOk (x : Slot) (v : Word) : Bool :=
  bits v 63 4 == 0 && wbit v 3 && bits v 2 0 != 0 && bits v 2 0 != 7 && wbit x.w.ctl.smr 63 && x.held.isSome

/-- R86: the held access goes out again with a scope; V clears. -/
def State.reissue (s : State) (c n : Nat) (v : Word) : State :=
  let x := s.slot c n
  match x.held, scopeOf (bits v 2 0) with
  | some f, some sc =>
    ({ s with inflight := s.inflight.map (fun g =>
        if g.acc == f.acc && g.st == .missed then { g with st := .going, scope := some sc } else g) } : State).modSlot c n
      (fun x => { x with held := none, w := { x.w with ctl := { x.w.ctl with smr := wordOf (x.w.ctl.smr.toNat % 2 ^ 63) } } })
  | _, _ => s

/-- A slot's register written: `none` where the value is refused. -/
def State.writeSlotCr (s : State) (c k n : Nat) (v : Word) : Option State :=
  if n = 0x15 then (if smrWriteOk (s.slot c k) v then some (s.reissue c k v) else none)
  else
    match slotSet c (s.slot c k).w.ctl n v with
    | some x => some (s.modWork c k (fun w => { w with ctl := x }))
    | none => none

/-! ### Writing a core's register (R87 to R91, R431) -/

/-- The cause that refuses a value of a core's register: 1 ILLEGAL, 21 PRIVILEGED (R87, R88, R91). MARK (DESIGN CHOICE, log entry 102): a
value of RRBn whose only set bits are the reserved ones 63:57 is refused. -/
def State.coreCrBad (s : State) (n : Nat) (v : Word) : Option Nat :=
  if n = 0x102 ∨ n = 0x107 then (if bits v 11 0 = 0 then none else some 1)
  else if n = 0x105 then (if bits v 1 0 = 3 then some 1 else if bits v 1 0 ≠ 0 ∧ s.mode = 1 then some 0x15 else none)
  else if 0x10C ≤ n ∧ n ≤ 0x10F then
    (if v = 0 then none
     else if bits v 11 5 = 0 ∧ 6 ≤ bits v 4 0 ∧ bits v 4 0 ≤ 20 ∧ bits v 56 12 ≠ 0 then none else some 1)
  else if 0x110 ≤ n ∧ n ≤ 0x117 then
    (let b := bits v 33 32
     if bits v 42 40 = 7 ∨ (b ≠ 0 ∧ bufRows b < bits v 10 0 + bits v 26 16) then some 1 else none)
  else none

/-- The fields of a core's register kept from a value. -/
def coreCrMask (n : Nat) (v : Word) : Word :=
  if n = 0x102 ∨ n = 0x107 then keepBits v [(56, 12)]
  else if n = 0x105 then keepBits v [(1, 0)]
  else if n = 0x108 then keepBits v [(3, 0)]
  else if n = 0x109 then keepBits v [(63, 2)]
  else if 0x10C ≤ n ∧ n ≤ 0x10F then keepBits v [(56, 12), (4, 0)]
  else if 0x110 ≤ n ∧ n ≤ 0x117 then keepBits v [(42, 40), (36, 32), (26, 16), (10, 0)]
  else v

/-- A core with register `n` holding a value; CMASK and FMTH have effects of their own. -/
def Core.setCr (k : Core) (n : Nat) (v : Word) : Core :=
  match n with
  | 0x102 => { k with htb := v }
  | 0x103 => { k with cmask := v }
  | 0x105 => { k with spmode := v.toNat }
  | 0x107 => { k with dqb := v }
  | 0x108 => { k with stg := v.toNat, stgMove := none, stgWorks := [] }
  | 0x109 => { k with tvec := v }
  | 0x120 => { k with cyc := v }
  | 0x121 => { k with ins := v }
  | 0x122 => { k with ffc := v }
  | 0x123 => { k with smc := v }
  | 0x124 => { k with nkc := v }
  | 0x125 => { k with flc := v }
  | n => if n < 0x110 then { k with rrb := tblSet k.rrb (n - 0x10C) v } else { k with win := tblSet k.win (n - 0x110) v }

/-- R431: what a write of FMTH does, or `none` where it is refused. -/
def State.writeFmth (s : State) (c : Nat) (v : Word) : Option State :=
  if !(s.core c).fmth.isSome || bits v 62 2 != 0 then none
  else
    match bits v 1 0 with
    | 1 => some (s.fmthAdmitAt c)
    | 2 => some (s.fmthRefuseAt c)
    | _ => none

/-- What writing a register comes to: the state after it, or the cause of its trap. -/
inductive CrWrite | ok (t : State) | bad (cause : Nat)
  deriving DecidableEq, Repr

/-- A write that refuses with ILLEGAL. -/
def CrWrite.ofOption : Option State → CrWrite
  | some t => .ok t
  | none => .bad 1

/-- A core's register written. -/
def State.writeCoreCr (s : State) (c n : Nat) (v : Word) : CrWrite :=
  if n = 0x126 then .ofOption (s.writeFmth c v)
  else if n = 0x103 then .ok (s.setCmask c v)
  else
    match s.coreCrBad n v with
    | some cause => .bad cause
    | none => .ok (s.modCore c (fun k => k.setCr n (coreCrMask n v)))

/-! ### Writing a management register (R92 to R94) -/

/-- R94: TPRDn written and compared; an alert is posted. -/
def State.writeTprd (s : State) (n : Nat) (v : BitVec 16) : State :=
  let t := toSigned 16 v.toNat
  let th := toSigned 16 s.alth.toNat
  let s1 : State := { s with tprd := tblSet s.tprd n v }
  if th ≤ t then ({ s1 with alst := s1.alst ||| wordOf (2 ^ n) } : State).postAlert n
  else if t < th - (s.hyst.toNat : Int) && decide (tblGet 16 s.icl n < 16) then
    ({ s1 with alst := s1.alst ||| wordOf (2 ^ (32 + n)) } : State).postAlert n
  else s1

/-- R94: ALST's bits cleared. -/
def State.clearAlst (s : State) (v : Word) : State := { s with alst := s.alst &&& ~~~v }
/-- R92: ICLn. -/
def State.writeIcl (s : State) (n v : Nat) : State := { s with icl := tblSet s.icl n v }

/-- R92: whether a value of ICLn stands in its range. -/
def iclOk (v : Nat) : Bool := decide (v ≤ 16)
/-- R92: whether a value of PCEIL stands in its range. -/
def pceilOk (v : Nat) : Bool := decide (150 ≤ v) && decide (v ≤ 1000)

/-- A management register written. -/
def State.writeMgmtCr (s : State) (n : Nat) (v : Word) : CrWrite :=
  if n < 0x250 then .ok (s.writeTprd (n - 0x230) (v.setWidth 16))
  else if n < 0x270 then (if iclOk (bits v 4 0) then .ok (s.writeIcl (n - 0x250) (bits v 4 0)) else .bad 1)
  else
    match n with
    | 0x270 => if pceilOk (bits v 9 0) then .ok { s with pceil := bits v 9 0 } else .bad 1
    | 0x272 => .ok { s with alth := v.setWidth 16 }
    | 0x273 => if bits v 15 0 ≤ 0x7FFF then .ok { s with hyst := v.setWidth 16 } else .bad 1
    | 0x274 => .ok (s.clearAlst v)
    | _ => .ok { s with tlogp := keepBits v [(31, 0)] }

/-! ### setc (R366) -/

/-- R76: a register written by number, for slot `k` of core `c`. -/
def State.writeCr (s : State) (c k n : Nat) (v : Word) : CrWrite :=
  if n < 0x100 then .ofOption (s.writeSlotCr c k n v)
  else if n < 0x200 then s.writeCoreCr c n v
  else if n < 0x300 then s.writeMgmtCr n v
  else .ofOption (s.writeSlotCr c ((n - 0x1000) / 256) (n % 256) v)

/-- R366: the group completes first, so that an increment of INS in its cycle is lost to the write (R177). -/
def execSetc (a : GReg) (ea : Bool) (n : BitVec 13) (s : State) : Host.Outcome State Fault Refusal :=
  entered (.setc a ea n) s (fun s =>
    match s.writeCr s.cur.core s.cur.slot n.toNat (s.g a) with
    | .bad cause => s.trap cause 0 0
    | .ok _ =>
      match s.retire.writeCr s.cur.core s.cur.slot n.toNat (s.g a) with
      | .ok t => t
      | .bad _ => s.retire)

/-! ### Writes as steps of their own -/

/-- R86: SMR of a slot written. -/
def execSmrReissue (core slot : Nat) (value : Word) (s : State) : Host.Outcome State Fault Refusal :=
  occurs (isCore core && decide (slot < 8)) (if smrWriteOk (s.slot core slot) value then s.reissue core slot value else s)
/-- R94: TPRDn written. -/
def execTprdWrite (n : Nat) (value : BitVec 16) (s : State) : Host.Outcome State Fault Refusal :=
  occurs (decide (n < 24)) (s.writeTprd n value)
/-- R94: ALST written. -/
def execAlstClear (value : Word) (s : State) : Host.Outcome State Fault Refusal := .next (s.clearAlst value)
/-- R92: ICLn written; a value out of range changes nothing. -/
def execIclWrite (n value : Nat) (s : State) : Host.Outcome State Fault Refusal :=
  occurs (decide (n < 24)) (if iclOk value then s.writeIcl n value else s)
/-- R92: PCEIL written; a value out of range changes nothing. -/
def execPceilWrite (value : Nat) (s : State) : Host.Outcome State Fault Refusal :=
  .next (if pceilOk value then { s with pceil := value } else s)
/-- R177: counter `n` (0 CYC, 1 INS, 2 FFC, 3 SMC, 4 NKC, 5 FLC) of a core written. -/
def execCounterWrite (core n : Nat) (value : Word) (s : State) : Host.Outcome State Fault Refusal :=
  occurs (isCore core && decide (n < 6)) (s.modCore core (fun k => k.setCr (0x120 + n) value))

end Sys2Proof.Machine
end

