-- ==== Sys2Proof/Machine/System.lean ====
section
/-! DEFINITION. 16_isa_engines_system, the system group: TLB writes and invalidation, fault resolution, core images, the handler
table, row maps (R105, R106, R116, R141 to R145, R367 to R376). -/

namespace Sys2Proof.Machine

/-! ### TLBs (R116, R368, R369) -/

/-- R368: `tlbw`. -/
def execTlbw (d a b : GReg) (ea eb : Bool) (s : State) : Host.Outcome State Fault Refusal :=
  entered (.tlbw d a b ea eb) s (fun s =>
    let e : TlbEntry := { w0 := s.g a, w1 := s.g b }
    let g := s.g d
    let c := bits g 14 0
    if !entryFormOk e then s.illegal 0x1000
    else if bits g 63 16 ≠ 0 then s.illegal 0x1001
    else if !(isCompute c && clusterOf c == clusterOf s.cur.core) then s.trap 6 0 0
    else if !s.entryPermitted e then s.trap 6 0 0
    else (s.installEntry c e (wbit g 15)).retire)

/-- R369: whether an entry is one that `tlbi` removes. -/
def tlbiMatches (a b : Word) (e : TlbEntry) : Bool :=
  (wbit b 63 || bits e.w0 56 14 * 2 ^ 14 / 2 ^ pageBits e == a.toNat % 2 ^ 57 / 2 ^ pageBits e) &&
  (if wbit e.w0 11 then wbit b 62 else bits e.w0 8 0 == bits b 8 0)

/-- R369: whether a descriptor is well formed on a core. -/
def tlbiOk (c : Nat) (a b : Word) : Bool :=
  bits b 61 19 == 0 && bits b 15 9 == 0 && (!wbit b 63 || a == 0) &&
  (if isMc c then bits b 18 16 == 4 else decide (2 ≤ bits b 18 16) && decide (bits b 18 16 ≤ 4))

/-- R116: matching entries leave every TLB of the instance of a scope around core `c`. -/
def State.invalidate (s : State) (c : Nat) (sc : Scope) (a b : Word) : State :=
  let keep := fun (l : List TlbEntry) => l.filter (fun e => !tlbiMatches a b e)
  { s with
    cores := s.cores.map (fun e => if scopeHasCore sc c e.1 then (e.1, { e.2 with l1 := keep e.2.l1 }) else e)
    clusters := s.clusters.map (fun e => if scopeHasCore sc c (tscOf e.1) then (e.1, { e.2 with l2 := keep e.2.l2 }) else e) }

/-- R369: whether an entry that a descriptor removes may have translated an address of a context. The entries are gone, so the largest
page around the address counts (log entry 29). -/
def tlbiReaches (a b : Word) (va : Word) (fw : Bool) (ctx : Option Nat) : Bool :=
  !inSelf va && !inFwWindow fw va && (wbit b 63 || va.toNat % 2 ^ 57 / 2 ^ 30 == a.toNat % 2 ^ 57 / 2 ^ 30) &&
  (wbit b 62 || (if fw then bits b 8 0 == 0 else ctx == some (bits b 8 0)))

/-- R116: whether an access that such an entry may have translated is not yet performed: one under way, or the arrival of a copy job on
its completion object. -/
def State.translatedLeft (s : State) (c : Nat) (sc : Scope) (a b : Word) : Bool :=
  s.inflight.any (fun f =>
    f.st != .withdrawn && scopeHasCore sc c f.core &&
      tlbiReaches a b f.va f.fw (match s.ownerOf f.core with | some (false, x) => some x | _ => none)) ||
  s.clusters.any (fun e => e.2.jobs.any (fun j => scopeHasCore sc c j.core && tlbiReaches a b j.objVa j.fw (some j.ctx)))

/-- R369: `tlbi`. -/
def execTlbi (a b : GReg) (ea eb : Bool) (s : State) : Host.Outcome State Fault Refusal :=
  entered (.tlbi a b ea eb) s (fun s =>
    let va := s.g a
    let d := s.g b
    if !tlbiOk s.cur.core va d then s.illegal 0x1002
    else
      match scopeOf (bits d 18 16) with
      | none => s.illegal 0x1002
      | some sc =>
        let t := s.invalidate s.cur.core sc va d
        if t.translatedLeft s.cur.core sc va d then t.stallFor .ordering else t.retire)

/-! ### Fault resolution (R358, R370, R371) -/

/-- R371 at one core: RSEQ only advances, and work parked on a resolved token becomes ready. -/
def State.resolveCore (s : State) (c sq : Nat) : State :=
  let s1 : State := s.modCore c (fun k => { k with rseq := if resolved sq k.rseq then k.rseq else sq })
  let due := s1.parked.filter (fun p => p.core == c && (match p.wait with | .token t => resolved t sq | _ => false))
  due.foldl (fun t p => t.wake p.id) s1

/-- R358: a suspended job of a cluster whose token is resolved resumes. -/
def State.resolveJobs (s : State) (cl sq : Nat) : State :=
  let due := (s.cluster cl).jobs.filter (fun j => (match j.token with | some t => resolved t sq | none => false) && !s.jobHeld j)
  due.foldl (fun t j =>
    ((t.modJob cl j.serial (fun k => { k with token := none })).event j.core 0x14 8 0 (wordOf j.jid)).jobArrives j 0 0) s

/-- R371 over the clusters of a context. -/
def State.resolve (s : State) (ctx sq : Nat) : State :=
  let mine := (s.clusters.filter (fun e => e.2.owner == some ctx)).map (fun e => e.1)
  mine.foldl (fun t n => ((clusterCores n).foldl (fun t c => t.resolveCore c sq) t).resolveJobs n sq) s

/-- R371: `fres`. -/
def execFres (a b : GReg) (ea eb : Bool) (s : State) : Host.Outcome State Fault Refusal :=
  entered (.fres a b ea eb) s (fun s =>
    if bits (s.g a) 63 32 ≠ 0 ∨ bits (s.g b) 63 9 ≠ 0 then s.illegal 0x1003
    else (s.retire).resolve (bits (s.g b) 8 0) (bits (s.g a) 31 0))

/-! ### Core images (R372, R373) -/

/-- The words of a handler table. -/
def Core.handlerWords (k : Core) : List Word :=
  (List.range 64).flatMap (fun c => [(k.handler c).w0, (k.handler c).w1, (k.handler c).w2, (k.handler c).w3])

/-- The words of a core's image; V and CTX are those of its context. -/
def State.imageWords (s : State) (c : Nat) : List Word :=
  let k := s.core c
  [wordOf (match s.ownerOf c with | some (false, x) => 2 ^ 63 + x | _ => 0), k.htb, k.dqb, k.tvec] ++
  (List.range 4).map k.rrbOf ++ [k.cmask, wordOf k.spmode, k.dfpc, k.dnfc, k.dgmc, wordOf k.rseq, 0, 0] ++
  (List.range 8).map (fun i => tblGet 0 k.win i) ++ List.replicate 8 0 ++
  (List.range 64).flatMap (fun i =>
    [(tblGet words0 k.tensors i).w0, (tblGet words0 k.tensors i).w1, (tblGet words0 k.tensors i).w2, (tblGet words0 k.tensors i).w3])

/-- The control register that word `i` of an image loads: a core's by number, or a slot's for the defaults. -/
def imageCr (i : Nat) : Option Nat :=
  if i = 1 then some 0x102 else if i = 2 then some 0x107 else if i = 3 then some 0x109
  else if 4 ≤ i ∧ i < 8 then some (0x10C + i - 4) else if i = 9 then some 0x105
  else if 16 ≤ i ∧ i < 24 then some (0x110 + i - 16) else none

/-- R373: whether the register's own `setc` would refuse word `i` of an image. -/
def State.imageWordBad (s : State) (i : Nat) (v : Word) : Bool :=
  match imageCr i with
  | some n => (s.coreCrBad n v).isSome
  | none => if i = 11 then !nfcOk v else if i = 12 then bits v 1 0 == 3 else false

/-- The first word of an image that is refused. -/
def State.imageBad (s : State) (ws : List Word) : Option Nat :=
  (List.range 24).find? (fun i => s.imageWordBad i (ws.getD i 0))

/-- Word `i` of a list of words. -/
def nthW (ws : List Word) (i : Nat) : Word := ws.getD i 0

/-- Four words of a list from `i` on. -/
def words4At (ws : List Word) (i : Nat) : Words4 :=
  { w0 := nthW ws i, w1 := nthW ws (i + 1), w2 := nthW ws (i + 2), w3 := nthW ws (i + 3) }

/-- R372: a core with an image and a handler table loaded; its landing rings start free (R144). -/
def Core.loadImage (k : Core) (ws hs : List Word) : Core :=
  let m := fun (i n : Nat) => coreCrMask n (nthW ws i)
  { k with
    htb := m 1 0x102
    dqb := m 2 0x107
    tvec := m 3 0x109
    rrb := (List.range 4).map (fun i => (i, m (4 + i) (0x10C + i)))
    cmask := nthW ws 8
    spmode := bits (nthW ws 9) 1 0
    dfpc := keepBits (nthW ws 10) [(13, 0)]
    dnfc := keepBits (nthW ws 11) [(16, 0)]
    dgmc := keepBits (nthW ws 12) [(23, 16), (13, 8), (1, 0)]
    landing := []
    rseq := bits (nthW ws 13) 31 0
    win := (List.range 8).map (fun i => (i, m (16 + i) (0x110 + i)))
    tensors := (List.range 64).map (fun i => (i, words4At ws (32 + 4 * i)))
    handlers := (List.range 64).map (fun i => (i, words4At hs (4 * i))) }

/-- R372: V = 0: the image's registers at their module reset values, no handler, no tensor. -/
def Core.unloadImage (k : Core) : Core :=
  { k with htb := 0, dqb := 0, tvec := 0, rrb := [], cmask := 0, spmode := 0, dfpc := 0, dnfc := 0xA307, dgmc := 0xF82800,
           rseq := 0, win := [], tensors := [], handlers := [], landing := [] }

/-- R373: whether a core is quiet, seen from its slot `n`. -/
def State.quiet (s : State) (c n : Nat) : Bool :=
  let k := s.core c
  !k.othersBusy n && !k.somethingReady && k.gmu.isEmpty && k.pending.isEmpty && k.watches.isEmpty &&
  !s.engines.any (fun e => e.2.halves.any (fun h => h.core == c))

/-- The words of bytes. -/
def wordsIn : Nat → List Byte → List Word
  | 0, _ => []
  | n + 1, bs => wordOf (ofBytes (bs.take 8)) :: wordsIn n (bs.drop 8)

/-- The bytes of words. -/
def bytesOfWords (ws : List Word) : List Byte := ws.flatMap (fun w => bytesOf 8 w.toNat)

/-- R141: the save image's blocks. -/
def State.findTable (s : State) (htb : Word) (k : AccKind) : Blocks := s.findImage (baseVa htb) 32 k

/-- R372: `ctxs`. -/
def execCtxs (a : GReg) (ea : Bool) (s : State) : Host.Outcome State Fault Refusal :=
  entered (.ctxs a ea) s (fun s =>
    match s.findImage (s.g a) 36 .store with
    | .stop t => t
    | .ok ps =>
      match s.findTable s.myCore.htb .store with
      | .stop t => t
      | .ok hs =>
        if !s.roomOn (s.spansAll (ps ++ hs) false) then s.stallFor .ordering
        else ((s.writeBlocks (s.g a) ps (bytesOfWords (s.imageWords s.cur.core))).writeBlocks (baseVa s.myCore.htb) hs
          (bytesOfWords s.myCore.handlerWords)).retire)

/-- R372: the context of a core, or none. -/
def State.setCoreCtx (s : State) (c : Nat) (x : Option Nat) : State := { s with coreCtx := tblSet s.coreCtx c x }

/-- R144: what a new entry does to the packets that its class holds. -/
def State.entryChanged (s : State) (c cls was now_ : Nat) : State :=
  if now_ = 1 ∧ was = 2 then s.drainHolding c cls
  else if now_ = 0 then s.refuseHolding c cls
  else s

/-- R129, R144: a whole table has been loaded over that of a core as it was: what each class with held packets comes to (log entry 58). -/
def State.tableChanged (s : State) (c : Nat) (was : Core) : State :=
  (was.holding.filter (fun e => !e.2.isEmpty)).foldl
    (fun t e => t.entryChanged c e.1 (was.handler e.1).hState ((t.core c).handler e.1).hState) s

/-- R372: an image whose V is 1: read whole, checked, and loaded with its handler table. -/
def State.loadFrom (s : State) (va : Word) : State :=
  match s.findImage va 36 (.load false) with
  | .stop t => t
  | .ok ps =>
    match s.readBlocks va ps true with
    | .stop t => t
    | .ok bs s1 =>
      let ws := wordsIn 288 bs
      match s1.imageBad ws with
      | some i => s1.illegal (0x1005 + 8 * i)
      | none =>
        match s1.findTable (coreCrMask 0x102 (nthW ws 1)) (.load false) with
        | .stop t => t
        | .ok hs =>
          match s1.readBlocks (baseVa (nthW ws 1)) hs true with
          | .stop t => t
          | .ok tb s2 =>
            (((s2.modCore s.cur.core (fun k => k.loadImage ws (wordsIn 256 tb))).setCoreCtx s.cur.core
              (some (bits (nthW ws 0) 8 0))).retire).tableChanged s.cur.core s.myCore

/-- R372, R373: `ctxl`. -/
def execCtxl (a : GReg) (ea : Bool) (s : State) : Host.Outcome State Fault Refusal :=
  entered (.ctxl a ea) s (fun s =>
    if !s.quiet s.cur.core s.cur.slot then s.illegal 0x1004
    else
      match s.readBlock (s.g a) 8 64 true with
      | .stop t => t
      | .data d s1 =>
        if bitAt d 63 then s1.loadFrom (s.g a)
        else (((s1.modCore s.cur.core Core.unloadImage).setCoreCtx s.cur.core none).retire).tableChanged s.cur.core s.myCore)

/-! ### The handler table (R140 to R145, R374) -/

/-- R142: whether an entry's form is refused. -/
def handlerBad (e : Words4) : Bool :=
  let kind := e.hKind
  e.hState == 3 || kind == 3 || bits e.w0 1 0 != 0 || bits e.w2 36 0 != 0 || e.w3 != 0 ||
  (kind != 0 && bits e.w2 51 49 != 0) || (kind != 1 && e.hSlots != 0) || (kind != 2 && e.hRing != 0) ||
  (kind == 2 && e.hBase != 0) ||
  (e.hState != 0 && !(1 ≤ e.hLvl && e.hLvl ≤ 2 && 1 ≤ e.hAllot && e.hAllot ≤ 4))

/-- R142: whether a landing ring or mailbox reaches past the A floor; an empty entry has no area (log entry 31). -/
def State.overFloor (s : State) (c : Nat) (e : Words4) : Bool :=
  let rows := if e.hKind = 0 then e.hCells else 6 * e.hSlots
  e.hState != 0 && e.hKind != 2 && decide (s.floor c 2 < e.hBase + rows)

/-- R141: the place of an entry's save image, or the state after a trap or a stall. -/
inductive Save | at_ (p : Page) | stop (t : State)
  deriving DecidableEq, Repr

/-- The save image of class `cls` of the issuing core, for a write. -/
def State.savePlace (s : State) (cls : Nat) : Save :=
  let va := baseVa s.myCore.htb + wordOf (32 * cls)
  match s.find va 1 1 with
  | .stop t => .stop t
  | .page p =>
    match p.denies s.atL0 .store 32 false with
    | some c => .stop (s.trap c va 1)
    | _ => if s.mayAct va p 32 .store then .at_ p else .stop (s.stallFor .ordering)

/-- R141, R144: an entry of the issuing core written with its save image; a new area starts with every cell free. -/
def State.putEntry (s : State) (cls : Nat) (e : Words4) (p : Page) : State :=
  let c := s.cur.core
  let old := s.myCore.handler cls
  let s1 : State := (s.cross p false).write p.loc (bytesOfWords [e.w0, e.w1, e.w2, e.w3])
  let s2 : State := s1.retire.modCore c (fun k =>
    { k with handlers := tblSet k.handlers cls e,
             landing := if old.w2 = e.w2 then k.landing else tblSet k.landing cls { used := [], next := 0 } })
  s2.entryChanged c cls old.hState e.hState

/-- R145: whether a class of a core still has a cell of its area in use or a start that pends. -/
def Core.areaBusy (k : Core) (cls : Nat) : Bool :=
  !(k.landingOf cls).used.isEmpty || k.pending.any (fun p => p.cls == cls)

/-- R374: `wtab`. -/
def execWtab (a b : GReg) (ea eb : Bool) (s : State) : Host.Outcome State Fault Refusal :=
  entered (.wtab a b ea eb) s (fun s =>
    let cls := bits (s.g a) 5 0
    if bits (s.g a) 63 6 ≠ 0 then s.illegal (0x200 + cls)
    else
      match s.readBlock (s.g b) 32 32 true with
      | .stop t => t
      | .data d s1 =>
        let e : Words4 := { w0 := blockWord d 0, w1 := blockWord d 1, w2 := blockWord d 2, w3 := blockWord d 3 }
        let old := s.myCore.handler cls
        if handlerBad e then s1.illegal (0x200 + cls)
        else if s.overFloor s.cur.core e then s1.trap 6 0 (wordOf (0x200 + cls))
        else if old.w2 ≠ e.w2 && (old.hState == 1 || s.me.landed.map (fun l => l.1) == some cls || s.me.hclass == some cls) then s1.illegal (0x200 + cls)
        else if old.w2 ≠ e.w2 && s.myCore.areaBusy cls then s.stallFor .frozen
        else
          match s1.savePlace cls with
          | .stop t => t
          | .at_ p => s1.putEntry cls e p)

/-- An entry with another STATE. -/
def Words4.withState (e : Words4) (st : Nat) : Words4 := { e with w0 := wordOf (e.w0.toNat % 2 ^ 62 + st * 2 ^ 62) }

/-- R374: STATE of an entry that is not empty set. -/
def State.setState (s : State) (w : Word) (st : Nat) : State :=
  let cls := bits w 5 0
  let old := s.myCore.handler cls
  if bits w 63 6 ≠ 0 ∨ old.hState = 0 then s.illegal (0x200 + cls)
  else
    match s.savePlace cls with
    | .stop t => t
    | .at_ p => s.putEntry cls (old.withState st) p

/-- R374: `wclose`. -/
def execWclose (a : GReg) (ea : Bool) (s : State) : Host.Outcome State Fault Refusal :=
  entered (.wclose a ea) s (fun s => s.setState (s.g a) 2)
/-- R374: `wopen`. -/
def execWopen (a : GReg) (ea : Bool) (s : State) : Host.Outcome State Fault Refusal :=
  entered (.wopen a ea) s (fun s => s.setState (s.g a) 1)

/-! ### Row maps (R102 to R106, R375, R376) -/

/-- A row word: core, buffer, point, logical row (R375). -/
structure RowWord where
  core : Nat
  buf  : Nat
  pt   : Nat
  row  : Nat
  deriving DecidableEq, Repr

/-- The fields of a row word. -/
def rowWord (w : Word) : RowWord := { core := bits w 63 49, buf := bits w 48 47, pt := bits w 46 45, row := bits w 10 0 }

/-- R375: the form checks of a row word and a physical row. -/
def rowFormOk (w : Word) (prow : Nat) : Bool :=
  let r := rowWord w
  bits w 44 11 == 0 && isCompute r.core && r.buf != 0 && decide (r.row < bufRows r.buf) && decide (prow < bufPhys r.buf)

/-- Whether a logical row of a buffer uses a physical row. -/
def State.physUsed (s : State) (c b p : Nat) : Bool := (List.range (bufRows b)).any (fun r => s.rowOf c b r == some p)

/-- A logical row's bytes zeroed and their valid bits cleared. -/
def State.zeroRow (s : State) (c b r : Nat) : State := s.zero { sp := .buf c b, off := 64 * r } 64

/-- R375: `rmap`. -/
def execRmap (a b : GReg) (ea eb : Bool) (s : State) : Host.Outcome State Fault Refusal :=
  entered (.rmap a b ea eb) s (fun s =>
    let r := rowWord (s.g a)
    let w := s.g b
    let p := bits w 10 0
    if !(rowFormOk (s.g a) p && bits w 62 11 == 0 && (wbit w 63 || p == 0)) then s.illegal 0x1010
    else if wbit w 63 then
      (if (s.rowOf r.core r.buf r.row).isSome || s.physUsed r.core r.buf p || !s.rowGood r.core r.buf p r.pt then s.trap 6 0 0
       else ((s.setRow r.core r.buf r.row (some p)).zeroRow r.core r.buf r.row).retire)
    else if (s.rowOf r.core r.buf r.row).isNone || !((s.core r.core).stepHold || tblGet false s.dieParked (coreDie r.core)) then
      s.trap 6 0 0
    else ((s.setRow r.core r.buf r.row none).zeroRow r.core r.buf r.row).retire)

/-- R376: `evac`. Contents lie at the logical row, so the move of data, valid bits and check bits (R106) is the new map. -/
def execEvac (a b : GReg) (ea eb : Bool) (s : State) : Host.Outcome State Fault Refusal :=
  entered (.evac a b ea eb) s (fun s =>
    let r := rowWord (s.g a)
    let p := bits (s.g b) 10 0
    if !(rowFormOk (s.g a) p && bits (s.g b) 63 11 == 0) then s.illegal 0x1011
    else if (s.rowOf r.core r.buf r.row).isNone || s.physUsed r.core r.buf p || !s.rowGood r.core r.buf p r.pt then s.trap 6 0 0
    else (s.setRow r.core r.buf r.row (some p)).retire)

end Sys2Proof.Machine
end

