-- ==== Sys2Proof/Machine/Fetch.lean ====
section
/-! DEFINITION. Fetching a group, its port, and which slot of a core issues next (R9 to R14, R175, R246 to R249). -/

namespace Sys2Proof.Machine

/-! ### Fetch (R249) -/

/-- What fetching one word finds; `lost` is a double-bit error (R98, R109). -/
inductive FetchedWord | word (w : IWord) | fault | miss | lost (l : Loc)
  deriving DecidableEq, Repr

/-- R249: one word for a slot of core `c`. -/
def State.fetchWord (s : State) (c : Nat) (fw : Bool) (ctx : Nat) (va : Word) : FetchedWord :=
  if !canonical va then .fault
  else
    match s.translate c fw ctx va with
    | .miss => .miss
    | .hole => .fault
    | .page p =>
      if !p.x then .fault else if s.meetsError p.loc 4 false then .lost p.loc else .word (BitVec.ofNat 32 (s.readNat p.loc 4))

/-- What fetching a group finds: its words, the index of a word that faults or whose page is missing, or where a double-bit error is. -/
inductive Fetched | words (ws : List IWord) | fault (i : Nat) | miss (i : Nat) | lost (l : Loc)
  deriving DecidableEq, Repr

/-- R247: words one after the other until the group needs no more; `k` bounds them. -/
def State.fetchGo (s : State) (c : Nat) (fw : Bool) (ctx : Nat) (pc : Word) : Nat → List IWord → Fetched
  | 0, ws => .words ws
  | k + 1, ws =>
    if needsWord ws then
      match s.fetchWord c fw ctx (pc + wordOf (4 * ws.length)) with
      | .word w => s.fetchGo c fw ctx pc k (ws ++ [w])
      | .fault => .fault ws.length
      | .miss => .miss ws.length
      | .lost l => .lost l
    else .words ws

/-- The group at a slot's PC, bits 1:0 of which are ignored (R246). -/
def State.fetchGroup (s : State) (c n : Nat) : Fetched :=
  let w := (s.slot c n).w
  s.fetchGo c w.ctl.fw w.ctl.ctx (w.pc &&& ~~~3) 4 []

/-- R10: whether a group goes to the vector port: vector, link engine and GMU members. -/
def vectorPort (ws : List IWord) : Bool :=
  match (splitPrefixes ws).2.2 with
  | w :: _ =>
    let op := fld w.toNat 26 6
    (decide (0x20 ≤ op) && decide (op ≤ 0x26)) || op == 0x28 || op == 0x2B
  | [] => false

/-! ### Candidates (R10 to R13, R175, R287) -/

/-- R175: whether a core fetches in its present cycle. -/
def Core.dutyOpen (k : Core) : Bool :=
  let c := k.cyc.toNat % 16
  decide (c * k.fdr / 16 < (c + 1) * k.fdr / 16)

/-- R287: whether `yield` keeps a slot from a port now; port 1 is the vector port. -/
def Slot.yields (x : Slot) (port : Nat) : Bool :=
  match x.yielded with
  | some (t, a, b) => decide (0 < t) && (if port = 1 then b else a)
  | none => false

/-- R287: `d` cycles of the core pass for a slot that has yielded. -/
def Slot.passed (d : Nat) (x : Slot) : Slot :=
  match x.yielded with
  | some (t, a, b) => { x with yielded := if d < t then some (t - d, a, b) else none }
  | none => x

/-- Whether a slot may issue a group at all, its core fetching for it (R13). -/
def State.runnable (s : State) (c n : Nat) : Bool :=
  let k := s.core c
  let x := k.slot n
  x.busy && !x.frozen && !k.halted && (decide (n < 2) || k.dutyOpen)

/-- The port that a slot's next group needs: 0 scalar, 1 vector. A group that cannot be fetched goes to the scalar port. -/
def State.portOf (s : State) (c n : Nat) : Nat :=
  match s.fetchGroup c n with
  | .words ws => b2n (vectorPort ws)
  | _ => 0

/-- The two slots of a level, the one that did not issue last on the port first (R10). -/
def Core.turnOrder (k : Core) (port lvl : Nat) : List Nat :=
  if tblGet (2 * lvl + 1) k.robin (4 * port + lvl) = 2 * lvl then [2 * lvl + 1, 2 * lvl] else [2 * lvl, 2 * lvl + 1]

/-- R10: the slot that a port picks: the highest level with a candidate, round-robin within it. -/
def Core.pick (k : Core) (port : Nat) (cand : Nat → Bool) : Option Nat :=
  ([0, 1, 2, 3].flatMap (k.turnOrder port)).find? cand

/-- The level of greatest age among those with a candidate; ties go to the lower-priority level. -/
def Core.oldest (k : Core) (port : Nat) (cand : Nat → Bool) : Option Nat :=
  [3, 2, 1, 0].foldl (fun best lvl =>
    if !(k.turnOrder port lvl).any cand then best
    else
      match best with
      | none => some lvl
      | some b => if tblGet 0 k.ages b < tblGet 0 k.ages lvl then some lvl else some b) none

/-- R12: the slot that a port picks in an anti-starvation turn. -/
def Core.pickOldest (k : Core) (port : Nat) (cand : Nat → Bool) : Option Nat :=
  match k.oldest port cand with
  | some lvl => (k.turnOrder port lvl).find? cand
  | none => k.pick port cand

/-- R10, R12: what a port picks among candidates in the core's present cycle. -/
def Core.choose (k : Core) (port : Nat) (cand : Nat → Bool) : Option Nat :=
  if k.cyc.toNat % 16 = 0 then k.pickOldest port cand else k.pick port cand

/-- R10, R13: what both ports of a core pick in its present cycle, from the slots that could issue with their ports: port and slot, the
vector port's first. A slot that has yielded counts only while no other slot of the core is a candidate (R287). -/
def Core.picks (k : Core) (ready : List (Nat × Nat)) : List (Nat × Nat) :=
  let may := ready.filter (fun r => decide (r.1 < 2) || k.dutyOpen)
  let free := may.filter (fun r => !(k.slot r.1).yields r.2)
  [1, 0].filterMap (fun port =>
    (k.choose port (fun n => (if free.isEmpty then may else free).contains (n, port))).map (fun n => (port, n)))

/-- R12, R10: the ages after a cycle in which the slots of `issued` issued and those of `ready` could have; the last slot of a
port's level is recorded. -/
def Core.aged (k : Core) (ready issued : List Nat) : Core :=
  { k with ages := [0, 1, 2, 3].foldl (fun t lvl =>
      if issued.any (fun n => n / 2 == lvl) then tblSet t lvl 0
      else if ready.any (fun n => n / 2 == lvl) then tblSet t lvl (tblGet 0 t lvl + 1)
      else t) k.ages }

/-- A slot issued on a port: its turn is recorded, and other slots that yielded there may issue again (R10, R287). -/
def Core.issuedOn (k : Core) (port n : Nat) : Core :=
  { k with
    robin := tblSet k.robin (4 * port + n / 2) n
    slots := k.slots.map (fun e =>
      (e.1, if e.1 = n then e.2
            else match e.2.yielded with
                 | some (t, a, b) => { e.2 with yielded := some (t, a && port != 0, b && port != 1) }
                 | none => e.2)) }

/-- The picks of a core recorded: the ages of its levels and the last slot of each (R10, R12), and the groups charged (R379). -/
def Core.recorded (k : Core) (ready picks : List (Nat × Nat)) : Core :=
  let k1 : Core := picks.foldl (fun k p => k.issuedOn p.1 p.2) (k.aged (ready.map (fun r => r.1)) (picks.map (fun p => p.2)))
  { k1 with acts := { k1.acts with groups := k1.acts.groups + picks.length } }

/-- R12: the anti-starvation turn of a core, in a cycle whose count is a multiple of 16: the core takes its picks next. -/
def execAntiStarvationTurn (core : Nat) (s : State) : Host.Outcome State Fault Refusal :=
  occurs (isCore core) (if (s.core core).cyc.toNat % 16 ≠ 0 then s else { s with agenda := .picks core :: s.agenda })

/-- R175: the FDR that a core takes at its next window. -/
def State.dutyOf (s : State) (c : Nat) : Nat := s.leastDuty c (s.core c).share

/-- R175: a new FDR value takes effect at a window boundary. -/
def execFetchDutyWindow (core : Nat) (s : State) : Host.Outcome State Fault Refusal :=
  occurs (isCore core) (s.modCore core (fun k => { k with fdr := s.dutyOf core }))

/-! ### Issuing a group (R75, R247, R256, R262) -/

/-- What issuing a slot's next group comes to: an instruction to execute on a state, or the state after it. -/
inductive Issue | exec (i : Instr) (t : State) | done (t : State)
  deriving DecidableEq, Repr

/-- The group about to issue, recorded. -/
def State.setCur (s : State) (c n len : Nat) (m : Option Modifier) : State :=
  { s with cur := { core := c, slot := n, pc := (s.slot c n).w.pc &&& ~~~3, len := len, mod := m } }

/-- Whether a guard lets its instruction act (R256): p XOR n. -/
def State.guardHolds (s : State) (g : Option (PReg × Bool)) : Bool :=
  match g with
  | some (p, n) => s.pr p != n
  | none => true

/-- Whether a slot stands inside its instruction, not at a boundary: its GMU request waits or runs (R206). -/
def State.insideGmu (s : State) (c n : Nat) : Bool :=
  (s.core c).gmu.any (fun q => q.slot == n && q.work == (s.slot c n).w.id)

/-- The next group of slot `n` of core `c`: a deferred trap goes first (R192); the trap of a GMU request that ended while the team was
leaving is taken at its instruction (R219); a word that cannot be fetched traps or waits; a
group that breaks the encoding traps, and one whose guard is false completes, its registers in bounds (R263). -/
def State.issueAt (s : State) (c n : Nat) : Issue :=
  let x := s.slot c n
  if !(x.busy && !x.frozen && !(s.core c).halted) then .done s
  else if !x.w.deferred.isEmpty && x.waiting.isEmpty && !s.insideGmu c n then .exec (.deferredTrapDelivery c n) s
  else
    match s.fetchGroup c n with
    | .miss i =>
      let t := s.setCur c n (i + 1) none
      .done (t.stallFor (.walk (t.cur.pc + wordOf (4 * i)) 2))
    | .fault i =>
      let t := s.setCur c n (i + 1) none
      .done (t.trap 6 (t.cur.pc + wordOf (4 * i)) 2)
    | .lost l => .done (s.eccAbort l 4 false x.w.ctl.fw x.w.ctl.ctx c)
    | .words ws =>
      match decodeGroup ws with
      | .bad reason i len =>
        let t := s.setCur c n len none
        .exec (.encodingError reason (t.cur.pc + wordOf (4 * i)) (ws.getD i 0)) t
      | .group g =>
        let t := s.setCur c n g.len g.mod
        match x.w.gmTrap with
        | some d => .done ((t.modWork c n (fun w => { w with gmTrap := none })).trap d.cause d.eaddr d.einfo)
        | none =>
        if !withinAllot x.w.ctl.allot (operands g.instr) then .exec g.instr t
        else if t.guardHolds g.guard then .exec g.instr t
        else .done t.retire

/-- R262: the group that is issuing breaks the encoding. -/
def execEncodingError (reason : Nat) (addr : Word) (word : IWord) (s : State) : Host.Outcome State Fault Refusal :=
  .next (s.trap 1 addr (wordOf (word.toNat * 2 ^ 32 + reason)))

end Sys2Proof.Machine
end

