-- ==== Sys2Proof/Machine/Dispatcher.lean ====
section
/-! DEFINITION. The dispatcher: starting tasks and handlers, deferred traps, refill, stealing, stage items, the stage governor, wakes
and team swaps (R15 to R42, R84, R122 to R126, R134, R160, R192, R195, R304, R308, R360, R370). -/

namespace Sys2Proof.Machine

/-! ### Starting work (R17, R21, R22) -/

/-- The identity of a task: TEAM and THR all ones (R79). -/
def taskTid : Word := 0xFFFFFFFFFF

/-- New work of core `c`: its owner's context and the core's defaults (R21, R36), at a multiple of 4 (R246). -/
def State.newWork (s : State) (c lvl allot : Nat) (pc frame g2 g3 : Word) (team : Option Nat) : Work :=
  let k := s.core c
  let own := (s.ownerOf c).getD (false, 0)
  { Work.reset with
    id := s.nextId
    lvl := lvl
    team := team
    pc := pc &&& ~~~3
    regs := ((Regs.reset.setG 1 frame).setG 2 g2).setG 3 g3
    ctl := { Ctl.reset with tid := taskTid, allot := allot, frame := frame, fw := own.1, ctx := own.2, fpc := k.dfpc, nfc := k.dnfc,
                            gmc := k.dgmc } }

/-- A slot takes work, with the FPC and NFC that its instruction had captured (R266). A scope-missed access that the slot still holds stays
with it (log entry 15). -/
def Slot.takes (x : Slot) (w : Work) (res : Bool) : Slot :=
  { Slot.reset with
    busy := true
    res := res
    held := x.held
    cap := w.capHeld
    w := { w with capHeld := none, ctl := if x.held.isSome then { w.ctl with smr := x.w.ctl.smr } else w.ctl } }

/-- Work starts in slot `n` of core `c`, its first step the level's reserve where that is free (R16). -/
def State.startIn (s : State) (c n : Nat) (w : Work) : State :=
  s.bump.modCore c (fun k => { k.setSlot n ((k.slot n).takes w (k.reserveFree (n / 2))) with idle := if n < 6 then k.idle else 0 })

/-- R167: the record of a codelet entry. -/
def State.codelet (s : State) (c : Nat) (e : Entry) : Words4 :=
  match selfPlace e.frame with
  | some (b, off) => s.record { sp := .buf c b, off := off }
  | none => { w0 := 0, w1 := 0, w2 := 0, w3 := 0 }

/-- R98: whether the record of a codelet entry holds a double-bit error. -/
def State.codeletLost (s : State) (c : Nat) (e : Entry) : Bool :=
  match selfPlace e.frame with
  | some (b, off) => s.meetsError { sp := .buf c b, off := off } 32 false
  | none => false

/-- R167: whether a codelet entry fails. -/
def State.codeletBad (s : State) (c : Nat) (r : Words4) : Bool :=
  bits r.w0 61 59 == 0 || decide (4 < bits r.w0 61 59) ||
  (bits r.w0 63 62 == 0 && !(match s.ownerOf c with | some (fw, _) => fw | none => false))

/-- The head of a level: that of its ring; for L3, with nothing in the ring, the bottom of the core's deque (R28). The flag says
which. -/
def Core.head (k : Core) (lvl : Nat) : Option (Entry × Bool) :=
  match (k.ring lvl).chip with
  | e :: _ => some (e, false)
  | [] => if lvl = 3 && (k.ring lvl).spill.isEmpty then k.deque.getLast?.map (fun e => (e, true)) else none

/-- The head taken. -/
def State.dropHead (s : State) (c lvl : Nat) (deque : Bool) : State :=
  s.modCore c (fun k =>
    if deque then { k with deque := k.deque.dropLast }
    else k.setRing lvl { k.ring lvl with chip := (k.ring lvl).chip.drop 1 })

/-- R16, R17, R31: the slot that a head of `allot` steps may start in now. -/
def State.slotFor (s : State) (c lvl allot : Nat) (share : Bool) : Option Nat :=
  let k := s.core c
  let free := k.freeSlots lvl
  if share then free.head?
  else if k.needs lvl allot ≤ k.freeSteps && (k.needs lvl allot == 0 || !s.higherWaits c lvl) &&
          decide ((if lvl = 3 then k.reservedSlots else 0) < free.length) then free.head?
  else none

/-- The parked work that a resume entry names. -/
def State.parkedOf (s : State) (e : Entry) : Option Parked := s.parked.find? (fun p => some p.id == e.parked)

/-- R169: work woken from a join cell before its count is zero parks again, behind what has parked since (R134). -/
def State.parkAgain (s : State) (p : Parked) (l : Loc) : State :=
  ({ s.bump with parked := s.parked.map (fun x => if x.id == p.id then { x with id := s.nextId, ready := false } else x) } : State).addWatch
    p.core (l.key / 64) s.nextId p.w.ctl.fw p.w.ctl.ctx

/-- R98, R109: a join cell that work is to be resumed from holds a double-bit error: the abort, after which work of a context that it spares
goes on (log entry 83). -/
def State.cellLost (s : State) (c : Nat) (p : Parked) (l : Loc) : State :=
  let t := s.eccAbort l 16 false p.w.ctl.fw p.w.ctl.ctx c
  { t with parked := t.parked.map (fun x => if x.id == p.id then { x with wait := .time } else x) }

/-- A resume entry starts (R27); work parked on a join cell goes on only when the count is zero. -/
def State.resume (s : State) (c n : Nat) (p : Parked) : State :=
  ({ s with parked := s.parked.filter (fun x => x.id != p.id) } : State).startIn c n p.w

/-- The work of an entry that is no codelet and no resume. -/
def State.entryWork (s : State) (c : Nat) (e : Entry) : Work :=
  let w := s.newWork c e.lvl e.allot e.pc e.frame e.g2 e.g3 e.team
  if e.kind = 6 then
    { w with thread := true, ctl := { w.ctl with tid := wordOf (e.g2.toNat % 2 ^ 32 * 256 + e.g3.toNat % 256) } }
  else { w with landed := e.landed, hclass := e.hclass }

/-- R167: a codelet entry at the head of a level that has a free slot: its record is read now; it fails, moves, or starts. MARK (DESIGN
CHOICE, log entry 107): it fails or moves then even where the steps for its start are not free. -/
def State.startCodelet (s : State) (c lvl : Nat) (e : Entry) (dq : Bool) : State :=
  let r := s.codelet c e
  let lv := bits r.w0 63 62
  if s.codeletLost c e then s.abortOwner c 6
  else if s.codeletBad c r then (s.dropHead c lvl dq).event c 1 8 e.frame 0x705
  else if lv ≠ lvl then (s.dropHead c lvl dq).pushReady c lv { e with lvl := lv }
  else
    match s.slotFor c lvl (bits r.w0 61 59) false with
    | some n => (s.dropHead c lvl dq).startIn c n (s.newWork c lvl (bits r.w0 61 59) (entryPc r.w1) r.w2 0 0 none)
    | none => s

/-- A level's head starts, moves or fails (R17, R27, R31, R167). -/
def State.startHead (s : State) (c lvl : Nat) (e : Entry) (dq : Bool) : State :=
  match e.kind with
  | 1 => if (s.slotFor c lvl 0 false).isSome then s.startCodelet c lvl e dq else s
  | 4 =>
    (match s.parkedOf e with
     | none => s.dropHead c lvl dq
     | some p =>
       match p.wait with
       | .cell l =>
         if s.meetsError l 16 false then s.cellLost c p l
         else if s.cellCount l ≠ 0 then (s.dropHead c lvl dq).parkAgain p l
         else (match s.slotFor c lvl p.w.ctl.allot false with
               | some n => (s.dropHead c lvl dq).resume c n { p with w := { p.w with pc := s.cellCont l } }
               | none => s)
       | _ =>
         match s.slotFor c lvl p.w.ctl.allot false with
         | some n => (s.dropHead c lvl dq).resume c n p
         | none => s)
  | _ =>
    match s.slotFor c lvl e.allot e.share with
    | some n => (s.dropHead c lvl dq).startIn c n (s.entryWork c e)
    | none => s

/-- R28, R125: the bottom entry of a core's deque, read from its place, starts. -/
def State.popDeque (s : State) (c : Nat) (e : Entry) : State :=
  let j := (s.core c).deque.length - 1
  let r := s.loadEntry c (s.dequeVa c j) e
  s.atDeque c j (if r.1.aborting c && !s.aborting c then r.1 else r.1.startHead c 3 r.2 true)

/-- R17: the head of a level's ready ring starts. An event in the L0 event queue goes before the L0 ring's head (R124); starts wait
while the core is halted or held for a step of its island (R105). -/
def execTaskStart (core lvl : Nat) (s : State) : Host.Outcome State Fault Refusal :=
  occurs (isCore core && decide (lvl < 4))
    (let k := s.core core
     if k.halted || k.stepHold || (lvl == 0 && !k.events.isEmpty) then s
     else
       match k.head lvl with
       | some (e, false) => s.startHead core lvl e false
       | some (e, true) => if (s.slotFor core lvl 0 false).isSome then s.popDeque core e else s
       | none => s)

/-! ### Handlers of the L0 event queue (R25, R124, R370) -/

/-- The work of a handler at TVEC. -/
def State.handlerWork (s : State) (c : Nat) (e : Event) : Work :=
  let w := s.newWork c 0 1 ((s.core c).tvec &&& ~~~3) 0 0 0 none
  { w with events := true, ctl := { w.ctl with epc := e.epc, ecause := e.ecause, eaddr := e.eaddr, einfo := e.einfo, eslot := wordOf e.eslot } }

/-- R370: whether the default handler's action on an event must wait for its slot. -/
def State.defaultWaits (s : State) (c : Nat) (e : Event) : Bool :=
  causeKind e.ecause == 0 && bits e.ecause 7 0 == 5 && (s.core c).actionWaits e.eslot 0 2

/-- R370: what the default handler does with an entry of the event queue. FMTREAD concerns a held packet where it names no slot (R431). -/
def State.defaultHandler (s : State) (c : Nat) (e : Event) : State :=
  match causeKind e.ecause, bits e.ecause 7 0 with
  | 0, 5 => s.returnFrom c e.eslot 0 2 (bits e.einfo 63 32) e.epc
  | 2, 0x12 =>
    let v := wordOf (8 + bits (s.slot c e.eslot).w.ctl.smr 56 54)
    if smrWriteOk (s.slot c e.eslot) v then s.reissue c e.eslot v else s
  | 2, 0xA => if e.eslot = 8 then s.fmthRefuseAt c else s
  | 2, _ => s
  | _, _ => if (s.slot c e.eslot).busy && (s.slot c e.eslot).frozen then s.abortOwner c 12 else s

/-- The entry at position `i` of the event queue taken. -/
def State.dropEvent (s : State) (c i : Nat) : State :=
  s.modCore c (fun k => { k with events := k.events.take i ++ k.events.drop (i + 1) })

/-- R25, R124, R370: a free L0 slot takes the head of the event queue. With TVEC 0 the default handler acts at once; one whose action
waits for its slot keeps its L0 slot, and the entry behind it may go first (log entry 32). -/
def execL0HandlerStart (core : Nat) (s : State) : Host.Outcome State Fault Refusal :=
  occurs (isCore core)
    (let k := s.core core
     if k.halted then s
     else if k.tvec = 0 then
       (match s.slotFor core 0 1 false with
        | none => s
        | some _ =>
          let n := (k.freeSlots 0).length
          match (List.range (min n (k.events.length - k.evSpilled))).find? (fun i => match k.events[i]? with | some e => !s.defaultWaits core e | none => false) with
          | none => s
          | some i =>
            match k.events[i]? with
            | some e => (s.dropEvent core i).defaultHandler core e
            | none => s)
     else
       match k.events.take (k.events.length - k.evSpilled), s.slotFor core 0 1 false with
       | e :: _, some n => (s.dropEvent core 0).startIn core n (s.handlerWork core e)
       | _, _ => s)

/-- R84, R192: a deferred trap is taken at its slot's boundary: LEN is 0 and EINFO the originating PC (R283). It waits while an
earlier store of the slot awaits translation (log entry 11). -/
def execDeferredTrapDelivery (core slot : Nat) (s : State) : Host.Outcome State Fault Refusal :=
  occurs (isCore core && decide (slot < 8))
    (let x := s.slot core slot
     match x.w.deferred with
     | [] => s
     | d :: t =>
       if x.busy && !x.frozen && x.waiting.isEmpty && !s.insideGmu core slot then
         (s.modWork core slot (fun w => { w with deferred := t })).takeTrap core slot 1 d.cause 0 (x.w.pc &&& ~~~3) d.eaddr d.einfo
       else s)

/-- R123, R124: spilled entries of a level move to the on-chip tail, oldest first; for L0 spilled events too. What the core owes to its queues
in memory is written first. -/
def execSpillRefill (core lvl : Nat) (s : State) : Host.Outcome State Fault Refusal :=
  occurs (isCore core && decide (lvl < 4))
    (let s0 := s.payOwed core
     let s1 : State := if ((s0.core core).ring lvl).spill.isEmpty then s0 else s0.refill core lvl
     if lvl = 0 then State.refillEvents core 16 s1 else s1)

/-! ### Stealing (R29, R125) -/

/-- R29: whether a core's L3 is idle. -/
def Core.l3Idle (k : Core) : Bool :=
  !k.halted && !(k.freeSlots 3).isEmpty && (k.ring 3).chip.isEmpty && (k.ring 3).spill.isEmpty && k.deque.isEmpty

/-- R41: whether an entry's team is on its way out. -/
def State.teamLeaving (s : State) (e : Entry) : Bool := s.teams.any (fun t => some t.id == e.team && (t.leaving || !t.resident))

/-- R29: whether a victim has an entry to give to a thief of its context. -/
def State.gives (s : State) (thief victim : Nat) : Bool :=
  match (s.core victim).deque with
  | e :: _ => thief != victim && isCompute thief && isCompute victim && s.ownerOf thief == s.ownerOf victim && (s.ownerOf thief).isSome &&
      !s.teamLeaving e && !s.parking (coreDie victim)
  | [] => false

/-- A victim gives its top entry, read from its place, which the thief will run as an L3 task. -/
def State.steal (s : State) (thief victim : Nat) : State :=
  match (s.core victim).deque with
  | e :: _ =>
    let r := s.loadEntry victim (s.dequeVa victim 0) e
    s.atDeque victim 0
      (if r.1.aborting victim && !s.aborting victim then r.1
       else ((r.1.modCore victim (fun k => { k with deque := k.deque.drop 1, dqTop := (k.dqTop + 1) % 4096 })).modCore thief
         (fun k => { k with idle := 0 })).pushReady thief 3 r.2)
  | [] => s

/-- R29: a steal request reaches a victim. -/
def execStealRequest (thief victim : Nat) (s : State) : Host.Outcome State Fault Refusal :=
  occurs (isCore thief && isCore victim)
    (if (s.core thief).l3Idle && s.gives thief victim then s.steal thief victim else s)

/-- The elements of a list from the one after position `i` on, then those before it. -/
def after {α : Type} (l : List α) (i : Nat) : List α := l.drop (i + 1) ++ l.take i

/-- The core of a cluster whose deque is deepest, the first of them in cluster order. -/
def State.deepest (s : State) (n : Nat) : Nat :=
  (clusterCores n).foldl (fun best c => if (s.core best).deque.length < (s.core c).deque.length then c else best) (coreAt n 0)

/-- R29: the victims of a round, in order. -/
def State.victims (s : State) (c : Nat) : List Nat :=
  let cl := clusterOf c
  let ring := after (clusterCores cl) (orderOf c)
  let far := (dieClusters (cl / 64)).filter (fun n => n != cl && (s.cluster n).owner.isSome && (s.cluster n).owner == (s.cluster cl).owner)
  ring.filter (fun v => quadOf v == quadOf c) ++ (clusterCores cl).filter (fun v => v != c && quadOf v != quadOf c) ++ far.map s.deepest

/-- R29: the round of a core that has been idle for 64 cycles; one that fails waits another 64. -/
def execStealRound (core : Nat) (s : State) : Host.Outcome State Fault Refusal :=
  occurs (isCore core)
    (let k := s.core core
     if isCompute core && k.l3Idle && decide (64 ≤ k.idle) then
       (match (s.victims core).find? (s.gives core) with
        | some v => s.steal core v
        | none => s.modCore core (fun k => { k with idle := 0 }))
     else s)

/-! ### Stages (R33, R34, R126, R160) -/

/-- The stage a core subscribes to. -/
def Core.stage (k : Core) : Option Nat := if 8 ≤ k.stg then some (k.stg % 8) else none

/-- R33: whether a core could pop an item of stage `i` of its cluster now. -/
def State.popReady (s : State) (c i : Nat) : Bool :=
  let k := s.core c
  let allot := bits ((s.cluster (clusterOf c)).cfgWord i 0) 62 60
  k.stage == some i && !isMc c && !k.halted && !k.stepHold && decide (1 ≤ allot) && (k.ring 2).chip.isEmpty && (k.ring 2).spill.isEmpty &&
  (s.slotFor c 2 allot false).isSome

/-- R126: whether a subscriber of lower cluster order than a core is ready too. -/
def State.poppedBefore (s : State) (c i : Nat) : Bool :=
  ((clusterCores (clusterOf c)).take (orderOf c)).any (fun x => s.popReady x i)

/-- R33: a subscribed core pops an item and starts it as an L2 task; of two that are ready the one of lower cluster order is first
(R126). -/
def execStagePop (core : Nat) (s : State) : Host.Outcome State Fault Refusal :=
  occurs (isCore core)
    (let k := s.core core
     let n := clusterOf core
     match k.stage with
     | none => s
     | some i =>
       let w0 := (s.cluster n).cfgWord i 0
       let allot := bits w0 62 60
       match tblGet [] (s.cluster n).stages i, s.slotFor core 2 allot false with
       | item :: t, some slot =>
         if s.popReady core i && !s.poppedBefore core i then
           let w := s.newWork core 2 allot (entryPc w0) ((s.cluster n).cfgWord i 1) item 0 none
           ((s.modCluster n (fun c => { c with stages := tblSet c.stages i t })).startIn core slot { w with hclass := some (64 + i) })
         else s
       | _, _ => s)

/-- Items in a stage's ring. -/
def Cluster.occupancy (k : Cluster) (i : Nat) : Nat := (tblGet [] k.stages i).length

/-- The governor's count of a stage. -/
def Cluster.govOf (k : Cluster) (i : Nat) : Gov := tblGet { lo := k.occupancy i, hi := k.occupancy i, highs := 0, lows := 0, fresh := false } k.gov i

/-- R160: one more sample of every governed stage; a stage with GEN 0 has no window. -/
def Cluster.sampled (k : Cluster) : Cluster :=
  { k with gov := (List.range 8).foldl (fun t i =>
      if wbit (k.cfgWord i 0) 63 then
        let g := k.govOf i
        tblSet t i { g with lo := min g.lo (k.occupancy i), hi := max g.hi (k.occupancy i) }
      else tblDel t i) k.gov }

/-- R34, R160: a stage's count at the end of a window, in which its thresholds took effect at its start. -/
def Cluster.window (k : Cluster) (i : Nat) : Gov :=
  let g := k.govOf i
  let w2 := k.cfgWord i 2
  let o := k.occupancy i
  if g.fresh then { lo := o, hi := o, highs := 0, lows := 0, fresh := false }
  else { lo := o, hi := o, highs := if bits w2 24 16 < g.lo then g.highs + 1 else 0, lows := if g.hi < bits w2 8 0 then g.lows + 1 else 0,
         fresh := false }

/-- Numbers sorted by a key, ties in rising order. -/
def insertBy (key : Nat → Nat) (x : Nat) : List Nat → List Nat
  | [] => [x]
  | y :: t => if key y ≤ key x then y :: insertBy key x t else x :: y :: t

/-- The stages in order of a key. -/
def sortBy (key : Nat → Nat) (l : List Nat) : List Nat := l.foldl (fun a x => insertBy key x a) []

/-- R34: the subscriber to move from one stage to another: the one of lowest cluster order, never the last. A low stage that has one
subscriber or none keeps its place in the pairing, and its pair moves nobody (log entry 91). -/
def State.moveSubscriber (s : State) (n lo hi : Nat) : State :=
  let subs := (clusterCores n).filter (fun c => (s.core c).stage == some lo && (s.core c).stgMove.isNone)
  match subs with
  | c :: _ :: _ =>
    let s1 : State := s.modCore c (fun k => ({ k with stgMove := some hi, stgWorks := k.stageWorks } : Core).settleStage)
    s1.modCluster n (fun k => { k with gov := [lo, hi].foldl (fun t i => tblSet t i { k.govOf i with highs := 0, lows := 0 }) k.gov })
  | _ => s

/-- R34: the end of a window: the high stages by falling occupancy are paired with the low ones by rising occupancy. -/
def execGovernorWindow (cluster : Nat) (s : State) : Host.Outcome State Fault Refusal :=
  occurs (decide (cluster < 512))
    (let k := (s.cluster cluster).sampled
     let governed := (List.range 8).filter (fun i => wbit (k.cfgWord i 0) 63)
     let k1 : Cluster := { k with gov := governed.foldl (fun t i => tblSet t i (k.window i)) k.gov }
     let s1 : State := s.modCluster cluster (fun _ => k1)
     let highs := sortBy (fun i => 256 - k1.occupancy i) (governed.filter (fun i => decide (2 ≤ (k1.govOf i).highs)))
     let lows := sortBy k1.occupancy (governed.filter (fun i => decide (2 ≤ (k1.govOf i).lows)))
     (List.zip highs lows).foldl (fun t p => t.moveSubscriber cluster p.2 p.1) s1)

/-! ### Wakes (R134, R304, R308) -/

/-- R134: a wake reaches a core. -/
def execWatchWake (core line : Nat) (s : State) : Host.Outcome State Fault Refusal :=
  occurs (isCore core)
    (if s.wakes.contains (line, core) then
       ({ s with wakes := s.wakes.filter (fun w => !(w == (line, core))) } : State).wakeLine core line
     else s)

/-- Parked work whose deadline has passed. -/
def State.expired (s : State) (id : Nat) (watched : Bool) : Option Parked :=
  s.parked.find? (fun p => p.id == id && !p.ready && (match p.until_ with | some t => decide (t ≤ s.usec) | none => false) &&
    (match p.wait with | .line _ => watched | .time => !watched | _ => false))

/-- R304: the timeout of a `waita`. -/
def execWaitaTimeout (id : Nat) (s : State) : Host.Outcome State Fault Refusal :=
  .next (match s.expired id true with
    | some p => (s.unwatch p.core id).wake id
    | none => s)

/-- R308: the timeout of a `park`. -/
def execParkTimeout (id : Nat) (s : State) : Host.Outcome State Fault Refusal :=
  .next (match s.expired id false with
    | some _ => s.wake id
    | none => s)

/-! ### Placement (R38, R39) -/

/-- Slots of a core that a team's threads take: two, or one on a last core with a single thread. -/
def Team.threadsOn (t : Team) (j : Nat) : Nat := if 2 * j + 2 ≤ t.threads then 2 else 1

/-- Cores that a team needs. -/
def Team.coreCount (t : Team) : Nat := (t.threads + 1) / 2

/-- Rows of a buffer that a team holds on each of its cores. -/
def Team.rows (t : Team) (b : Nat) : Nat := if b = 1 then t.rowsW else if b = 2 then t.rowsA else t.rowsC

/-- The first row of a team's allocation in a buffer of a core. -/
def Team.baseOf (t : Team) (c b : Nat) : Nat := tblGet 0 t.bases (4 * c + b)

/-- Whether an entry is of a team. -/
def Entry.ofTeam (e : Entry) (t : Team) : Bool := e.team == some t.id

/-- Whether a core holds an entry of a team, in its deque or its L3 ring. -/
def Core.hasEntry (k : Core) (t : Team) : Bool :=
  k.deque.any (fun e => e.ofTeam t) || (k.ring 3).chip.any (fun e => e.ofTeam t) || (k.ring 3).spill.any (fun e => e.ofTeam t)

/-- Whether a team's work has ended: every thread, and every task, ready entry and fork of it on any core or saved with it. -/
def State.teamDone (s : State) (t : Team) : Bool :=
  decide (t.threads ≤ t.ended.length) && t.savedDq.all (fun e => e.2.isEmpty) && t.savedRdy.all (fun e => e.2.isEmpty) &&
  s.cores.all (fun e => !e.2.hasEntry t && e.2.slots.all (fun x => !(x.2.busy && x.2.w.team == some t.id)))

/-- The teams that hold rows of a core now. -/
def State.holders (s : State) (c : Nat) : List Team := s.teams.filter (fun t => t.resident && t.cores.contains c && !s.teamDone t)

/-- Whether rows `r` to `r + n - 1` of a buffer of a core are free of resident teams and below capacity. -/
def State.rowsFree (s : State) (c b r n : Nat) : Bool :=
  n == 0 || (decide (r + n ≤ s.spcap c b) &&
    (s.holders c).all (fun t => t.rows b == 0 || decide (r + n ≤ t.baseOf c b) || decide (t.baseOf c b + t.rows b ≤ r)))

/-- The lowest first row where `n` rows fit: at the floor or behind a resident team's rows. -/
def State.fitRow (s : State) (c b n : Nat) : Option Nat :=
  let f := s.floor c b
  let starts := sortBy id (f :: ((s.holders c).map (fun t => t.baseOf c b + t.rows b)).filter (fun r => decide (f ≤ r)))
  starts.find? (fun r => s.rowsFree c b r n)

/-- Free L3 slots of a core that no waiting thread and no share has a claim on. -/
def Core.l3Room (k : Core) : Nat :=
  (k.freeSlots 3).length - k.reservedSlots - (((k.ring 3).chip ++ (k.ring 3).spill).filter (fun e => e.kind == 6)).length

/-- R39: whether a core takes the `j`-th pair of a team's threads. -/
def State.coreTakes (s : State) (t : Team) (c j : Nat) : Bool :=
  !(s.core c).halted && !(s.core c).stepHold && !s.parking (coreDie c) && decide (t.threadsOn j ≤ (s.core c).l3Room) &&
  [1, 2, 3].all (fun b => (s.fitRow c b (t.rows b)).isSome)

/-- R39: the lowest qualifying cores, for the pairs from `j` on. -/
def State.coreList (s : State) (t : Team) : List Nat → Nat → List Nat
  | [], _ => []
  | c :: cs, j => if j < t.coreCount then (if s.coreTakes t c j then c :: s.coreList t cs (j + 1) else s.coreList t cs j) else []

/-- The entry of a team thread (KIND 6, the model's own). -/
def Team.threadEntry (t : Team) (i : Nat) : Entry :=
  { kind := 6, allot := t.allot, pc := t.entry, lvl := 3, frame := t.args, g2 := wordOf t.number, g3 := wordOf i, landed := none,
    hclass := none, parked := none, team := some t.id, share := false }

/-- R37, R39: a team placed on a cluster for the first time: its rows, its core list, its threads ready. Barriers that its threads turn
out not to lie in may complete (R44). `none` when the cluster cannot take it. -/
def State.placeOn (s : State) (t : Team) (n : Nat) : Option State :=
  let cs := s.coreList t (clusterCores n) 0
  if cs.length < t.coreCount then none
  else
    let bases := cs.foldl (fun m c => [1, 2, 3].foldl (fun m b => tblSet m (4 * c + b) ((s.fitRow c b (t.rows b)).getD 0)) m) []
    let t1 : Team := { t with cluster := n, cores := cs, bases := bases, placed := true, resident := true, since := s.nextId }
    let s1 : State := { s.bump with teams := s.teams.map (fun x => if x.id == t.id then t1 else x) }
    some ((List.range t.threads).foldl (fun u i => u.pushReady (t1.coreOf i) 3 (t1.threadEntry i)) s1).barSettle

/-- R39: a team dealt to the first cluster of its context that takes it. -/
def State.deal (s : State) (t : Team) : State :=
  let mine := (s.clusters.filter (fun e => e.2.owner == some t.ctx)).map (fun e => e.1)
  (mine.findSome? (fun n => s.placeOn t n)).getD s

/-! ### Team swaps (R40, R41, R195, R360) -/

/-- R42: whether the capacity of a cluster's cores lets a team be resident: of its own, or of as many as one never placed needs. One whose
rows are lost waits apart from the others. -/
def State.capacityFor (s : State) (t : Team) (n : Nat) : Bool :=
  if t.placed then
    t.cores.all (fun c => [1, 2, 3].all (fun b => t.rows b == 0 || decide (t.baseOf c b + t.rows b ≤ s.spcap c b)))
  else
    decide (t.coreCount ≤ ((clusterCores n).filter (fun c => [1, 2, 3].all (fun b =>
      t.rows b == 0 || decide (s.floor c b + t.rows b ≤ s.spcap c b)))).length)

/-- The teams that wait for a turn on a cluster, the longest-waiting first; one never placed waits on every cluster of its context. -/
def State.waitingTeams (s : State) (n : Nat) : List Team :=
  let ws := s.teams.filter (fun t => !t.resident && !s.teamDone t && s.capacityFor t n &&
    (if t.placed then t.cluster == n else (s.cluster n).owner == some t.ctx))
  (sortBy id (ws.map (fun t => t.since))).filterMap (fun k => ws.find? (fun t => t.since == k))

/-- The resident teams of a cluster that still have work, the longest-resident first. -/
def State.residentTeams (s : State) (n : Nat) : List Team :=
  let rs := s.teams.filter (fun t => t.resident && t.cluster == n && !s.teamDone t)
  (sortBy id (rs.map (fun t => t.since))).filterMap (fun k => rs.find? (fun t => t.since == k))

/-- The engines between two cores of which a team holds both, or exactly one; on a die that parks an engine counts as held whole, since
both its ends leave (R392). -/
def State.teamEngines (s : State) (t : Team) (both : Bool) : List Nat :=
  (s.engines.map (fun e => e.1)).filter (fun e =>
    ((t.cores.contains (engineLow e) && t.cores.contains (engineHigh e)) || s.parking (coreDie (engineLow e))) == both &&
    (t.cores.contains (engineLow e) || t.cores.contains (engineHigh e)))

/-- A team changed. -/
def State.modTeam (s : State) (id : Nat) (f : Team → Team) : State :=
  { s with teams := s.teams.map (fun t => if t.id == id then f t else t) }

/-- R40: a quantum boundary of a cluster: the longest-resident team begins to leave, its engines to stop at a row boundary. -/
def execSwapQuantum (cluster : Nat) (s : State) : Host.Outcome State Fault Refusal :=
  occurs (decide (cluster < 512))
    (let s1 : State := s.modCluster cluster (fun k => { k with quantum := s.usec })
     match s.waitingTeams cluster, s.residentTeams cluster with
     | _ :: _, t :: _ =>
       (s.teamEngines t true).foldl (fun u e => u.setEngine e { u.engine e with stop := true })
         (s1.modTeam t.id (fun t => { t with leaving := true }))
     | _, _ => s1)

/-- The slots that run a team's threads, with their work. -/
def State.threadSlots (s : State) (t : Team) : List (Nat × Nat × Work) :=
  t.cores.flatMap (fun c => [6, 7].filterMap (fun n =>
    let x := s.slot c n
    if x.busy && x.w.thread && x.w.team == some t.id then some (c, n, x.w) else none))

/-- Whether a slot of a core has a GMU request that has started. -/
def Core.gmuStarted (k : Core) (n : Nat) : Bool :=
  k.gmuBusy && (match k.gmu with | q :: _ => q.slot == n | [] => false)

/-- A work's registers apart from the destination of a GMU request that will be withdrawn are full (R41, R219). -/
def State.fillsDone (s : State) (c n : Nat) : Bool :=
  let x := s.slot c n
  let ds := ((s.core c).gmu.filter (fun q => q.slot == n)).map (fun q => q.d)
  x.w.regs.ge.all (fun e => !e.2 || ds.contains e.1) && x.w.regs.ve.all (fun e => !e.2)

/-- The key ranges of a team's scratchpad: first key and bytes. -/
def Team.ranges (t : Team) : List (Nat × Nat) :=
  t.cores.flatMap (fun c => [1, 2, 3].map (fun b => (({ sp := .buf c b, off := 64 * t.baseOf c b } : Loc).key, 64 * t.rows b)))

/-- Whether bytes of a place lie in a team's scratchpad. -/
def Team.holdsAt (t : Team) (l : Loc) (n : Nat) : Bool := t.ranges.any (fun r => meets l.key n r.1 r.2)

/-- Whether something under way is yet to be performed for a team's threads or in its scratchpad (R1, R231): an access of a thread or one
to its rows, a result row, or a multicast unit. -/
def State.stillComing (s : State) (t : Team) : Bool :=
  let works := (s.threadSlots t).map (fun e => e.2.2.id)
  s.inflight.any (fun f => f.st != .withdrawn && (works.contains f.work || (f.st != .missed && t.holdsAt f.loc f.len))) ||
  s.results.any (fun r => t.holdsAt { sp := .buf r.mov.tcore 3, off := r.mov.toff + r.row * r.mov.rowBytes } r.mov.rowBytes) ||
  s.bcts.any (fun b => t.holdsAt { sp := .buf b.dst b.buf, off := b.off } b.data.length)

/-- R350: whether a slot waits in `lkfrz` for one of some engines. -/
def State.freezing (s : State) (es : List Nat) : Bool :=
  s.cores.any (fun c => c.2.slots.any (fun x => match x.2.stall with | some (.engine e, _) => x.2.busy && es.contains e | _ => false))

/-- R41, R86, R219, R350: whether a leaving team can be saved: no task of it runs on any core, its threads' values have arrived, none is
frozen, holds a scope-missed access, has an access that awaits translation or a GMU request under way, nothing is still to be performed
for it, no `lkfrz` waits for its engines, and those stand at a row boundary. -/
def State.maySave (s : State) (t : Team) : Bool :=
  t.leaving &&
  s.cores.all (fun c => c.2.slots.all (fun e =>
    let x := e.2
    !(x.busy && x.w.team == some t.id) ||
    (x.w.thread && !x.frozen && s.fillsDone c.1 e.1 && x.held.isNone && x.waiting.isEmpty && !(s.core c.1).gmuStarted e.1))) &&
  !s.stillComing t && !s.freezing (s.teamEngines t true ++ s.teamEngines t false) &&
  (s.teamEngines t true).all (fun e => s.atBoundary e)

/-- Whether a key lies in one of the ranges. -/
def inRanges (rs : List (Nat × Nat)) (k : Nat) : Bool := rs.any (fun r => decide (r.1 ≤ k) && decide (k < r.1 + r.2))

/-- The valid-bit numbers of the ranges lie at the keys divided by 4. -/
def inWordRanges (rs : List (Nat × Nat)) (w : Nat) : Bool := inRanges rs (4 * w)

/-- R304: a swap wakes the team's parked threads that wait for anything but a fault token. -/
def State.wakeTeam (s : State) (t : Team) : State :=
  let ps := s.parked.filter (fun p => p.w.team == some t.id && !p.ready && (match p.wait with | .token _ => false | _ => true))
  ps.foldl (fun u p => (u.unwatch p.core p.id).wakeParked p.id) s

/-- R195: the engines of which the team holds exactly one end are cleared. -/
def State.clearTeamEngines (s : State) (t : Team) : State :=
  (s.teamEngines t false).foldl (fun u e =>
    let party := fun (h : Half) => h.team == some t.id
    let ours := match (u.engine e).job with | some j => party j.mov || party j.sta | none => false
    let keep := fun (h : Half) => !ours && (match (u.engine e).job with | some j => h.seq == j.mov.seq || h.seq == j.sta.seq | none => false)
    u.clearEngine e (fun h => !keep h) (fun h => !party h)) s

/-- R360: the team's jobs that reach its scratchpad stop, and those that have stopped go on once it is back. -/
def State.stopJobs (s : State) (t : Team) (stopped : Bool) : State :=
  s.modCluster t.cluster (fun k => { k with jobs := k.jobs.map (fun j =>
    if j.team == some t.id && (!stopped || s.reachesTeam t j) then { j with stopped := stopped, running := j.running && !stopped } else j) })

/-- R219: the team's requests that have not started leave the queue. -/
def State.withdrawGmu (s : State) (t : Team) : State :=
  t.cores.foldl (fun u c =>
    let mine := fun (q : GmuReq) => (u.slot c q.slot).w.team == some t.id && (u.slot c q.slot).w.thread
    (((u.core c).gmu.filter mine).foldl (fun v q => v.gmRelease c q) u).modCore c (fun k => { k with gmu := k.gmu.filter (fun q => !mine q) })) s

/-- R40: what leaves the cores with a team, its own cores and those that hold forks and shares of it: its deque entries and its L3 ready
entries. -/
def State.takeEntries (s : State) (t : Team) : State :=
  ((s.cores.filter (fun e => e.2.hasEntry t)).map (fun e => e.1)).foldl (fun u c =>
    let k := u.core c
    let r := k.ring 3
    (u.modTeam t.id (fun x => { x with savedDq := x.savedDq ++ [(c, k.deque.filter (fun e => e.ofTeam t))],
                                       savedRdy := x.savedRdy ++ [(c, (r.chip ++ r.spill).filter (fun e => e.ofTeam t))] })).keepEntries c
      (fun e => !e.ofTeam t)) s

/-- R41 step 4: the team saved and gone from its cores. -/
def State.saveTeam (s : State) (t : Team) : State :=
  let s1 : State := ((((s.withdrawGmu t).wakeTeam t).clearTeamEngines t).stopJobs t true).takeEntries t
  let both := s1.teamEngines t true
  let s2 : State := s1.modTeam t.id (fun x =>
    { x with
      resident := false
      leaving := false
      since := s1.nextId
      saved := (s1.threadSlots t).map (fun e => (e.1, e.2.1, { e.2.2 with capHeld := (s1.slot e.1 e.2.1).cap }))
      savedMem := s1.mem.filter (fun m => inRanges t.ranges m.1)
      savedVal := s1.valid.filter (inWordRanges t.ranges)
      savedEng := both.map (fun e => (e, s1.engine e)) })
  let s3 : State := both.foldl (fun u e => u.setEngine e { Engine.reset with cyc := (u.engine e).cyc }) s2.bump
  (s1.threadSlots t).foldl (fun u e => u.modSlot e.1 e.2.1 Slot.freed) s3

/-- R41; saving rows with a double-bit error aborts their context (R98). A team whose work has ended while it was leaving stays, and its
engines go on (R195). -/
def execTeamSwapOut (team : Nat) (s : State) : Host.Outcome State Fault Refusal :=
  .next (match s.teams.find? (fun t => t.id == team) with
    | some t =>
      if t.leaving && s.teamDone t then (s.modTeam t.id (fun x => { x with leaving := false })).unstop
      else if !(t.resident && s.maySave t) then s
      else if s.poison.any (fun w => inRanges t.ranges (8 * w)) then s.abortOwner (t.coreOf 0) 6
      else s.saveTeam t
    | none => s)

/-- R195: an engine back at its ends: the saved job, and the saved halves ahead of any new half; a job that runs there goes on where none
was saved. It is thawed unless it was frozen. -/
def Engine.restored (now_ old : Engine) : Engine :=
  { now_ with lowS := old.lowS ++ now_.lowS, lowM := old.lowM ++ now_.lowM, highS := old.highS ++ now_.highS, highM := old.highM ++ now_.highM,
              job := match old.job with | some j => some j | none => now_.job
              frozen := now_.frozen || old.frozen }

/-- Memory with a team's saved cells put back. -/
def restoreCells (m saved : List Host.Cell) : List Host.Cell := saved.foldl (fun m c => memPut m c.1 c.2) m

/-- The cells of some ranges removed. -/
def dropRanges (m : List Host.Cell) (rs : List (Nat × Nat)) : List Host.Cell := m.filter (fun c => !inRanges rs c.1)

/-- R40, R195: whether a team's own cores can take it back, and the engines between them what was saved of theirs. -/
def State.mayReturn (s : State) (t : Team) : Bool :=
  (List.zip t.cores (List.range t.cores.length)).all (fun e =>
    decide (t.threadsOn e.2 ≤ (s.core e.1).l3Room) && !(s.core e.1).stepHold && !s.parking (coreDie e.1) &&
    [1, 2, 3].all (fun b => s.rowsFree e.1 b (t.baseOf e.1 b) (t.rows b))) &&
  t.savedEng.all (fun x => (s.engine x.1).job.isNone || (x.2.job.isNone && x.2.halves.isEmpty))

/-- A saved thread parks as ready work, to start under R17 on its core. -/
def State.requeue (s : State) (e : Nat × Nat × Work) : State :=
  let p : Parked := { id := s.nextId, core := e.1, w := e.2.2, wait := .time, until_ := none, ready := true }
  ({ s.bump with parked := s.parked ++ [p] } : State).pushReady e.1 3 (resumeEntry p)

/-- The swapped-out team, other than `t`, that has a part in what an engine's image holds. -/
def State.absentParty (s : State) (t : Team) (x : Engine) : Option Team :=
  let parties := x.halves ++ (match x.job with | some j => [j.mov, j.sta] | none => [])
  s.teams.find? (fun y => y.id != t.id && !y.resident && parties.any (fun h => h.team == some y.id))

/-- R195, R392: what was saved of an engine with a team goes back, or waits with the other team that has a part in it. -/
def State.restoreEngine (t : Team) (s : State) (e : Nat × Engine) : State :=
  match s.absentParty t e.2 with
  | some y => s.modTeam y.id (fun x => { x with savedEng := x.savedEng ++ [e] })
  | none => s.setEngine e.1 ((s.engine e.1).restored e.2)

/-- R40: a saved team back on its core list; a job of it that `fres` has resolved meanwhile goes on (R377). A share that had not started has
given up what was reserved for it and starts under R17. MARK (DESIGN CHOICE, log entry 105): its deque entries go to the bottom of the
deques, behind what stands there, with no limit of 4,096 then. -/
def State.restoreTeam (s : State) (t : Team) : State :=
  let s1 : State := { s with mem := restoreCells (dropRanges s.mem t.ranges) t.savedMem,
                             valid := t.savedVal.foldl setIns (s.valid.filter (fun w => !inWordRanges t.ranges w)),
                             poison := s.poison.filter (fun w => !inRanges t.ranges (8 * w)) }
  let s2 : State := s1.modTeam t.id (fun x =>
    { x with resident := true, since := s1.nextId, saved := [], savedMem := [], savedVal := [], savedDq := [], savedRdy := [], savedEng := [] })
  let s3 : State := t.savedEng.foldl (State.restoreEngine t) s2.bump
  let s4 : State := t.savedDq.foldl (fun u e => u.pushDeque e.1 e.2) s3
  let s5 : State := t.saved.foldl State.requeue s4
  ((t.savedRdy.foldl (fun u e => State.pushAll e.1 3 (e.2.map (fun x => { x with share := false })) u) s5).stopJobs t false).resolveJobs t.cluster (s.core (t.coreOf 0)).rseq

/-- R40: the team that has waited longest on a cluster comes back to its own core list, or is placed there for the first time. -/
def execTeamSwapIn (team : Nat) (s : State) : Host.Outcome State Fault Refusal :=
  .next (match s.teams.find? (fun t => t.id == team) with
    | none => s
    | some t =>
      let first := fun (n : Nat) => (s.waitingTeams n).head?.map (fun x => x.id) == some t.id
      if t.resident then s
      else if t.placed then (if first t.cluster && s.mayReturn t then s.restoreTeam t else s)
      else
        let mine := (s.clusters.filter (fun e => e.2.owner == some t.ctx && first e.1)).map (fun e => e.1)
        (mine.findSome? (fun n => s.placeOn t n)).getD s)

end Sys2Proof.Machine
end

