-- ==== Sys2Proof/Machine/Flights.lean ====
section
/-! DEFINITION. Accesses on their way and the values that come back: fills, homes, held releases, scope misses, refusals, page
walks (R71, R84, R86, R114, R115, R117, R135, R232, R233, R290, R403). -/

namespace Sys2Proof.Machine

/-- An access under way. -/
def State.flight (s : State) (id : Nat) : Option Flight := s.inflight.find? (fun f => f.id == id)

/-- What travels back under an identity. -/
def State.ret (s : State) (id : Nat) : Option Ret := s.returns.find? (fun r => r.id == id)

/-- It has arrived. -/
def State.dropRet (s : State) (id : Nat) : State := { s with returns := s.returns.filter (fun r => r.id != id) }

/-- An access under way changed. -/
def State.setFlight (s : State) (id : Nat) (st : FState) : State :=
  { s with inflight := s.inflight.map (fun f => if f.id == id then { f with st := st } else f) }

/-- R71: a value arrives; its register is written full. -/
def execRegisterFill (id : Nat) (s : State) : Host.Outcome State Fault Refusal :=
  .next (match s.ret id with
    | some r =>
      match r.ret with
      | .value => (s.dropRet id).fill r r.data
      | _ => s
    | none => s)

/-- R117, R101, R192: a refused access returns: a zero fill with a deferred trap at its issuer, or an event there. -/
def execRefusalReturn (id : Nat) (s : State) : Host.Outcome State Fault Refusal :=
  .next (match s.ret id with
    | some r =>
      match r.ret with
      | .value => s
      | .failed cause => ((s.dropRet id).fill r 0).deferTo r.core r.slot r.work cause r.va r.pc r.acc
      | .event cause => (s.dropRet id).event r.core cause r.slot r.va (wordOf r.data)
    | none => s)

/-! ### Homes and held releases (R290, R233) -/

/-- Entries of a home's hold buffer in use. -/
def State.heldAt (s : State) (h : Home) : Nat := (s.inflight.filter (fun f => f.st == .held && f.loc.home == h)).length

/-- R404: whether no route is left to an access's home. -/
def State.stranded (s : State) (f : Flight) : Bool := (f.st == .going || f.st == .committed) && (s.flightLinks f).isNone

/-- The context of an access aborts. -/
def State.abortFlight (s : State) (f : Flight) (reason : Nat) : State :=
  if f.fw then s.abortContext true 0 reason f.core else s.abortOwner f.core reason

/-- R290 steps 8 and 9, R233: an access reaches its home and is performed or refused; a release whose earlier stores are not yet
translated is held there, or NACKed; with no route left to it the context aborts (R404). -/
def execRemoteAccessAtHome (id : Nat) (s : State) : Host.Outcome State Fault Refusal :=
  .next (match s.flight id with
    | some f =>
      if f.st == .going && s.uncommitted f && !f.outOfScope then
        (if s.heldAt f.loc.home < 8 then s.setFlight id .held
         else (s.setFlight id (.nacked ((s.core f.core).cyc.toNat + 64))).modCore f.core (fun k => { k with nkc := k.nkc + 1 }))
      else if s.stranded f then s.abortFlight f 9
      else if s.ready f then (s.sendFlits f).performFlight f
      else s
    | none => s)

/-- Whether 64 cycles of an access's core have passed since its NACK at `t - 64`. -/
def State.retryDue (s : State) (f : Flight) : Bool :=
  match f.st with
  | .nacked t => decide (64 ≤ ((s.core f.core).cyc.toNat + 2 ^ 64 + 64 - t) % 2 ^ 64)
  | _ => false

/-- R233. -/
def execReleaseRetry (id : Nat) (s : State) : Host.Outcome State Fault Refusal :=
  .next (match s.flight id with
    | some f => if s.retryDue f then s.setFlight id .going else s
    | none => s)

/-- R233: the token reaches the home, which performs the release once what it orders has been performed. -/
def execCommitToken (id : Nat) (s : State) : Host.Outcome State Fault Refusal :=
  .next (match s.flight id with
    | some f =>
      if f.st == .held && !s.uncommitted f then
        (let g : Flight := { f with st := .committed }
         let s1 : State := s.setFlight id .committed
         if s1.ready g then (s1.sendFlits g).performFlight g else s1)
      else s
    | none => s)

/-- R233: a withdrawn release is dropped. -/
def execReleaseWithdraw (id : Nat) (s : State) : Host.Outcome State Fault Refusal :=
  .next (match s.flight id with
    | some f => if f.st == .withdrawn then { s with inflight := s.inflight.filter (fun g => g.id != id) } else s
    | none => s)

/-! ### Scope misses (R86, R232) -/

/-- R86: SMR's KIND. -/
def AccKind.smrKind (k : AccKind) : Nat :=
  match k with
  | .load _ => 0
  | .store => 1
  | .vload | .tload _ => 3
  | .vstore => 4
  | _ => 2

/-- R86: SMR while an access is held. -/
def Flight.smr (f : Flight) : Word :=
  wordOf (2 ^ 63 + f.kind.smrKind * 2 ^ 60 + (match f.scope with | some sc => scopeCode sc | none => 0) * 2 ^ 57 +
          scopeCode (needScope f.core f.loc.home) * 2 ^ 54)

/-- R232 step 3: the returned access is held; SCOPEMISS goes to L0. A slot holds one at a time: a second waits on its way. -/
def execScopeMissReturn (id : Nat) (s : State) : Host.Outcome State Fault Refusal :=
  .next (match s.flight id with
    | some f =>
      if f.st == .going && f.outOfScope && (s.slot f.core f.slot).held.isNone then
        (let s1 : State := { s with inflight := s.inflight.map (fun g =>
            if g.acc == f.acc && g.st == .going && g.outOfScope then { g with st := .missed } else g) }
         let s2 : State := s1.modSlot f.core f.slot (fun x => { x with held := some f, w := { x.w with ctl := { x.w.ctl with smr := f.smr } } })
         let s3 : State := s2.modCore f.core (fun k => { k with smc := k.smc + 1 })
         s3.event f.core 0x12 f.slot (f.va - wordOf f.idx) f.pc)
      else s
    | none => s)

/-! ### Page walks (R114, R115, R135, R233, R310) -/

/-- What a miss is for: the oldest access of a slot that waits, the instruction that the slot stands at, a page of the deque, or what its
core wants besides (R297, R310). -/
inductive Missing
  | store (e : Waiting) (va : Word) | here (va : Word) (kind : Nat) | deque (va : Word) | wanted (w : Wanted) | nothing
  deriving DecidableEq, Repr

/-- The first access of a slot whose translation misses, with the address that does. -/
def State.missingStore (s : State) (c n : Nat) : List Waiting → Option (Waiting × Word)
  | [] => none
  | e :: t =>
    let x := s.slot c n
    if e.sent then s.missingStore c n t
    else
      match s.plan c (decide (n < 2)) x.w.ctl.fw x.w.ctl.ctx e.req with
      | .walk va => some (e, va)
      | _ => s.missingStore c n t

/-- What a slot's miss message asks for. -/
def State.missing (s : State) (c n : Nat) : Missing :=
  match s.missingStore c n (s.slot c n).waiting with
  | some (e, va) => .store e va
  | none =>
    match (s.slot c n).stall with
    | some (.walk va k, _) => .here va k
    | some (.deque va, _) => .deque va
    | _ =>
      match (s.core c).wanted with
      | w :: _ => .wanted w
      | [] => .nothing

/-- What a core wants no more: a page that an entry gives now. -/
def State.dropWanted (s : State) (c : Nat) : State :=
  if (s.core c).wanted.isEmpty then s
  else s.modCore c (fun k => { k with wanted := k.wanted.filter (fun w => s.translate c w.fw w.ctx w.va == .miss) })

/-- R115: EINFO of the trap that a walk ends in, for the kind of R135. -/
def walkInfo (kind : Nat) : Nat := if kind = 2 then 2 else if kind = 0 then 0 else 1

/-- R115 step 1: the fault record of a walk that finds no page; its token is its sequence number. -/
def State.walkRecord (s : State) (c n : Nat) (va : Word) (kind : Nat) : State :=
  let w := (s.slot c n).w
  s.faultRecord c w.ctl.fw w.ctl.ctx va 5 kind true

/-- R115, R370: EINFO of XLATE, the record's token in its high half. -/
def State.xlateInfo (s : State) (kind : Nat) : Word := wordOf (s.faults.seq % 2 ^ 32 * 2 ^ 32 + walkInfo kind)

/-- What a core wants first is given up: the deque's fault aborts the context, a prefetch does nothing. -/
def State.giveUp (s : State) (c : Nat) (w : Wanted) (record : Bool) : State :=
  let s1 : State := s.modCore c (fun k => { k with wanted := k.wanted.erase w })
  if w.deque then (if record then s1.faultRecord c w.fw w.ctx w.va 5 0 true else s1).abortOwner c 5 else s1

/-- A walk that finds no page. -/
def State.walkAbsent (s : State) (c n : Nat) : Missing → State
  | .store e va => (s.walkRecord c n va e.kind.code).cancelAt c n e 5 va (s.xlateInfo e.kind.code)
  | .here va k =>
    (s.walkRecord c n va k).takeTrap c n 0 5 (s.slot c n).len ((s.slot c n).w.pc &&& ~~~3) va (s.xlateInfo k)
  | .deque va => (s.walkRecord c n va 1).abortOwner c 5
  | .wanted w => s.giveUp c w true
  | .nothing => s

/-- A walk that is refused. -/
def State.walkRefused (s : State) (c n : Nat) : Missing → State
  | .store e va => s.cancelAt c n e 6 va (wordOf (4 + walkInfo e.kind.code))
  | .here va k => s.takeTrap c n 0 6 (s.slot c n).len ((s.slot c n).w.pc &&& ~~~3) va (wordOf (4 + walkInfo k))
  | .deque _ => s.abortOwner c 5
  | .wanted w => s.giveUp c w false
  | .nothing => s

/-- The translation is there: the accesses that waited for it leave, and a slot that stalled for it goes on. -/
def State.walkDone (s : State) (c n : Nat) : Missing → State
  | .store _ _ => s.drainWaiting c n
  | .nothing => s
  | .wanted _ => s.dropWanted c
  | _ => s.modSlot c n (fun x => { x with stall := none })

/-- R114: an L2 miss is served by the walker, whose answer is an input of this step; a slot whose page has come meanwhile only
goes on. While a record of its context is held, nothing is served (R135). -/
def execTlbMissMessage (core slot : Nat) (ans : WalkAnswer) (s : State) : Host.Outcome State Fault Refusal :=
  occurs (isCore core && decide (slot < 8))
    (let u := (s.dropWanted core).drainWaiting core slot
     let w := (u.slot core slot).w
     match u.missing core slot with
     | .nothing => u
     | m =>
       if (match m with | .wanted q => u.walksHeld core q.fw q.ctx | _ => u.walksHeld core w.ctl.fw w.ctl.ctx) then u
       else
         match u.walked core false ans with
         | .entry t => t.walkDone core slot m
         | .absent => u.walkAbsent core slot m
         | .refused => u.walkRefused core slot m)

/-- R403: an access to another module that no answer meets is refused, and so is a copy job whose unit waits for one. -/
def execRemoteAccessTimeout (id : Nat) (s : State) : Host.Outcome State Fault Refusal :=
  .next (match s.flight id with
    | some f =>
      match f.loc.sp with
      | .remote _ =>
        if f.st == .withdrawn || f.st == .missed then s
        else (s.dropFlight f).landPart f (.bad 8)
      | _ => s
    | none => s.jobTimeout id)

end Sys2Proof.Machine
end

