-- ==== Sys2Proof/Machine/Power.lean ====
section
/-! DEFINITION. 17_power: the budget tree, the monitors and sensors, performance-state transitions, steps of islands, parking of dies
(R102 to R107, R149, R161, R175, R177, R378 to R395). -/

namespace Sys2Proof.Machine

/-! ### The budget tree (R378 to R380) -/

/-- The least common multiple of the duties 1 to 16, so that a demand is a whole number of parts. -/
def dutyLcm : Nat := 720720

/-- The leaf number of a cluster's copy engine; a core's leaf has its ID. -/
def cceLeaf (n : Nat) : Nat := 65536 + n

/-- The point that an island runs at: 0 for PS0's to 3 for PS3's (R103). -/
def State.pointOf (s : State) (i : Nat) : Nat := okPoint (tblGet 0 s.islandPs i)

/-- R379: the energy of one act of a kind at a point under the signed power model, in nJ; kinds are 0 an issued group, 1 a transfer of a
scratchpad port, 2 a GMU request, 3 a beat or arithmetic cycle of an engine, 4 a unit of a copy engine (log entry 98). -/
def actEnergy (model : List (Nat × Nat)) (point kind : Nat) : Nat := tblGet 0 model (8 * point + kind)

/-- R379: the energy charged to a core. -/
def Acts.energy (model : List (Nat × Nat)) (point : Nat) (a : Acts) : Nat :=
  a.groups * actEnergy model point 0 + a.transfers * actEnergy model point 1 + a.requests * actEnergy model point 2 +
    a.beats * actEnergy model point 3

/-- R378: D of a leaf at duty `f`, in parts of 10⁻⁴ W: the energy of a period of 10 μs, in nJ, at full duty, and no less than its idle
power at its island's point, which is above zero. -/
def leafDemand (energy f leaf point : Nat) : Nat :=
  max (energy * 16 * (dutyLcm / max f 1)) ((Config.idleDemand leaf point + 1) * dutyLcm)

/-- R378, R379: D of a core. -/
def State.coreDemand (s : State) (model : List (Nat × Nat)) (c : Nat) : Nat :=
  let p := s.pointOf (islandOf c)
  leafDemand ((s.core c).acts.energy model p) (s.core c).fdr c p

/-- R378, R379: D of a cluster's copy engine, which lies in the island of the cluster's cores. -/
def State.cceDemand (s : State) (model : List (Nat × Nat)) (n : Nat) : Nat :=
  let p := s.pointOf (islandOf (coreAt n 0))
  leafDemand ((s.cluster n).units * actEnergy model p 4) (s.cluster n).duty (cceLeaf n) p

/-- The demands of the leaves of a cluster; 0 on a parked die. -/
def State.clusterDemand (s : State) (model : List (Nat × Nat)) (n : Nat) : Nat :=
  if tblGet false s.dieParked (n / 64) then 0
  else (clusterCores n).foldl (fun a c => a + s.coreDemand model c) (s.cceDemand model n)

/-- R378: the root's demand: that of all leaves. -/
def State.rootDemand (s : State) (model : List (Nat × Nat)) : Nat :=
  (List.range 512).foldl (fun a n => a + s.clusterDemand model n) 0

/-- R379: a new period charges from nothing. -/
def State.newPeriod (s : State) : State :=
  { s with
    cores := s.cores.map (fun e => (e.1, { e.2 with acts := { groups := 0, transfers := 0, requests := 0, beats := 0 } }))
    clusters := s.clusters.map (fun e => (e.1, { e.2 with units := 0 })) }

/-- R378, R382: the root budget in parts of 10⁻⁴ W: the ceiling less the non-core power (10⁻⁴ W) and the excess of a clamped period
(W). -/
def State.rootBudget (s : State) (nonCore : Nat) : Nat :=
  (s.pceil * 100000 - nonCore - (if s.clampOn then s.excess * 10000 else 0)) * dutyLcm

/-- R380: duty := min(16, ⌊16·b/D⌋). Every node divides by demand, so a leaf's b/D is the root's B/ΣD. -/
def dutyShare (budget demand : Nat) : Nat := if demand = 0 then 16 else min 16 (16 * budget / demand)

/-- The cores of a die. -/
def dieCores (d : Nat) : List Nat := (dieClusters d).flatMap clusterCores

/-- The cores and clusters of every die that is not parked. -/
def State.openDies (s : State) : List Nat := (List.range 8).filter (fun d => !tblGet false s.dieParked d)

/-- R380: every leaf takes a duty. A leaf on a parked die receives nothing and keeps the duty it had. -/
def State.takeDuties (s : State) (duty : Nat) : State :=
  let s1 : State := (s.openDies.flatMap dieCores).foldl (fun t c => t.modCore c (fun k => { k with share := duty })) s
  (s.openDies.flatMap dieClusters).foldl (fun t n => t.modCluster n (fun k => { k with duty := duty })) s1

/-- R382: at a period boundary the clamp is released if the latest sample is within both limits. -/
def State.releaseClamp (s : State) : State := if s.aboveCeil then s else { s with clampOn := false, excess := 0 }

/-- R378 to R380, R382: a period of the budget tree ends. Inputs are the non-core power measured, in 10⁻⁴ W, and the signed power model,
as the energy of an act by point and kind, in nJ. -/
def execBudgetPeriod (nonCore : Nat) (model : List (Nat × Nat)) (s : State) : Host.Outcome State Fault Refusal :=
  .next ((s.newPeriod.takeDuties (dutyShare (s.rootBudget nonCore) (s.rootDemand model))).releaseClamp)

/-! ### Monitors and sensors (R92, R382 to R385) -/

/-- R384: the limits that a sample is over. -/
def State.overCause (s : State) (power current : Nat) : Nat := b2n (decide (s.pceil * 10 < power)) + 2 * b2n (decide (20000 < current))

/-- R384: the cores that hold a context, those of the firmware context among them: of the clusters with an owner, and those that `ctxl` gave
another context than their cluster's. -/
def State.ownedCores (s : State) : List Nat :=
  let own := (s.clusters.filter (fun e => e.2.owner.isSome)).map (fun e => e.1)
  (own.flatMap clusterCores ++ (s.coreCtx.map (fun e => e.1)).filter (fun c => isCompute c && !own.contains (clusterOf c))).filter
    (fun c => (s.ownerOf c).isSome) ++ [mc0, mc1] ++ (List.range 512).map tscOf

/-- R382, R384: the monitors' sample: PMEAS, and the clamp with its THROTTLE events when it engages. -/
def execMonitorSample (power current : BitVec 16) (s : State) : Host.Outcome State Fault Refusal :=
  let p := power.toNat
  let cause := s.overCause p current.toNat
  let s1 : State := { s with pmeas := wordOf (current.toNat * 65536 + p), aboveCeil := cause != 0 }
  .next (if cause = 0 then s1
    else if s.clampOn then { s1 with excess := max s.excess (p - s.pceil * 10) }
    else s.ownedCores.foldl (fun t c => t.event c 0x13 8 0 (wordOf cause)) { s1 with clampOn := true, excess := p - s.pceil * 10 })

/-- A sensor's temperature, in 0.1 °C. -/
def State.temp (s : State) (i : Nat) : Int := toSigned 16 (tblGet 0 s.tsen i % 65536)

/-- R385: the backstop of a die after its sensors are read. -/
def State.backstopOf (s : State) (d : Nat) : Bool :=
  let ts := (natRange (6 * d) 6).map s.temp
  if ts.any (fun t => decide (1150 ≤ t)) then true
  else if ts.all (fun t => decide (t < 1100)) then false
  else tblGet false s.backstop d

/-- R92, R385: the die sensors are read: TSEN0 on, from the list. -/
def execSensorSample (temps : List (BitVec 16)) (s : State) : Host.Outcome State Fault Refusal :=
  let t := (List.range 48).foldl (fun m i => match temps[i]? with | some v => tblSet m i (65536 + v.toNat) | none => m) s.tsen
  let s1 : State := { s with tsen := t }
  .next { s1 with backstop := (List.range 8).map (fun d => (d, s1.backstopOf d)) }

/-! ### Performance states (R161, R390, R391, R395) -/

/-- R161: PARK of a state. -/
def State.parkMask (s : State) (ps : Nat) : Nat := if ps < 4 then 0 else if ps = 4 then s.psPark4 else if ps = 5 then s.psPark5 else 255

/-- R161: a park mask rewritten while the module is in neither PS4 nor PS5; every other write of the table is refused. -/
def execPsTableWrite (state : Nat) (mask : BitVec 8) (s : State) : Host.Outcome State Fault Refusal :=
  let m := mask.toNat
  .next (if s.psCur = 4 ∨ s.psCur = 5 then s
    else if state = 4 ∧ popCount 8 m = 4 then { s with psPark4 := m }
    else if state = 5 ∧ popCount 8 m = 6 then { s with psPark5 := m }
    else s)

/-- R390: the state request word written. -/
def execStateRequest (value : Word) (s : State) : Host.Outcome State Fault Refusal :=
  .next (if bits value 63 3 = 0 then s.requestState (bits value 2 0) else s)

/-- The dies that the target needs and that are parked. -/
def State.toUnpark (s : State) : List Nat :=
  (List.range 8).filter (fun d => tblGet false s.dieParked d && !bitAt (s.parkMask s.psTarget) d)
/-- The dies that the target parks. -/
def State.toPark (s : State) : List Nat :=
  (List.range 8).filter (fun d => !tblGet false s.dieParked d && bitAt (s.parkMask s.psTarget) d)

/-- Islands of dies that run before and after the transition. -/
def State.runningIslands (s : State) : List Nat :=
  (List.range 24).filter (fun i => !tblGet false s.dieParked (i / 3) && !bitAt (s.parkMask s.psTarget) (i / 3))

/-- The islands that go up. -/
def State.toRaise (s : State) : List Nat := s.runningIslands.filter (fun i => decide (okPoint s.psTarget < s.pointOf i))
/-- The islands that go down and have neither stepped nor declined. -/
def State.toLower (s : State) : List Nat :=
  s.runningIslands.filter (fun i => decide (s.pointOf i < okPoint s.psTarget) && !s.psDone.contains i)

/-- Whether a core holds a task that has not started: a ready entry, a fork, or a pending start. -/
def Core.queued (k : Core) : Bool :=
  (List.range 4).any (fun l => !(k.ring l).chip.isEmpty || !(k.ring l).spill.isEmpty) || !k.deque.isEmpty || !k.pending.isEmpty

/-- R395: whether some context has a team, a queued launch, a suspended copy job or a task. -/
def State.anyWork (s : State) : Bool :=
  !s.teams.isEmpty || !s.launches.isEmpty || s.queues.any (fun e => decide (e.2.head ≠ e.2.tail)) ||
  s.clusters.any (fun e => e.2.jobs.any (fun j => j.token.isSome)) ||
  s.cores.any (fun e => isCompute e.1 && ((List.range 8).any (fun n => (e.2.slot n).busy) || e.2.queued)) ||
  s.parked.any (fun p => isCompute p.core)

/-! ### Rows at a new point (R104 to R107) -/

/-- The lowest-numbered physical row that no logical row uses and that is good at a point. -/
def State.spare (s : State) (c b k : Nat) : Option Nat :=
  (List.range (bufPhys b)).find? (fun p => s.rowGood c b p k && !s.physUsed c b p)

/-- R107: a logical row regained at a point: mapped, zeroed, its valid bits cleared. -/
def State.regainRow (k c b : Nat) (s : State) (r : Nat) : State :=
  match s.spare c b k with
  | some p => (s.setRow c b r (some p)).zeroRow c b r
  | none => s

/-- R107: the rows of a core from capacity at point `old` to capacity at point `k`. -/
def State.regainCore (s : State) (c old k : Nat) : State :=
  [1, 2, 3].foldl (fun t b =>
    (natRange (t.usable c b old) (t.usable c b k - t.usable c b old)).foldl (State.regainRow k c b) t) s

/-- R107, R391: an island goes up to the target's point. -/
def State.raiseIsland (s : State) (i : Nat) : State :=
  let old := s.pointOf i
  let s1 : State := { s with islandPs := tblSet s.islandPs i s.psTarget }
  (islandCores i).foldl (fun t c => t.regainCore c old (okPoint s.psTarget)) s1

/-- R105 step 6: a logical row whose physical row is not good at a point goes to the lowest-numbered spare that is. -/
def State.evacRow (k c b : Nat) (s : State) (r : Nat) : State :=
  match s.rowOf c b r with
  | some p =>
    if s.rowGood c b p k then s
    else
      match s.spare c b k with
      | some q => s.setRow c b r (some q)
      | none => s
  | none => s

/-- R105 steps 5 and 6 on a buffer: the lost rows freed, the doomed rows moved. -/
def State.lowerBuffer (k c : Nat) (s : State) (b : Nat) : State :=
  let u := s.usable c b k
  let s1 : State := (natRange u (bufRows b - u)).foldl (fun t r => (t.setRow c b r none).zeroRow c b r) s
  (List.range u).foldl (State.evacRow k c b) s1

/-- R105 step 7: the descriptors that reach a lost row become invalid. -/
def State.dropTensors (s : State) (c : Nat) : State :=
  s.modCore c (fun k => { k with tensors := k.tensors.map (fun e =>
    (e.1, if wbit e.2.w0 63 && !s.tensorFits c e.2 then e.2.invalid else e.2)) })

/-- R149: an engine's job whose captured copy reaches a lost row is withdrawn; the issuer of that half takes PROTECT. -/
def State.dropLostJob (s : State) (e : Nat) : State :=
  match (s.engine e).job with
  | some j =>
    match s.sourceFault j.mov with
    | some a => s.faultJob e j true 6 a
    | none =>
      match s.sourceFault j.sta with
      | some a => s.faultJob e j false 6 a
      | none => s
  | none => s

/-- The lost rows of a core, as ranges of its self region. -/
def State.lostSpans (s : State) (c : Nat) : List Span :=
  [1, 2, 3].filterMap (fun b =>
    if s.spcap c b < bufRows b then some (.rect b (64 * s.spcap c b) (64 * (bufRows b - s.spcap c b)) [c]) else none)

/-- R149, R171: a copy job whose ranges reach a lost row is suspended, with a fault record, CPYFAULT of cause PROTECT, and the arrival that
a suspension makes. -/
def State.suspendLost (s : State) (cl : Nat) (j : CopyJob) : State :=
  let tok := s.faults.seq % 2 ^ 32
  (((s.faultRecord j.core j.fw j.ctx 0 6 5 true).modJob cl j.serial (fun k => { k with token := some tok })).cpyFault j 6 tok true
    0).jobArrives j 0 1

/-- Whether a copy job reaches a lost row of a core: by the self region, by a rectangle, or by a TLB entry. -/
def State.reachesLost (s : State) (j : CopyJob) (c : Nat) : Bool :=
  (j.readSpans ++ j.writeSpans).any (fun sp => (s.lostSpans c).any sp.overlaps) ||
  [1, 2, 3].any (fun b => decide (s.spcap c b < bufRows b) && s.entryReaches j c b (64 * s.spcap c b) (64 * (bufRows b - s.spcap c b)))

/-- R149 over the copy jobs of a cluster. -/
def State.suspendLostJobs (s : State) (cs : List Nat) (cl : Nat) : State :=
  let due := (s.cluster cl).jobs.filter (fun j => j.token.isNone && cs.any (s.reachesLost j))
  due.foldl (fun t j => t.suspendLost cl j) s

/-! ### Steps down (R105) -/

/-- R105 steps 1 and 2: whether every floor of an island stays below capacity at a point. -/
def State.floorsFit (s : State) (cs : List Nat) (k : Nat) : Bool :=
  cs.all (fun c => [1, 2, 3].all (fun b => decide (s.floor c b ≤ s.usable c b k)))

/-- R40, R41: a team begins to leave, its engines to stop at a row boundary. -/
def State.beginLeave (s : State) (t : Team) : State :=
  (s.teamEngines t true).foldl (fun u e => u.setEngine e { u.engine e with stop := true })
    (s.modTeam t.id (fun t => { t with leaving := true }))

/-- R105 step 3: the resident teams with rows on the cores of an island at or above capacity at a point. -/
def State.lostTeams (s : State) (cs : List Nat) (k : Nat) : List Team :=
  s.teams.filter (fun t => t.resident && !s.teamDone t && t.cores.any (fun c => cs.contains c &&
    [1, 2, 3].any (fun b => t.rows b != 0 && decide (s.usable c b k < t.baseOf c b + t.rows b))))

/-- R105 step 4: whether a task runs on a core. -/
def Core.taskRuns (k : Core) : Bool := (List.range 8).any (fun n => (k.slot n).busy && !(k.slot n).w.thread)

/-- R105 steps 5 to 8. -/
def State.lowerIsland (s : State) (i : Nat) : State :=
  let k := okPoint s.psTarget
  let cs := islandCores i
  let s1 : State := cs.foldl (fun t c => [1, 2, 3].foldl (State.lowerBuffer k c) t) s
  let s2 : State := { s1 with islandPs := tblSet s1.islandPs i s.psTarget, psDone := s1.psDone ++ [i] }
  let s3 : State := cs.foldl State.dropTensors s2
  let s4 : State := (s3.engines.map (fun e => e.1)).foldl (fun t e =>
    if cs.contains (engineLow e) || cs.contains (engineHigh e) then t.dropLostJob e else t) s3
  let s5 : State := (s4.clusters.map (fun e => e.1)).foldl (fun t n => t.suspendLostJobs cs n) s4
  cs.foldl (fun t c => t.modCore c (fun k => { k with stepHold := false })) s5

/-- R105: an island steps down, or declines. The first turn holds task starts and makes teams leave; the step takes place once no
task runs on its cores and no such team is left. -/
def execIslandStepDown (island : Nat) (s : State) : Host.Outcome State Fault Refusal :=
  occurs (decide (island < 24))
    (let cs := islandCores island
     let k := okPoint s.psTarget
     if !(s.psBusy && s.toUnpark.isEmpty && s.toRaise.isEmpty && s.toLower.contains island) then s
     else if !s.floorsFit cs k then
       (let d := island / 3
        let s1 : State := { s with psDone := s.psDone ++ [island], psDecl := if bitAt s.psDecl d then s.psDecl else s.psDecl + 2 ^ d }
        cs.foldl (fun t c => t.modCore c (fun k => { k with stepHold := false })) s1)
     else
       match s.lostTeams cs k with
       | [] =>
         if cs.all (fun c => (s.core c).stepHold) then (if cs.any (fun c => (s.core c).taskRuns) then s else s.lowerIsland island)
         else cs.foldl (fun t c => t.modCore c (fun k => { k with stepHold := true })) s
       | ts => ts.foldl State.beginLeave (cs.foldl (fun t c => t.modCore c (fun k => { k with stepHold := true })) s))

/-! ### Parking a die (R392 to R394) -/

/-- STATE of an entry set by the controller, with its save image where the owner's translation allows it (R141). -/
def State.setEntryState (s : State) (c cls st : Nat) : State :=
  let k := s.core c
  let e := (k.handler cls).withState st
  let s1 : State := s.setCore c { k with handlers := tblSet k.handlers cls e }
  match s.ownerOf c with
  | some (fw, ctx) =>
    (match s.translate c fw ctx (baseVa k.htb + wordOf (32 * cls)) with
     | .page p => if p.w then s1.write p.loc (bytesOfWords [e.w0, e.w1, e.w2, e.w3]) else s1
     | _ => s1)
  | none => s1

/-- The valid entries of a core. -/
def Core.openClasses (k : Core) : List Nat := (List.range 64).filter (fun c => (k.handler c).hState == 1)

/-- R392 step 2: the teams that run on a die. -/
def State.dieTeams (s : State) (d : Nat) : List Team :=
  s.teams.filter (fun t => t.resident && !s.teamDone t && t.cores.any (fun c => isCompute c && coreDie c == d))

/-- R392 steps 1 and 2: nothing is placed on the die or swapped in any more, and its teams leave. -/
def State.beginPark (s : State) (d : Nat) : State :=
  (s.dieTeams d).foldl State.beginLeave { s with psDone := s.psDone ++ [100 + d] }

/-- R392 step 3: every class of the die that is open is closed and recorded. -/
def State.closeDie (s : State) (d : Nat) : State :=
  let shut := (dieCores d).flatMap (fun c => (s.core c).openClasses.map (fun x => (c, x)))
  shut.foldl (fun t e => t.setEntryState e.1 e.2 2) { s with psDone := s.psDone ++ [200 + d], dieClosed := s.dieClosed ++ shut }

/-- R392 step 4, R393: whether a die is quiet: no task, nothing ready, no event, no team, no engine with a half or a job. -/
def State.dieQuiet (s : State) (d : Nat) : Bool :=
  (s.dieTeams d).isEmpty &&
  s.cores.all (fun e => !(isCompute e.1 && coreDie e.1 == d) ||
    (!(List.range 8).any (fun n => (e.2.slot n).busy) && e.2.events.isEmpty &&
     (List.range 4).all (fun l => (e.2.ring l).chip.isEmpty && (e.2.ring l).spill.isEmpty))) &&
  s.engines.all (fun e => !(coreDie (engineLow e.1) == d) || (e.2.halves.isEmpty && e.2.job.isNone))

/-- The first key and bytes of the floor rows of the context-owned cores of a die (R392 step 5). -/
def State.floorRanges (s : State) (d : Nat) : List (Nat × Nat) :=
  (dieCores d).flatMap (fun c =>
    if (s.ownerOf c).isSome then
      [1, 2, 3].filterMap (fun b =>
        if s.floor c b = 0 then none else some (({ sp := .buf c b, off := 0 } : Loc).key, 64 * s.floor c b))
    else [])

/-- The range of keys of the buffers of a die. -/
def dieKeys (d : Nat) : Nat × Nat := (({ sp := .buf (d * 4096) 0, off := 0 } : Loc).key, 4096 * 4 * 2 ^ 20)

/-- R393: the packets that a core holds are refused to their senders. -/
def State.refuseHeld (s : State) (c : Nat) : State :=
  ((s.core c).holding.flatMap (fun e => e.2)).foldl (fun t p => t.refusePacket p 8) (s.modCore c (fun k => { k with holding := [] }))

/-- R392 steps 5 and 6: the floor rows saved, the cores halted, the rails gone. -/
def State.finishPark (s : State) (d : Nat) : State :=
  let keep := s.floorRanges d
  let s1 : State := { s with
    savedFloor := s.savedFloor ++ s.mem.filter (fun m => inRanges keep m.1)
    mem := dropRanges s.mem [dieKeys d]
    valid := s.valid.filter (fun w => !inWordRanges [dieKeys d] w)
    poison := s.poison.filter (fun w => !inRanges [dieKeys d] (8 * w))
    dieParked := tblSet s.dieParked d true }
  (dieCores d).foldl (fun t c => (t.modCore c (fun k => { k with halted := true })).refuseHeld c) s1

/-- R392: a die is parked once the transition has come to its fourth step: its teams leave, then its classes close, and the parking is
completed when the die is quiet. -/
def execDiePark (d : Nat) (s : State) : Host.Outcome State Fault Refusal :=
  occurs (decide (d < 8))
    (if !(s.psBusy && s.toUnpark.isEmpty && s.toRaise.isEmpty && s.toLower.isEmpty && s.toPark.contains d) then s
     else if !s.psDone.contains (100 + d) then s.beginPark d
     else if !(s.dieTeams d).isEmpty then s
     else if !s.psDone.contains (200 + d) then s.closeDie d
     else if s.dieQuiet d then s.finishPark d
     else s)

/-- R107: the row map of a buffer rebuilt from the fail table: the good physical rows in rising order. -/
def State.rebuildMap (k : Nat) (s : State) (cb : Nat × Nat) : State :=
  let good := (List.range (bufPhys cb.2)).filter (fun p => s.rowGood cb.1 cb.2 p k)
  (List.range (bufRows cb.2)).foldl (fun t r => t.setRow cb.1 cb.2 r good[r]?) s

/-- The buffers of a die of which the fail table lists a row. -/
def State.listedBuffers (s : State) (d : Nat) : List (Nat × Nat) :=
  let bs := s.failOk.map (fun e => (e.1 / 2048 / 4, e.1 / 2048 % 4))
  (bs.filter (fun x => isCompute x.1 && coreDie x.1 == d)).eraseDups

/-- R177: the counters of a core are 0. -/
def Core.countersCleared (k : Core) : Core := { k with cyc := 0, ins := 0, ffc := 0, smc := 0, nkc := 0, flc := 0 }

/-- R107, R394: a die comes back at the target's point. -/
def State.unparkDie (s : State) (d : Nat) : State :=
  let s1 : State := { s with
    rowMap := s.rowMap.filter (fun e => coreDie (e.1 / 2048 / 4) != d || !isCompute (e.1 / 2048 / 4))
    islandPs := [0, 1, 2].foldl (fun t i => tblSet t (3 * d + i) s.psTarget) s.islandPs
    cycles := [0, 1, 2].foldl (fun t i => tblSet t (3 * d + i) 0) s.cycles
    dieParked := tblSet s.dieParked d false }
  let s2 : State := (s1.listedBuffers d).foldl (State.rebuildMap (okPoint s.psTarget)) s1
  let mine := s.savedFloor.filter (fun m => inRanges [dieKeys d] m.1)
  let words := (s2.floorRanges d).flatMap (fun r => natRange (r.1 / 4) (r.2 / 4))
  let s3 : State := { s2 with
    mem := restoreCells (dropRanges s2.mem [dieKeys d]) mine
    valid := words.foldl setIns (s2.valid.filter (fun w => !inWordRanges [dieKeys d] w))
    savedFloor := s.savedFloor.filter (fun m => !inRanges [dieKeys d] m.1) }
  let shut := s3.dieClosed.filter (fun e => coreDie e.1 == d)
  let s4 : State := shut.foldl (fun t e => if ((t.core e.1).handler e.2).hState = 2 then (t.setEntryState e.1 e.2 1).drainHolding e.1 e.2 else t)
    { s3 with dieClosed := s3.dieClosed.filter (fun e => coreDie e.1 != d) }
  (dieCores d).foldl (fun t c => t.modCore c (fun k => ({ k with halted := false } : Core).countersCleared)) s4

/-- R394: a die is unparked, as the first step of a transition that needs it. -/
def execDieUnpark (d : Nat) (s : State) : Host.Outcome State Fault Refusal :=
  occurs (decide (d < 8)) (if s.psBusy && s.toUnpark.contains d then s.unparkDie d else s)

/-! ### The controller (R390, R391, R395) -/

/-- A transition to `t` begins. -/
def State.beginTransition (s : State) (t : Nat) : State :=
  { s with psReq := none, psBusy := true, psTarget := t, psDecl := 0, psDone := [] }

/-- R390, R395, R162: a waiting request is acted on. One for the current state completes at once; PS7 is declined while work is left;
PS7 is left by way of PS6. -/
def State.actOnRequest (s : State) (t : Nat) : State :=
  if t = s.psCur then { s with psReq := none, psTarget := t }
  else if t = 7 ∧ s.anyWork then { s with psReq := none, psTarget := s.psCur }
  else if s.psCur = 7 ∧ t ≠ 6 then { s.beginTransition 6 with psReq := some t }
  else s.beginTransition t

/-- R391: the controller's own turns of a transition: the islands that go up, then, when no step is left, its end. -/
def State.advance (s : State) : State :=
  if !s.toUnpark.isEmpty then s
  else if !s.toRaise.isEmpty then s.toRaise.foldl State.raiseIsland s
  else if !s.toLower.isEmpty || !s.toPark.isEmpty then s
  else { s with psCur := s.psTarget, psBusy := false, psDone := [] }

/-- R390, R391: a transition starts, goes on or ends. -/
def execTransitionStart (s : State) : Host.Outcome State Fault Refusal :=
  .next (if s.psBusy then s.advance
    else
      match s.psReq with
      | some t => s.actOnRequest t
      | none => s)

end Sys2Proof.Machine
end

