-- ==== Sys2Proof/Machine/HostIo.lean ====
section
/-! DEFINITION. 18_host_pod_trust: host queues and records, completion, checkpoints, the fault ring's words, host memory, modes,
attestation and recovery, links, and firmware's writes through the control space (R35 to R39, R91, R135, R137, R138, R151, R155 to R159,
R288, R371, R396 to R414, R426). -/

namespace Sys2Proof.Machine

/-! ### Records (R137, R398, R399) -/

/-- log2 of a submission queue's size. -/
def HostQ.sqLog (q : HostQ) : Nat := bits q.w2 4 0
/-- The completion queue paired with a submission queue. -/
def HostQ.cq (q : HostQ) : Nat := bits q.w2 21 16

/-- The next record of a queue. -/
def State.head (s : State) (q : Nat) : List Word :=
  let k := s.queue q
  wordsIn 8 (s.read { sp := .hbm, off := k.w0.toNat + 64 * (k.head % 2 ^ k.sqLog) } 64)

/-- KIND of a record. -/
def recKind (r : List Word) : Nat := bits (nthW r 0) 63 60
/-- CTX of a record. -/
def recCtx (r : List Word) : Nat := bits (nthW r 0) 59 51

/-- Whether a context has been created. -/
def State.created (s : State) (ctx : Nat) : Bool := decide (ctx < 512) && !(s.context ctx).clusters.isEmpty

/-- The cores of a context. -/
def State.coresOf (s : State) (ctx : Nat) : List Nat := (s.context ctx).clusters.flatMap clusterCores

/-- Whether a context's cores still load its image. -/
def State.loadingCtx (s : State) (ctx : Nat) : Bool := (s.coresOf ctx).any (fun c => (s.core c).loading)

/-- R137: whether a completion queue is full. -/
def HostQ.full (q : HostQ) : Bool := decide (2 ^ bits q.w2 12 8 ≤ q.cqTail - q.cqHead) || !q.heldRecs.isEmpty

/-- R137, R399, R407, R414: whether the IOD may take the next record of a queue now: none while the paired completion queue is full. -/
def State.mayTake (s : State) (q : Nat) : Bool :=
  let k := s.queue q
  decide (q < 64) && wbit k.w2 63 && decide (k.head < k.tail) && (s.mode == 1 || s.mode == 2) && s.psCur != 7 &&
  !(s.queue k.cq).full && !(decide (recKind (s.head q) < 3) && (s.context (recCtx (s.head q))).abort.isSome)

/-- A record taken. -/
def State.taken (s : State) (q : Nat) : State :=
  ({ s with lastQ := q } : State).setQueue q { s.queue q with head := (s.queue q).head + 1 }

/-- A record taken and completed at once. -/
def State.answer (s : State) (q status : Nat) (r : List Word) : State :=
  (s.taken q).complete q status (recKind r) (if recKind r = 3 then 0 else recCtx r) 0 (nthW r 5) 0x7FFF

/-- R398: what every kind shares: a known KIND, word 0 bits 40:32 zero, word 7 zero, CQ the paired queue. -/
def State.recordOk (s : State) (q : Nat) (r : List Word) : Bool :=
  decide (recKind r < 4) && bits (nthW r 0) 40 32 == 0 && nthW r 7 == 0 && bits (nthW r 4) 47 42 == (s.queue q).cq

/-- R137: a submission queue's tail set. -/
def State.setTail (s : State) (q tail : Nat) : State := s.setQueue q { s.queue q with tail := tail }

/-- R137: the host writes a submission queue's tail. -/
def execSqDoorbell (q tail : Nat) (s : State) : Host.Outcome State Fault Refusal := occurs (decide (q < 64)) (s.setTail q tail)

/-- R137: a completion queue's head advanced; held records are written, in order, while there is room. -/
def State.setCqHead (s : State) (q head : Nat) : State :=
  let k := s.queue q
  k.heldRecs.foldl (fun t r => t.postCompletion q r) (s.setQueue q { k with cqHead := head, heldRecs := [] })

/-- R137: the host advances a completion queue's head. -/
def execCqHeadWrite (q head : Nat) (s : State) : Host.Outcome State Fault Refusal := occurs (decide (q < 64)) (s.setCqHead q head)

/-- R397, R407: a queue configuration word written, while EN is 0 and the mode lets queues be configured; with `q` 64 a word of the
fault ring, its base or its size (R135, log entry 10). -/
def State.configure (s : State) (q word : Nat) (value : Word) : State :=
  let k := s.queue q
  if q = 64 then
    match word with
    | 0 => { s with faults := { s.faults with base := value } }
    | 1 => { s with faults := { s.faults with size := value &&& 0x1F } }
    | _ => s
  else if wbit k.w2 63 || s.mode == 3 then s
  else
    match word with
    | 0 => s.setQueue q { k with w0 := value }
    | 1 => s.setQueue q { k with w1 := value }
    | 2 => s.setQueue q { k with w2 := keepBits value [(63, 63), (21, 16), (12, 8), (4, 0)] }
    | _ => s

/-- R397: the host writes a queue configuration word, or one of the fault ring. -/
def execQueueConfigurationWrite (q word : Nat) (value : Word) (s : State) : Host.Outcome State Fault Refusal :=
  occurs (decide (q < 65) && decide (word < 4)) (s.configure q word value)

/-! ### Launches (R37 to R39, R398) -/

/-- ALLOT of a launch. -/
def recAllot (r : List Word) : Nat := bits (nthW r 0) 50 48
/-- THREADS of a launch. -/
def recThreads (r : List Word) : Nat := bits (nthW r 0) 47 41
/-- TEAMS of a launch. -/
def recTeams (r : List Word) : Nat := bits (nthW r 0) 31 0
/-- The rows of a buffer that a launch asks for on a core. -/
def recRows (r : List Word) (b : Nat) : Nat :=
  let w := nthW r 3
  ((if b = 1 then bits w 48 32 else if b = 2 then bits w 31 16 else bits w 15 0) + 63) / 64

/-- R37, R38, R398: the ranges of a launch record. -/
def launchFormOk (r : List Word) : Bool :=
  decide (1 ≤ recAllot r) && decide (recAllot r ≤ 4) && decide (1 ≤ recThreads r) && decide (recThreads r ≤ 96) &&
  decide (1 ≤ recTeams r) && decide (1 ≤ bits (nthW r 6) 13 0) &&
  decide (bits (nthW r 3) 48 32 ≤ 98304) && decide (bits (nthW r 3) 31 16 ≤ 49152) && decide (bits (nthW r 3) 15 0 ≤ 16384)

/-- R38: whether a core's usable capacity meets the floor and the demand in every buffer. -/
def State.meetsDemand (s : State) (r : List Word) (c : Nat) : Bool :=
  [1, 2, 3].all (fun b => decide (s.floor c b + recRows r b ≤ s.spcap c b))

/-- R38: whether some cluster of the context has enough such cores. -/
def State.capacityOk (s : State) (r : List Word) : Bool :=
  (s.context (recCtx r)).clusters.any (fun n =>
    decide ((recThreads r + 1) / 2 ≤ ((clusterCores n).filter (s.meetsDemand r)).length))

/-- A team of a launch, not yet placed. -/
def teamOf (id launch ctx number threads allot : Nat) (entry args : Word) (rw ra rc : Nat) : Team :=
  { id := id, launch := launch, ctx := ctx, number := number, threads := threads, allot := allot, entry := entry, args := args,
    cluster := 512, cores := [], bases := [], rowsW := rw, rowsA := ra, rowsC := rc, placed := false, resident := false,
    leaving := false, since := id, saved := [], savedMem := [], savedVal := [], savedDq := [], savedRdy := [], savedEng := [],
    ended := [], arrived := [] }

/-- R39: the teams of a launch, dealt in team order. -/
def State.placeTeams (s : State) (launch : Nat) (r : List Word) : State :=
  (List.range (recTeams r)).foldl (fun t i =>
    let m := teamOf t.nextId launch (recCtx r) i (recThreads r) (recAllot r) (entryPc (nthW r 1)) (nthW r 2) (recRows r 1) (recRows r 2)
      (recRows r 3)
    ({ t.bump with teams := t.teams ++ [m] } : State).deal m) s

/-- R37 to R39: a launch proceeds. -/
def State.launch (s : State) (q : Nat) (r : List Word) : State :=
  let l : Launch := { id := s.nextId, queue := some q, fw := false, ctx := recCtx r, tag := nthW r 5, job := bits (nthW r 4) 63 48,
                      nmod := bits (nthW r 6) 13 0, wdog := bits (nthW r 4) 31 0, at_ := s.usec }
  (({ s.bump with launches := s.launches ++ [l] } : State).taken q).placeTeams s.nextId r

/-- R38, R398: a launch record is taken, and with it a record of a reserved KIND. -/
def execLaunchRecord (q : Nat) (s : State) : Host.Outcome State Fault Refusal :=
  occurs (decide (q < 64))
    (let r := s.head q
     if !s.mayTake q || (recKind r != 0 && decide (recKind r < 4)) || s.loadingCtx (recCtx r) then s
     else if !s.recordOk q r || !launchFormOk r then s.answer q 1 r
     else if !s.created (recCtx r) then s.answer q 4 r
     else if !s.capacityOk r then s.answer q 2 r
     else s.launch q r)

/-! ### Creating and destroying contexts (R155, R156, R372, R373, R398) -/

/-- FIRST and COUNT of a create record. -/
def recClusters (r : List Word) : List Nat := natRange (bits (nthW r 1) 8 0) (bits (nthW r 1) 18 9)

/-- The floors of a create record, by buffer. -/
def recFloor (r : List Word) (b : Nat) : Nat :=
  let w := nthW r 6
  if b = 1 then bits w 42 32 else if b = 2 then bits w 25 16 else bits w 8 0

/-- R398: the form of a create record. -/
def createFormOk (r : List Word) : Bool :=
  bits (nthW r 0) 50 0 == 0 && bits (nthW r 4) 31 0 == 0 && decide (1 ≤ bits (nthW r 1) 18 9) && decide (bits (nthW r 1) 18 9 ≤ 512) &&
  [1, 2, 3].all (fun b => decide (recFloor r b ≤ bufRows b))

/-- The words of the core image that a create record names, an HBM address. -/
def State.recImage (s : State) (r : List Word) : List Word := wordsIn 288 (s.read { sp := .hbm, off := (nthW r 2).toNat } 2304)

/-- R109: whether the image or the permission table of a create record holds a double-bit error. -/
def State.recLost (s : State) (r : List Word) : Bool :=
  s.meetsError { sp := .hbm, off := (nthW r 2).toNat } 2304 false || s.meetsError { sp := .hbm, off := (nthW r 3).toNat } 512 false

/-- Its pages are retired, as for an access of the host's (R412). -/
def State.loseRec (s : State) (r : List Word) : State :=
  (s.outerError { sp := .hbm, off := (nthW r 2).toNat } 2304 false).outerError { sp := .hbm, off := (nthW r 3).toNat } 512 false

/-- The words of the permission table that a create record names, an HBM address. -/
def State.recTable (s : State) (r : List Word) : List Word := wordsIn 64 (s.read { sp := .hbm, off := (nthW r 3).toNat } 512)

/-- R156: the form of a range entry. -/
def rangeFormOk (w0 w1 : Word) : Bool := bits w0 59 58 != 3 && bits w0 56 52 == 0 && bits w1 63 52 == 0 && bits w1 13 0 == 0

/-- R156: the form of a header. -/
def headerFormOk (w0 w1 : Word) : Bool := bits w0 62 5 == 0 && w1 == 0

/-- R156: the form of a table. -/
def tableFormOk (t : List Word) : Bool :=
  headerFormOk (nthW t 0) (nthW t 1) &&
  (List.range (bits (nthW t 0) 4 0)).all (fun i => rangeFormOk (nthW t (2 + 2 * i)) (nthW t (3 + 2 * i)))

/-- R155: whether a core's floors stay within capacity at PS0. -/
def State.floorsOk (s : State) (c w a k : Nat) : Bool :=
  decide (w ≤ s.usable c 1 0) && decide (a ≤ s.usable c 2 0) && decide (k ≤ s.usable c 3 0)

/-- R398: the checks of a create record that end in MALFORMED: the image, the permission table, the floors. -/
def State.createOk (s : State) (r : List Word) : Bool :=
  (!wbit (nthW (s.recImage r) 0) 63 || (s.imageBad (s.recImage r)).isNone) && tableFormOk (s.recTable r) &&
  (recClusters r).all (fun n => (clusterCores n).all (fun c => s.floorsOk c (recFloor r 1) (recFloor r 2) (recFloor r 3)))

/-- R35, R155, R156, R173: a context comes to own its clusters; their cores begin to load the image for a record of queue `q`. -/
def State.install (s : State) (q : Nat) (r : List Word) : State :=
  let ns := recClusters r
  let t := s.recTable r
  let x : Context := { clusters := ns, header := nthW t 0, ranges := (List.range 31).map (fun i => (i, (nthW t (2 + 2 * i), nthW t (3 + 2 * i)))),
                       abort := none, loader := some q }
  let s1 : State := { s with contexts := tblSet s.contexts (recCtx r) x,
                             coreCtx := s.coreCtx.filter (fun e => !ns.contains (clusterOf e.1)) }
  let s2 : State := ns.foldl (fun t n => t.modCluster n (fun k =>
    { k with owner := some (recCtx r), cmd := [], lastCmd := none, idWaits := [], quantum := s.usec })) s1
  (ns.flatMap clusterCores).foldl (fun t c =>
    ({ t with floors := tblSet t.floors c (recFloor r 1, recFloor r 2, recFloor r 3) } : State).modCore c (fun k => { k with loading := true })) s2

/-- The bytes of the handler-table image of a core at its HTB, once every page of it is translated for its context. -/
def State.tableBytes (s : State) (c ctx : Nat) (htb : Word) : Option (List Byte) :=
  (List.range 32).foldl (fun a i =>
    match a, s.translate c false ctx (htb + wordOf (64 * i)) with
    | some bs, .page p => if p.r then some (bs ++ s.read p.loc 64) else none
    | _, _ => none) (some [])

/-- R109: the block of that image that holds a double-bit error. -/
def State.tableLost (s : State) (c ctx : Nat) (htb : Word) : Option Loc :=
  (List.range 32).findSome? (fun i =>
    match s.translate c false ctx (htb + wordOf (64 * i)) with
    | .page p => if s.meetsError p.loc 64 false then some p.loc else none
    | _ => none)

/-- A core that loads takes its image and a handler table's bytes; its closed classes that become empty refuse what they hold (R129). -/
def State.loadedWith (s : State) (c : Nat) (ws : List Word) (bs : List Byte) : State :=
  (s.modCore c (fun k => { k.loadImage ws (wordsIn 256 bs) with loading := false })).tableChanged c (s.core c)

/-- The same with the table read through the context's translation; a double-bit error there aborts the context (R109). -/
def State.loadTable (s : State) (c ctx : Nat) (ws : List Word) : State :=
  let va := baseVa (coreCrMask 0x102 (nthW ws 1))
  match s.tableLost c ctx va with
  | some l => (s.loadedWith c ws []).eccAbort l 64 false false ctx c
  | none => s.loadedWith c ws ((s.tableBytes c ctx va).getD [])

/-- R372: a core that loads: at once where its image's V is 0 or its handler table's page is translated; a page that is not is walked for,
and one that the walker does not give leaves every entry empty. The core lies in the context of the record, whatever CTX and V of the
image say (log entry 28). -/
def State.loadCore (s : State) (ctx : Nat) (ws : List Word) (ans : Option WalkAnswer) (c : Nat) : State :=
  if !(s.core c).loading then s
  else if !wbit (nthW ws 0) 63 then (s.modCore c (fun k => { k.unloadImage with loading := false })).tableChanged c (s.core c)
  else
    match s.tableBytes c ctx (baseVa (coreCrMask 0x102 (nthW ws 1))), ans with
    | some _, _ => s.loadTable c ctx ws
    | none, none => s
    | none, some a =>
      match s.walked c false a with
      | .entry t => t.loadTable c ctx ws
      | _ => s.loadedWith c ws []

/-- The cores of a new context load; with the last of them the record completes. -/
def State.loadCores (s : State) (q : Nat) (r : List Word) (ans : Option WalkAnswer) : State :=
  let t := (s.coresOf (recCtx r)).foldl (fun t c => t.loadCore (recCtx r) (s.recImage r) ans c) s
  if t.loadingCtx (recCtx r) then t
  else ({ t with contexts := tblSet t.contexts (recCtx r) { t.context (recCtx r) with loader := none } } : State).answer q 0 r

/-- R398: a create record. Its cores own the context while they load; the record is taken when all have loaded. Where a page of the handler
table is not translated the record goes on in a later step, with the walker's answer. Another queue's record for a context that
still loads finds its number in use. An image or table that holds a double-bit error is malformed (log entry 83). -/
def execCreateContextRecord (rec : TakenRecord) (s : State) : Host.Outcome State Fault Refusal :=
  occurs (decide (rec.queue < 64))
    (let q := rec.queue
     let r := s.head q
     if !s.mayTake q || recKind r != 1 then s
     else if (s.context (recCtx r)).loader = some q then s.loadCores q r (some rec.ans)
     else if !s.recordOk q r || !createFormOk r then s.answer q 1 r
     else if s.created (recCtx r) || (recClusters r).any (fun n => decide (512 ≤ n) || (s.cluster n).owner.isSome) then s.answer q 4 r
     else if s.recLost r then (s.loseRec r).answer q 1 r
     else if !s.createOk r then s.answer q 1 r
     else (s.install q r).loadCores q r none)

/-- A context gone: its clusters free, their cores returned to no context, its table and floors removed. -/
def State.destroy (s : State) (ctx : Nat) : State :=
  let ns := (s.context ctx).clusters
  let s1 : State := ns.foldl (fun t n => t.modCluster n (fun k => { k with owner := none })) s
  let s2 : State := (ns.flatMap clusterCores).foldl (fun t c =>
    (({ t with floors := tblDel t.floors c } : State).modCore c Core.unloadImage).tableChanged c (t.core c)) s1
  { s2 with contexts := tblDel s2.contexts ctx, coreCtx := s2.coreCtx.filter (fun e => !ns.contains (clusterOf e.1)) }

/-- R398: a destroy record. -/
def execDestroyContextRecord (q : Nat) (s : State) : Host.Outcome State Fault Refusal :=
  occurs (decide (q < 64))
    (let r := s.head q
     if !s.mayTake q || recKind r != 2 || s.loadingCtx (recCtx r) then s
     else if !(s.recordOk q r && bits (nthW r 0) 50 0 == 0 && nthW r 1 == 0 && nthW r 2 == 0 && nthW r 3 == 0 &&
               bits (nthW r 4) 31 0 == 0 && nthW r 6 == 0) then s.answer q 1 r
     else if !s.created (recCtx r) || s.launches.any (fun l => !l.fw && l.ctx == recCtx r) then s.answer q 4 r
     else (s.destroy (recCtx r)).answer q 0 r)

/-! ### Completion and the watchdog (R400, R401) -/

/-- Whether a core holds no work of its owner: nothing runs, is ready, pends or is queued. Firmware tasks are not the owner's. -/
def Core.workless (k : Core) (fw : Bool) : Bool :=
  (List.range 8).all (fun n => !((k.slot n).busy && (k.slot n).w.ctl.fw == fw)) &&
  (List.range 4).all (fun l => (k.ring l).chip.isEmpty && (k.ring l).spill.isEmpty) && k.events.isEmpty && k.deque.isEmpty &&
  k.pending.isEmpty && k.gmu.isEmpty

/-- The teams of a context, or of the firmware context. -/
def State.teamsOf (s : State) (fw : Bool) (ctx : Nat) : List Team :=
  s.teams.filter (fun t => s.launches.any (fun l => l.id == t.launch && l.fw == fw && (fw || l.ctx == ctx)))

/-- R401: whether a user context holds no work of any kind and all its accesses have been performed. -/
def State.ctxIdle (s : State) (ctx : Nat) : Bool :=
  let mine := fun (c : Nat) => s.ownerOf c == some (false, ctx)
  (s.teamsOf false ctx).all s.teamDone &&
  s.cores.all (fun e => !mine e.1 || e.2.workless false) &&
  !s.parked.any (fun p => !p.w.ctl.fw && p.w.ctl.ctx == ctx) &&
  !s.engines.any (fun e => e.2.halves.any (fun h => h.ctx == ctx) || (match e.2.job with | some j => j.mov.ctx == ctx | none => false)) &&
  !s.results.any (fun r => r.mov.ctx == ctx) &&
  !s.clusters.any (fun e => e.2.owner == some ctx && (!e.2.jobs.isEmpty || !e.2.idWaits.isEmpty || e.2.stages.any (fun x => !x.2.isEmpty))) &&
  !s.packets.any (fun p => !p.fw && p.ctx == ctx) && !s.bcts.any (fun b => !b.fw && b.ctx == ctx) &&
  !s.inflight.any (fun f => mine f.core && !f.fw) && !s.returns.any (fun r => mine r.core)

/-- R401: the launches of a context end together, in the order they were made. -/
def State.endLaunches (s : State) (fw : Bool) (ctx : Nat) : State :=
  let ls := s.launches.filter (fun l => l.fw == fw && (fw || l.ctx == ctx))
  let s1 : State := { s with
    launches := s.launches.filter (fun l => !(l.fw == fw && (fw || l.ctx == ctx)))
    teams := s.teams.filter (fun t => !ls.any (fun l => l.id == t.launch)) }
  ls.foldl (fun t l => match l.queue with | some q => t.complete q 0 0 ctx 0 l.tag 0x7FFF | none => t) s1

/-- R401, R430: whether no work of the firmware context is left on MC1: of a grid's threads, and of the tasks that they have started. -/
def State.gridIdle (s : State) : Bool :=
  (s.teamsOf true 0).all s.teamDone && (s.core mc1).workless true && !s.parked.any (fun p => p.core == mc1) &&
  !s.packets.any (fun p => p.dst == mc1 || p.src == mc1) && !s.inflight.any (fun f => f.core == mc1) && !s.returns.any (fun r => r.core == mc1)

/-- R401: the launches of a context complete once it is idle; a firmware grid (context 512) ends once MC1 holds no work. -/
def execLaunchCompletion (ctx : Nat) (s : State) : Host.Outcome State Fault Refusal :=
  occurs (decide (ctx ≤ 512))
    (if ctx = 512 then (if s.gridIdle then s.endLaunches true 0 else s)
     else if s.launches.any (fun l => !l.fw && l.ctx == ctx) && s.ctxIdle ctx then s.endLaunches false ctx
     else s)

/-- R401: a watchdog of WDOG ms passes without completion. -/
def execWatchdogExpiry (launch : Nat) (s : State) : Host.Outcome State Fault Refusal :=
  .next (match s.launches.find? (fun l => l.id == launch && l.wdog != 0 && decide (l.at_ + 1000 * l.wdog ≤ s.usec)) with
    | some l => s.abortContext l.fw l.ctx 8 0x7FFF
    | none => s)

/-- R411: an L0 handler asks Darkroom to abort its context. -/
def execDarkroomAbortRequest (core slot : Nat) (s : State) : Host.Outcome State Fault Refusal :=
  occurs (isCore core && decide (slot < 8)) (if slot < 2 ∧ (s.slot core slot).busy then s.abortOwner core 11 else s)

/-- R413, R414: an abort ends; records that waited are taken again. -/
def execContextAbortEnd (ctx : Nat) (s : State) : Host.Outcome State Fault Refusal :=
  occurs (decide (ctx ≤ 512))
    (if (s.context ctx).abort.isSome then { s with contexts := tblSet s.contexts ctx { s.context ctx with abort := none } } else s)

/-! ### Checkpoint (R410) -/

/-- The launches of a pod job. -/
def State.jobLaunches (s : State) (job : Nat) : List Launch := s.launches.filter (fun l => job != 0 && l.job == job)

/-- R410 steps 1 and 2: every thread of the job has arrived at `bar.pod`, and its contexts hold no running task and no running engine
or copy job. -/
def State.jobStands (s : State) (job : Nat) : Bool :=
  let ls := s.jobLaunches job
  let ctxs := ls.map (fun l => l.ctx)
  let mine := fun (c : Nat) => match s.ownerOf c with | some (false, x) => ctxs.contains x | _ => false
  s.teams.all (fun t => !ls.any (fun l => l.id == t.launch) || (List.range t.threads).all (fun i =>
    t.ended.contains i || tblGet (Scope.sys, false) t.arrived i == (Scope.pod, false))) &&
  s.cores.all (fun e => !mine e.1 || (List.range 8).all (fun n =>
    let x := e.2.slot n
    !(x.busy && !x.w.thread && !x.w.ctl.fw))) &&
  !s.engines.any (fun e => match e.2.job with | some j => ctxs.contains j.mov.ctx | none => false) &&
  !s.clusters.any (fun e => e.2.jobs.any (fun j => j.running && j.token.isNone && !j.fw && ctxs.contains j.ctx))

/-- The keys that a checkpoint fills in host memory: the first. -/
def destKey (dest : Word) : Nat := ({ sp := .host, off := dest.toNat } : Loc).key

/-- The 8-byte words of a retired frame. -/
def frameWords (f : Nat) : List Nat := natRange (2048 * f) 2048

/-- R410 step 3: HBM streamed to host memory, as it stands (log entry 69). -/
def streamHbm (m : List Host.Cell) (dest : Word) : List Host.Cell :=
  restoreCells (dropRanges m [(destKey dest, 2 ^ 40)]) ((m.filter (fun c => decide (c.1 < 2 ^ 40))).map (fun c => (destKey dest + c.1, c.2)))

/-- R410, R414: the words of host memory that a stream leaves poisoned: those of HBM that hold a double-bit error, and those of retired
frames. -/
def State.streamPoison (s : State) (dest : Word) : List Nat :=
  ((s.poison.filter (fun w => decide (8 * w < 2 ^ 40)) ++ s.retired.flatMap frameWords).map (fun w => destKey dest / 8 + w)).foldl setIns
    (s.poison.filter (fun w => !inRanges [(destKey dest, 2 ^ 40)] (8 * w)))

/-- R410 steps 2 and 3: the stream begins with memory as it stands now, and its completion is to follow. -/
def State.beginStream (s : State) (k : Checkpoint) : State :=
  { s with mem := streamHbm s.mem k.dest, poison := s.streamPoison k.dest, checkpoint := some { k with copying := true } }

/-- R398, R410: a checkpoint record: it waits for its job to stand at `bar.pod`; the record stays at the queue's head until the
checkpoint is complete. -/
def execCheckpointRecord (q : Nat) (s : State) : Host.Outcome State Fault Refusal :=
  occurs (decide (q < 64))
    (let r := s.head q
     if !s.mayTake q || recKind r != 3 then s
     else
       match s.checkpoint with
       | some k => if k.queue = q ∧ !k.copying ∧ s.jobStands k.job then s.beginStream k else s
       | none =>
         if !(s.recordOk q r && bits (nthW r 0) 59 0 == 0 && bits (nthW r 2) 13 0 == 0 && nthW r 3 == 0 && bits (nthW r 4) 31 0 == 0 &&
              nthW r 6 == 0) then s.answer q 1 r
         else { s with checkpoint := some { queue := q, job := bits (nthW r 1) 15 0, dest := nthW r 2, tag := nthW r 5, copying := false } })

/-- R410 step 4, R414: the stream's end: the units of pages retired meanwhile poisoned, the completion record, and the barrier's
release. -/
def execCheckpointStream (s : State) : Host.Outcome State Fault Refusal :=
  .next (match s.checkpoint with
    | some k =>
      if k.copying then
        let gone := (s.retired.flatMap frameWords).map (fun w => destKey k.dest / 8 + w)
        ((({ s with poison := gone.foldl setIns s.poison, checkpoint := none } : State).taken k.queue).complete k.queue 0 3 0 0 k.tag
          0x7FFF).barSettle
      else s
    | none => s)

/-! ### The fault ring's words (R135, R371) -/

/-- R135: the consumer index advanced; held records are written, in order, while there is room. -/
def State.setConsumer (s : State) (index : Nat) : State :=
  let f := s.faults
  f.heldRecs.foldl (fun t e =>
      if t.faults.prod - t.faults.cons < t.faults.capacity && t.faults.heldRecs.isEmpty then t.putFault e.1 e.2
      else { t with faults := { t.faults with heldRecs := t.faults.heldRecs ++ [e] } })
    { s with faults := { f with cons := index, heldRecs := [] } }

/-- R135: the host advances the consumer index. -/
def execFaultConsumerIndex (index : Nat) (s : State) : Host.Outcome State Fault Refusal := .next (s.setConsumer index)

/-- R135, R371: the resolution word written; `fres` is broadcast for every context, and reaches the firmware's cores. -/
def State.resolveAll (s : State) (seq : Nat) : State :=
  let s1 : State := { s with faults := { s.faults with res := wordOf seq } }
  let s2 : State := (s1.contexts.map (fun e => e.1)).foldl (fun t x => t.resolve x seq) s1
  ((s2.cores.map (fun e => e.1)).filter (fun c => isMc c || isTsc c)).foldl (fun t c => t.resolveCore c seq) s2

/-- R135, R371: the host writes the resolution word. -/
def execResolutionWord (seq : BitVec 32) (s : State) : Host.Outcome State Fault Refusal := .next (s.resolveAll seq.toNat)

/-! ### Host memory accesses, attestation, recovery, power-on, modes (R395, R402, R406 to R409) -/

/-- R409, R432: the bytes of the firmware image: as many as firmware memory has, zero where none is listed (log entry 7). -/
def State.imageBytes (s : State) : List Byte := (List.range (2 ^ 28)).map (fun i => tblGet 0 s.fwImage i)

/-- R154: the bytes of the fail table: the cores by rising ID, of each its W, A and C rows. -/
def State.failBytes (s : State) : List Byte :=
  ((List.range 32768).filter isCompute).flatMap (fun c => [1, 2, 3].flatMap (fun b =>
    (List.range (bufPhys b)).map (fun p => BitVec.ofNat 8 (s.okBits c b p))))

/-- R408: bytes 0 to 191 of the report: nonce, digests, MODE, PCEIL, MODNUM, USEC. -/
def State.reportBody (s : State) : List Byte :=
  (List.range 4).flatMap (fun i => bytesOf 8 (tblGet 0 s.attest i).toNat) ++
  sha512 s.imageBytes ++ sha512 s.failBytes ++
  bytesOf 8 s.mode ++ bytesOf 8 s.pceil ++ bytesOf 8 s.modnum ++ bytesOf 8 s.usec

/-- R408: the report of 704 bytes, its last 512 the signature of what stands before (log entry 7). -/
def State.report (s : State) : List Byte := s.reportBody ++ (List.range 512).map (Config.signature s.reportBody)

/-- R397, R408: an attestation word written, or with 6 and 7 one of the recovery words; a request is answered by the report, and the
request word cleared. -/
def State.attestWord (s : State) (word : Nat) (value : Word) : State :=
  if 6 ≤ word then { s with recov := tblSet s.recov (word - 6) value }
  else if word = 5 ∧ value = 1 then
    (if tblGet 0 s.attest 5 = 1 then s
     else ({ s with attest := tblSet s.attest 5 0 } : State).write { sp := .host, off := (tblGet 0 s.attest 4).toNat } s.report)
  else { s with attest := tblSet s.attest word value }

/-- R397, R408: the host writes an attestation word or a recovery word. -/
def execAttestationRequest (word : Nat) (value : Word) (s : State) : Host.Outcome State Fault Refusal :=
  occurs (decide (word < 8)) (s.attestWord word value)

/-- R397: an aligned 8-byte host write of the I/O die control page; words that the host does not write drop it. -/
def State.barWrite (s : State) (off : Nat) (v : Word) : State :=
  if 0x1000 ≤ off ∧ off < 0x1200 then s.setTail ((off - 0x1000) / 8) v.toNat
  else if 0x1400 ≤ off ∧ off < 0x1600 then s.setCqHead ((off - 0x1400) / 8) v.toNat
  else if 0x2000 ≤ off ∧ off < 0x2800 then s.configure ((off - 0x2000) / 32) ((off - 0x2000) % 32 / 8) v
  else if off = 0x3000 ∨ off = 0x3008 then s.configure 64 ((off - 0x3000) / 8) v
  else if off = 0x3018 then s.setConsumer v.toNat
  else if off = 0x3020 then s.resolveAll (v.toNat % 2 ^ 32)
  else if 0x3800 ≤ off ∧ off < 0x3840 then s.attestWord ((off - 0x3800) / 8) v
  else s

/-- R396: whether a host access to BAR0 is 8 bytes wide and aligned. -/
def barOk (off n : Nat) : Bool := n == 8 && off % 8 == 0

/-- R402, R395, R396: a host access to device memory or to BAR0. In PS7 reads of device memory are poisoned and writes dropped; one that
meets a double-bit error performs nothing and has its page retired (R109, R412); a BAR0 access of another width or alignment is dropped
or reads all ones. -/
def execHostMemoryAccess (pa n : Nat) (acc : HostAccess) (s : State) : Host.Outcome State Fault Refusal :=
  let l : Loc := { sp := .hbm, off := pa }
  .next (match acc with
    | .read =>
      if 2 ^ 40 < pa + n then s
      else if s.psCur = 7 then { s with reply := .poison }
      else if s.meetsError l n false then { s.outerError l n false with reply := .poison }
      else { s with reply := .data (s.read l n) }
    | .write d =>
      if s.psCur = 7 ∨ 2 ^ 40 < pa + n then s
      else if s.meetsError l n true then s.outerError l n true
      else s.writeNat l n d.toNat
    | .barRead => { s with reply := .data (if barOk pa n then bytesOf 8 (if pa < 0x4000 then s.ctlWord pa else 0) else List.replicate n 0xFF) }
    | .barWrite d => if barOk pa n then s.barWrite pa d else s)

/-- The module after a reset that keeps the memories outside the cores, what is fused or stored, the links found broken, and the model's
own order of turns: every other field at its reset value. -/
def State.moduleReset (s : State) (mode : Nat) (keep : Host.Cell → Bool) : State :=
  { State.reset with
    mem := s.mem.filter keep, poison := s.poison.filter (fun w => keep (8 * w, 0)), failOk := s.failOk, fwImage := s.fwImage,
    links := (s.links.filter (fun e => e.2.retired)).map (fun e => (e.1, { Link.reset with retired := true })),
    modnum := s.modnum, mode := mode, agenda := s.agenda, beat := s.beat, nextId := s.nextId }

/-- Whether a cell lies outside the cores' buffers. -/
def outsideCores (m : Host.Cell) : Bool := decide (m.1 < 4 * 2 ^ 72)

/-- Whether a cell lies in host memory or in another module. -/
def outsideModule (m : Host.Cell) : Bool := decide (2 ^ 72 ≤ m.1) && decide (m.1 < 4 * 2 ^ 72) && !(decide (2 * 2 ^ 72 ≤ m.1) && decide (m.1 < 3 * 2 ^ 72))

/-- R409: the image at an HBM address: as many bytes as firmware memory has (log entry 7). -/
def State.imageAt (s : State) (pa : Word) : List Host.Cell :=
  (s.mem.filter (fun m => decide (pa.toNat ≤ m.1) && decide (m.1 < pa.toNat + 2 ^ 28) && decide (m.1 < 2 ^ 40))).map (fun m => (m.1 - pa.toNat, m.2))

/-- R409: the host's request of a new image, and whether Safelight's verification of it succeeds: the image is replaced and the module
reset, or the request word cleared. -/
def execRecoveryRequest (image : Word) (verified : Bool) (s : State) : Host.Outcome State Fault Refusal :=
  .next (if s.mode = 3 then
      (if verified then ({ s with fwImage := s.imageAt image } : State).moduleReset 0 outsideCores
       else { s with recov := tblSet (tblSet s.recov 0 image) 1 0 })
    else { s with recov := tblSet (tblSet s.recov 0 image) 1 1 })

/-- R397, R406: power-on, and whether every verification succeeds: start-up, in which Safelight sets MODNUM, or recovery. -/
def execPowerOn (verified : Bool) (modnum : BitVec 14) (s : State) : Host.Outcome State Fault Refusal :=
  .next (({ s with modnum := if verified then modnum.toNat else 0 } : State).moduleReset (if verified then 0 else 3) outsideModule)

/-- R91: firmware sets every SPMODE to 0. -/
def State.clearSpmode (s : State) : State := { s with cores := s.cores.map (fun e => (e.1, { e.2 with spmode := 0 })) }

/-- R91, R150, R406, R407: Safelight changes MODE: into service from start-up or test, into test from service with the module idle,
into recovery from start-up. -/
def execModeChange (m : Nat) (s : State) : Host.Outcome State Fault Refusal :=
  .next (match m, s.mode with
    | 1, 0 => ({ s with mode := 1, routesUp := true } : State).clearSpmode
    | 1, 2 => ({ s with mode := 1 } : State).clearSpmode
    | 2, 1 => if s.anyWork then s else { s with mode := 2 }
    | 3, 0 => { s with mode := 3 }
    | _, _ => s)

/-! ### The pod (R403) -/

/-- R403: another module's arrival at `bar.pod` of a job. -/
def execPodBarrierArrival (job _module : Nat) (s : State) : Host.Outcome State Fault Refusal :=
  .next (if job = 0 then s
    else ({ s with podArrived := tblSet s.podArrived job (tblGet 0 s.podArrived job + 1) } : State).barSettle)

/-- R403, R395: another module's access to this module's HBM, performed at its home: refused in PS7, and where it meets a double-bit error
its page is retired. What it returns is the module's reply. -/
def State.podAccess (s : State) (pa n : Nat) (k : AccKind) (data cmp : Nat) : State :=
  let l : Loc := { sp := .hbm, off := pa }
  let store := k.writes && !k.reads
  if s.psCur = 7 ∨ 2 ^ 40 < pa + n then { s with reply := .refused }
  else if s.meetsError l n store then { s.outerError l n store with reply := .poison }
  else
    match s.apply { id := 0, acc := 0, core := mc0, slot := 0, work := 0, pc := 0, va := 0, loc := l, idx := 0, len := n, total := n, kind := k,
                    acq := false, rel := false, scope := some .pod, ord := 0, data := data, cmp := cmp, dest := .none, st := .going, fw := false } with
    | (t, .ok v) => { t with reply := .data (bytesOf n v) }
    | (t, .bad _) => { t with reply := .refused }

/-- R403, R134: a write by another module of its own HBM: what this module's cores read and watch there. -/
def State.podWrite (s : State) (m off n data : Nat) : State := s.writeNat { sp := .remote m, off := off } n data

/-! ### Links (R138, R404) -/

/-- Whether a sequence number lies ahead of another by less than half of the 12-bit circle. -/
def seqAhead (a b : Nat) : Bool := decide ((b + 4096 - a % 4096) % 4096 < 2048)

/-- The numbers from `a` up to but not including `b`, modulo 4,096. -/
def seqRange (a b : Nat) : List Nat := (List.range ((b + 4096 - a % 4096) % 4096)).map (fun i => (a + i) % 4096)

/-- R404: a flit arrives: one that was missing is accepted, one in sequence or ahead of it too, the numbers between being NAKed; a bad
CRC is NAKed; a repeat is discarded. -/
def execFlitArrival (link seq : Nat) (crcOk : Bool) (s : State) : Host.Outcome State Fault Refusal :=
  occurs (decide (seq < 4096)) (s.modLink link (fun k =>
    if k.naks.contains seq then (if crcOk then { k with naks := k.naks.filter (fun x => x != seq) } else k)
    else if seqAhead k.expect seq then
      { k with naks := k.naks ++ seqRange k.expect seq ++ (if crcOk then [] else [seq]), expect := (seq + 1) % 4096 }
    else k))

/-- R138: an acknowledgement frees its entry of the send window. -/
def execFlitAck (link seq : Nat) (s : State) : Host.Outcome State Fault Refusal :=
  occurs (decide (seq < 4096)) (s.modLink link (fun k =>
    { k with window := k.window.filter (fun x => x != seq), skips := k.skips.filter (fun x => x != seq) }))

/-- R404: a NAK: the flit is sent again from the window, or, where its entry has a double-bit error, a skip token in its stead. -/
def execFlitNak (link seq : Nat) (windowError : Bool) (s : State) : Host.Outcome State Fault Refusal :=
  occurs (decide (seq < 4096)) (s.modLink link (fun k =>
    if windowError && k.window.contains seq && !k.skips.contains seq then { k with skips := k.skips ++ [seq] } else k))

/-- R404: a link retired with no route left: the contexts of its undelivered packets abort with reason 9. -/
def State.abortLost (s : State) (xs : List Nat) : State :=
  xs.foldl (fun t x => if x = fwCtx then t.abortContext true 0 9 0x7FFF else t.abortContext false x 9 0x7FFF) s

/-- The index of the context that an access is made for. -/
def State.flightCtx (s : State) (f : Flight) : Nat :=
  if f.fw then fwCtx
  else
    match s.ownerOf f.core with
    | some (false, x) => x
    | _ => fwCtx

/-- R404: what crosses a link and is not delivered, with its context: messages with a replay copy there, accesses and engine rows, which
stay in the state as their own copies until they are performed (log entry 71); on a link within a die, whose number is 64 and its
engine's, the packets at its ends. -/
def State.onLink (s : State) (link : Nat) : List (Nat × Nat) :=
  (s.link link).copies ++
  (s.inflight.filter (fun f => f.st != .withdrawn && ((s.flightLinks f).getD []).contains link)).map (fun f => (f.id, s.flightCtx f)) ++
  (s.results.filter (fun r => ((s.rowLinks r.mov).getD []).contains link)).map (fun r => (r.id, r.mov.ctx)) ++
  (s.packets.filter (fun p => decide (64 ≤ link) && (p.at_ == engineLow (link - 64) || p.at_ == engineHigh (link - 64)))).map
    (fun p => (p.id, if p.fw then fwCtx else p.ctx))

/-- Whether the dies of a die-to-die link still have a path (log entry 110); what is left of other links is the agent's to say. -/
def State.routeFor (s : State) (link : Nat) : Bool := decide (64 ≤ link) || (s.diePath (link / 8) (link % 8)).isSome

/-- R404: a destination asks for replay of a packet. After 8 failed replays the link is retired; the source replays over the new route
while one is left. -/
def execReplayRequest (link pkt : Nat) (routeLeft : Bool) (s : State) : Host.Outcome State Fault Refusal :=
  .next (
    let on := s.onLink link
    let n := tblGet 0 (s.link link).fails pkt + 1
    if !on.any (fun e => e.1 == pkt) then s
    else if n < 8 then s.modLink link (fun k => { k with fails := tblSet k.fails pkt n })
    else
      let s1 : State := s.modLink link (fun k => { k with retired := true, fails := [] })
      if routeLeft && s1.routeFor link then s1 else s1.abortLost (on.map (fun e => e.2)))

/-- The context, firmware's or a user's, and the core of what is under way under an identity: a packet, an access, a value on its way back,
a row, a multicast unit. -/
def State.underWay (s : State) (id : Nat) : Option (Bool × Nat × Nat) :=
  let of := fun (fw : Bool) (c : Nat) => if fw then some (true, 0, c) else (s.ownerOf c).map (fun o => (o.1, o.2, c))
  match s.packets.find? (fun p => p.id == id), s.inflight.find? (fun f => f.id == id), s.returns.find? (fun r => r.id == id) with
  | some p, _, _ => some (p.fw, p.ctx, p.at_)
  | _, some f, _ => of f.fw f.core
  | _, _, some r => of r.fw r.core
  | _, _, _ =>
    match s.results.find? (fun r => r.id == id), s.bcts.find? (fun b => b.id == id) with
    | some r, _ => some (false, r.mov.ctx, r.mov.core)
    | _, some b => some (b.fw, b.ctx, b.core)
    | _, _ => none

/-- R404, R411: a bad flit of what is under way on a link within a die aborts the context that owns it. -/
def State.badFlit (s : State) (id : Nat) : State :=
  match s.underWay id with
  | some o => s.abortContext o.1 o.2.1 7 (o.2.2 % 2 ^ 15)
  | none => s

/-- R191: a double-bit error in the part of an engine's state that holds a half, those of its job being numbers 0 and 1 and the queued ones
the next: the half's context aborts, which drops it. -/
def State.engineUpset (s : State) (e half : Nat) : State :=
  let x := s.engine e
  match ((match x.job with | some j => [j.mov, j.sta] | none => []) ++ x.halves)[half]? with
  | some h => s.abortContext false h.ctx 6 h.core
  | none => s

/-- R404: an end-to-end ACK lets the source drop its replay copy. -/
def execEndToEndAck (link seq : Nat) (s : State) : Host.Outcome State Fault Refusal :=
  .next (s.modLink link (fun k => { k with copies := k.copies.filter (fun e => e.1 != seq), fails := k.fails.filter (fun e => e.1 != seq) }))

/-! ### Firmware through the control space (R36, R151, R155 to R159, R288, R426) -/

/-- R36, R105: Darkroom starts an L0 task of the firmware context on a compute core that is not held for a step of its island. -/
def execControlSpaceTaskStart (core : Nat) (pc frame : Word) (allot : Nat) (s : State) : Host.Outcome State Fault Refusal :=
  occurs (isCompute core && decide (1 ≤ allot) && decide (allot ≤ 4))
    (match (if (s.core core).halted || (s.core core).stepHold then none else s.slotFor core 0 allot false) with
     | some n =>
       let w := s.newWork core 0 allot pc frame 0 0 none
       s.startIn core n { w with ctl := { w.ctl with fw := true, ctx := 0 } }
     | none => s)

/-- R288: a halted compute core dispatches again. -/
def execCoreRestart (core : Nat) (s : State) : Host.Outcome State Fault Refusal :=
  occurs (isCompute core)
    (if tblGet false s.dieParked (coreDie core) then s else s.modCore core (fun k => { k with halted := false }))

/-- R159: an L0 store of a slot reaches a stage configuration word, or is refused. -/
def execStageConfigStore (core slot cluster off : Nat) (value : Word) (s : State) : Host.Outcome State Fault Refusal :=
  occurs (isCore core && decide (slot < 2) && decide (cluster < 512) && decide (off < 256))
    (let x := s.slot core slot
     let at_ := 0x100000 + cluster * 0x4000 + off / 8 * 8
     match s.ctlWrite x.w.ctl.fw x.w.ctl.ctx at_ value with
     | some t => t
     | none => s.event core 8 slot (wordOf at_) 0)

/-- R139: a router: of the mesh under its core's ID, of a die-to-die link, or the pod's (log entry 97). -/
def isRouter (r : Nat) : Bool := isCompute r || (decide (dieRouter 0 ≤ r) && decide (r ≤ dieRouter 64))

/-- Whether a packet's head stands on the die of a router; the pod's router is of every die. -/
def atRouterDie (r c : Nat) : Bool :=
  isCompute c && (if isCompute r then coreDie c == coreDie r else r == dieRouter 64 || coreDie c == (r - dieRouter 0) / 8)

/-- R151: Darkroom writes a class's entry while no packet of the class is in flight on the die. -/
def execRouteTableWrite (router cls : Nat) (value : BitVec 16) (s : State) : Host.Outcome State Fault Refusal :=
  occurs (isRouter router && decide (cls < 64))
    (if s.packets.any (fun p => p.cls == cls && atRouterDie router p.at_) then s
     else { s with routes := tblSet s.routes (router * 64 + cls) (value &&& 0xFE00) })

/-- R158: whether a write narrows a range. -/
def rangeNarrows (old new : Word × Word) : Bool :=
  wbit old.1 63 &&
  !(wbit new.1 63 && (!wbit old.1 62 || wbit new.1 62) && (!wbit old.1 61 || wbit new.1 61) && (!wbit old.1 60 || wbit new.1 60) &&
    bits old.1 59 58 == bits new.1 59 58 && (wbit new.1 57 || (!wbit old.1 57 && bits old.1 13 0 == bits new.1 13 0)) &&
    decide (bits new.1 51 14 ≤ bits old.1 51 14) && decide (bits old.2 51 14 ≤ bits new.2 51 14))

/-- R158: whether an earlier narrowing of a context's table does not count as done yet: an access, or a copy job, that had been translated
before it is still to be performed. -/
def State.narrows (s : State) (ctx : Nat) : Bool :=
  match s.narrowing.find? (fun e => e.1 == ctx) with
  | some e =>
    s.inflight.any (fun f => f.st != .withdrawn && decide (f.id < e.2) && s.flightCtx f == ctx) ||
    s.clusters.any (fun k => k.2.jobs.any (fun j => decide (j.serial < e.2) && (if j.fw then fwCtx else j.ctx) == ctx))
  | none => false

/-- R156 to R158: Safelight writes a permission table's header (entry 0) or range `idx - 1`; a narrowing write empties the TLBs of the
context, and the next write waits until it counts as done. A word that breaks the form is not written. -/
def execPermissionTableWrite (ctx idx : Nat) (w0 w1 : Word) (s : State) : Host.Outcome State Fault Refusal :=
  occurs (decide (ctx ≤ 512) && decide (idx < 32))
    (let x := s.context ctx
     if s.narrows ctx then s
     else if idx = 0 then
       (if !headerFormOk w0 w1 then s
        else
          let t : State := { s with contexts := tblSet s.contexts ctx { x with header := w0 } }
          if (wbit x.header 63 && !wbit w0 63) || decide (bits w0 4 0 < bits x.header 4 0) then t.narrow ctx else t)
     else if !rangeFormOk w0 w1 then s
     else
       let old := tblGet (0, 0) x.ranges (idx - 1)
       let t : State := { s with contexts := tblSet s.contexts ctx { x with ranges := tblSet x.ranges (idx - 1) (w0, w1) } }
       if rangeNarrows old (w0, w1) then t.narrow ctx else t)

/-- R155: Darkroom writes a core's floors, which Safelight checks. -/
def execFloorWrite (core w a c : Nat) (s : State) : Host.Outcome State Fault Refusal :=
  occurs (isCompute core) (if s.floorsOk core w a c then { s with floors := tblSet s.floors core (w, a, c) } else s)

/-- A team of a firmware grid, on MC1. -/
def gridTeam (id launch number threads allot : Nat) (entry args : Word) : Team :=
  { teamOf id launch 0 number threads allot entry args 0 0 0 with cores := [mc1], placed := true, resident := true }

/-- R426: a grid of the firmware context on MC1's L3 slots, in any mode but recovery. MC1's floors are its whole buffers, so that its teams
hold no rows; they start where its L3 slots take all their threads (log entry 72). -/
def execFirmwareGridStart (entry args : Word) (allot : Nat) (grid : GridShape) (s : State) : Host.Outcome State Fault Refusal :=
  occurs (decide (1 ≤ allot) && decide (allot ≤ 4) && decide (1 ≤ grid.teams) && decide (1 ≤ grid.threads) && decide (grid.total ≤ 2))
    (if s.mode = 3 ∨ (s.core mc1).l3Room < grid.total then s
     else
       let l : Launch := { id := s.nextId, queue := none, fw := true, ctx := 0, tag := 0, job := 0, nmod := 1, wdog := 0, at_ := s.usec }
       (List.range grid.teams).foldl (fun u i =>
         let t := gridTeam u.nextId l.id i grid.threads allot entry args
         (List.range grid.threads).foldl (fun v j => v.pushReady mc1 3 (t.threadEntry j)) { u.bump with teams := u.teams ++ [t] })
         { s.bump with launches := s.launches ++ [l] })

end Sys2Proof.Machine
end

