-- ==== Sys2Proof/Machine/Vector.lean ====
section
/-! DEFINITION. 15_isa_vector: the vector unit (R323 to R347). Every lane is computed exactly and finished once. -/

namespace Sys2Proof.Machine

/-! ### Lanes -/

/-- Lane width of a type under a captured NFC (R325). -/
def laneW (nfc : Word) (ty : Ty) : Nat :=
  match ty with
  | .narrow => if (narrowOf nfc).width ≤ 4 then 4 else 8
  | t => tyWidth t

/-- The lanes of a register at width `w`, lane 0 first (R45). -/
def lanesOf (w : Nat) (v : Vec) : List Nat := (List.range (128 / w)).map (lane w v.toNat)

/-- The register with these lanes; lanes not given are zero (R325). -/
def vecOf (w : Nat) (l : List Nat) : Vec := BitVec.ofNat 128 (ofLanes w l)

/-- Lane codes and the OR of their flags (R57). -/
def flagsOf (l : List (Nat × Flags)) : Flags := l.foldl (fun a e => a.or e.2) Flags.zero

/-- The integer that a lane of an integer type holds. -/
def intVal (ty : Ty) (c : Nat) : Int :=
  if tySigned ty then toSigned (tyWidth ty) c else ((c % 2 ^ tyWidth ty : Nat) : Int)

/-- The bits of a lane that are its code: container bits above a narrow code are ignored (R49, R325). -/
def laneCode (nfc : Word) (ty : Ty) (c : Nat) : Nat :=
  match ty with
  | .narrow => c % 2 ^ (narrowOf nfc).width
  | t => c % 2 ^ tyWidth t

/-- A binary lane operation over two registers of a type, the result of the same type. -/
def State.lanes2 (s : State) (ty : Ty) (a b : VReg) (op : Nat → Nat → Nat × Flags) : List (Nat × Flags) :=
  List.zipWith op (lanesOf (laneW s.nfc ty) (s.vr a)) (lanesOf (laneW s.nfc ty) (s.vr b))

/-- A unary lane operation. -/
def State.lanes1 (s : State) (ty : Ty) (a : VReg) (op : Nat → Nat × Flags) : List (Nat × Flags) :=
  (lanesOf (laneW s.nfc ty) (s.vr a)).map op

/-- Lanes written with their flags: the end of every lane operation. -/
def State.retireLanes (s : State) (d : VReg) (w : Nat) (l : List (Nat × Flags)) : State :=
  s.retireF d (vecOf w (l.map (fun e => e.1))) (flagsOf l)

/-! ### Floating and narrow lanes (R326) -/

/-- The captured environment of a lane operation: mode, flushes, modifier, narrow format. -/
structure Env where
  rm  : Nat
  fzi : Bool
  fzo : Bool
  md  : Option Modifier
  nfc : Word
  deriving DecidableEq, Repr

/-- What the issuing instruction captured. -/
def State.env (s : State) : Env := { rm := fpcRm s.fpc, fzi := fpcFzi s.fpc, fzo := fpcFzo s.fpc, md := s.cur.mod, nfc := s.nfc }

/-- A lane as read (R326). -/
def Env.read (e : Env) (ty : Ty) (c : Nat) : Fv := (fmtOf e.nfc ty).read e.fzi c

/-- A result with its flags finished into a floating or narrow type. -/
def Env.finish (e : Env) (ty : Ty) (x : Fv × Flags) (more : Flags) : Nat × Flags :=
  match finishLane (fmtOf e.nfc ty) e.rm e.fzo e.md x.1 with
  | (c, fl) => (c, (fl.or x.2).or more)

/-- NV of the signalling NaNs among inputs (R47). -/
def snanFlags (l : List Fv) : Flags := l.foldl (fun a x => a.or (snanFlag x)) Flags.zero

/-- A binary operation on floating or narrow lanes. -/
def Env.bin (e : Env) (ty : Ty) (f : Fv → Fv → Fv × Flags) (a b : Nat) : Nat × Flags :=
  let x := e.read ty a
  let y := e.read ty b
  e.finish ty (f x y) (snanFlags [x, y])

/-- A binary operation on integer lanes (R327, R60). -/
def Env.binInt (e : Env) (ty : Ty) (f : Int → Int → Int) (a b : Nat) : Nat × Flags :=
  (finishInt (tySigned ty) (tyWidth ty) e.md (f (intVal ty a) (intVal ty b)), Flags.zero)

/-- R327: addition, subtraction and multiplication on any type. -/
def Env.arith (e : Env) (ty : Ty) (ff : Fv → Fv → Fv × Flags) (fi : Int → Int → Int) (a b : Nat) : Nat × Flags :=
  if tyIsInt ty then e.binInt ty fi a b else e.bin ty ff a b

/-- A code after FZI: a subnormal reads as zero of its sign (R56). -/
def Env.flushed (e : Env) (ty : Ty) (c : Nat) : Nat :=
  let f := fmtOf e.nfc ty
  let k := c % 2 ^ f.width
  if e.fzi && !f.narrow && fld k f.mb f.eb == 0 then k - k % 2 ^ f.mb else k

/-- R328, R65: the lesser (or greater) of two lanes, not rounded. -/
def Env.select (e : Env) (ty : Ty) (greater : Bool) (a b : Nat) : Nat × Flags :=
  if tyIsInt ty then
    let x := intVal ty a
    let y := intVal ty b
    (if (if greater then decide (x ≤ y) else decide (y ≤ x)) then b % 2 ^ tyWidth ty else a % 2 ^ tyWidth ty, Flags.zero)
  else
    let f := fmtOf e.nfc ty
    let x := e.read ty a
    let y := e.read ty b
    if x.isNan || y.isNan then (f.nanCode, snanFlags [x, y])
    else
      let p := e.flushed ty a
      let q := e.flushed ty b
      (if (if greater then decide (f.key p ≤ f.key q) else decide (f.key q ≤ f.key p)) then q else p, Flags.zero)

/-- R331: the fused forms: `np` negates the product, `nc` the addend. -/
def Env.fma (e : Env) (ty : Ty) (np nc : Bool) (a b c : Nat) : Nat × Flags :=
  let x := e.read ty a
  let y := e.read ty b
  let z := e.read ty c
  match mulF x y with
  | (p, fl) =>
    match sumF e.rm [if np then p.neg else p, if nc then z.neg else z] with
    | (r, gl) => e.finish ty (r, fl.or gl) (snanFlags [x, y, z])

/-- A fused form over three registers. -/
def State.fused (s : State) (np nc : Bool) (d a b c : VReg) (ty : Ty) : State :=
  let w := laneW s.nfc ty
  let la := lanesOf w (s.vr a)
  let lb := lanesOf w (s.vr b)
  let lc := lanesOf w (s.vr c)
  s.retireLanes d w ((List.range (128 / w)).map (fun i => s.env.fma ty np nc (la.getD i 0) (lb.getD i 0) (lc.getD i 0)))

/-! ### Conversions (R332, R333) -/

/-- The mode of a `vcvt`. -/
def cvtMode (fpc : Word) (rm : CvtRm) : Nat :=
  match rm with
  | .fpc => fpcRm fpc
  | .rne => 0
  | .rtz => 1
  | .rup => 2
  | .rdn => 3

/-- R61: the rows that are exact: a float to the same or a wider one, and a narrow value to FP32 or FP64. -/
def exactRow (dt st : Ty) : Bool :=
  match st, dt with
  | .narrow, .f32 | .narrow, .f64 => true
  | .f16, .f16 | .f16, .f32 | .f16, .f64 => true
  | .bf16, .bf16 | .bf16, .f32 | .bf16, .f64 => true
  | .f32, .f32 | .f32, .f64 => true
  | .f64, .f64 => true
  | _, _ => false

/-- R61: FZO leaves an exact row alone; a scale of the prefix makes it one rounding (R59). -/
def Env.widening (e : Env) (dt st : Ty) : Env :=
  if exactRow dt st && (match e.md with | some m => m.scale == 0 | none => true) then { e with fzo := false } else e

/-- One lane converted (R61, R62, R333). MARK (DESIGN CHOICE, log entry 99): a narrow value beyond FP32's largest finite number, which R61 calls
exact and FP32 cannot hold, overflows by the mode and sets OF and NX. -/
def Env.convert (e : Env) (dt st : Ty) (c : Nat) : Nat × Flags :=
  if tyIsInt st then
    let x := intVal st c
    if tyIsInt dt then (finishInt (tySigned dt) (tyWidth dt) e.md x, Flags.zero)
    else e.finish dt (fvOfInt x, Flags.zero) Flags.zero
  else
    let x := e.read st c
    if tyIsInt dt then
      match floatToInt (tySigned dt) (tyWidth dt) e.rm e.md x with
      | (r, fl) => (r, fl.or (snanFlags [x]))
    else (e.widening dt st).finish dt (x, Flags.zero) (snanFlags [x])

/-! ### Special functions (R334, R335) -/

/-- Units of the approximation's fraction: 2^16 to a unit in the last place. -/
def approxUnit : Nat := 65536

/-- R335: an approximation of a value whose magnitude lies strictly between `q` and `q + 1` units of `2^t`: the free
choice `c` places it off the grid, inside the cell (bound of 1 unit) or inside it and its neighbours (2 units; at the top of a binade,
where the cell above is wider, the one below alone). -/
def approxValue (mb : Nat) (neg : Bool) (q : Nat) (t : Int) (two : Bool) (c : Nat) : Fv :=
  if two && decide (q + 1 = 2 ^ (mb + 1)) then .fin neg ((q - 1) * approxUnit + 2 * (c % approxUnit) + 1) (t - 16)
  else if two then
    (if q = 0 then .fin neg (2 * (c % approxUnit) + 1) (t - 16)
     else .fin neg ((q - 1) * approxUnit + 2 * (c % (3 * approxUnit / 2)) + 1) (t - 16))
  else .fin neg (q * approxUnit + 2 * (c % (approxUnit / 2)) + 1) (t - 16)

/-- The exponent of a format's last place at a value in [2^E, 2^(E+1)). -/
def ulpExp (f : Fmt) (ex : Int) : Int := max ex (1 - f.bias) - (f.mb : Int)

/-- `n · 2^k` cut to an integer. -/
def shiftFloor (n : Nat) (k : Int) : Nat := if 0 ≤ k then n * 2 ^ k.toNat else n / 2 ^ (-k).toNat

/-- Whether a number is a power of two. -/
def isPow2 (m : Nat) : Bool := m == 2 ^ m.log2

/-- Two-unit bounds: f64 and f32 (R335). -/
def twoUnits (ty : Ty) : Bool := ty == .f64 || ty == .f32

/-- A special function's result before rounding: the value, its flags and whether it is an approximation. -/
structure Approx where
  x  : Fv
  fl : Flags
  ap : Bool
  deriving DecidableEq, Repr

/-- A value that is not approximated. -/
def exactly (x : Fv) (fl : Flags) : Approx := { x := x, fl := fl, ap := false }
/-- An approximated value. -/
def approximately (x : Fv) : Approx := { x := x, fl := Flags.zero, ap := true }

/-- `vrcp`. -/
def rcpF (f : Fmt) (c : Nat) : Fv → Approx
  | .nan _ => exactly (.nan false) Flags.zero
  | .inf n => exactly (.fin n 0 0) Flags.zero
  | .fin n m e =>
    if m = 0 then exactly (.inf n) Flags.divZero
    else if isPow2 m then exactly (.fin n 1 (-e - (m.log2 : Int))) Flags.zero
    else
      let t := ulpExp f (-e - (m.log2 : Int) - 1)
      let k := -e - t
      approximately (approxValue f.mb n (if 0 ≤ k then 2 ^ k.toNat / m else 0) t false c)

/-- `vrsqrt`. -/
def rsqrtF (f : Fmt) (c : Nat) : Fv → Approx
  | .nan _ => exactly (.nan false) Flags.zero
  | .inf n => if n then exactly (.nan false) Flags.invalid else exactly (.fin false 0 0) Flags.zero
  | .fin n m e =>
    if m = 0 then exactly (.inf n) Flags.divZero
    else if n then exactly (.nan false) Flags.invalid
    else
      let a := if e % 2 = 0 then m else 2 * m
      let h := (if e % 2 = 0 then e else e - 1) / 2
      let j := a.log2 / 2
      if a = 4 ^ j then exactly (.fin false 1 (-h - (j : Int))) Flags.zero
      else
        let t := ulpExp f (-h - (j : Int) - 1)
        let k := (-h - t).toNat
        approximately (approxValue f.mb false (isqrt (4 ^ k / a)) t false c)

/-- Fraction bits of the logarithm and of the argument of the power. -/
def logBits : Nat := 192
/-- Fraction bits carried while squaring. -/
def logWork : Nat := 448
/-- Fraction bits of the power. -/
def expWork : Nat := 256

/-- The next `k` bits of the base-2 logarithm of `x / 2^logWork`, which lies in [1, 2), by repeated squaring. -/
def logGo : Nat → Nat → Nat → Nat
  | 0, _, acc => acc
  | k + 1, x, acc =>
    let y := x * x / 2 ^ logWork
    if 2 ^ (logWork + 1) ≤ y then logGo k (y / 2) (2 * acc + 1) else logGo k y (2 * acc)

/-- `vlog2`. -/
def log2F (f : Fmt) (two : Bool) (c : Nat) : Fv → Approx
  | .nan _ => exactly (.nan false) Flags.zero
  | .inf n => if n then exactly (.nan false) Flags.invalid else exactly (.inf false) Flags.zero
  | .fin n m e =>
    if m = 0 then exactly (.inf true) Flags.divZero
    else if n then exactly (.nan false) Flags.invalid
    else
      let k : Int := e + (m.log2 : Int)
      if isPow2 m then exactly (fvOfInt k) Flags.zero
      else
        let y : Int := k * ((2 ^ logBits : Nat) : Int) + (logGo logBits (shiftFloor m ((logWork : Int) - (m.log2 : Int))) 0 : Nat)
        let mag := if 0 ≤ y then y.toNat else (-y - 1).toNat
        let t := ulpExp f ((mag.log2 : Int) - (logBits : Int))
        approximately (approxValue f.mb (decide (y < 0)) (shiftFloor mag (-(logBits : Int) - t)) t two c)

/-- The product of 2^(2^-i) over the one bits of a fraction, from its top bit down; `r` is the root in hand and `y` the
product, both in units of 2^-expWork. -/
def expGo : Nat → Nat → Nat → Nat → Nat
  | 0, _, _, y => y
  | k + 1, fr, r, y =>
    expGo k fr (isqrt (r * 2 ^ expWork)) (if bitAt fr k then y * r / 2 ^ expWork else y)

/-- `vexp2`. Arguments beyond ±2^14 lie beyond every format. -/
def exp2F (f : Fmt) (two : Bool) (c : Nat) : Fv → Approx
  | .nan _ => exactly (.nan false) Flags.zero
  | .inf n => if n then exactly (.fin false 0 0) Flags.zero else exactly (.inf false) Flags.zero
  | .fin n m e =>
    if m = 0 then exactly (.fin false 1 0) Flags.zero
    else if 14 ≤ e + (m.log2 : Int) then exactly (.fin false 1 (if n then -16384 else 16384)) Flags.zero
    else
      let cut := shiftFloor m (e + (logBits : Int))
      let whole : Bool := if e < 0 then m % 2 ^ (-e).toNat == 0 else true
      if whole then
        (let i := shiftFloor m e
         exactly (.fin false 1 (if n then -(i : Int) else (i : Int))) Flags.zero)
      else
        let rest : Bool := decide (e + (logBits : Int) < 0) && m % 2 ^ (-(e + (logBits : Int))).toNat != 0
        let a : Int := if n then (if rest then -(cut : Int) - 1 else -(cut : Int)) else (cut : Int)
        let i := a / ((2 ^ logBits : Nat) : Int)
        let fr := (a % ((2 ^ logBits : Nat) : Int)).toNat
        let y := expGo logBits fr (isqrt (2 * 4 ^ expWork)) (2 ^ expWork)
        let t := ulpExp f i
        approximately (approxValue f.mb false (shiftFloor y (i - (expWork : Int) - t)) t two c)

/-- A special function on one lane: special values, the one rounding, and NX on every approximated finite result. -/
def Env.special (e : Env) (ty : Ty) (member : Nat) (f : Fmt → Nat → Fv → Approx) (c : Nat) : Nat × Flags :=
  let x := e.read ty c
  let r := f (fmtOf e.nfc ty) (Config.approxChoice member (tyCode ty) e.rm c) x
  match e.finish ty (r.x, r.fl) (snanFlags [x]) with
  | (k, fl) => (k, { fl with nx := fl.nx || r.ap })

/-! ### Reductions (R65, R341) -/

/-- One level of the tree: adjacent values combined. -/
def treeLevel (op : Nat → Nat → Nat × Flags) : List Nat → List (Nat × Flags)
  | a :: b :: t => op a b :: treeLevel op t
  | l => l.map (fun c => (c, Flags.zero))

/-- `k` levels of nodes and then the root; the flags are the OR over the nodes. -/
def treeFold (op root : Nat → Nat → Nat × Flags) : Nat → List Nat → Flags → Nat × Flags
  | 0, l, fl =>
    match root (l.getD 0 0) (l.getD 1 0) with
    | (c, g) => (c, fl.or g)
  | k + 1, l, fl =>
    let n := treeLevel op l
    treeFold op root k (n.map (fun e => e.1)) (fl.or (flagsOf n))

/-- A reduction of a register: the result in lane 0. `flush` says that the leaves are read under FZI. -/
def State.reduce (s : State) (ty : Ty) (d a : VReg) (op root : Env → Nat → Nat → Nat × Flags) : State :=
  let w := laneW s.nfc ty
  let e := s.env
  let leaves := lanesOf w (s.vr a)
  let inner : Env := { e with fzi := false, md := none }
  let rootEnv : Env := { e with fzi := false }
  let flushed := if tyIsInt ty then leaves else leaves.map (e.flushed ty)
  match treeFold (op inner) (root rootEnv) ((128 / w).log2 - 1) flushed Flags.zero with
  | (c, fl) => s.retireF d (vecOf w [c]) fl

/-- The node of `vred.add`. -/
def Env.addNode (ty : Ty) (e : Env) (a b : Nat) : Nat × Flags :=
  e.arith ty (fun x y => sumF e.rm [x, y]) (fun x y => x + y) a b

/-! ### Compare and classify (R342, R343) -/

/-- R342: one comparison: whether it holds, and its flags. -/
def Env.compare (e : Env) (ty : Ty) (cc : VCond) (a b : Nat) : Bool × Flags :=
  if tyIsInt ty then
    let x := intVal ty a
    let y := intVal ty b
    (match cc with
     | .eq => x == y
     | .ne => x != y
     | .lt => decide (x < y)
     | .le => decide (x ≤ y), Flags.zero)
  else
    let x := e.read ty a
    let y := e.read ty b
    if x.isNan || y.isNan then
      (cc == .ne, if cc == .lt || cc == .le then Flags.invalid else snanFlags [x, y])
    else
      let o := cmpF x y
      (match cc with
       | .eq => o == 0
       | .ne => o != 0
       | .lt => decide (o < 0)
       | .le => decide (o ≤ 0), Flags.zero)

/-- R343: the bit of the class of a code. -/
def classBit (f : Fmt) (c : Nat) : Nat :=
  let neg := bitAt c (f.eb + f.mb)
  let ex := fld c f.mb f.eb
  let mn := fld c 0 f.mb
  if ex = 2 ^ f.eb - 1 then
    (if mn = 0 then (if neg then 0 else 7) else if bitAt c (f.mb - 1) then 9 else 8)
  else if ex = 0 then
    (if mn = 0 then (if neg then 3 else 4) else if neg then 2 else 5)
  else if neg then 1 else 6

/-! ### Dot products (R345, R346) -/

/-- The destination type of `vdot`. -/
def dotDest (ty : Ty) : Ty := if ty = .f32 then .f64 else .f32

/-- One lane of `vdot`: the addend and the products' lanes. -/
def Env.dot (e : Env) (ty : Ty) (c : Nat) (la lb : List Nat) : Nat × Flags :=
  let z := e.read (dotDest ty) c
  let xs := la.map (e.read ty)
  let ys := lb.map (e.read ty)
  let ps := List.zipWith mulF xs ys
  match sumF e.rm (z :: ps.map (fun p => p.1)) with
  | (r, fl) => e.finish (dotDest ty) (r, ps.foldl (fun a p => a.or p.2) fl) (snanFlags (z :: (xs ++ ys)))

/-! ### The members -/

/-- R327: `vadd`. -/
def execVadd (d a b : VReg) (ty : Ty) (s : State) : Host.Outcome State Fault Refusal :=
  entered (.vadd d a b ty) s (fun s => 
    s.retireLanes d (laneW s.nfc ty) (s.lanes2 ty a b (s.env.arith ty (fun x y => sumF s.env.rm [x, y]) (fun x y => x + y))))

/-- R327: `vsub`. -/
def execVsub (d a b : VReg) (ty : Ty) (s : State) : Host.Outcome State Fault Refusal :=
  entered (.vsub d a b ty) s (fun s => 
    s.retireLanes d (laneW s.nfc ty) (s.lanes2 ty a b (s.env.arith ty (fun x y => sumF s.env.rm [x, y.neg]) (fun x y => x - y))))

/-- R327: `vmul`. -/
def execVmul (d a b : VReg) (ty : Ty) (s : State) : Host.Outcome State Fault Refusal :=
  entered (.vmul d a b ty) s (fun s => 
    s.retireLanes d (laneW s.nfc ty) (s.lanes2 ty a b (s.env.arith ty (fun x y => mulF x y) (fun x y => x * y))))

/-- R328: `vmin`. -/
def execVmin (d a b : VReg) (ty : Ty) (s : State) : Host.Outcome State Fault Refusal :=
  entered (.vmin d a b ty) s (fun s => 
    s.retireLanes d (laneW s.nfc ty) (s.lanes2 ty a b (s.env.select ty false)))

/-- R328: `vmax`. -/
def execVmax (d a b : VReg) (ty : Ty) (s : State) : Host.Outcome State Fault Refusal :=
  entered (.vmax d a b ty) s (fun s => 
    s.retireLanes d (laneW s.nfc ty) (s.lanes2 ty a b (s.env.select ty true)))

/-- R329: `vand`. -/
def execVand (d a b : VReg) (s : State) : Host.Outcome State Fault Refusal :=
  entered (.vand d a b) s (fun s => s.retireV d (s.vr a &&& s.vr b))

/-- R329: `vor`. -/
def execVor (d a b : VReg) (s : State) : Host.Outcome State Fault Refusal :=
  entered (.vor d a b) s (fun s => s.retireV d (s.vr a ||| s.vr b))

/-- R329: `vxor`. -/
def execVxor (d a b : VReg) (s : State) : Host.Outcome State Fault Refusal :=
  entered (.vxor d a b) s (fun s => s.retireV d (s.vr a ^^^ s.vr b))

/-- R329: `vandn`. -/
def execVandn (d a b : VReg) (s : State) : Host.Outcome State Fault Refusal :=
  entered (.vandn d a b) s (fun s => s.retireV d (s.vr a &&& ~~~s.vr b))

/-- R330: `vshl`; each count is its lane's low bits. -/
def execVshl (d a b : VReg) (ty : Ty) (s : State) : Host.Outcome State Fault Refusal :=
  entered (.vshl d a b ty) s (fun s => 
    let w := tyWidth ty
    s.retireLanes d w (s.lanes2 ty a b (fun x y => (x <<< (y % w), Flags.zero))))

/-- R330: `vshr`; each count is its lane's low bits. -/
def execVshr (d a b : VReg) (ty : Ty) (s : State) : Host.Outcome State Fault Refusal :=
  entered (.vshr d a b ty) s (fun s => 
    let w := tyWidth ty
    s.retireLanes d w (s.lanes2 ty a b (fun x y => (x >>> (y % w), Flags.zero))))

/-- R330: `vsar`; each count is its lane's low bits. -/
def execVsar (d a b : VReg) (ty : Ty) (s : State) : Host.Outcome State Fault Refusal :=
  entered (.vsar d a b ty) s (fun s => 
    let w := tyWidth ty
    s.retireLanes d w (s.lanes2 ty a b (fun x y => (wrapTo w (toSigned w x / ((2 ^ (y % w) : Nat) : Int)), Flags.zero))))

/-- R329: `vmov`. -/
def execVmov (d a : VReg) (s : State) : Host.Outcome State Fault Refusal :=
  entered (.vmov d a) s (fun s => s.retireV d (s.vr a))

/-- R331: `vfma`. -/
def execVfma (d a b c : VReg) (ty : Ty) (s : State) : Host.Outcome State Fault Refusal :=
  entered (.vfma d a b c ty) s (fun s => s.fused false false d a b c ty)

/-- R331: `vfms`. -/
def execVfms (d a b c : VReg) (ty : Ty) (s : State) : Host.Outcome State Fault Refusal :=
  entered (.vfms d a b c ty) s (fun s => s.fused false true d a b c ty)

/-- R331: `vfnma`. -/
def execVfnma (d a b c : VReg) (ty : Ty) (s : State) : Host.Outcome State Fault Refusal :=
  entered (.vfnma d a b c ty) s (fun s => s.fused true false d a b c ty)

/-- R331: `vfnms`. -/
def execVfnms (d a b c : VReg) (ty : Ty) (s : State) : Host.Outcome State Fault Refusal :=
  entered (.vfnms d a b c ty) s (fun s => s.fused true true d a b c ty)

/-- R332, R333: lanes pair by index; the rest of the destination is zero. -/
def execVcvt (d a : VReg) (dt st : Ty) (rm : CvtRm) (s : State) : Host.Outcome State Fault Refusal :=
  entered (.vcvt d a dt st rm) s (fun s => 
    let e : Env := { s.env with rm := cvtMode s.fpc rm }
    let n := min (128 / laneW s.nfc st) (128 / laneW s.nfc dt)
    s.retireLanes d (laneW s.nfc dt) (((lanesOf (laneW s.nfc st) (s.vr a)).take n).map (e.convert dt st)))

/-- R334, R335: `vrcp`. -/
def execVrcp (d a : VReg) (ty : Ty) (s : State) : Host.Outcome State Fault Refusal :=
  entered (.vrcp d a ty) s (fun s => 
    s.retireLanes d (laneW s.nfc ty) (s.lanes1 ty a (s.env.special ty 0 rcpF)))

/-- R334, R335: `vrsqrt`. -/
def execVrsqrt (d a : VReg) (ty : Ty) (s : State) : Host.Outcome State Fault Refusal :=
  entered (.vrsqrt d a ty) s (fun s => 
    s.retireLanes d (laneW s.nfc ty) (s.lanes1 ty a (s.env.special ty 1 rsqrtF)))

/-- R334, R335: `vexp2`. -/
def execVexp2 (d a : VReg) (ty : Ty) (s : State) : Host.Outcome State Fault Refusal :=
  entered (.vexp2 d a ty) s (fun s => 
    s.retireLanes d (laneW s.nfc ty) (s.lanes1 ty a (s.env.special ty 2 (fun f => exp2F f (twoUnits ty)))))

/-- R334, R335: `vlog2`. -/
def execVlog2 (d a : VReg) (ty : Ty) (s : State) : Host.Outcome State Fault Refusal :=
  entered (.vlog2 d a ty) s (fun s => 
    s.retireLanes d (laneW s.nfc ty) (s.lanes1 ty a (s.env.special ty 3 (fun f => log2F f (twoUnits ty)))))

/-- R334, R335: `vsqrt`, correctly rounded. -/
def execVsqrt (d a : VReg) (ty : Ty) (s : State) : Host.Outcome State Fault Refusal :=
  entered (.vsqrt d a ty) s (fun s => 
    s.retireLanes d (laneW s.nfc ty) (s.lanes1 ty a (fun c =>
      s.env.finish ty (sqrtF (s.env.read ty c)) (snanFlags [s.env.read ty c]))))

/-- R334, R335: `vdiv`, correctly rounded. -/
def execVdiv (d a b : VReg) (ty : Ty) (s : State) : Host.Outcome State Fault Refusal :=
  entered (.vdiv d a b ty) s (fun s => s.retireLanes d (laneW s.nfc ty) (s.lanes2 ty a b (s.env.bin ty divF)))

/-- R336. -/
def execVperm (d a b : VReg) (ty : Ty) (s : State) : Host.Outcome State Fault Refusal :=
  entered (.vperm d a b ty) s (fun s => 
    let w := tyWidth ty
    let src := lanesOf w (s.vr a)
    s.retireV d (vecOf w ((lanesOf w (s.vr b)).map (fun k => if bitAt k (w - 1) then 0 else src.getD (k % (128 / w)) 0))))

/-- R337: every lane takes the low bits of `ga`. -/
def execVbcast (d : VReg) (a : VReg) (ty : Ty) (s : State) : Host.Outcome State Fault Refusal :=
  entered (.vbcast d a ty) s (fun s => 
    let w := laneW s.nfc ty
    s.retireV d (vecOf w (List.replicate (128 / w) (laneCode s.nfc ty (s.me.regs.getG a.toNat).toNat))))

/-- R337: one lane; an index at or above a narrow type's lane count traps with EINFO 0x900. -/
def execVins (d : VReg) (a : VReg) (idx : BitVec 5) (ty : Ty) (s : State) : Host.Outcome State Fault Refusal :=
  entered (.vins d a idx ty) s (fun s => 
    let w := laneW s.nfc ty
    if 128 / w ≤ idx.toNat then s.illegal 0x900
    else s.retireV d (vecOf w (listSet (lanesOf w (s.vr d)) idx.toNat (laneCode s.nfc ty (s.me.regs.getG a.toNat).toNat))))

/-- R337: one lane, sign-extended for signed types. -/
def execVext (d : VReg) (a : VReg) (idx : BitVec 5) (ty : Ty) (s : State) : Host.Outcome State Fault Refusal :=
  entered (.vext d a idx ty) s (fun s => 
    let w := laneW s.nfc ty
    let c := laneCode s.nfc ty (lane w (s.vr a).toNat idx.toNat)
    if 128 / w ≤ idx.toNat then s.illegal 0x900
    else s.retireG (d.zeroExtend 6) (if tySigned ty then sextWord w c else wordOf c))

/-- R341, R65: `vred.add`; the modifier applies at the root. -/
def execVredAdd (d a : VReg) (ty : Ty) (s : State) : Host.Outcome State Fault Refusal :=
  entered (.vredAdd d a ty) s (fun s => 
    let bad := if tyIsInt ty then Flags.zero else snanFlags ((lanesOf (laneW s.nfc ty) (s.vr a)).map (s.env.read ty))
    s.reduce ty d a (Env.addNode ty) (fun e x y => ((Env.addNode ty e x y).1, (Env.addNode ty e x y).2.or bad)))

/-- R341, R65: `vredMin`. -/
def execVredMin (d a : VReg) (ty : Ty) (s : State) : Host.Outcome State Fault Refusal :=
  entered (.vredMin d a ty) s (fun s => 
    let bad := if tyIsInt ty then Flags.zero else snanFlags ((lanesOf (laneW s.nfc ty) (s.vr a)).map (s.env.read ty))
    s.reduce ty d a (fun e => e.select ty false) (fun e x y => ((e.select ty false x y).1, (e.select ty false x y).2.or bad)))

/-- R341, R65: `vredMax`. -/
def execVredMax (d a : VReg) (ty : Ty) (s : State) : Host.Outcome State Fault Refusal :=
  entered (.vredMax d a ty) s (fun s => 
    let bad := if tyIsInt ty then Flags.zero else snanFlags ((lanesOf (laneW s.nfc ty) (s.vr a)).map (s.env.read ty))
    s.reduce ty d a (fun e => e.select ty true) (fun e x y => ((e.select ty true x y).1, (e.select ty true x y).2.or bad)))

/-- R338: the low halves of double-width lanes. -/
def execVpack (d a b : VReg) (ty : Ty) (s : State) : Host.Outcome State Fault Refusal :=
  entered (.vpack d a b ty) s (fun s => 
    let w := tyWidth ty
    s.retireV d (vecOf w (lanesOf (2 * w) (s.vr a) ++ lanesOf (2 * w) (s.vr b))))

/-- R339: `vunpkLo`. -/
def execVunpkLo (d a : VReg) (ty : Ty) (s : State) : Host.Outcome State Fault Refusal :=
  entered (.vunpkLo d a ty) s (fun s => 
    let w := tyWidth ty
    let src := ((lanesOf (w / 2) (s.vr a)).drop (0)).take (128 / w)
    s.retireLanes d w (src.map (fun c =>
      if tyIsInt ty then (if tySigned ty then wrapTo w (toSigned (w / 2) c) else c, Flags.zero)
      else s.env.convert ty (if ty = .f32 then .f16 else .f32) c)))

/-- R339: `vunpkHi`. -/
def execVunpkHi (d a : VReg) (ty : Ty) (s : State) : Host.Outcome State Fault Refusal :=
  entered (.vunpkHi d a ty) s (fun s => 
    let w := tyWidth ty
    let src := ((lanesOf (w / 2) (s.vr a)).drop (128 / w)).take (128 / w)
    s.retireLanes d w (src.map (fun c =>
      if tyIsInt ty then (if tySigned ty then wrapTo w (toSigned (w / 2) c) else c, Flags.zero)
      else s.env.convert ty (if ty = .f32 then .f16 else .f32) c)))

/-- R340: the low halves interleaved. -/
def execVzip (d a b : VReg) (ty : Ty) (s : State) : Host.Outcome State Fault Refusal :=
  entered (.vzip d a b ty) s (fun s => 
    let w := tyWidth ty
    let la := lanesOf w (s.vr a)
    let lb := lanesOf w (s.vr b)
    s.retireV d (vecOf w ((List.range (128 / w)).map (fun i => if i % 2 = 0 then la.getD (i / 2) 0 else lb.getD (i / 2) 0))))

/-- R340: the even lanes of the pair. -/
def execVunzip (d a b : VReg) (ty : Ty) (s : State) : Host.Outcome State Fault Refusal :=
  entered (.vunzip d a b ty) s (fun s => 
    let w := tyWidth ty
    let l := lanesOf w (s.vr a) ++ lanesOf w (s.vr b)
    s.retireV d (vecOf w ((List.range (128 / w)).map (fun i => l.getD (2 * i) 0))))

/-- R342: a lane of ones where the condition holds. -/
def execVcmp (d a b : VReg) (ty : Ty) (cc : VCond) (s : State) : Host.Outcome State Fault Refusal :=
  entered (.vcmp d a b ty cc) s (fun s => 
    let w := laneW s.nfc ty
    s.retireLanes d w (s.lanes2 ty a b (fun x y =>
      (if (s.env.compare ty cc x y).1 then 2 ^ w - 1 else 0, (s.env.compare ty cc x y).2))))

/-- R343: the class of each lane as stored. -/
def execVclass (d a : VReg) (ty : Ty) (s : State) : Host.Outcome State Fault Refusal :=
  entered (.vclass d a ty) s (fun s => 
    let w := tyWidth ty
    s.retireV d (vecOf w ((lanesOf w (s.vr a)).map (fun c => 2 ^ classBit (fmtOf s.nfc ty) c))))

/-- R344: bit by bit. -/
def execVsel (d a b c : VReg) (s : State) : Host.Outcome State Fault Refusal :=
  entered (.vsel d a b c) s (fun s => s.retireV d ((s.vr a &&& s.vr c) ||| (s.vr b &&& ~~~s.vr c)))

/-- R345. -/
def execVdot (d a b c : VReg) (ty : Ty) (s : State) : Host.Outcome State Fault Refusal :=
  entered (.vdot d a b c ty) s (fun s => 
    let w := laneW s.nfc ty
    let dw := tyWidth (dotDest ty)
    let g := dw / w
    let la := lanesOf w (s.vr a)
    let lb := lanesOf w (s.vr b)
    s.retireLanes d dw ((List.range (128 / dw)).map (fun i =>
      s.env.dot ty (lane dw (s.vr c).toNat i) ((la.drop (g * i)).take g) ((lb.drop (g * i)).take g))))

/-- R346. -/
def execVdotI (d a b c : VReg) (ty : Ty) (s : State) : Host.Outcome State Fault Refusal :=
  entered (.vdotI d a b c ty) s (fun s => 
    let w := tyWidth ty
    let g := 32 / w
    let la := (lanesOf w (s.vr a)).map (intVal ty)
    let lb := (lanesOf w (s.vr b)).map (intVal ty)
    let dt : Ty := if tySigned ty then .s32 else .z32
    s.retireLanes d 32 ((List.range 4).map (fun i =>
      (finishInt (tySigned ty) 32 s.cur.mod
        (intVal dt (lane 32 (s.vr c).toNat i) +
         (List.zipWith (fun x y => x * y) ((la.drop (g * i)).take g) ((lb.drop (g * i)).take g)).foldl (fun p x => p + x) 0),
       Flags.zero))))

end Sys2Proof.Machine
end

