-- ==== Sys2Proof/Machine/Dispatch.lean ====
section
/-! DEFINITION. One arm per constructor of `Instr`, each a direct call of that instruction's meaning. -/

namespace Sys2Proof.Machine

/-- What an instruction, or a step without a word, does. -/
def exec (i : Instr) (s : State) : Host.Outcome State Fault Refusal :=
  match i with
  | .add d a b ea eb => Sys2Proof.Machine.execAdd d a b ea eb s
  | .sub d a b ea eb => Sys2Proof.Machine.execSub d a b ea eb s
  | .mul d a b ea eb => Sys2Proof.Machine.execMul d a b ea eb s
  | .mulhS d a b ea eb => Sys2Proof.Machine.execMulhS d a b ea eb s
  | .mulhZ d a b ea eb => Sys2Proof.Machine.execMulhZ d a b ea eb s
  | .divS d a b ea eb => Sys2Proof.Machine.execDivS d a b ea eb s
  | .divZ d a b ea eb => Sys2Proof.Machine.execDivZ d a b ea eb s
  | .remS d a b ea eb => Sys2Proof.Machine.execRemS d a b ea eb s
  | .remZ d a b ea eb => Sys2Proof.Machine.execRemZ d a b ea eb s
  | .and d a b ea eb => Sys2Proof.Machine.execAnd d a b ea eb s
  | .or d a b ea eb => Sys2Proof.Machine.execOr d a b ea eb s
  | .xor d a b ea eb => Sys2Proof.Machine.execXor d a b ea eb s
  | .andn d a b ea eb => Sys2Proof.Machine.execAndn d a b ea eb s
  | .orn d a b ea eb => Sys2Proof.Machine.execOrn d a b ea eb s
  | .shl d a b ea eb => Sys2Proof.Machine.execShl d a b ea eb s
  | .shr d a b ea eb => Sys2Proof.Machine.execShr d a b ea eb s
  | .sar d a b ea eb => Sys2Proof.Machine.execSar d a b ea eb s
  | .rol d a b ea eb => Sys2Proof.Machine.execRol d a b ea eb s
  | .ror d a b ea eb => Sys2Proof.Machine.execRor d a b ea eb s
  | .minS d a b ea eb => Sys2Proof.Machine.execMinS d a b ea eb s
  | .minZ d a b ea eb => Sys2Proof.Machine.execMinZ d a b ea eb s
  | .maxS d a b ea eb => Sys2Proof.Machine.execMaxS d a b ea eb s
  | .maxZ d a b ea eb => Sys2Proof.Machine.execMaxZ d a b ea eb s
  | .clz d a ea => Sys2Proof.Machine.execClz d a ea s
  | .ctz d a ea => Sys2Proof.Machine.execCtz d a ea s
  | .popc d a ea => Sys2Proof.Machine.execPopc d a ea s
  | .bswap d a ea => Sys2Proof.Machine.execBswap d a ea s
  | .lea1 d a b ea eb => Sys2Proof.Machine.execLea1 d a b ea eb s
  | .lea2 d a b ea eb => Sys2Proof.Machine.execLea2 d a b ea eb s
  | .lea3 d a b ea eb => Sys2Proof.Machine.execLea3 d a b ea eb s
  | .cmp pd a b ea eb cc => Sys2Proof.Machine.execCmp pd a b ea eb cc s
  | .addi d a ea imm => Sys2Proof.Machine.execAddi d a ea imm s
  | .andi d a ea imm => Sys2Proof.Machine.execAndi d a ea imm s
  | .ori d a ea imm => Sys2Proof.Machine.execOri d a ea imm s
  | .xori d a ea imm => Sys2Proof.Machine.execXori d a ea imm s
  | .shli d a ea amount => Sys2Proof.Machine.execShli d a ea amount s
  | .shri d a ea amount => Sys2Proof.Machine.execShri d a ea amount s
  | .sari d a ea amount => Sys2Proof.Machine.execSari d a ea amount s
  | .cmpi pd a ea cc imm => Sys2Proof.Machine.execCmpi pd a ea cc imm s
  | .liS d lit => Sys2Proof.Machine.execLiS d lit s
  | .liZ d lit => Sys2Proof.Machine.execLiZ d lit s
  | .lih d lit => Sys2Proof.Machine.execLih d lit s
  | .bextS d a ea pos wm1 => Sys2Proof.Machine.execBextS d a ea pos wm1 s
  | .bextZ d a ea pos wm1 => Sys2Proof.Machine.execBextZ d a ea pos wm1 s
  | .bins d a ea pos wm1 => Sys2Proof.Machine.execBins d a ea pos wm1 s
  | .pand pd pa pb => Sys2Proof.Machine.execPand pd pa pb s
  | .por pd pa pb => Sys2Proof.Machine.execPor pd pa pb s
  | .pxor pd pa pb => Sys2Proof.Machine.execPxor pd pa pb s
  | .pandn pd pa pb => Sys2Proof.Machine.execPandn pd pa pb s
  | .pnot pd pa => Sys2Proof.Machine.execPnot pd pa s
  | .pmov pd pa => Sys2Proof.Machine.execPmov pd pa s
  | .pget d => Sys2Proof.Machine.execPget d s
  | .pput a b ea eb => Sys2Proof.Machine.execPput a b ea eb s
  | .br p n disp => Sys2Proof.Machine.execBr p n disp s
  | .call disp => Sys2Proof.Machine.execCall disp s
  | .jr a ea => Sys2Proof.Machine.execJr a ea s
  | .jalr d a ea => Sys2Proof.Machine.execJalr d a ea s
  | .nop => Sys2Proof.Machine.execNop s
  | .endTask => Sys2Proof.Machine.execEndTask s
  | .yield => Sys2Proof.Machine.execYield s
  | .trap code => Sys2Proof.Machine.execTrap code s
  | .eret a ea => Sys2Proof.Machine.execEret a ea s
  | .halt => Sys2Proof.Machine.execHalt s
  | .brk => Sys2Proof.Machine.execBrk s
  | .ldZ d a ea sz ann off => Sys2Proof.Machine.execLdZ d a ea sz ann off s
  | .ldS d a ea sz ann off => Sys2Proof.Machine.execLdS d a ea sz ann off s
  | .st d a ea sz ann off => Sys2Proof.Machine.execSt d a ea sz ann off s
  | .ldv v a ea ann off => Sys2Proof.Machine.execLdv v a ea ann off s
  | .stv v a ea ann off => Sys2Proof.Machine.execStv v a ea ann off s
  | .ldvt v a ea es off => Sys2Proof.Machine.execLdvt v a ea es off s
  | .fence k s_ => Sys2Proof.Machine.execFence k s_ s
  | .pf a => Sys2Proof.Machine.execPf a s
  | .qbind q a ea => Sys2Proof.Machine.execQbind q a ea s
  | .qfree q => Sys2Proof.Machine.execQfree q s
  | .salloc a b ea eb => Sys2Proof.Machine.execSalloc a b ea eb s
  | .qstat d q => Sys2Proof.Machine.execQstat d q s
  | .qget d q => Sys2Proof.Machine.execQget d q s
  | .qgetv v q => Sys2Proof.Machine.execQgetv v q s
  | .amo32 d a b op ann => Sys2Proof.Machine.execAmo32 d a b op ann s
  | .amo64 d a b op ann => Sys2Proof.Machine.execAmo64 d a b op ann s
  | .faddF32 d a b ea eb => Sys2Proof.Machine.execFaddF32 d a b ea eb s
  | .faddF16 d a b ea eb => Sys2Proof.Machine.execFaddF16 d a b ea eb s
  | .faddF64 d a b ea eb => Sys2Proof.Machine.execFaddF64 d a b ea eb s
  | .faddBf16 d a b ea eb => Sys2Proof.Machine.execFaddBf16 d a b ea eb s
  | .decp d a ea => Sys2Proof.Machine.execDecp d a ea s
  | .waita t a b ea eb => Sys2Proof.Machine.execWaita t a b ea eb s
  | .barQuad => Sys2Proof.Machine.execBarQuad s
  | .barClus => Sys2Proof.Machine.execBarClus s
  | .barDie => Sys2Proof.Machine.execBarDie s
  | .barMod => Sys2Proof.Machine.execBarMod s
  | .barPod => Sys2Proof.Machine.execBarPod s
  | .boinit a b ea eb => Sys2Proof.Machine.execBoinit a b ea eb s
  | .boarr a b ea eb => Sys2Proof.Machine.execBoarr a b ea eb s
  | .bowait a b ea eb => Sys2Proof.Machine.execBowait a b ea eb s
  | .fork d a b ea eb => Sys2Proof.Machine.execFork d a b ea eb s
  | .join a ea => Sys2Proof.Machine.execJoin a ea s
  | .rfork a b ea eb => Sys2Proof.Machine.execRfork a b ea eb s
  | .post a b ea eb => Sys2Proof.Machine.execPost a b ea eb s
  | .cdinit a b ea eb => Sys2Proof.Machine.execCdinit a b ea eb s
  | .grow d a ea => Sys2Proof.Machine.execGrow d a ea s
  | .shrink d a ea => Sys2Proof.Machine.execShrink d a ea s
  | .stgpush d a b ea eb => Sys2Proof.Machine.execStgpush d a b ea eb s
  | .stgsub a ea => Sys2Proof.Machine.execStgsub a ea s
  | .park a ea => Sys2Proof.Machine.execPark a ea s
  | .send cls a b ea eb => Sys2Proof.Machine.execSend cls a b ea eb s
  | .cmask a ea => Sys2Proof.Machine.execCmask a ea s
  | .cunmask a ea => Sys2Proof.Machine.execCunmask a ea s
  | .cpend d a ea => Sys2Proof.Machine.execCpend d a ea s
  | .swapx a b ea eb => Sys2Proof.Machine.execSwapx a b ea eb s
  | .sendr cls a b ea eb route => Sys2Proof.Machine.execSendr cls a b ea eb route s
  | .vadd d a b ty => Sys2Proof.Machine.execVadd d a b ty s
  | .vsub d a b ty => Sys2Proof.Machine.execVsub d a b ty s
  | .vmul d a b ty => Sys2Proof.Machine.execVmul d a b ty s
  | .vmin d a b ty => Sys2Proof.Machine.execVmin d a b ty s
  | .vmax d a b ty => Sys2Proof.Machine.execVmax d a b ty s
  | .vand d a b => Sys2Proof.Machine.execVand d a b s
  | .vor d a b => Sys2Proof.Machine.execVor d a b s
  | .vxor d a b => Sys2Proof.Machine.execVxor d a b s
  | .vandn d a b => Sys2Proof.Machine.execVandn d a b s
  | .vshl d a b ty => Sys2Proof.Machine.execVshl d a b ty s
  | .vshr d a b ty => Sys2Proof.Machine.execVshr d a b ty s
  | .vsar d a b ty => Sys2Proof.Machine.execVsar d a b ty s
  | .vmov d a => Sys2Proof.Machine.execVmov d a s
  | .vfma d a b c ty => Sys2Proof.Machine.execVfma d a b c ty s
  | .vfms d a b c ty => Sys2Proof.Machine.execVfms d a b c ty s
  | .vfnma d a b c ty => Sys2Proof.Machine.execVfnma d a b c ty s
  | .vfnms d a b c ty => Sys2Proof.Machine.execVfnms d a b c ty s
  | .vcvt d a dt st rm => Sys2Proof.Machine.execVcvt d a dt st rm s
  | .vrcp d a ty => Sys2Proof.Machine.execVrcp d a ty s
  | .vrsqrt d a ty => Sys2Proof.Machine.execVrsqrt d a ty s
  | .vsqrt d a ty => Sys2Proof.Machine.execVsqrt d a ty s
  | .vexp2 d a ty => Sys2Proof.Machine.execVexp2 d a ty s
  | .vlog2 d a ty => Sys2Proof.Machine.execVlog2 d a ty s
  | .vdiv d a b ty => Sys2Proof.Machine.execVdiv d a b ty s
  | .vperm d a b ty => Sys2Proof.Machine.execVperm d a b ty s
  | .vbcast d a ty => Sys2Proof.Machine.execVbcast d a ty s
  | .vins d a idx ty => Sys2Proof.Machine.execVins d a idx ty s
  | .vext d a idx ty => Sys2Proof.Machine.execVext d a idx ty s
  | .vredAdd d a ty => Sys2Proof.Machine.execVredAdd d a ty s
  | .vredMin d a ty => Sys2Proof.Machine.execVredMin d a ty s
  | .vredMax d a ty => Sys2Proof.Machine.execVredMax d a ty s
  | .vpack d a b ty => Sys2Proof.Machine.execVpack d a b ty s
  | .vunpkLo d a ty => Sys2Proof.Machine.execVunpkLo d a ty s
  | .vunpkHi d a ty => Sys2Proof.Machine.execVunpkHi d a ty s
  | .vzip d a b ty => Sys2Proof.Machine.execVzip d a b ty s
  | .vunzip d a b ty => Sys2Proof.Machine.execVunzip d a b ty s
  | .vcmp d a b ty cc => Sys2Proof.Machine.execVcmp d a b ty cc s
  | .vclass d a ty => Sys2Proof.Machine.execVclass d a ty s
  | .vsel d a b c => Sys2Proof.Machine.execVsel d a b c s
  | .vdot d a b c ty => Sys2Proof.Machine.execVdot d a b c ty s
  | .vdotI d a b c ty => Sys2Proof.Machine.execVdotI d a b c ty s
  | .lks a eg l => Sys2Proof.Machine.execLks a eg l s
  | .lkm d a b eg l => Sys2Proof.Machine.execLkm d a b eg l s
  | .lkq d l => Sys2Proof.Machine.execLkq d l s
  | .lkdrain a l => Sys2Proof.Machine.execLkdrain a l s
  | .lkload a l => Sys2Proof.Machine.execLkload a l s
  | .lkfrz l => Sys2Proof.Machine.execLkfrz l s
  | .lkthw l => Sys2Proof.Machine.execLkthw l s
  | .lkcan d a l => Sys2Proof.Machine.execLkcan d a l s
  | .cpy d a b => Sys2Proof.Machine.execCpy d a b s
  | .gat d a b => Sys2Proof.Machine.execGat d a b s
  | .sca d a b => Sys2Proof.Machine.execSca d a b s
  | .redc d a b => Sys2Proof.Machine.execRedc d a b s
  | .bct d a b => Sys2Proof.Machine.execBct d a b s
  | .tdset a b => Sys2Proof.Machine.execTdset a b s
  | .tdget d a b => Sys2Proof.Machine.execTdget d a b s
  | .tdinv a => Sys2Proof.Machine.execTdinv a s
  | .gmacc a b blk => Sys2Proof.Machine.execGmacc a b blk s
  | .gmsub a b blk => Sys2Proof.Machine.execGmsub a b blk s
  | .gmelim d a b => Sys2Proof.Machine.execGmelim d a b s
  | .gmdamp a b => Sys2Proof.Machine.execGmdamp a b s
  | .gmmean d a b => Sys2Proof.Machine.execGmmean d a b s
  | .gmres d a b => Sys2Proof.Machine.execGmres d a b s
  | .gmsend a b => Sys2Proof.Machine.execGmsend a b s
  | .gmcpy a b => Sys2Proof.Machine.execGmcpy a b s
  | .tlbw t a b ea eb => Sys2Proof.Machine.execTlbw t a b ea eb s
  | .tlbi a b ea eb => Sys2Proof.Machine.execTlbi a b ea eb s
  | .fres a b ea eb => Sys2Proof.Machine.execFres a b ea eb s
  | .ctxs a ea => Sys2Proof.Machine.execCtxs a ea s
  | .ctxl a ea => Sys2Proof.Machine.execCtxl a ea s
  | .wtab a b ea eb => Sys2Proof.Machine.execWtab a b ea eb s
  | .wclose a ea => Sys2Proof.Machine.execWclose a ea s
  | .wopen a ea => Sys2Proof.Machine.execWopen a ea s
  | .rmap a b ea eb => Sys2Proof.Machine.execRmap a b ea eb s
  | .evac a b ea eb => Sys2Proof.Machine.execEvac a b ea eb s
  | .getc d n => Sys2Proof.Machine.execGetc d n s
  | .setc a ea n => Sys2Proof.Machine.execSetc a ea n s
  | .encodingError reason addr word => Sys2Proof.Machine.execEncodingError reason addr word s
  | .deferredTrapDelivery core slot => Sys2Proof.Machine.execDeferredTrapDelivery core slot s
  | .taskStart core lvl => Sys2Proof.Machine.execTaskStart core lvl s
  | .l0HandlerStart core => Sys2Proof.Machine.execL0HandlerStart core s
  | .spillRefill core lvl => Sys2Proof.Machine.execSpillRefill core lvl s
  | .fetchDutyWindow core => Sys2Proof.Machine.execFetchDutyWindow core s
  | .stealRound core => Sys2Proof.Machine.execStealRound core s
  | .stagePop core => Sys2Proof.Machine.execStagePop core s
  | .governorWindow cluster => Sys2Proof.Machine.execGovernorWindow cluster s
  | .swapQuantum cluster => Sys2Proof.Machine.execSwapQuantum cluster s
  | .teamSwapOut team => Sys2Proof.Machine.execTeamSwapOut team s
  | .teamSwapIn team => Sys2Proof.Machine.execTeamSwapIn team s
  | .watchWake core line => Sys2Proof.Machine.execWatchWake core line s
  | .waitaTimeout id => Sys2Proof.Machine.execWaitaTimeout id s
  | .parkTimeout id => Sys2Proof.Machine.execParkTimeout id s
  | .registerFill id => Sys2Proof.Machine.execRegisterFill id s
  | .remoteAccessAtHome id => Sys2Proof.Machine.execRemoteAccessAtHome id s
  | .releaseRetry id => Sys2Proof.Machine.execReleaseRetry id s
  | .commitToken id => Sys2Proof.Machine.execCommitToken id s
  | .releaseWithdraw id => Sys2Proof.Machine.execReleaseWithdraw id s
  | .scopeMissReturn id => Sys2Proof.Machine.execScopeMissReturn id s
  | .refusalReturn id => Sys2Proof.Machine.execRefusalReturn id s
  | .tlbMissMessage core slot ans => Sys2Proof.Machine.execTlbMissMessage core slot ans s
  | .packetHeadRouting id => Sys2Proof.Machine.execPacketHeadRouting id s
  | .messageArrival id => Sys2Proof.Machine.execMessageArrival id s
  | .gmRecordArrival id => Sys2Proof.Machine.execGmRecordArrival id s
  | .heldAlertRetry n => Sys2Proof.Machine.execHeldAlertRetry n s
  | .enginePairing e => Sys2Proof.Machine.execEnginePairing e s
  | .jobStart e => Sys2Proof.Machine.execJobStart e s
  | .beatPull e => Sys2Proof.Machine.execBeatPull e s
  | .rowSend e => Sys2Proof.Machine.execRowSend e s
  | .resultPacketArrival id => Sys2Proof.Machine.execResultPacketArrival id s
  | .streamRowDelivery e => Sys2Proof.Machine.execStreamRowDelivery e s
  | .tileEndArrival e => Sys2Proof.Machine.execTileEndArrival e s
  | .engwaitTimeout core slot => Sys2Proof.Machine.execEngwaitTimeout core slot s
  | .swapxTimeout core slot => Sys2Proof.Machine.execSwapxTimeout core slot s
  | .copyJobStart cluster => Sys2Proof.Machine.execCopyJobStart cluster s
  | .copyUnit cluster job ans => Sys2Proof.Machine.execCopyUnit cluster job ans s
  | .bctArrival id => Sys2Proof.Machine.execBctArrival id s
  | .gmuRequestStart core => Sys2Proof.Machine.execGmuRequestStart core s
  | .gmuRequestComplete core => Sys2Proof.Machine.execGmuRequestComplete core s
  | .transitionStart => Sys2Proof.Machine.execTransitionStart s
  | .islandStepDown island => Sys2Proof.Machine.execIslandStepDown island s
  | .launchRecord q => Sys2Proof.Machine.execLaunchRecord q s
  | .createContextRecord q => Sys2Proof.Machine.execCreateContextRecord q s
  | .destroyContextRecord q => Sys2Proof.Machine.execDestroyContextRecord q s
  | .checkpointRecord q => Sys2Proof.Machine.execCheckpointRecord q s
  | .checkpointStream => Sys2Proof.Machine.execCheckpointStream s
  | .launchCompletion ctx => Sys2Proof.Machine.execLaunchCompletion ctx s
  | .watchdogExpiry launch => Sys2Proof.Machine.execWatchdogExpiry launch s
  | .contextAbortEnd ctx => Sys2Proof.Machine.execContextAbortEnd ctx s
  | .remoteAccessTimeout id => Sys2Proof.Machine.execRemoteAccessTimeout id s
  | .diePark d => Sys2Proof.Machine.execDiePark d s
  | .dieUnpark d => Sys2Proof.Machine.execDieUnpark d s
  | .smrReissue core slot value => Sys2Proof.Machine.execSmrReissue core slot value s
  | .fmthAdmit core => Sys2Proof.Machine.execFmthAdmit core s
  | .fmthRefuse core => Sys2Proof.Machine.execFmthRefuse core s
  | .tprdWrite n value => Sys2Proof.Machine.execTprdWrite n value s
  | .alstClear value => Sys2Proof.Machine.execAlstClear value s
  | .cmaskWrite core value => Sys2Proof.Machine.execCmaskWrite core value s
  | .iclWrite n value => Sys2Proof.Machine.execIclWrite n value s
  | .pceilWrite value => Sys2Proof.Machine.execPceilWrite value s
  | .counterWrite core n value => Sys2Proof.Machine.execCounterWrite core n value s
  | .antiStarvationTurn core => Sys2Proof.Machine.execAntiStarvationTurn core s
  | .stealRequest thief victim => Sys2Proof.Machine.execStealRequest thief victim s
  | .budgetPeriod nonCore model => Sys2Proof.Machine.execBudgetPeriod nonCore model s
  | .monitorSample power current => Sys2Proof.Machine.execMonitorSample power current s
  | .sensorSample temps => Sys2Proof.Machine.execSensorSample temps s
  | .stateRequest value => Sys2Proof.Machine.execStateRequest value s
  | .sqDoorbell q tail => Sys2Proof.Machine.execSqDoorbell q tail s
  | .cqHeadWrite q head => Sys2Proof.Machine.execCqHeadWrite q head s
  | .faultConsumerIndex index => Sys2Proof.Machine.execFaultConsumerIndex index s
  | .resolutionWord seq => Sys2Proof.Machine.execResolutionWord seq s
  | .attestationRequest word value => Sys2Proof.Machine.execAttestationRequest word value s
  | .recoveryRequest image verified => Sys2Proof.Machine.execRecoveryRequest image verified s
  | .hostMemoryAccess pa bytes acc => Sys2Proof.Machine.execHostMemoryAccess pa bytes acc s
  | .powerOn verified modnum => Sys2Proof.Machine.execPowerOn verified modnum s
  | .flitArrival link seq crcOk => Sys2Proof.Machine.execFlitArrival link seq crcOk s
  | .flitAck link seq => Sys2Proof.Machine.execFlitAck link seq s
  | .flitNak link seq windowError => Sys2Proof.Machine.execFlitNak link seq windowError s
  | .replayRequest link pkt routeLeft => Sys2Proof.Machine.execReplayRequest link pkt routeLeft s
  | .endToEndAck link seq => Sys2Proof.Machine.execEndToEndAck link seq s
  | .controlSpaceTaskStart core pc frame allot => Sys2Proof.Machine.execControlSpaceTaskStart core pc frame allot s
  | .coreRestart core => Sys2Proof.Machine.execCoreRestart core s
  | .stageConfigStore core slot cluster off value => Sys2Proof.Machine.execStageConfigStore core slot cluster off value s
  | .routeTableWrite router cls value => Sys2Proof.Machine.execRouteTableWrite router cls value s
  | .psTableWrite state mask => Sys2Proof.Machine.execPsTableWrite state mask s
  | .permissionTableWrite ctx idx w0 w1 => Sys2Proof.Machine.execPermissionTableWrite ctx idx w0 w1 s
  | .floorWrite core w a c => Sys2Proof.Machine.execFloorWrite core w a c s
  | .queueConfigurationWrite q word value => Sys2Proof.Machine.execQueueConfigurationWrite q word value s
  | .modeChange m => Sys2Proof.Machine.execModeChange m s
  | .podBarrierArrival job mdl => Sys2Proof.Machine.execPodBarrierArrival job mdl s
  | .firmwareGridStart entry args allot threads => Sys2Proof.Machine.execFirmwareGridStart entry args allot threads s
  | .darkroomAbortRequest core slot => Sys2Proof.Machine.execDarkroomAbortRequest core slot s

end Sys2Proof.Machine
end

