-- ==== Sys2Proof/Machine/Ports.lean ====
section
/-! DEFINITION. The places that an instruction or an event reaches: the lookups that refill a core's L1 (R114), and the transfers of the
scratchpad ports that a core is charged for (R95, R97, R379). -/

namespace Sys2Proof.Machine

/-- The address that an instruction of some work loads, stores or updates, and the bytes; none for any other. -/
def Work.access (w : Work) (i : Instr) : Option (Word × Nat) :=
  let g := fun (r : GReg) => w.regs.getG r.toNat
  match i with
  | .ldZ _ a _ sz _ off => some (addrM (g a) sz off, sizeBytes sz)
  | .ldS _ a _ sz _ off => some (addrM (g a) sz off, sizeBytes sz)
  | .st _ a _ sz _ off => some (addrM (g a) sz off, sizeBytes sz)
  | .ldv _ a _ _ off => some (addrW (g a) off, 16)
  | .stv _ a _ _ off => some (addrW (g a) off, 16)
  | .ldvt _ a _ es off => some (addrW (g a) off, 16 * esizeCount es)
  | .amo32 _ a _ _ _ => some (g a, 4)
  | .amo64 _ a _ _ _ => some (g a, 8)
  | .faddF32 _ a _ _ _ => some (g a, 4)
  | .faddF16 _ a _ _ _ => some (g a, 2)
  | .faddF64 _ a _ _ _ => some (g a, 8)
  | .faddBf16 _ a _ _ _ => some (g a, 2)
  | .decp _ a _ => some (g a, 4)
  | _ => none

/-- The places that an instruction accesses whole when it acts: their addresses and bytes; `pf` looks up and transfers nothing. -/
def Work.blocks (w : Work) (i : Instr) : List (Word × Nat) :=
  let g := fun (r : GReg) => w.regs.getG r.toNat
  match i with
  | .waita _ a _ _ _ => [(g a, 8)]
  | .boinit a _ _ _ => [(g a, 16)]
  | .boarr a _ _ _ => [(g a, 16)]
  | .bowait a _ _ _ => [(g a, 16)]
  | .join a _ => [(g a, 16)]
  | .rfork _ b _ _ => [(g b, 32)]
  | .cdinit a b _ _ => [(g a, 32), (g b, 32)]
  | .pf a => [(g a, 0)]
  | .tdset _ b => [(g b, 32)]
  | .wtab _ b _ _ => [(g b, 32)]
  | .cpy _ a b => [(g a, 128), (g b, 0)]
  | .gat _ a b => [(g a, 128), (g b, 0)]
  | .sca _ a b => [(g a, 128), (g b, 0)]
  | .redc _ a b => [(g a, 128), (g b, 0)]
  | .bct _ a b => [(g a, 128), (g b, 0)]
  | .lkdrain a _ => [(g a, 3136)]
  | .lkload a _ => [(g a, 3136)]
  | .ctxs a _ => [(g a, 2304)]
  | .ctxl a _ => [(g a, 2304)]
  | _ => []

/-- What a range of addresses translates to, each page of it, with the bytes there. -/
def State.placesOf (s : State) (c : Nat) (w : Work) (r : Word × Nat) : List (Loc × Nat) :=
  (cuts r.1.toNat r.2).filterMap (fun q =>
    match s.translate c w.ctl.fw w.ctl.ctx (wordOf q.1) with
    | .page p => some (p.loc, q.2)
    | _ => none)

/-- The ranges that an instruction accesses whole: `rfork`'s cell, which its descriptor names, too, and the table image that `ctxs` writes. -/
def State.blocksOf (s : State) (c : Nat) (w : Work) (i : Instr) : List (Word × Nat) :=
  w.blocks i ++
  (match i with
   | .rfork _ b _ _ =>
     (s.placesOf c w (w.regs.getG b.toNat, 32)).map (fun q => (blockWord (s.fetchNat q.1 32) 2, 16))
   | .ctxs _ _ => [((s.core c).htb, 2048)]
   | _ => [])

/-! ### The lookups of the L1 (R114) -/

/-- The addresses that an instruction about to issue asks the L1 for. -/
def State.vasOf (s : State) (c : Nat) (w : Work) (i : Instr) : List Word :=
  (s.blocksOf c w i).flatMap (fun r => (cuts r.1.toNat r.2).map (fun q => wordOf q.1))

/-! ### Transfers of the scratchpad ports (R95, R97, R379) -/

/-- Bytes that a buffer's port moves in a transfer: 32 of A, 64 of W and C (R95). -/
def portWidth (b : Nat) : Nat := if b = 2 then 32 else 64

/-- The transfers of `n` bytes at a place: the core of the port and their number. -/
def portsAt (l : Loc) (n : Nat) : List (Nat × Nat) :=
  match l.sp with
  | .buf c b => if n = 0 then [] else [(c, (n + portWidth b - 1) / portWidth b)]
  | _ => []

/-- The transfers that an instruction makes as it issues: its own buffers' for a load, store or atomic, every core's for what it accesses
whole, its payload's for a message, both mirrors' for an exchange. -/
def State.instrPorts (s : State) (c n : Nat) (i : Instr) : List (Nat × Nat) :=
  let w := (s.slot c n).w
  let g := fun (r : GReg) => w.regs.getG r.toNat
  let own := fun (r : Word × Nat) => if inSelf r.1 then (s.placesOf c w r).flatMap (fun q => portsAt q.1 q.2) else []
  (match w.access i with | some r => own r | none => []) ++
  (s.blocksOf c w i).flatMap (fun r => (s.placesOf c w r).flatMap (fun q => portsAt q.1 q.2)) ++
  (match i with
   | .qget _ _ => portsAt { sp := .buf c 2, off := 0 } 8
   | .qgetv _ _ => portsAt { sp := .buf c 2, off := 0 } 16
   | .send _ a b _ _ => own (g a, 8 * bits (g b) 41 36)
   | .sendr _ a b _ _ _ => own (g a, 8 * bits (g b) 41 36)
   | .swapx _ b _ _ =>
     (match mirrorOf w.ctl.swp c with
      | some m =>
        if m = c then []
        else [c, m].flatMap (fun k => let p := portsAt { sp := .buf k 2, off := 0 } (64 * (g b).toNat); p ++ p)
      | none => [])
   | _ => [])

/-- The transfers of the slot's next group; none where it does not execute an instruction. -/
def State.issuePorts (s : State) (c n : Nat) : List (Nat × Nat) :=
  match s.issueAt c n with
  | .exec i t => t.instrPorts c n i
  | .done _ => []

/-- The transfers of a GMU request: the records that it reads and writes. -/
def State.gmPorts (s : State) (c : Nat) (q : GmuReq) : List (Nat × Nat) :=
  match s.recPlace c (if q.fn = 6 then q.a else q.b) 16, s.recPlace c q.a 16, s.gmRun c q with
  | some xl, some dl, .ok _ _ =>
    let x := s.recAt xl
    let d := s.recAt dl
    portsAt xl x.size ++ (if gmReadsD q.fn then portsAt dl (gmRead q.fn d) else []) ++
      (if q.fn = 5 ∨ q.fn = 6 then [] else portsAt dl (gmExtent q.fn x d))
  | _, _, _ => []

/-- The transfers of the next beat of an engine's job at its moving end, and of the load of B at the other. -/
def State.enginePorts (s : State) (e : Nat) (start : Bool) : List (Nat × Nat) :=
  match (s.engine e).job with
  | none => []
  | some j =>
    if start then
      (match s.startCheck j with
       | .go _ => portsAt (j.sta.td.tdPlace j.sta.core 0) ((j.sta.k * j.sta.n * j.sta.td.tdBits + 7) / 8)
       | _ => [])
    else if (s.engine e).mayPull j then portsAt (j.mov.td.tdPlace j.mov.core 0) 32 else []

/-- The transfers of a message that lands at its core. -/
def State.messagePorts (s : State) (id : Nat) (gm : Bool) : List (Nat × Nat) :=
  match s.arriving id gm with
  | some p => if s.judge p.at_ p == .land then portsAt { sp := .buf p.at_ 2, off := 0 } (8 * p.words.length) else []
  | none => []

/-- The transfers of an access that is performed at its home. -/
def State.homePorts (s : State) (id : Nat) : List (Nat × Nat) :=
  match s.flight id with
  | some f => portsAt f.loc f.len
  | none => []

/-- R379: the transfers of scratchpad ports that an event makes, by core. -/
def State.eventPorts (s : State) (i : Instr) : List (Nat × Nat) :=
  match i with
  | .remoteAccessAtHome id => s.homePorts id
  | .commitToken id => s.homePorts id
  | .messageArrival id => s.messagePorts id false
  | .gmRecordArrival id => s.messagePorts id true
  | .resultPacketArrival id =>
    (match s.results.find? (fun r => r.id == id) with
     | some r => portsAt { sp := .buf r.mov.tcore 3, off := 0 } r.mov.rowBytes
     | none => [])
  | .streamRowDelivery e =>
    (match (s.engine e).job with
     | some j => portsAt { sp := .buf j.mov.tcore 2, off := 0 } j.mov.rowBytes
     | none => [])
  | .jobStart e => s.enginePorts e true
  | .beatPull e => s.enginePorts e false
  | .tileEndArrival e =>
    (match (s.engine e).job with
     | some j => if j.mov.nobar then [] else portsAt { sp := .buf j.mov.tcore 3, off := j.mov.bobj } 16
     | none => [])
  | .bctArrival id =>
    (match s.bcts.find? (fun b => b.id == id) with
     | some b => portsAt { sp := .buf b.dst b.buf, off := b.off } b.data.length
     | none => [])
  | .copyUnit cl jid _ =>
    (match (s.cluster cl).jobReady jid with
     | some j =>
       (s.unitRanges j).flatMap (fun r => (cuts r.1 r.2).flatMap (fun q =>
         match s.cceTranslate j (wordOf q.1) with
         | .page p => portsAt p.loc q.2
         | _ => []))
     | none => [])
  | .gmuRequestComplete c =>
    (match (s.core c).gmuBusy, (s.core c).gmu with
     | true, q :: _ => s.gmPorts c q
     | _, _ => [])
  | _ => []

/-- Transfers charged to the cores of their ports. -/
def Core.transferred (k : Core) (n : Nat) : Core := { k with acts := { k.acts with transfers := k.acts.transfers + n } }

/-- R379: a list of transfers charged. -/
def State.charge (s : State) (ps : List (Nat × Nat)) : State := ps.foldl (fun t p => t.modCore p.1 (fun k => k.transferred p.2)) s

end Sys2Proof.Machine
end

