-- ==== Sys2Proof/Machine/Schedule.lean ====
section
/-! DEFINITION. Which agent moves next when none is named (log entry 4): the steps that the machine makes by itself, the choice of
the slots that issue (R9 to R14), and the passing of cycles and microseconds. -/

namespace Sys2Proof.Machine

/-! ### Time (R6, R7, R161, R175, R176) -/

/-- The frequency of a clock in MHz: an island's at its performance state, 0 on a parked die; number 24 is the I/O die's (R426). -/
def State.mhz (s : State) (i : Nat) : Nat :=
  if i = 24 then 2000
  else if tblGet false s.dieParked (i / 3) then 0
  else
    match s.psTable[tblGet 0 s.islandPs i]? with
    | some r => if i % 3 = 0 then r.clockF else if i % 3 = 1 then r.clockM else r.clockE
    | none => 0

/-- The cycles that a clock makes in the next `n` base ticks. -/
def State.cyclesIn (s : State) (n i : Nat) : Nat := (tblGet 0 s.phases i + n * s.mhz i) / ticksPerMicro

/-- A core's idle time (R29), counted while its context's L3 finds no work. -/
def State.idled (s : State) (c d : Nat) (k : Core) : Nat :=
  if isCompute c && (s.cluster (clusterOf c)).owner.isSome && k.l3Idle then k.idle + d else 0

/-- `d` cycles pass for a core: CYC (R176), FDR at a window boundary (R175), its idle time, its yields (R287), its L1 (R114). -/
def State.cycledCore (s : State) (c d : Nat) (k : Core) : Core :=
  if d = 0 then k
  else s.refilled c { k with
    cyc := k.cyc + wordOf d
    fdr := if k.cyc.toNat / 16 < (k.cyc.toNat + d) / 16 then s.dutyOf c else k.fdr
    idle := s.idled c d k
    slots := k.slots.map (fun e => (e.1, e.2.passed d)) }

/-- `d` cycles pass for an engine: at a window boundary its job reads the FDRs of its ends (R381). -/
def State.cycledEngine (s : State) (e d : Nat) (x : Engine) : Engine :=
  { x with cyc := x.cyc + d,
           job := x.job.map (fun j => if (x.cyc - j.start) / 16 < (x.cyc + d - j.start) / 16 then { j with duty := s.dutyAt e } else j) }

/-- R175: the FDR that a core which nothing has touched yet takes at an island's window boundary. -/
def State.freshened (s : State) (n i : Nat) : Nat :=
  let c := tblGet 0 s.cycles i
  if c / 16 < (c + s.cyclesIn n i) / 16 then s.islandDuty i 16 else tblGet 16 s.freshDuty i

/-- `n` base ticks pass: every clock goes on by its cycles, the cores and then the engines with it; every stage is sampled (R160). -/
def State.advanceTime (s : State) (n : Nat) : State :=
  let s1 : State := { s with
    cores := s.cores.map (fun e => (e.1, s.cycledCore e.1 (s.cyclesIn n (clockOf e.1)) e.2))
    cycles := (List.range 25).map (fun i => (i, tblGet 0 s.cycles i + s.cyclesIn n i))
    phases := (List.range 25).map (fun i => (i, (tblGet 0 s.phases i + n * s.mhz i) % ticksPerMicro))
    freshDuty := (List.range 24).map (fun i => (i, s.freshened n i))
    clusters := s.clusters.map (fun e => (e.1, e.2.sampled))
    beat := s.beat + n
    nextId := s.nextId + 1 }
  { s1 with engines := s.engines.map (fun e => (e.1, s1.cycledEngine e.1 (s.cyclesIn n (engineIsland e.1)) e.2)) }

/-- The next state of a step that has one, else the state itself. -/
def State.after (s : State) (o : Host.Outcome State Fault Refusal) : State :=
  match o with
  | .next t => t
  | _ => s

/-- R92, R34: a microsecond passes; a window of every stage governor ends. -/
def State.micro (s : State) : State :=
  (s.clusters.map (fun e => e.1)).foldl (fun t n => t.after (execGovernorWindow n t)) { s with usec := s.usec + 1 }

/-! ### Steps the machine makes by itself -/

/-- The steps that an access under way may be due. -/
def flightTurns (f : Flight) : List Instr :=
  [.releaseWithdraw f.id, .scopeMissReturn f.id, .commitToken f.id, .releaseRetry f.id, .remoteAccessAtHome f.id]

/-- The steps that an engine may be due. -/
def engineTurns (e : Nat) : List Instr :=
  [.enginePairing e, .jobStart e, .beatPull e, .rowSend e, .streamRowDelivery e, .tileEndArrival e]

/-- R138, R404: the flits that a die-to-die link has sent arrive in order, and are acknowledged. -/
def linkTurns (l : Nat) (k : Link) : List Instr :=
  if l < 64 then
    k.window.map (fun q => if seqAhead k.expect q || k.naks.contains q then .flitArrival l q true else .flitAck l q)
  else []

/-- The steps of a core's dispatcher and GMU; a miss message goes by itself once the page that is waited for has come. -/
def State.coreTurns (s : State) (c : Nat) : List Instr :=
  let k := s.core c
  [.l0HandlerStart c, .taskStart c 0, .taskStart c 1, .taskStart c 2, .taskStart c 3, .spillRefill c 0, .spillRefill c 1, .spillRefill c 2,
   .spillRefill c 3, .gmuRequestComplete c, .gmuRequestStart c, .stagePop c, .stealRound c] ++
  (List.range 8).flatMap (fun n =>
    [Instr.engwaitTimeout c n, .swapxTimeout c n] ++
    (if (!(k.slot n).waiting.isEmpty || !k.wanted.isEmpty) && (s.dropWanted c).missing c n == .nothing then [Instr.tlbMissMessage c n .absent]
     else []))

/-- The steps of a cluster: its copy engine, where no unit misses a translation, and its team swapper every 2 ms (R40). -/
def State.clusterTurns (s : State) (n : Nat) : List Instr :=
  let k := s.cluster n
  [.copyJobStart n] ++
  k.jobs.filterMap (fun j =>
    match k.jobReady j.jid with
    | some i => (match s.unitOf n i with | .miss _ => none | _ => some (.copyUnit n j.jid .absent))
    | none => none) ++
  (if k.quantum + 2000 ≤ s.usec ∧ k.owner.isSome then [Instr.swapQuantum n] else [])

/-- The IOD takes records round-robin between queues (R137); a create record whose walk is under way waits for the walker. -/
def State.queueTurns (s : State) : List Instr :=
  let qs := s.queues.map (fun e => e.1)
  (qs.filter (fun q => decide (s.lastQ < q)) ++ qs.filter (fun q => decide (q ≤ s.lastQ))).flatMap (fun q =>
    [.launchRecord q] ++ (if s.contexts.any (fun e => e.2.loader == some q) then [] else [.createContextRecord ⟨q, .absent⟩]) ++
    [.destroyContextRecord q, .checkpointRecord q])

/-- The steps of the performance-state controller (R391). -/
def State.powerTurns (s : State) : List Instr :=
  if s.psBusy then
    s.toUnpark.map Instr.dieUnpark ++ s.toLower.map Instr.islandStepDown ++ s.toPark.map Instr.diePark ++ [.transitionStart]
  else [.transitionStart]

/-- Every step that the machine may make by itself, in the order in which they are tried. -/
def State.turns (s : State) : List Instr :=
  s.contexts.map (fun e => Instr.contextAbortEnd e.1) ++
  s.returns.flatMap (fun r => [.registerFill r.id, .refusalReturn r.id]) ++
  s.inflight.flatMap flightTurns ++
  s.packets.flatMap (fun p => [.messageArrival p.id, .gmRecordArrival p.id, .packetHeadRouting p.id]) ++
  s.links.flatMap (fun e => linkTurns e.1 e.2) ++
  s.heldAlerts.map Instr.heldAlertRetry ++
  s.results.map (fun r => Instr.resultPacketArrival r.id) ++
  s.bcts.map (fun b => Instr.bctArrival b.id) ++
  s.wakes.map (fun w => Instr.watchWake w.2 w.1) ++
  s.parked.flatMap (fun p => [.waitaTimeout p.id, .parkTimeout p.id]) ++
  s.engines.flatMap (fun e => engineTurns e.1) ++
  s.cores.flatMap (fun e => s.coreTurns e.1) ++
  s.clusters.flatMap (fun e => s.clusterTurns e.1) ++
  s.teams.flatMap (fun t => [.teamSwapOut t.id, .teamSwapIn t.id]) ++
  s.powerTurns ++
  s.launches.map (fun l => Instr.watchdogExpiry l.id) ++
  s.launches.map (fun l => Instr.launchCompletion (if l.fw then 512 else l.ctx)) ++
  s.queueTurns ++ [.checkpointStream]

/-- Whether a step would change anything. -/
def State.due (s : State) (i : Instr) : Bool :=
  match exec i s with
  | .next t => t != s
  | _ => false

/-! ### Which slots issue (R10 to R14) -/

/-- One group of a slot issued. -/
def State.issue (s : State) (c n : Nat) : Host.Outcome State Fault Refusal :=
  match s.issueAt c n with
  | .exec i t => exec i t
  | .done t => .next t

/-- A state without what a stall of a slot keeps: its reason and cycle, the group's length, and the captured FPC and NFC. -/
def State.unstalled (s : State) (c n : Nat) : State :=
  ({ s with cur := { core := 0, slot := 0, pc := 0, len := 0, mod := none } } : State).modSlot c n
    (fun x => { x with stall := none, cap := none, len := 0 })

/-- Whether a slot's next group is ready: issuing it would do more than stall. -/
def State.progresses (s : State) (c n : Nat) : Bool :=
  match s.issue c n with
  | .next t => t.unstalled c n != s.unstalled c n
  | _ => true

/-- Whether trying a slot's next group only begins another stall: it takes no port (R10). -/
def State.stalls (s : State) (c n : Nat) : Bool :=
  match s.issue c n with
  | .next t => !s.progresses c n && ({ t with cur := s.cur } : State) != s
  | _ => false

/-- The slots of a core that hold work. -/
def State.runningSlots (s : State) (c : Nat) : List Nat :=
  let k := s.core c
  if k.halted then [] else (List.range 8).filter (fun n => (k.slot n).busy && !(k.slot n).frozen)

/-- The slots of a core that could issue now, with their ports, whatever its duty and `yield` say (R2, R10). -/
def State.readySlots (s : State) (c : Nat) : List (Nat × Nat) :=
  ((s.runningSlots c).filter (s.progresses c)).map (fun n => (n, s.portOf c n))

/-- The slots of a core that would only begin another stall. -/
def State.stallingSlots (s : State) (c : Nat) : List Nat := (s.runningSlots c).filter (s.stalls c)

/-- R14: whether the fetch of a pick serves another slot of the core too: one that could issue on the port, in the same context, at the
same PC. -/
def State.fetchFused (s : State) (c : Nat) (ready : List (Nat × Nat)) (p : Nat × Nat) : Bool :=
  let x := (s.slot c p.2).w
  ready.any (fun r =>
    let y := (s.slot c r.1).w
    r.1 != p.2 && r.2 == p.1 && y.ctl.fw == x.ctl.fw && y.pc &&& ~~~3 == x.pc &&& ~~~3)

/-- A step put on the agenda, the ports that it uses charged (R379). -/
def State.planEvent (s : State) (i : Instr) : State := ({ s with agenda := [.event i] } : State).charge (s.eventPorts i)

/-- The addresses that a slot's next group asks its core's L1 for (R114). -/
def State.issueLookups (s : State) (c n : Nat) : List (Bool × Nat × Word) :=
  let w := (s.slot c n).w
  match s.issueAt c n with
  | .exec i t => (t.vasOf c w i).map (fun va => (w.ctl.fw, w.ctl.ctx, va))
  | .done _ => []

/-- What the ports of a core pick in a cycle, recorded, with the lookups of the picks and the ports that they use; FFC counts the fetches
that serve two slots (R114, R176, R379, log entry 34). -/
def State.picked (s : State) (c : Nat) (ready ps : List (Nat × Nat)) : State :=
  (s.modCore c (fun k =>
    let k1 : Core := s.refilledFor c (ps.flatMap (fun p => s.issueLookups c p.2)) (k.recorded ready ps)
    { k1 with ffc := k1.ffc + wordOf (ps.countP (s.fetchFused c ready)) })).charge (ps.flatMap (fun p => s.issuePorts c p.2))

/-- A core takes the picks of its present cycle: they issue next, after the slots that only stall. -/
def State.planCore (s : State) (c : Nat) (ready : List (Nat × Nat)) (stalling : List Nat) : State :=
  let k := s.core c
  let ps := k.picks ready
  let tries := stalling.filter (fun n => decide (n < 2) || k.dutyOpen)
  let s1 : State := s.picked c ready ps
  { s1 with agenda := (tries ++ ps.map (fun p => p.2)).map (fun n => Turn.issue c n) ++ s1.agenda }

/-- The same from the state as it stands. -/
def State.takePicks (s : State) (c : Nat) : State := s.planCore c (s.readySlots c) (s.stallingSlots c)

/-- Whether a job waits for cycles of its engine: for the load of its B, its next pull, or the end of a row's arithmetic. -/
def Engine.cycleBound (x : Engine) : Bool :=
  !x.frozen &&
  (match x.job with
   | some j =>
     j.started && (decide (x.cyc ≤ j.loadEnd) ||
       (decide (j.row < j.mov.m) && (j.rows.any (fun r => !r.done) || (decide (j.rows.length < 3) && !x.stop))) ||
       j.rows.any (fun r => decide (x.cyc < r.last + 3)))
   | none => false)

/-- Whether something waits for a cycle of its clock: a slot that could issue, a job that runs, a release to retry, an idle core that may
steal, a copy engine's duty. Where nothing does, time goes on to the end of the microsecond. -/
def State.cycleBound (s : State) (work : List (Nat × List (Nat × Nat) × List Nat)) : Bool :=
  work.any (fun e => (e.2.1.map (fun r => r.1) ++ e.2.2).any (fun n =>
    decide (n < 2) || decide (0 < (s.core e.1).fdr) || decide (0 < s.dutyOf e.1))) ||
  s.engines.any (fun e => e.2.cycleBound) ||
  s.inflight.any (fun f => match f.st with | .nacked _ => true | _ => false) ||
  s.cores.any (fun e => !e.2.deque.isEmpty) ||
  s.clusters.any (fun e => decide (0 < e.2.duty) && !s.cceOpen e.1 && e.2.jobs.any (fun j => (e.2.jobReady j.jid).isSome))

/-- Time passes, by one base tick or to the end of the microsecond; every core whose clock has made a cycle takes its picks (R9 to R14,
R42). -/
def State.pass (s : State) : State :=
  let work := (s.cores.map (fun e => (e.1, s.readySlots e.1, s.stallingSlots e.1))).filter (fun e => !e.2.1.isEmpty || !e.2.2.isEmpty)
  let n := if s.cycleBound work then 1 else ticksPerMicro - s.beat % ticksPerMicro
  let t := s.advanceTime n
  let u := if t.beat % ticksPerMicro = 0 then t.micro else t
  work.foldl (fun u e => if 0 < s.cyclesIn n (clockOf e.1) then u.planCore e.1 e.2.1 e.2.2 else u) u

/-- With nothing on the agenda: the first step of its own that is due; else time passes. -/
def State.schedule (s : State) : State :=
  match s.turns.find? s.due with
  | some i => s.planEvent i
  | none => s.pass

/-- One turn of the agenda. -/
def State.turn (s : State) (t : Turn) : Host.Outcome State Fault Refusal :=
  match t with
  | .issue c n => s.issue c n
  | .event i => exec i s
  | .picks c => .next (s.takePicks c)
  | .tick => .next (s.advanceTime 1)
  | .micro => .next s.micro
  | .upset w => .next (s.upset w)
  | .engineUpset e half => .next (s.engineUpset e half)
  | .badFlit id => .next (s.badFlit id)
  | .podAccess pa n k data cmp => .next (s.podAccess pa n k data cmp)
  | .podWrite m off n data => .next (s.podWrite m off n data)

/-! ### Placing an instruction where the next step fetches it -/

/-- Where the placed instruction stands: firmware memory, which MC0 fetches by identity (R432). -/
def placeAt : Nat := 0x1000

/-- The bytes of four words. -/
def placeBytes (w : Nat) : List Byte := bytesOf 16 w

/-- Slot 0 of MC0 running an L0 task of the firmware context at the place, with all 64 registers (R20). -/
def placedSlot : Slot :=
  { Slot.reset with busy := true, w := { Work.reset with pc := wordOf placeAt, ctl := { Ctl.reset with tid := taskTid, allot := 4, fw := true } } }

/-- An instruction stored there, its slot running, and its issue next on the agenda. -/
def State.place (s : State) (w : Nat) : State :=
  ({ s with mem := memPutAll s.mem ({ sp := .fw, off := placeAt } : Loc).key (placeBytes w), agenda := [.issue mc0 0] } : State).modCore mc0
    (fun k => { k.setSlot 0 placedSlot with halted := false })

end Sys2Proof.Machine
end

