-- ==== Sys2Proof/Machine/Step.lean ====
section
/-! DEFINITION. One step of the machine, and an instruction placed where the next step fetches it. -/

namespace Sys2Proof.Machine

/-- One step: the next turn of the agenda, or, with none on it, the choice of what moves next. -/
def step (s : State) : Host.Outcome State Fault Refusal :=
  match s.agenda with
  | [] => .next s.schedule
  | t :: rest => ({ s with agenda := rest } : State).turn t

/-- `s` with an instruction of `nbits` bits placed where `step` issues next: slot 0 of MC0. -/
def State.withFetchWord (s : State) (nbits w : Nat) : State := s.place (w % 2 ^ nbits)

end Sys2Proof.Machine
end

