-- ==== Sys2Proof/Safety.lean ====
section
/-! DEFINITION. What a safe run is: one that meets no fault and no refusal of the model; and what every step keeps: memory in its
one form, and the module's mode, performance state, park masks, ceiling and hysteresis in their ranges. -/

namespace Sys2Proof.Safety

open Sys2Proof.Machine

/-- `k` steps lead from one state to another. -/
def Steps : Nat → State → State → Prop
  | 0, s, t => s = t
  | k + 1, s, t => ∃ u, step s = .next u ∧ Steps k u t

/-- A state that some run from reset reaches. -/
def Reachable (s : State) : Prop := ∃ k, Steps k State.reset s

/-- A step of the state has a next state. -/
def Goes (s : State) : Prop := ∃ t, step s = .next t

/-- No run from a state meets a fault or a refusal. -/
def Safe (s : State) : Prop := ∀ k t, Steps k s t → Goes t

/-- The ranges, part by part: the canonical form of memory; the modes 0 to 3 (R406); the performance states 0 to 7, current, next and
requested (R161, R390); four dies parked in PS4 and six in PS5 (R161); PCEIL from 150 to 1000 and HYST below 8000H (R92). -/
def LegalParts (mem : List Host.Cell) (mode cur target : Nat) (req : Option Nat) (park4 park5 pceil : Nat) (hyst : BitVec 16) : Prop :=
  memWf mem = true ∧ mode ≤ 3 ∧ cur ≤ 7 ∧ target ≤ 7 ∧ (∀ r, req = some r → r ≤ 7) ∧ popCount 8 park4 = 4 ∧ popCount 8 park5 = 6 ∧
  150 ≤ pceil ∧ pceil ≤ 1000 ∧ hyst.toNat ≤ 0x7FFF

/-- What every step keeps. -/
@[reducible] def Legal (s : State) : Prop :=
  LegalParts s.mem s.mode s.psCur s.psTarget s.psReq s.psPark4 s.psPark5 s.pceil s.hyst

/-! ### What an instruction may issue on, and what it leaves -/

/-- R75, R72, R73, R233: nothing stops the issuing slot's instruction before its own effect. Its registers lie in the allotment, its
level and core may run it, its sources and destinations are full, and no earlier store of the slot that it would have to wait for
awaits translation. -/
structure Ready (i : Instr) (s : State) : Prop where
  allot : withinAllot s.me.ctl.allot (operands i) = true
  level : privTrap i s = none
  srcG  : ∀ e ∈ (operands i).sg, s.me.regs.emptyG e.1 = false
  srcV  : ∀ r ∈ (operands i).sv, s.me.regs.emptyV r = false
  dstG  : ∀ r, (operands i).dg = some r → s.me.regs.emptyG r = false
  dstV  : ∀ r ∈ (operands i).dv, s.me.regs.emptyV r = false
  older : passesWaiting i = true ∨ s.curSlot.waiting = []

/-- Nothing changed but cores. -/
def OnlyCores (s t : State) : Prop := { t with cores := s.cores } = s

/-- Nothing changed but the issuing slot and what `f` says of its core; every byte of memory reads as before. -/
structure OnlySlot (s t : State) (f : Core → Core) : Prop where
  outside : OnlyCores s t
  memory  : ∀ l, t.byteAt l = s.byteAt l
  others  : ∀ c, c ≠ s.cur.core → t.core c = s.core c
  core    : t.myCore = { f s.myCore with slots := t.myCore.slots }
  slots   : ∀ n, n ≠ s.cur.slot → t.slot s.cur.core n = s.slot s.cur.core n

/-- R176: INS counts one group more. -/
def countIns (k : Core) : Core := { k with ins := k.ins + 1 }

/-- The group completed: its slot stands at `pc` with registers `x` and control registers `c`, and nothing else changed but INS. -/
structure Retired (s t : State) (pc : Word) (x : Regs) (c : Ctl) : Prop where
  only : OnlySlot s t countIns
  slot : t.curSlot = { s.curSlot with w := { s.me with pc := pc, regs := x, ctl := c }, stall := none, cap := none }

/-- The slot stays at its group and waits for `y`: nothing else changed. -/
structure Stalled (s t : State) (y : Why) : Prop where
  only : OnlySlot s t (fun k => k)
  work : t.me = s.me
  why  : ∃ n, t.curSlot.stall = some (y, n)

/-- Of a slot's registers `x`, only `g` register `d` was written, with `v`; `g0` stays zero (R69). -/
structure WroteG (x y : Regs) (d : Nat) (v : Word) : Prop where
  value : y.getG d = if d = 0 then 0 else v
  full  : y.emptyG d = false
  gs    : ∀ r, r ≠ d → y.getG r = x.getG r ∧ y.emptyG r = x.emptyG r
  vs    : y.v = x.v ∧ y.ve = x.ve
  ps    : y.p = x.p

/-- Only `v` register `d` was written. -/
structure WroteV (x y : Regs) (d : Nat) (v : Vec) : Prop where
  value : y.getV d = v
  full  : y.emptyV d = false
  vs    : ∀ r, r ≠ d → y.getV r = x.getV r ∧ y.emptyV r = x.emptyV r
  gs    : y.g = x.g ∧ y.ge = x.ge
  ps    : y.p = x.p

/-- Only predicate `d` was written; `p0` stays true (R69). -/
structure WroteP (x y : Regs) (d : Nat) (b : Bool) : Prop where
  value : y.getP d = (d == 0 || b)
  ps    : ∀ r, r < 8 → r ≠ d → y.getP r = x.getP r
  gs    : y.g = x.g ∧ y.ge = x.ge
  vs    : y.v = x.v ∧ y.ve = x.ve

/-- The instruction completes with one `g` result. -/
def GivesG (i : Instr) (s : State) (d : GReg) (v : Word) : Prop :=
  ∃ t, exec i s = .next t ∧ Retired s t s.nextPc t.me.regs s.me.ctl ∧ WroteG s.me.regs t.me.regs d.toNat v

/-- The instruction completes with one `v` result and raises no flag. -/
def GivesV (i : Instr) (s : State) (d : VReg) (v : Vec) : Prop :=
  ∃ t, exec i s = .next t ∧ Retired s t s.nextPc t.me.regs s.me.ctl ∧ WroteV s.me.regs t.me.regs d.toNat v

/-- The instruction completes with one predicate result. -/
def GivesP (i : Instr) (s : State) (d : PReg) (b : Bool) : Prop :=
  ∃ t, exec i s = .next t ∧ Retired s t s.nextPc t.me.regs s.me.ctl ∧ WroteP s.me.regs t.me.regs d.toNat b

/-- The instruction completes with no result and goes on at `pc`. -/
def GoesTo (i : Instr) (s : State) (pc : Word) : Prop := ∃ t, exec i s = .next t ∧ Retired s t pc s.me.regs s.me.ctl

/-- R25, R83, R84, R124, R285: the group takes a precise trap. Its slot freezes at the group with LEN recorded and its registers
as they were, INS counts it, and the core's L0 event queue gains one entry at its end, which stands on chip (`pushes` is the
model's own count of entries pushed, log entry 59). -/
structure Trapped (s t : State) (cause : Nat) (eaddr einfo : Word) : Prop where
  only  : OnlySlot s t (fun k => { k with
    ins := k.ins + 1,
    events := k.events ++ [{ eslot := s.cur.slot, epc := s.cur.pc, ecause := wordOf cause, eaddr := eaddr, einfo := einfo }],
    pushes := k.pushes + 1 })
  slot  : t.curSlot = { s.curSlot with frozen := true, len := s.cur.len, stall := none, cap := none }

/-- A trap can be taken at once: no earlier store of the slot awaits translation, the other L0 slot is not frozen or the issuing slot is
none of L0, and the event queue has room on chip, with none of its entries in the spill area. -/
structure CanTrap (s : State) : Prop where
  older : s.curSlot.waiting = []
  l0    : ¬(s.cur.slot < 2 ∧ (s.slot s.cur.core (1 - s.cur.slot)).frozen = true)
  both  : ¬((s.slot s.cur.core 0).frozen = true ∧ (s.slot s.cur.core 1).frozen = true)
  room  : s.myCore.evSpilled = 0 ∧ s.myCore.events.length < 16

end Sys2Proof.Safety
end

