-- ==== Sys2Proof/Certificates/Slice0/Obligations.lean ====
section
/-! DEFINITION. The statements for the provers, and the expected results they are stated with. -/

namespace Sys2Proof.Claims

open Sys2Proof.Machine Sys2Proof.Safety

/-! ### Scalar results (R267 to R275, R258) -/

/-- The shift count of B: its bits 5:0. -/
def cnt (b : Word) : Nat := b.toNat % 64

/-- A field's bits as a signed number. -/
def fieldS (w n : Nat) : Int := if n < 2 ^ (w - 1) then (n : Int) else (n : Int) - 2 ^ w

/-- What the rules write to the `g` destination of a scalar member, as a condition on the value. -/
inductive Scalar (s : State) : Instr → GReg → (Word → Prop) → Prop
  | add (d a b : GReg) (ea eb : Bool) : Scalar s (.add d a b ea eb) d (fun v => v.toNat = ((s.g a).toNat + (s.g b).toNat) % 2 ^ 64)
  | sub (d a b : GReg) (ea eb : Bool) : Scalar s (.sub d a b ea eb) d (fun v => (v.toNat + (s.g b).toNat) % 2 ^ 64 = (s.g a).toNat)
  | mul (d a b : GReg) (ea eb : Bool) : Scalar s (.mul d a b ea eb) d (fun v => v.toNat = (s.g a).toNat * (s.g b).toNat % 2 ^ 64)
  | mulhS (d a b : GReg) (ea eb : Bool) : Scalar s (.mulhS d a b ea eb) d (fun v => v.toInt = (s.g a).toInt * (s.g b).toInt / 2 ^ 64)
  | mulhZ (d a b : GReg) (ea eb : Bool) : Scalar s (.mulhZ d a b ea eb) d (fun v => v.toNat = (s.g a).toNat * (s.g b).toNat / 2 ^ 64)
  | and (d a b : GReg) (ea eb : Bool) : Scalar s (.and d a b ea eb) d (fun v => ∀ j, v.getLsbD j = ((s.g a).getLsbD j && (s.g b).getLsbD j))
  | or (d a b : GReg) (ea eb : Bool) : Scalar s (.or d a b ea eb) d (fun v => ∀ j, v.getLsbD j = ((s.g a).getLsbD j || (s.g b).getLsbD j))
  | xor (d a b : GReg) (ea eb : Bool) : Scalar s (.xor d a b ea eb) d (fun v => ∀ j, v.getLsbD j = ((s.g a).getLsbD j != (s.g b).getLsbD j))
  | andn (d a b : GReg) (ea eb : Bool) : Scalar s (.andn d a b ea eb) d (fun v =>
      ∀ j, v.getLsbD j = ((s.g a).getLsbD j && !(s.g b).getLsbD j))
  | orn (d a b : GReg) (ea eb : Bool) : Scalar s (.orn d a b ea eb) d (fun v =>
      ∀ j, j < 64 → v.getLsbD j = ((s.g a).getLsbD j || !(s.g b).getLsbD j))
  | shl (d a b : GReg) (ea eb : Bool) : Scalar s (.shl d a b ea eb) d (fun v => v.toNat = (s.g a).toNat * 2 ^ cnt (s.g b) % 2 ^ 64)
  | shr (d a b : GReg) (ea eb : Bool) : Scalar s (.shr d a b ea eb) d (fun v => v.toNat = (s.g a).toNat / 2 ^ cnt (s.g b))
  | sar (d a b : GReg) (ea eb : Bool) : Scalar s (.sar d a b ea eb) d (fun v => v.toInt = (s.g a).toInt / 2 ^ cnt (s.g b))
  | rol (d a b : GReg) (ea eb : Bool) : Scalar s (.rol d a b ea eb) d (fun v =>
      ∀ j, j < 64 → v.getLsbD j = (s.g a).getLsbD ((j + 64 - cnt (s.g b)) % 64))
  | ror (d a b : GReg) (ea eb : Bool) : Scalar s (.ror d a b ea eb) d (fun v =>
      ∀ j, j < 64 → v.getLsbD j = (s.g a).getLsbD ((j + cnt (s.g b)) % 64))
  | minS (d a b : GReg) (ea eb : Bool) : Scalar s (.minS d a b ea eb) d (fun v => v.toInt = min (s.g a).toInt (s.g b).toInt)
  | minZ (d a b : GReg) (ea eb : Bool) : Scalar s (.minZ d a b ea eb) d (fun v => v.toNat = min (s.g a).toNat (s.g b).toNat)
  | maxS (d a b : GReg) (ea eb : Bool) : Scalar s (.maxS d a b ea eb) d (fun v => v.toInt = max (s.g a).toInt (s.g b).toInt)
  | maxZ (d a b : GReg) (ea eb : Bool) : Scalar s (.maxZ d a b ea eb) d (fun v => v.toNat = max (s.g a).toNat (s.g b).toNat)
  | clz (d a : GReg) (ea : Bool) : Scalar s (.clz d a ea) d (fun v =>
      v.toNat ≤ 64 ∧ (∀ j, 64 - v.toNat ≤ j → (s.g a).getLsbD j = false) ∧ (v.toNat < 64 → (s.g a).getLsbD (63 - v.toNat) = true))
  | ctz (d a : GReg) (ea : Bool) : Scalar s (.ctz d a ea) d (fun v =>
      v.toNat ≤ 64 ∧ (∀ j, j < v.toNat → (s.g a).getLsbD j = false) ∧ (v.toNat < 64 → (s.g a).getLsbD v.toNat = true))
  | popc (d a : GReg) (ea : Bool) : Scalar s (.popc d a ea) d (fun v =>
      v.toNat = ((List.range 64).filter (fun j => (s.g a).getLsbD j)).length)
  | bswap (d a : GReg) (ea : Bool) : Scalar s (.bswap d a ea) d (fun v =>
      ∀ i k, i < 8 → k < 8 → v.getLsbD (8 * i + k) = (s.g a).getLsbD (8 * (7 - i) + k))
  | lea1 (d a b : GReg) (ea eb : Bool) : Scalar s (.lea1 d a b ea eb) d (fun v => v.toNat = ((s.g a).toNat + (s.g b).toNat * 2) % 2 ^ 64)
  | lea2 (d a b : GReg) (ea eb : Bool) : Scalar s (.lea2 d a b ea eb) d (fun v => v.toNat = ((s.g a).toNat + (s.g b).toNat * 4) % 2 ^ 64)
  | lea3 (d a b : GReg) (ea eb : Bool) : Scalar s (.lea3 d a b ea eb) d (fun v => v.toNat = ((s.g a).toNat + (s.g b).toNat * 8) % 2 ^ 64)
  | addi (d a : GReg) (ea : Bool) (imm : BitVec 13) : Scalar s (.addi d a ea imm) d (fun v =>
      v = BitVec.ofInt 64 ((s.g a).toInt + imm.toInt))
  | andi (d a : GReg) (ea : Bool) (imm : BitVec 13) : Scalar s (.andi d a ea imm) d (fun v => v = s.g a &&& BitVec.ofInt 64 imm.toInt)
  | ori (d a : GReg) (ea : Bool) (imm : BitVec 13) : Scalar s (.ori d a ea imm) d (fun v => v = s.g a ||| BitVec.ofInt 64 imm.toInt)
  | xori (d a : GReg) (ea : Bool) (imm : BitVec 13) : Scalar s (.xori d a ea imm) d (fun v => v = s.g a ^^^ BitVec.ofInt 64 imm.toInt)
  | shli (d a : GReg) (ea : Bool) (n : BitVec 6) : Scalar s (.shli d a ea n) d (fun v => v.toNat = (s.g a).toNat * 2 ^ n.toNat % 2 ^ 64)
  | shri (d a : GReg) (ea : Bool) (n : BitVec 6) : Scalar s (.shri d a ea n) d (fun v => v.toNat = (s.g a).toNat / 2 ^ n.toNat)
  | sari (d a : GReg) (ea : Bool) (n : BitVec 6) : Scalar s (.sari d a ea n) d (fun v => v.toInt = (s.g a).toInt / 2 ^ n.toNat)
  | liS (d : GReg) (l : IWord) : Scalar s (.liS d l) d (fun v => v.toInt = l.toInt)
  | liZ (d : GReg) (l : IWord) : Scalar s (.liZ d l) d (fun v => v.toNat = l.toNat)
  | lih (d : GReg) (l : IWord) : Scalar s (.lih d l) d (fun v => v.toNat / 2 ^ 32 = l.toNat ∧ v.toNat % 2 ^ 32 = (s.g d).toNat % 2 ^ 32)
  | bextZ (d a : GReg) (ea : Bool) (p : BitVec 6) (w : BitVec 5) : Scalar s (.bextZ d a ea p w) d (fun v =>
      v.toNat = (s.g a).toNat / 2 ^ p.toNat % 2 ^ (w.toNat + 1))
  | bextS (d a : GReg) (ea : Bool) (p : BitVec 6) (w : BitVec 5) : Scalar s (.bextS d a ea p w) d (fun v =>
      v.toInt = fieldS (w.toNat + 1) ((s.g a).toNat / 2 ^ p.toNat % 2 ^ (w.toNat + 1)))
  | bins (d a : GReg) (ea : Bool) (p : BitVec 6) (w : BitVec 5) : Scalar s (.bins d a ea p w) d (fun v =>
      ∀ j, j < 64 → v.getLsbD j = if p.toNat ≤ j ∧ j < p.toNat + w.toNat + 1 then (s.g a).getLsbD (j - p.toNat) else (s.g d).getLsbD j)
  | pget (d : GReg) : Scalar s (.pget d) d (fun v => ∀ j, v.getLsbD j = (decide (j < 8) && s.me.regs.getP j))

/-- R273, as a truth value. -/
def condSpec (cc : Cond) (a b : Word) : Prop :=
  match cc with
  | .eq => a = b
  | .ne => a ≠ b
  | .ltS => a.toInt < b.toInt
  | .ltZ => a.toNat < b.toNat
  | .leS => a.toInt ≤ b.toInt
  | .leZ => a.toNat ≤ b.toNat
  | .gtS => a.toInt > b.toInt
  | .gtZ => a.toNat > b.toNat
  | .geS => a.toInt ≥ b.toInt
  | .geZ => a.toNat ≥ b.toNat
  | .tst => ∃ j, a.getLsbD j = true ∧ b.getLsbD j = true

/-- R273 to R275: what a compare or a predicate operation writes to its predicate. -/
inductive Pred (s : State) : Instr → PReg → Prop → Prop
  | cmp (d : PReg) (a b : GReg) (ea eb : Bool) (cc : Cond) : Pred s (.cmp d a b ea eb cc) d (condSpec cc (s.g a) (s.g b))
  | cmpi (d : PReg) (a : GReg) (ea : Bool) (cc : Cond) (imm : BitVec 9) : Pred s (.cmpi d a ea cc imm) d (condSpec cc (s.g a) (BitVec.ofInt 64 imm.toInt))
  | pand (d a b : PReg) : Pred s (.pand d a b) d (s.pr a = true ∧ s.pr b = true)
  | por (d a b : PReg) : Pred s (.por d a b) d (s.pr a = true ∨ s.pr b = true)
  | pxor (d a b : PReg) : Pred s (.pxor d a b) d (s.pr a ≠ s.pr b)
  | pandn (d a b : PReg) : Pred s (.pandn d a b) d (s.pr a = true ∧ s.pr b = false)
  | pnot (d a : PReg) : Pred s (.pnot d a) d (s.pr a = false)
  | pmov (d a : PReg) : Pred s (.pmov d a) d (s.pr a = true)

/-- R268: quotient or remainder of a division member, with its operands, as a condition on the value. -/
inductive Division (s : State) : Instr → GReg → GReg → (Word → Prop) → Prop
  | divS (d a b : GReg) (ea eb : Bool) : Division s (.divS d a b ea eb) d b (fun v =>
      v = BitVec.ofInt 64 ((s.g a).toInt.tdiv (s.g b).toInt))
  | remS (d a b : GReg) (ea eb : Bool) : Division s (.remS d a b ea eb) d b (fun v =>
      v.toInt = (s.g a).toInt - (s.g a).toInt.tdiv (s.g b).toInt * (s.g b).toInt)
  | divZ (d a b : GReg) (ea eb : Bool) : Division s (.divZ d a b ea eb) d b (fun v => v.toNat = (s.g a).toNat / (s.g b).toNat)
  | remZ (d a b : GReg) (ea eb : Bool) : Division s (.remZ d a b ea eb) d b (fun v =>
      v.toNat = (s.g a).toNat - (s.g a).toNat / (s.g b).toNat * (s.g b).toNat)

/-! ### Transfers of control and the control group (R276 to R288) -/

/-- A transfer of control: its target and the link register it writes, if any. -/
inductive Transfer (s : State) : Instr → Word → Option (Nat × Word) → Prop
  | br (p : PReg) (n : Bool) (disp : BitVec 22) :
      Transfer s (.br p n disp) (if s.pr p ≠ n then s.cur.pc + BitVec.ofInt 64 (4 * disp.toInt) else s.nextPc) none
  | call (disp : BitVec 22) : Transfer s (.call disp) (s.cur.pc + BitVec.ofInt 64 (4 * disp.toInt)) (some (15, s.cur.pc + 4))
  | jr (a : GReg) (ea : Bool) : Transfer s (.jr a ea) (BitVec.ofNat 64 ((s.g a).toNat / 4 * 4)) none
  | jalr (d a : GReg) (ea : Bool) :
      Transfer s (.jalr d a ea) (BitVec.ofNat 64 ((s.g a).toNat / 4 * 4)) (some (d.toNat, s.cur.pc + BitVec.ofNat 64 (4 * s.cur.len)))
  | nop : Transfer s .nop s.nextPc none

/-- Words of forms B and T of the transfers (R250, R276 to R278). -/
def formB (op p n disp : Nat) : IWord := BitVec.ofNat 32 (op * 2 ^ 26 + p * 2 ^ 23 + n * 2 ^ 22 + disp)

def formJ (d a ea fn : Nat) : IWord := BitVec.ofNat 32 (0x0E * 2 ^ 26 + d * 2 ^ 20 + a * 2 ^ 14 + ea * 2 ^ 7 + fn)

/-- A group of one word. -/
def plainGroup (i : Instr) : Group := { guard := none, mod := none, instr := i, len := 1 }

/-- A slot of the core of `s` freed: it holds no work, and its stores and stalls are gone. -/
structure Freed (s t : State) (n : Nat) : Prop where
  idle  : (t.slot s.cur.core n).busy = false ∧ (t.slot s.cur.core n).frozen = false ∧ (t.slot s.cur.core n).waiting = []
  rings : ∀ e ∈ t.myCore.rings, ∀ q, e.2.owner ≠ some ((s.slot s.cur.core n).w.id, q)

/-! ### Memory (R65, R71, R99 to R101, R132, R165, R224, R290 to R303) -/

/-- Whatever else changed, of the cores only the issuing slot and INS did: the group completed with registers `x`. -/
structure Went (s t : State) (x : Regs) : Prop where
  others : ∀ c, c ≠ s.cur.core → t.core c = s.core c
  core   : t.myCore = { countIns s.myCore with slots := t.myCore.slots }
  slots  : ∀ n, n ≠ s.cur.slot → t.slot s.cur.core n = s.slot s.cur.core n
  slot   : t.curSlot = { s.curSlot with w := { s.me with pc := s.nextPc, regs := x }, stall := none, cap := none }

/-- R138: the links that an access of the issuing core to a place crosses, and for a value crosses back, have room for its flits. -/
abbrev Room (s : State) (p : Page) (back : Bool) : Prop := s.roomOn (s.spans p back) = true

/-- The instruction completes with no result and goes on at `pc`; its access has crossed the links to a place, and for a value back. -/
def GoesOver (i : Instr) (s : State) (p : Page) (back : Bool) (pc : Word) : Prop :=
  ∃ t, exec i s = .next t ∧ Retired (s.cross p back) t pc s.me.regs s.me.ctl

/-- Nothing changed but cores, memory with its valid bits and wakes, and the accesses and values on their way. -/
def OnlyMemory (s t : State) : Prop :=
  { t with cores := s.cores, mem := s.mem, valid := s.valid, wakes := s.wakes, inflight := s.inflight, gathers := s.gathers,
           returns := s.returns, nextId := s.nextId } = s

/-- The access that an instruction makes, and what its address must be a multiple of (R292, R294, R295, R301, R303). -/
inductive Access (s : State) : Instr → Nat → Req → Prop
  | ldZ (d a : GReg) (ea : Bool) (sz : Size) (ann : Ann) (off : BitVec 7) :
      Access s (.ldZ d a ea sz ann off) (sizeBytes sz) (loadReq d (addrM (s.g a) sz off) sz ann false)
  | ldS (d a : GReg) (ea : Bool) (sz : Size) (ann : Ann) (off : BitVec 7) :
      Access s (.ldS d a ea sz ann off) (sizeBytes sz) (loadReq d (addrM (s.g a) sz off) sz ann true)
  | st (d a : GReg) (ea : Bool) (sz : Size) (ann : Ann) (off : BitVec 7) :
      Access s (.st d a ea sz ann off) (sizeBytes sz) (storeReq (addrM (s.g a) sz off) sz ann (s.g d))
  | ldv (v : VReg) (a : GReg) (ea : Bool) (ann : Ann) (off : BitVec 10) :
      Access s (.ldv v a ea ann off) 4 { va := addrW (s.g a) off, n := 16, kind := .vload, acq := (annScope ann).isSome, rel := false,
                                         scope := annScope ann, data := 0, cmp := 0, dest := .v v.toNat }
  | stv (v : VReg) (a : GReg) (ea : Bool) (ann : Ann) (off : BitVec 10) :
      Access s (.stv v a ea ann off) 4 { va := addrW (s.g a) off, n := 16, kind := .vstore, acq := false, rel := (annScope ann).isSome,
                                         scope := annScope ann, data := (s.vr v).toNat, cmp := 0, dest := .none }
  | ldvt (v : VReg) (a : GReg) (ea : Bool) (es : ESize) (off : BitVec 10) :
      Access s (.ldvt v a ea es off) 16 { va := addrW (s.g a) off, n := 16 * esizeCount es, kind := .tload es, acq := false, rel := false,
                                          scope := none, data := 0, cmp := 0, dest := .v v.toNat }
  | amo32 (d a b : GReg) (op : Aop) (ann : AAnn) :
      Access s (.amo32 d a b op ann) 4 (amoReq 32 d (s.g a) (s.g b) (s.g d) op ann)
  | amo64 (d a b : GReg) (op : Aop) (ann : AAnn) :
      Access s (.amo64 d a b op ann) 8 (amoReq 64 d (s.g a) (s.g b) (s.g d) op ann)
  | faddF32 (d a b : GReg) (ea eb : Bool) : Access s (.faddF32 d a b ea eb) 4 (rmwReq d (s.g a) 4 (.fadd .f32) (s.g b))
  | faddF16 (d a b : GReg) (ea eb : Bool) : Access s (.faddF16 d a b ea eb) 2 (rmwReq d (s.g a) 2 (.fadd .f16) (s.g b))
  | faddF64 (d a b : GReg) (ea eb : Bool) : Access s (.faddF64 d a b ea eb) 8 (rmwReq d (s.g a) 8 (.fadd .f64) (s.g b))
  | faddBf16 (d a b : GReg) (ea eb : Bool) : Access s (.faddBf16 d a b ea eb) 2 (rmwReq d (s.g a) 2 (.fadd .bf16) (s.g b))
  | decp (d a : GReg) (ea : Bool) : Access s (.decp d a ea) 32 (rmwReq d (s.g a) 4 .decp 0)

/-- EINFO of a trap of the access: 1 when it writes (R115). -/
def Req.einfo (q : Req) : Word :=
  match q.kind with
  | .load _ | .vload | .tload _ => 0
  | _ => 1

/-- Nothing makes the access wait at issue: no store of the slot awaits translation, no annotated access of the slot is held by a scope
miss, no `fence.rel` waits. -/
structure Clear (q : Req) (s : State) : Prop where
  waiting : s.curSlot.waiting = []
  held    : q.acq = true ∨ q.rel = true → s.curSlot.held = none
  fence   : s.relBlocked = false

/-- `n` bytes from an address lie in buffer `b` of the issuing core from offset `o` on, below its capacity (R99, R100). -/
structure Own (s : State) (va : Word) (n b o : Nat) : Prop where
  self  : inSelf va = true
  place : selfPlace va = some (b, o)
  fits  : o + n ≤ 64 * s.spcap s.cur.core b

/-- The place of those bytes. -/
def ownLoc (s : State) (b o : Nat) : Loc := { sp := .buf s.cur.core b, off := o }

/-- No 8-byte word that `n` bytes from `l` on have a part in holds a double-bit error (R98). -/
abbrev Sound (s : State) (l : Loc) (n : Nat) : Prop := ∀ w ∈ s.poison, ¬(8 * w < l.key + n ∧ l.key < 8 * w + 8)

/-- What an own load gives: address, alignment, bytes and the change of the registers. -/
inductive OwnLoad (s : State) (l : Loc) : Instr → Word → Nat → Nat → (Regs → Regs → Prop) → Prop
  | ldZ (d a : GReg) (ea : Bool) (sz : Size) (ann : Ann) (off : BitVec 7) :
      OwnLoad s l (.ldZ d a ea sz ann off) (addrM (s.g a) sz off) (sizeBytes sz) (sizeBytes sz)
        (fun x y => WroteG x y d.toNat (wordOf (s.readNat l (sizeBytes sz))))
  | ldS (d a : GReg) (ea : Bool) (sz : Size) (ann : Ann) (off : BitVec 7) :
      OwnLoad s l (.ldS d a ea sz ann off) (addrM (s.g a) sz off) (sizeBytes sz) (sizeBytes sz)
        (fun x y => WroteG x y d.toNat (BitVec.ofInt 64 (fieldS (8 * sizeBytes sz) (s.readNat l (sizeBytes sz)))))
  | ldv (v : VReg) (a : GReg) (ea : Bool) (ann : Ann) (off : BitVec 10) :
      OwnLoad s l (.ldv v a ea ann off) (addrW (s.g a) off) 4 16 (fun x y => WroteV x y v.toNat (BitVec.ofNat 128 (s.readNat l 16)))
  | ldvt (v : VReg) (a : GReg) (ea : Bool) (es : ESize) (off : BitVec 10) :
      OwnLoad s l (.ldvt v a ea es off) (addrW (s.g a) off) 16 (16 * esizeCount es) (fun x y =>
        (∀ i j k, i < esizeCount es → j < esizeCount es → k < 128 / esizeCount es →
          (y.getV (v.toNat + j)).getLsbD (128 / esizeCount es * i + k) =
            (s.readNat (l.plus (16 * i)) 16).testBit (128 / esizeCount es * j + k)) ∧
        (∀ r, v.toNat ≤ r → r < v.toNat + esizeCount es → y.emptyV r = false) ∧
        (∀ r, r < v.toNat ∨ v.toNat + esizeCount es ≤ r → y.getV r = x.getV r ∧ y.emptyV r = x.emptyV r) ∧
        y.g = x.g ∧ y.ge = x.ge ∧ y.p = x.p)

/-- What an own store stores: address, alignment, bytes and data. -/
inductive OwnStore (s : State) : Instr → Word → Nat → Nat → Nat → Prop
  | st (d a : GReg) (ea : Bool) (sz : Size) (ann : Ann) (off : BitVec 7) :
      OwnStore s (.st d a ea sz ann off) (addrM (s.g a) sz off) (sizeBytes sz) (sizeBytes sz) (s.g d).toNat
  | stv (v : VReg) (a : GReg) (ea : Bool) (ann : Ann) (off : BitVec 10) :
      OwnStore s (.stv v a ea ann off) (addrW (s.g a) off) 4 16 (s.vr v).toNat

/-- The `n` bytes from `l` on hold `data`, little-endian (R45); every other byte reads as before. -/
def Stored (s t : State) (l : Loc) (n data : Nat) : Prop :=
  ∀ k : Loc, t.byteAt k =
    if l.key ≤ k.key ∧ k.key < l.key + n then BitVec.ofNat 8 (data / 2 ^ (8 * (k.key - l.key))) else s.byteAt k

/-- R301: the new value of an atomic of width `w`, from the old value, B and D. -/
inductive AmoNew (w old b d : Nat) : Aop → Nat → Prop
  | add : AmoNew w old b d .add ((old + b) % 2 ^ w)
  | and : AmoNew w old b d .and (Nat.land old b)
  | or : AmoNew w old b d .or (Nat.lor old b)
  | xor : AmoNew w old b d .xor (Nat.xor old b)
  | minS : AmoNew w old b d .minS (if fieldS w old ≤ fieldS w b then old else b)
  | maxS : AmoNew w old b d .maxS (if fieldS w old ≤ fieldS w b then b else old)
  | swap : AmoNew w old b d .swap b
  | cas : AmoNew w old b d .cas (if old = d then b else old)

/-- What an own atomic of the C buffer does: destination, address, bytes, and the new value at its place. -/
inductive OwnAtomic (s : State) (l : Loc) : Instr → GReg → Word → Nat → Nat → Prop
  | amo32 (d a b : GReg) (op : Aop) (ann : AAnn) (v : Nat) :
      AmoNew 32 (s.readNat l 4) ((s.g b).toNat % 2 ^ 32) ((s.g d).toNat % 2 ^ 32) op v →
      OwnAtomic s l (.amo32 d a b op ann) d (s.g a) 4 v
  | amo64 (d a b : GReg) (op : Aop) (ann : AAnn) (v : Nat) :
      AmoNew 64 (s.readNat l 8) (s.g b).toNat (s.g d).toNat op v → OwnAtomic s l (.amo64 d a b op ann) d (s.g a) 8 v
  | faddF32 (d a b : GReg) (ea eb : Bool) :
      OwnAtomic s l (.faddF32 d a b ea eb) d (s.g a) 4 (faddNew (fmtOf 0 .f32) (s.readNat l 4) ((s.g b).toNat % 2 ^ 32))
  | faddF16 (d a b : GReg) (ea eb : Bool) :
      OwnAtomic s l (.faddF16 d a b ea eb) d (s.g a) 2 (faddNew (fmtOf 0 .f16) (s.readNat l 2) ((s.g b).toNat % 2 ^ 16))
  | faddF64 (d a b : GReg) (ea eb : Bool) :
      OwnAtomic s l (.faddF64 d a b ea eb) d (s.g a) 8 (faddNew (fmtOf 0 .f64) (s.readNat l 8) (s.g b).toNat)
  | faddBf16 (d a b : GReg) (ea eb : Bool) :
      OwnAtomic s l (.faddBf16 d a b ea eb) d (s.g a) 2 (faddNew (fmtOf 0 .bf16) (s.readNat l 2) ((s.g b).toNat % 2 ^ 16))

/-- The value of a binding word (R299). -/
def bindWord (lk base r : Nat) : Word := wordOf (lk * 2 ^ 14 + base * 16 + r)

/-! ### Waiting, barriers, and creating and joining work (R15 to R34, R44, R164 to R172, R304 to R316) -/

/-- The slot's work is parked under the next identity: it will go on at `pc`, it waits for `w` until the microsecond `u`, and its slot is
freed; the other slots stay. -/
structure Parks (s t : State) (pc : Word) (w : Wait) (u : Option Nat) (ready : Bool) : Prop where
  parked : ∃ p, t.parked = s.parked ++ [p] ∧ p.id = s.nextId ∧ p.core = s.cur.core ∧ p.w = { s.me with pc := pc } ∧ p.wait = w ∧
             p.until_ = u ∧ p.ready = ready
  idle   : t.curSlot.busy = false
  others : ∀ c, c ≠ s.cur.core → t.core c = s.core c
  slots  : ∀ n, n ≠ s.cur.slot → t.slot s.cur.core n = s.slot s.cur.core n

/-- The core watches a line for the work parked under the identity `id`. -/
def Watches (t : State) (key id : Nat) : Prop := ∃ w ∈ t.myCore.watches, w.line = key / 64 ∧ id ∈ w.waiters

/-- A core's ready ring of a level has room on chip, and nothing of it stands in the spill area (R122, R123). -/
abbrev RingRoom (k : Core) (lvl : Nat) : Prop := (k.ring lvl).spill = [] ∧ (k.ring lvl).chip.length < 16

/-- The microsecond at whose start `n` whole microseconds from now have passed. -/
def wakeAt (s : State) (n : Nat) : Nat := if s.beat % ticksPerMicro = 0 then s.usec + n else s.usec + n + 1

/-- The issuing slot may park and wait in a watch: its registers are full, it holds no scope-missed access, a watch entry is free. -/
structure CanPark (s : State) : Prop where
  full  : s.me.regs.noneEmpty = true
  held  : s.curSlot.held = none
  watch : s.myCore.watches.length < 16

/-- The barriers and their scopes (R305). -/
inductive Bar : Instr → Scope → Prop
  | quad : Bar .barQuad .quad
  | clus : Bar .barClus .clus
  | die : Bar .barDie .die
  | mod : Bar .barMod .mod
  | pod : Bar .barPod .pod

/-- The team that the issuing thread belongs to. -/
def MyTeam (s : State) (x : Team) : Prop := s.teams.find? (fun t => some t.id == s.me.team) = some x

/-- The instructions that only a team thread may issue, with the address that each names and EINFO, 1 for a member that writes there
(R290). -/
inductive ThreadOnly (s : State) : Instr → Word → Word → Prop
  | waita (d a b : GReg) (ea eb : Bool) : ThreadOnly s (.waita d a b ea eb) (s.g a) 0
  | bar (i : Instr) (sc : Scope) : Bar i sc → ThreadOnly s i 0 0
  | bowait (a b : GReg) (ea eb : Bool) : ThreadOnly s (.bowait a b ea eb) (s.g a) 1
  | park (a : GReg) (ea : Bool) : ThreadOnly s (.park a ea) 0 0
  | swapx (a b : GReg) (ea eb : Bool) : ThreadOnly s (.swapx a b ea eb) (s.g a) 1

/-- TARGET, COUNT, GEN of the barrier object at a place (R170). -/
def boTarget (s : State) (l : Loc) : Nat := s.readNat (l.plus 4) 4

def boCount (s : State) (l : Loc) : Nat := s.readNat l 4

def boGen (s : State) (l : Loc) : Nat := s.readNat (l.plus 8) 4

/-- An entry word (R309). -/
def entryWord (allot pc4 lvl : Nat) : Word := wordOf (allot * 2 ^ 58 + pc4 * 4 + lvl)

/-- A ready entry that a member puts into a ring (R122): its kind, allotment, pc, level, frame and team. -/
def plainEntry (kind allot pc4 lvl : Nat) (frame : Word) (team : Option Nat) : Entry :=
  { kind := kind, allot := allot, pc := wordOf (4 * pc4), lvl := lvl, frame := frame, g2 := 0, g3 := 0, landed := none, hclass := none,
    parked := none, team := team, share := false }

/-- The issuing slot's work has ended: its slot is freed and INS counts the group. -/
def Ends (s t : State) : Prop := Freed s t s.cur.slot ∧ (∀ c, c ≠ s.cur.core → t.core c = s.core c) ∧
  ∀ n, n ≠ s.cur.slot → t.slot s.cur.core n = s.slot s.cur.core n

/-! ### Messages and the transpose exchange (R127 to R130, R152, R201, R317 to R321) -/

/-- A destination word (R317): core, mailbox slot, number of words, NRW. -/
def destWord (dst slot words : Nat) (nrw : Bool) : Word := wordOf (dst * 2 ^ 49 + slot * 2 ^ 42 + words * 2 ^ 36 + if nrw then 2 ^ 35 else 0)

/-- What `send` and `sendr` may carry from the own buffers: `words` words at A, readable and written, nothing before the send to wait for. -/
structure CanSend (s : State) (a : GReg) (words b o : Nat) : Prop where
  count   : 1 ≤ words ∧ words ≤ 48
  aligned : (s.g a).toNat % 8 = 0
  own     : Own s (s.g a) (8 * words) b o
  sound   : Sound s (ownLoc s b o) (8 * words)
  order   : s.drained = true
  written : s.uninit (ownLoc s b o) (8 * words) = 0

/-- NFC as the issuing group reads it: what a stall for an empty source has captured (R58), else the register. -/
def nfcHere (s : State) : Word :=
  match s.curSlot.cap with
  | some (_, n) => n
  | none => s.me.ctl.nfc

/-- Of the issuing core, only the slot, INS and what `f` says changed; the group completed with registers `x`. -/
structure WentWith (s t : State) (x : Regs) (f : Core → Core) : Prop where
  outside : OnlyCores s t
  others  : ∀ c, c ≠ s.cur.core → t.core c = s.core c
  core    : t.myCore = { f (countIns s.myCore) with slots := t.myCore.slots }
  slots   : ∀ n, n ≠ s.cur.slot → t.slot s.cur.core n = s.slot s.cur.core n
  slot    : t.curSlot = { s.curSlot with w := { s.me with pc := s.nextPc, regs := x }, stall := none, cap := none }

/-! ### The vector unit (R45, R47, R56 to R62, R323 to R346) -/

/-- Lane `i` of width `w` of a register: bits w(i+1)-1 to wi (R45, R325). -/
def ln (w : Nat) (v : Vec) (i : Nat) : Nat := v.toNat / 2 ^ (w * i) % 2 ^ w

/-- A lane of an integer type as a number. -/
def laneVal (ty : Ty) (n : Nat) : Int := if tySigned ty then fieldS (tyWidth ty) n else n

/-- Bits of a lane that a `g` register's value fills: a narrow code's width, else the lane's. -/
def codeBits (s : State) (ty : Ty) : Nat := if ty = .narrow then (narrowOf s.nfc).width else tyWidth ty

/-- What the bit members and the members that move lanes write (R329, R336 to R340, R343, R344). -/
inductive Moves (s : State) : Instr → VReg → (Vec → Prop) → Prop
  | vand (d a b : VReg) : Moves s (.vand d a b) d (fun v => ∀ j, v.getLsbD j = ((s.vr a).getLsbD j && (s.vr b).getLsbD j))
  | vor (d a b : VReg) : Moves s (.vor d a b) d (fun v => ∀ j, v.getLsbD j = ((s.vr a).getLsbD j || (s.vr b).getLsbD j))
  | vxor (d a b : VReg) : Moves s (.vxor d a b) d (fun v => ∀ j, v.getLsbD j = ((s.vr a).getLsbD j != (s.vr b).getLsbD j))
  | vandn (d a b : VReg) : Moves s (.vandn d a b) d (fun v => ∀ j, v.getLsbD j = ((s.vr a).getLsbD j && !(s.vr b).getLsbD j))
  | vmov (d a : VReg) : Moves s (.vmov d a) d (fun v => v = s.vr a)
  | vsel (d a b c : VReg) : Moves s (.vsel d a b c) d (fun v =>
      ∀ j, v.getLsbD j = if (s.vr c).getLsbD j then (s.vr a).getLsbD j else (s.vr b).getLsbD j)
  | vperm (d a b : VReg) (ty : Ty) : Moves s (.vperm d a b ty) d (fun v => ∀ i, i < 128 / tyWidth ty → ln (tyWidth ty) v i =
      if 2 ^ (tyWidth ty - 1) ≤ ln (tyWidth ty) (s.vr b) i then 0
      else ln (tyWidth ty) (s.vr a) (ln (tyWidth ty) (s.vr b) i % (128 / tyWidth ty)))
  | vbcast (d a : VReg) (ty : Ty) : Moves s (.vbcast d a ty) d (fun v => ∀ i, i < 128 / laneW s.nfc ty →
      ln (laneW s.nfc ty) v i = (s.me.regs.getG a.toNat).toNat % 2 ^ codeBits s ty % 2 ^ laneW s.nfc ty)
  | vins (d a : VReg) (idx : BitVec 5) (ty : Ty) : idx.toNat < 128 / laneW s.nfc ty →
      Moves s (.vins d a idx ty) d (fun v => ∀ i, i < 128 / laneW s.nfc ty → ln (laneW s.nfc ty) v i =
        if i = idx.toNat then (s.me.regs.getG a.toNat).toNat % 2 ^ codeBits s ty % 2 ^ laneW s.nfc ty else ln (laneW s.nfc ty) (s.vr d) i)
  | vpack (d a b : VReg) (ty : Ty) : Moves s (.vpack d a b ty) d (fun v => ∀ i, i < 128 / tyWidth ty → ln (tyWidth ty) v i =
      (if i < 64 / tyWidth ty then ln (2 * tyWidth ty) (s.vr a) i else ln (2 * tyWidth ty) (s.vr b) (i - 64 / tyWidth ty)) %
        2 ^ tyWidth ty)
  | vzip (d a b : VReg) (ty : Ty) : Moves s (.vzip d a b ty) d (fun v => ∀ i, i < 128 / tyWidth ty → ln (tyWidth ty) v i =
      if i % 2 = 0 then ln (tyWidth ty) (s.vr a) (i / 2) else ln (tyWidth ty) (s.vr b) (i / 2))
  | vunzip (d a b : VReg) (ty : Ty) : Moves s (.vunzip d a b ty) d (fun v => ∀ i, i < 128 / tyWidth ty → ln (tyWidth ty) v i =
      if i < 64 / tyWidth ty then ln (tyWidth ty) (s.vr a) (2 * i) else ln (tyWidth ty) (s.vr b) (2 * i - 128 / tyWidth ty))
  | vclass (d a : VReg) (ty : Ty) : Moves s (.vclass d a ty) d (fun v => ∀ i, i < 128 / tyWidth ty →
      ln (tyWidth ty) v i = 2 ^ classBit (fmtOf 0 ty) (ln (tyWidth ty) (s.vr a) i))

/-- R342: a comparison of numbers. -/
def vcondSpec (cc : VCond) (x y : Int) : Bool :=
  match cc with
  | .eq => decide (x = y)
  | .ne => decide (x ≠ y)
  | .lt => decide (x < y)
  | .le => decide (x ≤ y)

/-- The sum of `n` terms. -/
def sumTo (f : Nat → Int) : Nat → Int
  | 0 => 0
  | n + 1 => sumTo f n + f n

/-- What the members write for integer types, without a modifier (R60, R327, R328, R330, R332, R339, R341, R342, R346). -/
inductive IntLanes (s : State) : Instr → VReg → Ty → (Vec → Prop) → Prop
  | vadd (d a b : VReg) (ty : Ty) : IntLanes s (.vadd d a b ty) d ty (fun v => ∀ i, i < 128 / tyWidth ty →
      ln (tyWidth ty) v i = (ln (tyWidth ty) (s.vr a) i + ln (tyWidth ty) (s.vr b) i) % 2 ^ tyWidth ty)
  | vsub (d a b : VReg) (ty : Ty) : IntLanes s (.vsub d a b ty) d ty (fun v => ∀ i, i < 128 / tyWidth ty →
      (ln (tyWidth ty) v i + ln (tyWidth ty) (s.vr b) i) % 2 ^ tyWidth ty = ln (tyWidth ty) (s.vr a) i)
  | vmul (d a b : VReg) (ty : Ty) : IntLanes s (.vmul d a b ty) d ty (fun v => ∀ i, i < 128 / tyWidth ty →
      ln (tyWidth ty) v i = ln (tyWidth ty) (s.vr a) i * ln (tyWidth ty) (s.vr b) i % 2 ^ tyWidth ty)
  | vmin (d a b : VReg) (ty : Ty) : IntLanes s (.vmin d a b ty) d ty (fun v => ∀ i, i < 128 / tyWidth ty → laneVal ty (ln (tyWidth ty) v i) =
      min (laneVal ty (ln (tyWidth ty) (s.vr a) i)) (laneVal ty (ln (tyWidth ty) (s.vr b) i)))
  | vmax (d a b : VReg) (ty : Ty) : IntLanes s (.vmax d a b ty) d ty (fun v => ∀ i, i < 128 / tyWidth ty → laneVal ty (ln (tyWidth ty) v i) =
      max (laneVal ty (ln (tyWidth ty) (s.vr a) i)) (laneVal ty (ln (tyWidth ty) (s.vr b) i)))
  | vshl (d a b : VReg) (ty : Ty) : IntLanes s (.vshl d a b ty) d ty (fun v => ∀ i, i < 128 / tyWidth ty → ln (tyWidth ty) v i =
      ln (tyWidth ty) (s.vr a) i * 2 ^ (ln (tyWidth ty) (s.vr b) i % tyWidth ty) % 2 ^ tyWidth ty)
  | vshr (d a b : VReg) (ty : Ty) : IntLanes s (.vshr d a b ty) d ty (fun v => ∀ i, i < 128 / tyWidth ty → ln (tyWidth ty) v i =
      ln (tyWidth ty) (s.vr a) i / 2 ^ (ln (tyWidth ty) (s.vr b) i % tyWidth ty))
  | vsar (d a b : VReg) (ty : Ty) : IntLanes s (.vsar d a b ty) d ty (fun v => ∀ i, i < 128 / tyWidth ty →
      fieldS (tyWidth ty) (ln (tyWidth ty) v i) =
        fieldS (tyWidth ty) (ln (tyWidth ty) (s.vr a) i) / 2 ^ (ln (tyWidth ty) (s.vr b) i % tyWidth ty))
  | vcmp (d a b : VReg) (ty : Ty) (cc : VCond) : IntLanes s (.vcmp d a b ty cc) d ty (fun v => ∀ i, i < 128 / tyWidth ty →
      ln (tyWidth ty) v i =
        if vcondSpec cc (laneVal ty (ln (tyWidth ty) (s.vr a) i)) (laneVal ty (ln (tyWidth ty) (s.vr b) i)) then 2 ^ tyWidth ty - 1 else 0)
  | vunpkLo (d a : VReg) (ty : Ty) : IntLanes s (.vunpkLo d a ty) d ty (fun v => ∀ i, i < 128 / tyWidth ty →
      laneVal ty (ln (tyWidth ty) v i) = if tySigned ty then fieldS (tyWidth ty / 2) (ln (tyWidth ty / 2) (s.vr a) i)
        else ln (tyWidth ty / 2) (s.vr a) i)
  | vunpkHi (d a : VReg) (ty : Ty) : IntLanes s (.vunpkHi d a ty) d ty (fun v => ∀ i, i < 128 / tyWidth ty →
      laneVal ty (ln (tyWidth ty) v i) =
        if tySigned ty then fieldS (tyWidth ty / 2) (ln (tyWidth ty / 2) (s.vr a) (i + 128 / tyWidth ty))
        else ln (tyWidth ty / 2) (s.vr a) (i + 128 / tyWidth ty))
  | vcvt (d a : VReg) (dt st : Ty) (rm : CvtRm) : tyIsInt st = true → IntLanes s (.vcvt d a dt st rm) d dt (fun v =>
      ∀ i, i < 128 / tyWidth dt → ((ln (tyWidth dt) v i : Nat) : Int) =
        if i < 128 / tyWidth st then laneVal st (ln (tyWidth st) (s.vr a) i) % 2 ^ tyWidth dt else 0)
  | vdotI (d a b c : VReg) (ty : Ty) : IntLanes s (.vdotI d a b c ty) d ty (fun v => ∀ i, i < 4 → ((ln 32 v i : Nat) : Int) =
      (ln 32 (s.vr c) i + sumTo (fun j => laneVal ty (ln (tyWidth ty) (s.vr a) (32 / tyWidth ty * i + j)) *
        laneVal ty (ln (tyWidth ty) (s.vr b) (32 / tyWidth ty * i + j))) (32 / tyWidth ty)) % 2 ^ 32)
  | vredAdd (d a : VReg) (ty : Ty) : IntLanes s (.vredAdd d a ty) d ty (fun v =>
      (v.toNat : Int) = sumTo (fun j => ln (tyWidth ty) (s.vr a) j) (128 / tyWidth ty) % 2 ^ tyWidth ty)
  | vredMin (d a : VReg) (ty : Ty) : IntLanes s (.vredMin d a ty) d ty (fun v => v.toNat < 2 ^ tyWidth ty ∧
      (∃ j, j < 128 / tyWidth ty ∧ v.toNat = ln (tyWidth ty) (s.vr a) j) ∧
      ∀ j, j < 128 / tyWidth ty → laneVal ty v.toNat ≤ laneVal ty (ln (tyWidth ty) (s.vr a) j))
  | vredMax (d a : VReg) (ty : Ty) : IntLanes s (.vredMax d a ty) d ty (fun v => v.toNat < 2 ^ tyWidth ty ∧
      (∃ j, j < 128 / tyWidth ty ∧ v.toNat = ln (tyWidth ty) (s.vr a) j) ∧
      ∀ j, j < 128 / tyWidth ty → laneVal ty (ln (tyWidth ty) (s.vr a) j) ≤ laneVal ty v.toNat)

/-- The instruction completes with one `v` result and flags, which join FPC (R57). -/
def GivesVF (i : Instr) (s : State) (d : VReg) (v : Vec) (f : Flags) : Prop :=
  ∃ t, exec i s = .next t ∧
    Retired s t s.nextPc t.me.regs { s.me.ctl with fpc := s.me.ctl.fpc ||| wordOf (16 * f.toNat) } ∧
    WroteV s.me.regs t.me.regs d.toNat v

/-- Width and lanes, each with the flags it raises, of a member on any type it accepts and with any modifier (R326 to R335, R342, R345): every
lane is computed exactly from the operands and finished once under the captured environment. -/
inductive Lanes (s : State) : Instr → VReg → Nat → List (Nat × Flags) → Prop
  | vadd (d a b : VReg) (ty : Ty) : Lanes s (.vadd d a b ty) d (laneW s.nfc ty) ((List.range (128 / laneW s.nfc ty)).map (fun i =>
      s.env.arith ty (fun x y => sumF s.env.rm [x, y]) (fun x y => x + y) (ln (laneW s.nfc ty) (s.vr a) i) (ln (laneW s.nfc ty) (s.vr b) i)))
  | vsub (d a b : VReg) (ty : Ty) : Lanes s (.vsub d a b ty) d (laneW s.nfc ty) ((List.range (128 / laneW s.nfc ty)).map (fun i =>
      s.env.arith ty (fun x y => sumF s.env.rm [x, y.neg]) (fun x y => x - y) (ln (laneW s.nfc ty) (s.vr a) i)
        (ln (laneW s.nfc ty) (s.vr b) i)))
  | vmul (d a b : VReg) (ty : Ty) : Lanes s (.vmul d a b ty) d (laneW s.nfc ty) ((List.range (128 / laneW s.nfc ty)).map (fun i =>
      s.env.arith ty mulF (fun x y => x * y) (ln (laneW s.nfc ty) (s.vr a) i) (ln (laneW s.nfc ty) (s.vr b) i)))
  | vmin (d a b : VReg) (ty : Ty) : Lanes s (.vmin d a b ty) d (laneW s.nfc ty) ((List.range (128 / laneW s.nfc ty)).map (fun i =>
      s.env.select ty false (ln (laneW s.nfc ty) (s.vr a) i) (ln (laneW s.nfc ty) (s.vr b) i)))
  | vmax (d a b : VReg) (ty : Ty) : Lanes s (.vmax d a b ty) d (laneW s.nfc ty) ((List.range (128 / laneW s.nfc ty)).map (fun i =>
      s.env.select ty true (ln (laneW s.nfc ty) (s.vr a) i) (ln (laneW s.nfc ty) (s.vr b) i)))
  | vfma (d a b c : VReg) (ty : Ty) : Lanes s (.vfma d a b c ty) d (laneW s.nfc ty) ((List.range (128 / laneW s.nfc ty)).map (fun i =>
      s.env.fma ty false false (ln (laneW s.nfc ty) (s.vr a) i) (ln (laneW s.nfc ty) (s.vr b) i) (ln (laneW s.nfc ty) (s.vr c) i)))
  | vfms (d a b c : VReg) (ty : Ty) : Lanes s (.vfms d a b c ty) d (laneW s.nfc ty) ((List.range (128 / laneW s.nfc ty)).map (fun i =>
      s.env.fma ty false true (ln (laneW s.nfc ty) (s.vr a) i) (ln (laneW s.nfc ty) (s.vr b) i) (ln (laneW s.nfc ty) (s.vr c) i)))
  | vfnma (d a b c : VReg) (ty : Ty) : Lanes s (.vfnma d a b c ty) d (laneW s.nfc ty) ((List.range (128 / laneW s.nfc ty)).map (fun i =>
      s.env.fma ty true false (ln (laneW s.nfc ty) (s.vr a) i) (ln (laneW s.nfc ty) (s.vr b) i) (ln (laneW s.nfc ty) (s.vr c) i)))
  | vfnms (d a b c : VReg) (ty : Ty) : Lanes s (.vfnms d a b c ty) d (laneW s.nfc ty) ((List.range (128 / laneW s.nfc ty)).map (fun i =>
      s.env.fma ty true true (ln (laneW s.nfc ty) (s.vr a) i) (ln (laneW s.nfc ty) (s.vr b) i) (ln (laneW s.nfc ty) (s.vr c) i)))
  | vcvt (d a : VReg) (dt st : Ty) (rm : CvtRm) : Lanes s (.vcvt d a dt st rm) d (laneW s.nfc dt)
      ((List.range (min (128 / laneW s.nfc st) (128 / laneW s.nfc dt))).map (fun i =>
        Env.convert { s.env with rm := cvtMode s.fpc rm } dt st (ln (laneW s.nfc st) (s.vr a) i)))
  | vrcp (d a : VReg) (ty : Ty) : Lanes s (.vrcp d a ty) d (laneW s.nfc ty) ((List.range (128 / laneW s.nfc ty)).map (fun i =>
      s.env.special ty 0 rcpF (ln (laneW s.nfc ty) (s.vr a) i)))
  | vrsqrt (d a : VReg) (ty : Ty) : Lanes s (.vrsqrt d a ty) d (laneW s.nfc ty) ((List.range (128 / laneW s.nfc ty)).map (fun i =>
      s.env.special ty 1 rsqrtF (ln (laneW s.nfc ty) (s.vr a) i)))
  | vexp2 (d a : VReg) (ty : Ty) : Lanes s (.vexp2 d a ty) d (laneW s.nfc ty) ((List.range (128 / laneW s.nfc ty)).map (fun i =>
      s.env.special ty 2 (fun f => exp2F f (twoUnits ty)) (ln (laneW s.nfc ty) (s.vr a) i)))
  | vlog2 (d a : VReg) (ty : Ty) : Lanes s (.vlog2 d a ty) d (laneW s.nfc ty) ((List.range (128 / laneW s.nfc ty)).map (fun i =>
      s.env.special ty 3 (fun f => log2F f (twoUnits ty)) (ln (laneW s.nfc ty) (s.vr a) i)))
  | vsqrt (d a : VReg) (ty : Ty) : Lanes s (.vsqrt d a ty) d (laneW s.nfc ty) ((List.range (128 / laneW s.nfc ty)).map (fun i =>
      s.env.finish ty (sqrtF (s.env.read ty (ln (laneW s.nfc ty) (s.vr a) i))) (snanFlags [s.env.read ty (ln (laneW s.nfc ty) (s.vr a) i)])))
  | vdiv (d a b : VReg) (ty : Ty) : Lanes s (.vdiv d a b ty) d (laneW s.nfc ty) ((List.range (128 / laneW s.nfc ty)).map (fun i =>
      s.env.bin ty divF (ln (laneW s.nfc ty) (s.vr a) i) (ln (laneW s.nfc ty) (s.vr b) i)))
  | vcmp (d a b : VReg) (ty : Ty) (cc : VCond) : Lanes s (.vcmp d a b ty cc) d (laneW s.nfc ty)
      ((List.range (128 / laneW s.nfc ty)).map (fun i =>
        (if (s.env.compare ty cc (ln (laneW s.nfc ty) (s.vr a) i) (ln (laneW s.nfc ty) (s.vr b) i)).1 then 2 ^ laneW s.nfc ty - 1 else 0,
         (s.env.compare ty cc (ln (laneW s.nfc ty) (s.vr a) i) (ln (laneW s.nfc ty) (s.vr b) i)).2)))
  | vdot (d a b c : VReg) (ty : Ty) : Lanes s (.vdot d a b c ty) d (tyWidth (dotDest ty))
      ((List.range (128 / tyWidth (dotDest ty))).map (fun i => s.env.dot ty (ln (tyWidth (dotDest ty)) (s.vr c) i)
        ((List.range (tyWidth (dotDest ty) / laneW s.nfc ty)).map (fun j =>
          ln (laneW s.nfc ty) (s.vr a) (tyWidth (dotDest ty) / laneW s.nfc ty * i + j)))
        ((List.range (tyWidth (dotDest ty) / laneW s.nfc ty)).map (fun j =>
          ln (laneW s.nfc ty) (s.vr b) (tyWidth (dotDest ty) / laneW s.nfc ty * i + j)))))
  | vunpkLo (d a : VReg) (ty : Ty) : tyIsInt ty = false → Lanes s (.vunpkLo d a ty) d (tyWidth ty)
      ((List.range (128 / tyWidth ty)).map (fun i =>
        s.env.convert ty (if ty = .f32 then .f16 else .f32) (ln (tyWidth ty / 2) (s.vr a) i)))
  | vunpkHi (d a : VReg) (ty : Ty) : tyIsInt ty = false → Lanes s (.vunpkHi d a ty) d (tyWidth ty)
      ((List.range (128 / tyWidth ty)).map (fun i =>
        s.env.convert ty (if ty = .f32 then .f16 else .f32) (ln (tyWidth ty / 2) (s.vr a) (i + 128 / tyWidth ty))))

/-- Results worked out by hand from the rules, of one lane each: the member, its destination and the lane's width, for each input its
register, width, offset in lanes and code, FPC.RM, the code of the result and the flags (NV 1, DZ 2, OF 4, UF 8, NX 16). For every member: signed
zeros and exact cancellation (R56), one rounding (R326), overflow by the mode (R56), the canonical NaN and NV (R46, R47), the special values of
R334, and a conversion's saturation (R61, R62). Narrow codes are of n8e4m3, NFC's reset value (R52). -/
inductive FloatCase : Instr → VReg → Nat → List (VReg × Nat × Nat × Nat) → Nat → Nat → Nat → Prop
  | vadd1 (d a b : VReg) :
      FloatCase (.vadd d a b .f32) d 32 [(a, 32, 0, 0x3F800000), (b, 32, 0, 0xBF800000)] 0 0 0
  | vadd2 (d a b : VReg) :
      FloatCase (.vadd d a b .f32) d 32 [(a, 32, 0, 0x3F800000), (b, 32, 0, 0xBF800000)] 3 0x80000000 0
  | vadd3 (d a b : VReg) :
      FloatCase (.vadd d a b .f32) d 32 [(a, 32, 0, 0x80000000), (b, 32, 0, 0x80000000)] 0 0x80000000 0
  | vadd4 (d a b : VReg) :
      FloatCase (.vadd d a b .f32) d 32 [(a, 32, 0, 0x4B800000), (b, 32, 0, 0x3F800000)] 0 0x4B800000 16
  | vadd5 (d a b : VReg) :
      FloatCase (.vadd d a b .f32) d 32 [(a, 32, 0, 0x4B800000), (b, 32, 0, 0x3F800000)] 2 0x4B800001 16
  | vadd6 (d a b : VReg) :
      FloatCase (.vadd d a b .f32) d 32 [(a, 32, 0, 0x7F7FFFFF), (b, 32, 0, 0x7F7FFFFF)] 0 0x7F800000 20
  | vadd7 (d a b : VReg) :
      FloatCase (.vadd d a b .f32) d 32 [(a, 32, 0, 0x7F7FFFFF), (b, 32, 0, 0x7F7FFFFF)] 1 0x7F7FFFFF 20
  | vadd8 (d a b : VReg) :
      FloatCase (.vadd d a b .f32) d 32 [(a, 32, 0, 0x7F800000), (b, 32, 0, 0xFF800000)] 0 0x7FC00000 1
  | vadd9 (d a b : VReg) :
      FloatCase (.vadd d a b .f32) d 32 [(a, 32, 0, 0x7F800001), (b, 32, 0, 0x3F800000)] 0 0x7FC00000 1
  | vsub1 (d a b : VReg) :
      FloatCase (.vsub d a b .f16) d 16 [(a, 16, 0, 0x3C00), (b, 16, 0, 0x3C00)] 0 0 0
  | vsub2 (d a b : VReg) :
      FloatCase (.vsub d a b .f16) d 16 [(a, 16, 0, 0x3C00), (b, 16, 0, 0x3C00)] 3 0x8000 0
  | vsub3 (d a b : VReg) :
      FloatCase (.vsub d a b .f16) d 16 [(a, 16, 0, 0x7BFF), (b, 16, 0, 0xFBFF)] 0 0x7C00 20
  | vsub4 (d a b : VReg) :
      FloatCase (.vsub d a b .f16) d 16 [(a, 16, 0, 0x7C00), (b, 16, 0, 0x7C00)] 0 0x7E00 1
  | vmul1 (d a b : VReg) :
      FloatCase (.vmul d a b .bf16) d 16 [(a, 16, 0, 0x7F7F), (b, 16, 0, 0x7F7F)] 0 0x7F80 20
  | vmul2 (d a b : VReg) :
      FloatCase (.vmul d a b .bf16) d 16 [(a, 16, 0, 0), (b, 16, 0, 0x7F80)] 0 0x7FC0 1
  | vmul3 (d a b : VReg) :
      FloatCase (.vmul d a b .bf16) d 16 [(a, 16, 0, 0xBF80), (b, 16, 0, 0)] 0 0x8000 0
  | vmul4 (d a b : VReg) :
      FloatCase (.vmul d a b .bf16) d 16 [(a, 16, 0, 0x80), (b, 16, 0, 0x3F00)] 0 0x40 0
  | vmul5 (d a b : VReg) :
      FloatCase (.vmul d a b .bf16) d 16 [(a, 16, 0, 0x1), (b, 16, 0, 0x3F00)] 0 0 24
  | vfma1 (d a b c : VReg) :
      FloatCase (.vfma d a b c .f64) d 64 [(a, 64, 0, 0x3FF0000000000001), (b, 64, 0, 0x3FF0000000000001), (c, 64, 0, 0xBFF0000000000002)] 0 0x3970000000000000 0
  | vfma2 (d a b c : VReg) :
      FloatCase (.vfma d a b c .f64) d 64 [(a, 64, 0, 0), (b, 64, 0, 0x7FF0000000000000), (c, 64, 0, 0x7FF8000000000000)] 0 0x7FF8000000000000 1
  | vfms1 (d a b c : VReg) :
      FloatCase (.vfms d a b c .f32) d 32 [(a, 32, 0, 0x40000000), (b, 32, 0, 0x40400000), (c, 32, 0, 0x40C00000)] 0 0 0
  | vfms2 (d a b c : VReg) :
      FloatCase (.vfms d a b c .f32) d 32 [(a, 32, 0, 0x40000000), (b, 32, 0, 0x40400000), (c, 32, 0, 0x40C00000)] 3 0x80000000 0
  | vfms3 (d a b c : VReg) :
      FloatCase (.vfms d a b c .f32) d 32 [(a, 32, 0, 0x7F800000), (b, 32, 0, 0x3F800000), (c, 32, 0, 0x7F800000)] 0 0x7FC00000 1
  | vfnma1 (d a b c : VReg) :
      FloatCase (.vfnma d a b c .f32) d 32 [(a, 32, 0, 0x40000000), (b, 32, 0, 0x40400000), (c, 32, 0, 0x40C00000)] 0 0 0
  | vfnma2 (d a b c : VReg) :
      FloatCase (.vfnma d a b c .f32) d 32 [(a, 32, 0, 0x3F800000), (b, 32, 0, 0), (c, 32, 0, 0x80000000)] 0 0x80000000 0
  | vfnms1 (d a b c : VReg) :
      FloatCase (.vfnms d a b c .f32) d 32 [(a, 32, 0, 0x40000000), (b, 32, 0, 0x40400000), (c, 32, 0, 0x40C00000)] 0 0xC1400000 0
  | vfnms2 (d a b c : VReg) :
      FloatCase (.vfnms d a b c .f32) d 32 [(a, 32, 0, 0x7F7FFFFF), (b, 32, 0, 0x40000000), (c, 32, 0, 0)] 0 0xFF800000 20
  | vmin1 (d a b : VReg) :
      FloatCase (.vmin d a b .f32) d 32 [(a, 32, 0, 0x80000000), (b, 32, 0, 0)] 0 0x80000000 0
  | vmin2 (d a b : VReg) :
      FloatCase (.vmin d a b .f32) d 32 [(a, 32, 0, 0x7FC12345), (b, 32, 0, 0x3F800000)] 0 0x7FC00000 0
  | vmax1 (d a b : VReg) :
      FloatCase (.vmax d a b .f32) d 32 [(a, 32, 0, 0x80000000), (b, 32, 0, 0)] 0 0 0
  | vmax2 (d a b : VReg) :
      FloatCase (.vmax d a b .f32) d 32 [(a, 32, 0, 0x7F800001), (b, 32, 0, 0x3F800000)] 0 0x7FC00000 1
  | vdiv1 (d a b : VReg) :
      FloatCase (.vdiv d a b .f32) d 32 [(a, 32, 0, 0x3F800000), (b, 32, 0, 0x40400000)] 0 0x3EAAAAAB 16
  | vdiv2 (d a b : VReg) :
      FloatCase (.vdiv d a b .f32) d 32 [(a, 32, 0, 0x3F800000), (b, 32, 0, 0)] 0 0x7F800000 2
  | vdiv3 (d a b : VReg) :
      FloatCase (.vdiv d a b .f32) d 32 [(a, 32, 0, 0), (b, 32, 0, 0)] 0 0x7FC00000 1
  | vdiv4 (d a b : VReg) :
      FloatCase (.vdiv d a b .f32) d 32 [(a, 32, 0, 0xBF800000), (b, 32, 0, 0x7F800000)] 0 0x80000000 0
  | vsqrt1 (d a : VReg) :
      FloatCase (.vsqrt d a .f32) d 32 [(a, 32, 0, 0x40000000)] 0 0x3FB504F3 16
  | vsqrt2 (d a : VReg) :
      FloatCase (.vsqrt d a .f32) d 32 [(a, 32, 0, 0x80000000)] 0 0x80000000 0
  | vsqrt3 (d a : VReg) :
      FloatCase (.vsqrt d a .f32) d 32 [(a, 32, 0, 0xBF800000)] 0 0x7FC00000 1
  | vrcp1 (d a : VReg) :
      FloatCase (.vrcp d a .f32) d 32 [(a, 32, 0, 0x40800000)] 0 0x3E800000 0
  | vrcp2 (d a : VReg) :
      FloatCase (.vrcp d a .f32) d 32 [(a, 32, 0, 0x80000000)] 0 0xFF800000 2
  | vrcp3 (d a : VReg) :
      FloatCase (.vrcp d a .f32) d 32 [(a, 32, 0, 0x7F800000)] 0 0 0
  | vrsqrt1 (d a : VReg) :
      FloatCase (.vrsqrt d a .f32) d 32 [(a, 32, 0, 0x40800000)] 0 0x3F000000 0
  | vrsqrt2 (d a : VReg) :
      FloatCase (.vrsqrt d a .f32) d 32 [(a, 32, 0, 0x80000000)] 0 0xFF800000 2
  | vrsqrt3 (d a : VReg) :
      FloatCase (.vrsqrt d a .f32) d 32 [(a, 32, 0, 0xBF800000)] 0 0x7FC00000 1
  | vexp21 (d a : VReg) :
      FloatCase (.vexp2 d a .f32) d 32 [(a, 32, 0, 0x40400000)] 0 0x41000000 0
  | vexp22 (d a : VReg) :
      FloatCase (.vexp2 d a .f32) d 32 [(a, 32, 0, 0x43000000)] 0 0x7F800000 20
  | vexp23 (d a : VReg) :
      FloatCase (.vexp2 d a .f32) d 32 [(a, 32, 0, 0xFF800000)] 0 0 0
  | vlog21 (d a : VReg) :
      FloatCase (.vlog2 d a .f32) d 32 [(a, 32, 0, 0x41000000)] 0 0x40400000 0
  | vlog22 (d a : VReg) :
      FloatCase (.vlog2 d a .f32) d 32 [(a, 32, 0, 0x3F800000)] 0 0 0
  | vlog23 (d a : VReg) :
      FloatCase (.vlog2 d a .f32) d 32 [(a, 32, 0, 0)] 0 0xFF800000 2
  | vlog24 (d a : VReg) :
      FloatCase (.vlog2 d a .f32) d 32 [(a, 32, 0, 0xBF800000)] 0 0x7FC00000 1
  | vcmp1 (d a b : VReg) :
      FloatCase (.vcmp d a b .f32 .eq) d 32 [(a, 32, 0, 0x80000000), (b, 32, 0, 0)] 0 0xFFFFFFFF 0
  | vcmp2 (d a b : VReg) :
      FloatCase (.vcmp d a b .f32 .lt) d 32 [(a, 32, 0, 0x7FC00000), (b, 32, 0, 0x3F800000)] 0 0 1
  | vcmp3 (d a b : VReg) :
      FloatCase (.vcmp d a b .f32 .ne) d 32 [(a, 32, 0, 0x7FC00000), (b, 32, 0, 0x3F800000)] 0 0xFFFFFFFF 0
  | vcmp4 (d a b : VReg) :
      FloatCase (.vcmp d a b .f32 .le) d 32 [(a, 32, 0, 0xBF800000), (b, 32, 0, 0x3F800000)] 0 0xFFFFFFFF 0
  | vcvt1 (d a : VReg) :
      FloatCase (.vcvt d a .f16 .f32 .fpc) d 16 [(a, 32, 0, 0x477FF000)] 0 0x7C00 20
  | vcvt2 (d a : VReg) :
      FloatCase (.vcvt d a .f16 .f32 .fpc) d 16 [(a, 32, 0, 0x477FF000)] 1 0x7BFF 16
  | vcvt3 (d a : VReg) :
      FloatCase (.vcvt d a .f16 .f32 .rne) d 16 [(a, 32, 0, 0x3F801000)] 1 0x3C00 16
  | vcvt4 (d a : VReg) :
      FloatCase (.vcvt d a .f32 .f16 .fpc) d 32 [(a, 16, 0, 0x7C01)] 0 0x7FC00000 1
  | vcvt5 (d a : VReg) :
      FloatCase (.vcvt d a .f32 .f16 .fpc) d 32 [(a, 16, 0, 0x8000)] 0 0x80000000 0
  | vcvt6 (d a : VReg) :
      FloatCase (.vcvt d a .s32 .f32 .rne) d 32 [(a, 32, 0, 0x40600000)] 0 0x4 16
  | vcvt7 (d a : VReg) :
      FloatCase (.vcvt d a .s32 .f32 .fpc) d 32 [(a, 32, 0, 0x7FC00000)] 0 0 1
  | vcvt8 (d a : VReg) :
      FloatCase (.vcvt d a .s32 .f32 .fpc) d 32 [(a, 32, 0, 0x4F32D05E)] 0 0x7FFFFFFF 1
  | vcvt9 (d a : VReg) :
      FloatCase (.vcvt d a .narrow .f32 .fpc) d 8 [(a, 32, 0, 0x447A0000)] 0 0x7E 20
  | vcvt10 (d a : VReg) :
      FloatCase (.vcvt d a .narrow .f32 .fpc) d 8 [(a, 32, 0, 0x3C7C0000)] 0 0x8 16
  | vunpkLo1 (d a : VReg) :
      FloatCase (.vunpkLo d a .f32) d 32 [(a, 16, 0, 0x3C00)] 0 0x3F800000 0
  | vunpkHi1 (d a : VReg) :
      FloatCase (.vunpkHi d a .f32) d 32 [(a, 16, 4, 0xFC00)] 0 0xFF800000 0
  | vdot1 (d a b c : VReg) :
      FloatCase (.vdot d a b c .f16) d 32 [(a, 32, 0, 0x3C003C00), (b, 32, 0, 0x3C00), (c, 32, 0, 0x4B800000)] 0 0x4B800000 16
  | vdot2 (d a b c : VReg) :
      FloatCase (.vdot d a b c .f16) d 32 [(a, 32, 0, 0x7C00), (b, 32, 0, 0), (c, 32, 0, 0)] 0 0x7FC00000 1

/-- R65: the tree over 2^k leaves from leaf `o` on: adjacent halves joined by the node, flags joined by OR. -/
def redTree (node : Nat → Nat → Nat × Flags) (leaf : Nat → Nat) : Nat → Nat → Nat × Flags
  | 0, o => (leaf o, Flags.zero)
  | k + 1, o =>
    let x := redTree node leaf k o
    let y := redTree node leaf k (o + 2 ^ k)
    ((node x.1 y.1).1, (x.2.or y.2).or (node x.1 y.1).2)

/-- A leaf under FZI: a subnormal reads as zero of its sign (R56). -/
def leafCode (fzi : Bool) (ty : Ty) (c : Nat) : Nat :=
  let mb := match ty with
    | .f64 => 52
    | .f32 => 23
    | .f16 => 10
    | _ => 7
  let below := c % 2 ^ (tyWidth ty - 1)
  if fzi && decide (below < 2 ^ mb) then c - below else c

/-- The order of the codes that are no NaN, -0 below +0 (R328). -/
def codeOrder (ty : Ty) (c : Nat) : Int :=
  if c < 2 ^ (tyWidth ty - 1) then (c : Int) else -((c - 2 ^ (tyWidth ty - 1) : Nat) : Int) - 1

/-- A code of a floating type that is a NaN: exponent all ones and a mantissa that is not zero (R46). -/
def isNanCode (ty : Ty) (c : Nat) : Prop :=
  match ty with
  | .f64 => c / 2 ^ 52 % 2 ^ 11 = 2 ^ 11 - 1 ∧ c % 2 ^ 52 ≠ 0
  | .f32 => c / 2 ^ 23 % 2 ^ 8 = 2 ^ 8 - 1 ∧ c % 2 ^ 23 ≠ 0
  | .f16 => c / 2 ^ 10 % 2 ^ 5 = 2 ^ 5 - 1 ∧ c % 2 ^ 10 ≠ 0
  | .bf16 => c / 2 ^ 7 % 2 ^ 8 = 2 ^ 8 - 1 ∧ c % 2 ^ 7 ≠ 0
  | _ => False

/-- The canonical quiet NaN (R46). -/
def quietNan (ty : Ty) : Nat :=
  match ty with
  | .f64 => 0x7FF8000000000000
  | .f32 => 0x7FC00000
  | .f16 => 0x7E00
  | _ => 0x7FC0

/-- R47: a signalling NaN: the top fraction bit is 0. -/
def isSnanCode (ty : Ty) (c : Nat) : Prop :=
  isNanCode ty c ∧ c.testBit (match ty with | .f64 => 51 | .f32 => 22 | .f16 => 9 | _ => 6) = false

/-- The lanes of a reduction's source as its leaves. -/
def leaves (s : State) (ty : Ty) (a : VReg) (j : Nat) : Nat := leafCode (fpcFzi s.fpc) ty (ln (tyWidth ty) (s.vr a) j)

/-- The members whose lane is a NaN wherever an input lane is one, with their inputs. -/
inductive NanThrough : Instr → VReg → Ty → List VReg → Prop
  | vadd (d a b : VReg) (ty : Ty) : NanThrough (.vadd d a b ty) d ty [a, b]
  | vsub (d a b : VReg) (ty : Ty) : NanThrough (.vsub d a b ty) d ty [a, b]
  | vmul (d a b : VReg) (ty : Ty) : NanThrough (.vmul d a b ty) d ty [a, b]
  | vmin (d a b : VReg) (ty : Ty) : NanThrough (.vmin d a b ty) d ty [a, b]
  | vmax (d a b : VReg) (ty : Ty) : NanThrough (.vmax d a b ty) d ty [a, b]
  | vdiv (d a b : VReg) (ty : Ty) : NanThrough (.vdiv d a b ty) d ty [a, b]
  | vfma (d a b c : VReg) (ty : Ty) : NanThrough (.vfma d a b c ty) d ty [a, b, c]
  | vfms (d a b c : VReg) (ty : Ty) : NanThrough (.vfms d a b c ty) d ty [a, b, c]
  | vfnma (d a b c : VReg) (ty : Ty) : NanThrough (.vfnma d a b c ty) d ty [a, b, c]
  | vfnms (d a b c : VReg) (ty : Ty) : NanThrough (.vfnms d a b c ty) d ty [a, b, c]
  | vrcp (d a : VReg) (ty : Ty) : NanThrough (.vrcp d a ty) d ty [a]
  | vrsqrt (d a : VReg) (ty : Ty) : NanThrough (.vrsqrt d a ty) d ty [a]
  | vsqrt (d a : VReg) (ty : Ty) : NanThrough (.vsqrt d a ty) d ty [a]
  | vexp2 (d a : VReg) (ty : Ty) : NanThrough (.vexp2 d a ty) d ty [a]
  | vlog2 (d a : VReg) (ty : Ty) : NanThrough (.vlog2 d a ty) d ty [a]

/-! ### Link engines, copy cards, tensors, Gaussian messages (R146, R173, R180 to R183, R196 to R220, R349 to R364) -/

/-- The members of the copy engine, by their fn code (R351). -/
inductive Card : Instr → Nat → GReg → GReg → GReg → Prop
  | cpy (d a b : GReg) : Card (.cpy d a b) 0 d a b
  | gat (d a b : GReg) : Card (.gat d a b) 1 d a b
  | sca (d a b : GReg) : Card (.sca d a b) 2 d a b
  | redc (d a b : GReg) : Card (.redc d a b) 3 d a b
  | bct (d a b : GReg) : Card (.bct d a b) 4 d a b

/-- The card that 128 bytes hold. -/
def cardOf (bs : List Byte) : List Word := (List.range 16).map (fun i => imageWord bs i)

/-- The members of the Gaussian message unit that have no check of their own at issue: fn code, registers, block and destination (R206). -/
inductive Gaussian : Instr → Nat → GReg → GReg → Nat → Nat → Prop
  | gmacc (a b : GReg) (blk : BitVec 3) : Gaussian (.gmacc a b blk) 0 a b blk.toNat 0
  | gmsub (a b : GReg) (blk : BitVec 3) : Gaussian (.gmsub a b blk) 1 a b blk.toNat 0
  | gmelim (d a b : GReg) : Gaussian (.gmelim d a b) 2 a b 0 d.toNat
  | gmdamp (a b : GReg) : Gaussian (.gmdamp a b) 3 a b 0 0
  | gmmean (d a b : GReg) : Gaussian (.gmmean d a b) 4 a b 0 d.toNat
  | gmres (d a b : GReg) : Gaussian (.gmres d a b) 5 a b 0 d.toNat
  | gmsend (a b : GReg) : Gaussian (.gmsend a b) 6 a b 0 0
  | gmcpy (a b : GReg) : Gaussian (.gmcpy a b) 7 a b 0 0

/-! ### Control registers and the system group (R52, R55, R76 to R92, R102 to R106, R111 to R116, R140 to R145, R365 to R376) -/

/-- What a control register reads as (R79, R87, R92), by its number. -/
inductive CrValue (s : State) : Nat → Word → Prop
  | tid : CrValue s 0x0 s.me.ctl.tid
  | lvl : CrValue s 0x1 (wordOf (s.cur.slot / 2))
  | allot : CrValue s 0x2 (wordOf s.me.ctl.allot)
  | frame : CrValue s 0x3 s.me.ctl.frame
  | ctx : CrValue s 0x4 (wordOf (if s.me.ctl.fw then 512 else s.me.ctl.ctx))
  | fpc : CrValue s 0x8 s.me.ctl.fpc
  | nfc : CrValue s 0x9 s.me.ctl.nfc
  | gmc : CrValue s 0xA s.me.ctl.gmc
  | pace : CrValue s 0xB s.me.ctl.pace
  | swp : CrValue s 0xC s.me.ctl.swp
  | epc : CrValue s 0x10 s.me.ctl.epc
  | ecause : CrValue s 0x11 s.me.ctl.ecause
  | eaddr : CrValue s 0x12 s.me.ctl.eaddr
  | einfo : CrValue s 0x13 s.me.ctl.einfo
  | eslot : CrValue s 0x14 s.me.ctl.eslot
  | smr : CrValue s 0x15 s.me.ctl.smr
  | eg (i : Nat) : i < 8 → CrValue s (0x18 + i) (tblGet 0x000000FFFF000081 s.me.ctl.eg i)
  | cid : CrValue s 0x100 (wordOf s.cur.core)
  | fdr : CrValue s 0x101 (wordOf s.myCore.fdr)
  | htb : CrValue s 0x102 s.myCore.htb
  | cmask : CrValue s 0x103 s.myCore.cmask
  | cpend : CrValue s 0x104 s.myCore.cpend
  | spmode : CrValue s 0x105 (wordOf s.myCore.spmode)
  | spcap : CrValue s 0x106 (wordOf (s.spcap s.cur.core 1 * 2 ^ 32 + s.spcap s.cur.core 2 * 2 ^ 16 + s.spcap s.cur.core 3))
  | dqb : CrValue s 0x107 s.myCore.dqb
  | stg : CrValue s 0x108 (wordOf s.myCore.stg)
  | tvec : CrValue s 0x109 s.myCore.tvec
  | rrb (i : Nat) : i < 4 → CrValue s (0x10C + i) (tblGet 0 s.myCore.rrb i)
  | win (i : Nat) : i < 8 → CrValue s (0x110 + i) (tblGet 0 s.myCore.win i)
  | cyc : CrValue s 0x120 s.myCore.cyc
  | ins : CrValue s 0x121 s.myCore.ins
  | ffc : CrValue s 0x122 s.myCore.ffc
  | smc : CrValue s 0x123 s.myCore.smc
  | nkc : CrValue s 0x124 s.myCore.nkc
  | flc : CrValue s 0x125 s.myCore.flc
  | fmth : CrValue s 0x126 (if s.myCore.fmth.isSome then wordOf (2 ^ 63) else 0)
  | tsen (i : Nat) : i < 48 → CrValue s (0x200 + i) (wordOf (tblGet 0 s.tsen i))
  | tprd (i : Nat) : i < 24 → CrValue s (0x230 + i) (BitVec.setWidth 64 (tblGet 0 s.tprd i))
  | icl (i : Nat) : i < 24 → CrValue s (0x250 + i) (wordOf (tblGet 16 s.icl i))
  | pceil : CrValue s 0x270 (wordOf s.pceil)
  | pmeas : CrValue s 0x271 s.pmeas
  | alth : CrValue s 0x272 (BitVec.setWidth 64 s.alth)
  | hyst : CrValue s 0x273 (BitVec.setWidth 64 s.hyst)
  | alst : CrValue s 0x274 s.alst
  | tlogp : CrValue s 0x275 s.tlogp
  | usec : CrValue s 0x276 (wordOf s.usec)

/-- The registers of a slot after a write of its own register `n`, where the value is in range (R52, R55, R79, R80, R82 to R84). -/
inductive SetsSlot (c : Nat) (x : Ctl) (v : Word) : Nat → Ctl → Prop
  | fpc : SetsSlot c x v 0x8 { x with fpc := wordOf (v.toNat % 2 ^ 14) }
  | nfc : nfcOk v = true → SetsSlot c x v 0x9 { x with nfc := wordOf (v.toNat % 2 ^ 17) }
  | gmc : v.toNat % 4 ≠ 3 → SetsSlot c x v 0xA { x with gmc := v &&& 0xFF3F03 }
  | pace : SetsSlot c x v 0xB { x with pace := wordOf (v.toNat % 16) }
  | swp : swpOk c v = true → SetsSlot c x v 0xC { x with swp := wordOf (v.toNat % 2 ^ 15) }
  | epc : SetsSlot c x v 0x10 { x with epc := v }
  | ecause : v.toNat / 256 % 4 ≠ 3 → SetsSlot c x v 0x11 { x with ecause := wordOf (v.toNat % 2 ^ 10) }
  | eaddr : SetsSlot c x v 0x12 { x with eaddr := v }
  | einfo : SetsSlot c x v 0x13 { x with einfo := v }
  | eslot : v.toNat % 16 ≤ 8 → SetsSlot c x v 0x14 { x with eslot := wordOf (v.toNat % 16) }
  | eg (i : Nat) : i < 8 → SetsSlot c x v (0x18 + i) { x with eg := tblSet x.eg i (v &&& 0xFFFF0FFFFF) }

/-- A core after a write of its register `n`, where the value is in range (R87 to R91, R177). -/
inductive SetsCore (mode : Nat) (k : Core) (v : Word) : Nat → Core → Prop
  | htb : v.toNat % 2 ^ 12 = 0 → SetsCore mode k v 0x102 { k with htb := wordOf (v.toNat % 2 ^ 57) }
  | spmode : v.toNat % 4 ≠ 3 → (v.toNat % 4 = 0 ∨ mode ≠ 1) → SetsCore mode k v 0x105 { k with spmode := v.toNat % 4 }
  | dqb : v.toNat % 2 ^ 12 = 0 → SetsCore mode k v 0x107 { k with dqb := wordOf (v.toNat % 2 ^ 57) }
  | stg : SetsCore mode k v 0x108 { k with stg := v.toNat % 16, stgMove := none, stgWorks := [] }
  | tvec : SetsCore mode k v 0x109 { k with tvec := wordOf (v.toNat / 4 * 4) }
  | rrbOff (i : Nat) : i < 4 → v = 0 → SetsCore mode k v (0x10C + i) { k with rrb := tblSet k.rrb i 0 }
  | rrbOn (i : Nat) : i < 4 → v.toNat / 2 ^ 5 % 2 ^ 7 = 0 → 6 ≤ v.toNat % 32 → v.toNat % 32 ≤ 20 → v.toNat / 2 ^ 12 % 2 ^ 45 ≠ 0 →
      SetsCore mode k v (0x10C + i) { k with rrb := tblSet k.rrb i (v &&& 0x01FFFFFFFFFFF01F) }
  | win (i : Nat) : i < 8 → v.toNat / 2 ^ 40 % 8 ≠ 7 →
      (v.toNat / 2 ^ 32 % 4 = 0 ∨ v.toNat % 2 ^ 11 + v.toNat / 2 ^ 16 % 2 ^ 11 ≤ bufRows (v.toNat / 2 ^ 32 % 4)) →
      SetsCore mode k v (0x110 + i) { k with win := tblSet k.win i (v &&& 0x71F07FF07FF) }
  | cyc : SetsCore mode k v 0x120 { k with cyc := v }
  | ins : SetsCore mode k v 0x121 { k with ins := v }
  | ffc : SetsCore mode k v 0x122 { k with ffc := v }
  | smc : SetsCore mode k v 0x123 { k with smc := v }
  | nkc : SetsCore mode k v 0x124 { k with nkc := v }
  | flc : SetsCore mode k v 0x125 { k with flc := v }

/-- The members that only some levels, cores and contexts may issue, with the condition (R280, R348). -/
inductive Privileged (s : State) : Instr → Prop → Prop
  | eret (a : GReg) (ea : Bool) : Privileged s (.eret a ea) (s.cur.slot < 2)
  | halt : Privileged s .halt (s.cur.slot < 2 ∧ s.me.ctl.fw = true)
  | lkdrain (a : GReg) (l : Dir) : Privileged s (.lkdrain a l) (s.cur.slot < 2)
  | lkload (a : GReg) (l : Dir) : Privileged s (.lkload a l) (s.cur.slot < 2)
  | lkfrz (l : Dir) : Privileged s (.lkfrz l) (s.cur.slot < 2)
  | lkthw (l : Dir) : Privileged s (.lkthw l) (s.cur.slot < 2)
  | tlbw (d a b : GReg) (ea eb : Bool) : Privileged s (.tlbw d a b ea eb) (isTsc s.cur.core = true ∧ s.me.ctl.fw = true)
  | tlbi (a b : GReg) (ea eb : Bool) :
      Privileged s (.tlbi a b ea eb) ((isTsc s.cur.core = true ∨ isMc s.cur.core = true) ∧ s.me.ctl.fw = true)
  | fres (a b : GReg) (ea eb : Bool) : Privileged s (.fres a b ea eb) (isTsc s.cur.core = true ∧ s.me.ctl.fw = true)
  | ctxs (a : GReg) (ea : Bool) : Privileged s (.ctxs a ea) (s.cur.slot < 2 ∧ s.me.ctl.fw = true)
  | ctxl (a : GReg) (ea : Bool) : Privileged s (.ctxl a ea) (s.cur.slot < 2 ∧ s.me.ctl.fw = true)
  | rmap (a b : GReg) (ea eb : Bool) : Privileged s (.rmap a b ea eb) (isMc s.cur.core = true ∧ s.me.ctl.fw = true)
  | evac (a b : GReg) (ea eb : Bool) : Privileged s (.evac a b ea eb) (isMc s.cur.core = true ∧ s.me.ctl.fw = true)

/-- The entry that `tlbw` writes. -/
def entryOfWords (w0 w1 : Word) : TlbEntry := { w0 := w0, w1 := w1 }

/-- The four words of a 32-byte block. -/
def blockWords (d : Nat) : Words4 := { w0 := blockWord d 0, w1 := blockWord d 1, w2 := blockWord d 2, w3 := blockWord d 3 }

/-- Class `cls` of the issuing core holds `e` after the step, the other classes and memory outside its save image stay, and the slot went on;
the save image holds the entry's four words. -/
structure EntryWritten (s t : State) (cls : Nat) (e : Words4) (sv : Save) : Prop where
  entry  : t.myCore.handler cls = e
  others : ∀ k, k ≠ cls → t.myCore.handler k = s.myCore.handler k
  me     : t.me = { s.me with pc := s.nextPc }
  save   : match sv with
    | .at_ p => Stored s t p.loc 32 (e.w0.toNat + 2 ^ 64 * e.w1.toNat + 2 ^ 128 * e.w2.toNat + 2 ^ 192 * e.w3.toNat)
    | .stop _ => False

/-- A row word (R375). -/
def rowWordOf (core buf pt row : Nat) : Word := wordOf (core * 2 ^ 49 + buf * 2 ^ 47 + pt * 2 ^ 45 + row)

/-! ### Steps that are no words of the encoding: what each does when it is due

Each table gives, for an instruction and what must hold of the state, what the next state satisfies. -/

/-- Nothing changed but core `c`, which `f` gives from what it was. -/
structure CoreNow (s t : State) (c : Nat) (f : Core → Core) : Prop where
  rest   : OnlyCores s t
  core   : t.core c = f (s.core c)
  others : ∀ d, d ≠ c → t.core d = s.core d

/-- Nothing changed but cluster `n`, which `f` gives from what it was. -/
structure ClusterNow (s t : State) (n : Nat) (f : Cluster → Cluster) : Prop where
  rest    : { t with clusters := s.clusters } = s
  cluster : t.cluster n = f (s.cluster n)
  others  : ∀ m, m ≠ n → t.cluster m = s.cluster m

/-- Nothing changed but engine `e`, which is now `x`. -/
structure EngineNow (s t : State) (e : Nat) (x : Engine) : Prop where
  rest   : { t with engines := s.engines } = s
  engine : t.engine e = x
  others : ∀ m, m ≠ e → t.engine m = s.engine m

/-- The event queue of a core has room on chip, and no event of it has spilled (R124). -/
abbrev EventRoom (s : State) (c : Nat) : Prop := (s.core c).evSpilled = 0 ∧ (s.core c).events.length < 16

/-- R84: an event of a core's L0: EPC 0, KIND 2. -/
def eventOf (cause eslot : Nat) (eaddr einfo : Word) : Event :=
  { eslot := eslot, epc := 0, ecause := wordOf (2 * 256 + cause), eaddr := eaddr, einfo := einfo }

/-- The core's event queue gains one event at its end. -/
def Told (s t : State) (c : Nat) (e : Event) : Prop := (t.core c).events = (s.core c).events ++ [e]

/-- Slot `n` of core `c` can take a trap: with it not both L0 slots are frozen, and the event queue has room. -/
structure SlotCanTrap (s : State) (c n : Nat) : Prop where
  l0   : ¬(n < 2 ∧ (s.slot c (1 - n)).frozen = true)
  both : ¬((s.slot c 0).frozen = true ∧ (s.slot c 1).frozen = true)
  room : EventRoom s c

/-- R25, R84, R124: slot `n` of core `c` has trapped: it is frozen with LEN recorded, its work is `w`, INS counts a precise trap, and the event queue
gains an entry. -/
structure SlotTrapped (s t : State) (c n kind cause len : Nat) (w : Work) (epc eaddr einfo : Word) : Prop where
  rest   : OnlyCores s t
  slot   : t.slot c n = { s.slot c n with frozen := true, len := len, stall := none, cap := none, w := w }
  slots  : ∀ m, m ≠ n → t.slot c m = s.slot c m
  event  : Told s t c { eslot := n, epc := epc, ecause := wordOf (kind * 256 + cause), eaddr := eaddr, einfo := einfo }
  ins    : (t.core c).ins = if kind = 0 then (s.core c).ins + 1 else (s.core c).ins
  others : ∀ d, d ≠ c → t.core d = s.core d

/-- The ready entries of a level of a core, chip before spill. -/
def entries (s : State) (c lvl : Nat) : List Entry := ((s.core c).ring lvl).chip ++ ((s.core c).ring lvl).spill

/-! ### Registers written (R86, R87, R92 to R94, R128, R175 to R177) -/

/-- A core with one of its six counters set (R176). -/
def counterSet (k : Core) (n : Nat) (v : Word) : Core :=
  match n with
  | 0 => { k with cyc := v }
  | 1 => { k with ins := v }
  | 2 => { k with ffc := v }
  | 3 => { k with smc := v }
  | 4 => { k with nkc := v }
  | _ => { k with flc := v }

/-- TPRDn at or above ALTH sets ALST bit n; below ALTH - HYST while ICLn is below 16, bit 32 + n; each posts to MC1, merging into a post
that is held and held while class 0 of MC1 has no handler. ALST is cleared by ones; ICLn takes 0 to 16 and PCEIL 150 to 1000, other
values are refused. A counter and CMASK are written; a start that waited for a cleared class becomes ready. An SMR write with
a scope re-issues the held access with it, V cleared. -/
inductive RegisterWrite (s : State) : Instr → (State → Prop) → Prop
  | tprdBand (n : Nat) (v : BitVec 16) : n < 24 → toSigned 16 v.toNat < toSigned 16 s.alth.toNat →
      toSigned 16 s.alth.toNat - (s.hyst.toNat : Int) ≤ toSigned 16 v.toNat ∨ 16 ≤ tblGet 16 s.icl n →
      RegisterWrite s (.tprdWrite n v) (fun t => t = { s with tprd := tblSet s.tprd n v })
  | tprdHotMerged (n : Nat) (v : BitVec 16) : n < 24 → toSigned 16 s.alth.toNat ≤ toSigned 16 v.toNat → n ∈ s.heldAlerts →
      RegisterWrite s (.tprdWrite n v) (fun t => t = { s with tprd := tblSet s.tprd n v, alst := s.alst ||| wordOf (2 ^ n) })
  | tprdHotHeld (n : Nat) (v : BitVec 16) : n < 24 → toSigned 16 s.alth.toNat ≤ toSigned 16 v.toNat → n ∉ s.heldAlerts →
      ((s.core mc1).handler 0).hState = 0 →
      RegisterWrite s (.tprdWrite n v) (fun t =>
        t = { s with tprd := tblSet s.tprd n v, alst := s.alst ||| wordOf (2 ^ n), heldAlerts := t.heldAlerts } ∧
        ∀ m, m ∈ t.heldAlerts ↔ m = n ∨ m ∈ s.heldAlerts)
  | tprdCoolMerged (n : Nat) (v : BitVec 16) : n < 24 → toSigned 16 v.toNat < toSigned 16 s.alth.toNat - (s.hyst.toNat : Int) →
      tblGet 16 s.icl n < 16 → n ∈ s.heldAlerts →
      RegisterWrite s (.tprdWrite n v) (fun t => t = { s with tprd := tblSet s.tprd n v, alst := s.alst ||| wordOf (2 ^ (32 + n)) })
  | alst (v : Word) : RegisterWrite s (.alstClear v) (fun t => t = { s with alst := s.alst &&& ~~~v })
  | icl (n v : Nat) : n < 24 → v ≤ 16 → RegisterWrite s (.iclWrite n v) (fun t => t = { s with icl := tblSet s.icl n v })
  | iclRefused (n v : Nat) : n < 24 → 16 < v → RegisterWrite s (.iclWrite n v) (fun t => t = s)
  | pceil (v : Nat) : 150 ≤ v → v ≤ 1000 → RegisterWrite s (.pceilWrite v) (fun t => t = { s with pceil := v })
  | pceilRefused (v : Nat) : v < 150 ∨ 1000 < v → RegisterWrite s (.pceilWrite v) (fun t => t = s)
  | counter (c n : Nat) (v : Word) : isCore c = true → n < 6 →
      RegisterWrite s (.counterWrite c n v) (fun t => CoreNow s t c (fun k => counterSet k n v))
  | cmask (c : Nat) (v : Word) : isCore c = true →
      (∀ p ∈ (s.core c).pending, wbit (s.core c).cmask p.cls = true → wbit v p.cls = true) →
      RegisterWrite s (.cmaskWrite c v) (fun t => CoreNow s t c (fun k => { k with cmask := v }))
  | cmaskReady (c : Nat) (v : Word) (p : Pending) : isCore c = true → (s.core c).pending = [p] → p.cls < 64 →
      wbit (s.core c).cmask p.cls = true → wbit v p.cls = false → RingRoom (s.core c) p.entry.lvl →
      RegisterWrite s (.cmaskWrite c v) (fun t => OnlyCores s t ∧ (t.core c).cmask = v ∧ (t.core c).pending = [] ∧
        entries t c p.entry.lvl = entries s c p.entry.lvl ++ [p.entry] ∧ ∀ d, d ≠ c → t.core d = s.core d)
  | smr (c n : Nat) (f : Flight) (sc : Scope) : isCore c = true → n < 8 → (s.slot c n).held = some f →
      wbit (s.slot c n).w.ctl.smr 63 = true → sc ≠ .core →
      RegisterWrite s (.smrReissue c n (wordOf (8 + scopeCode sc))) (fun t =>
        (t.slot c n).held = none ∧ wbit (t.slot c n).w.ctl.smr 63 = false ∧
        t.inflight = s.inflight.map (fun g => if g.acc = f.acc ∧ g.st = .missed then { g with st := .going, scope := some sc } else g) ∧
        ∀ l, t.byteAt l = s.byteAt l)

/-! ### Power (R105, R161, R175, R378 to R395) -/

/-- What the controller, the monitors and the budget tree do. FDR is the least of the budget share, the island's ceiling, 8 under the
clamp and 2 under the backstop; a management or translation service core has 16. A period gives every leaf of a die that runs the
duty min(16, ⌊16·B/ΣD⌋), starts its charges from nothing and releases the clamp after a sample within both limits. A sample over a limit sets the clamp. A die's
backstop goes on at 115.0 °C on one of its six sensors and off below 110.0 °C on all. A request is kept, or completes at once for the
present state. A transition begins, and ends once no island has a step and no die is left; an island whose floors do not fit declines,
one with rows to lose holds task starts first, then steps; a die's teams leave, then its classes close, then it goes with its cores
halted, and comes back with them running and their counters 0. -/
inductive PowerStep (s : State) : Instr → (State → Prop) → Prop
  | duty (c : Nat) : isCompute c = true → (s.core c).share ≤ 16 →
      PowerStep s (.fetchDutyWindow c) (fun t => CoreNow s t c (fun k =>
        { k with fdr := min (min k.share (tblGet 16 s.icl (islandOf c)))
                          (min (if s.clampOn then 8 else 16) (if tblGet false s.backstop (coreDie c) then 2 else 16)) }))
  | dutyFixed (c : Nat) : isCore c = true → isCompute c = false →
      PowerStep s (.fetchDutyWindow c) (fun t => CoreNow s t c (fun k => { k with fdr := 16 }))
  | period (nonCore : Nat) (model : List (Nat × Nat)) (d c : Nat) : d < 8 → tblGet false s.dieParked d = false → c ∈ dieCores d →
      PowerStep s (.budgetPeriod nonCore model) (fun t =>
        t.core c = { s.core c with share := if s.rootDemand model = 0 then 16 else min 16 (16 * s.rootBudget nonCore / s.rootDemand model),
                                   acts := { groups := 0, transfers := 0, requests := 0, beats := 0 } } ∧
        (s.aboveCeil = true → t.clampOn = s.clampOn ∧ t.excess = s.excess) ∧ (s.aboveCeil = false → t.clampOn = false ∧ t.excess = 0) ∧
        ∀ l, t.byteAt l = s.byteAt l)
  | sampleWithin (p i : BitVec 16) : p.toNat ≤ 10 * s.pceil → i.toNat ≤ 20000 →
      PowerStep s (.monitorSample p i) (fun t => t = { s with pmeas := wordOf (i.toNat * 65536 + p.toNat), aboveCeil := false })
  | sampleClamped (p i : BitVec 16) : 10 * s.pceil < p.toNat ∨ 20000 < i.toNat → s.clampOn = true →
      PowerStep s (.monitorSample p i) (fun t =>
        t = { s with pmeas := wordOf (i.toNat * 65536 + p.toNat), aboveCeil := true, excess := max s.excess (p.toNat - 10 * s.pceil) })
  | sampleClamps (p i : BitVec 16) : 10 * s.pceil < p.toNat ∨ 20000 < i.toNat → s.clampOn = false →
      PowerStep s (.monitorSample p i) (fun t =>
        t.pmeas = wordOf (i.toNat * 65536 + p.toNat) ∧ t.clampOn = true ∧ t.excess = p.toNat - 10 * s.pceil ∧ t.pceil = s.pceil)
  | sensors (temps : List (BitVec 16)) : temps.length = 48 →
      PowerStep s (.sensorSample temps) (fun t => t = { s with tsen := t.tsen, backstop := t.backstop } ∧
        (∀ i, i < 48 → tblGet 0 t.tsen i = 65536 + (temps.getD i 0).toNat) ∧
        ∀ d, d < 8 →
          ((∃ i, i < 6 ∧ 1150 ≤ toSigned 16 (temps.getD (6 * d + i) 0).toNat) → tblGet false t.backstop d = true) ∧
          ((∀ i, i < 6 → toSigned 16 (temps.getD (6 * d + i) 0).toNat < 1100) → tblGet false t.backstop d = false) ∧
          ((∀ i, i < 6 → toSigned 16 (temps.getD (6 * d + i) 0).toNat < 1150) →
            (∃ i, i < 6 ∧ 1100 ≤ toSigned 16 (temps.getD (6 * d + i) 0).toNat) → tblGet false t.backstop d = tblGet false s.backstop d))
  | request (v : Nat) : v < 8 → s.psBusy = true ∨ v ≠ s.psCur →
      PowerStep s (.stateRequest (wordOf v)) (fun t => t = { s with psReq := some v })
  | requestSame (v : Nat) : v < 8 → s.psBusy = false → v = s.psCur →
      PowerStep s (.stateRequest (wordOf v)) (fun t => t = { s with psReq := none, psTarget := s.psCur })
  | park4 (m : BitVec 8) : s.psCur ≠ 4 → s.psCur ≠ 5 → popCount 8 m.toNat = 4 →
      PowerStep s (.psTableWrite 4 m) (fun t => t = { s with psPark4 := m.toNat })
  | park5 (m : BitVec 8) : s.psCur ≠ 4 → s.psCur ≠ 5 → popCount 8 m.toNat = 6 →
      PowerStep s (.psTableWrite 5 m) (fun t => t = { s with psPark5 := m.toNat })
  | parkRefused (n : Nat) (m : BitVec 8) : s.psCur = 4 ∨ s.psCur = 5 ∨ (n ≠ 4 ∧ n ≠ 5) ∨ popCount 8 m.toNat < 4 →
      PowerStep s (.psTableWrite n m) (fun t => t = s)
  | floor (c w a k : Nat) : isCompute c = true → w ≤ s.usable c 1 0 → a ≤ s.usable c 2 0 → k ≤ s.usable c 3 0 →
      PowerStep s (.floorWrite c w a k) (fun t => t = { s with floors := tblSet s.floors c (w, a, k) })
  | begins (p : Nat) : s.psBusy = false → s.psReq = some p → p ≠ s.psCur → s.psCur ≠ 7 → p ≠ 7 ∨ s.anyWork = false →
      PowerStep s .transitionStart (fun t => t = { s with psReq := none, psBusy := true, psTarget := p, psDecl := 0, psDone := [] })
  | declined : s.psBusy = false → s.psReq = some 7 → s.psCur ≠ 7 → s.anyWork = true →
      PowerStep s .transitionStart (fun t => t = { s with psReq := none, psTarget := s.psCur })
  | byPs6 (p : Nat) : s.psBusy = false → s.psReq = some p → s.psCur = 7 → p < 6 →
      PowerStep s .transitionStart (fun t => t = { s with psReq := some p, psBusy := true, psTarget := 6, psDecl := 0, psDone := [] })
  | ends : s.psBusy = true → s.toUnpark = [] → s.toRaise = [] → s.toLower = [] → s.toPark = [] →
      PowerStep s .transitionStart (fun t => t = { s with psCur := s.psTarget, psBusy := false, psDone := [] })
  | declines (i : Nat) : i < 24 → s.psBusy = true → s.toUnpark = [] → s.toRaise = [] → i ∈ s.toLower →
      s.floorsFit (islandCores i) (okPoint s.psTarget) = false →
      PowerStep s (.islandStepDown i) (fun t => t.psDone = s.psDone ++ [i] ∧ bitAt t.psDecl (i / 3) = true ∧ t.islandPs = s.islandPs ∧
        t.rowMap = s.rowMap ∧ ∀ l, t.byteAt l = s.byteAt l)
  | holds (i : Nat) : i < 24 → s.psBusy = true → s.toUnpark = [] → s.toRaise = [] → i ∈ s.toLower →
      s.floorsFit (islandCores i) (okPoint s.psTarget) = true → s.lostTeams (islandCores i) (okPoint s.psTarget) = [] →
      (∃ c ∈ islandCores i, (s.core c).stepHold = false) →
      PowerStep s (.islandStepDown i) (fun t => OnlyCores s t ∧ ∀ c ∈ islandCores i, t.core c = { s.core c with stepHold := true })
  | stepsDown (i : Nat) : i < 24 → s.psBusy = true → s.toUnpark = [] → s.toRaise = [] → i ∈ s.toLower →
      s.floorsFit (islandCores i) (okPoint s.psTarget) = true → s.lostTeams (islandCores i) (okPoint s.psTarget) = [] →
      (∀ c ∈ islandCores i, (s.core c).stepHold = true ∧ (s.core c).taskRuns = false) → s.engines = [] → (∀ e ∈ s.clusters, e.2.jobs = []) →
      PowerStep s (.islandStepDown i) (fun t => tblGet 0 t.islandPs i = s.psTarget ∧ t.psDone = s.psDone ++ [i] ∧
        (∀ j, j ≠ i → tblGet 0 t.islandPs j = tblGet 0 s.islandPs j) ∧ ∀ c ∈ islandCores i, (t.core c).stepHold = false)
  | parks (d : Nat) : d < 8 → s.psBusy = true → s.toUnpark = [] → s.toRaise = [] → s.toLower = [] → d ∈ s.toPark →
      (100 + d) ∈ s.psDone → (200 + d) ∈ s.psDone → s.dieQuiet d = true → (∀ c ∈ dieCores d, (s.core c).holding = []) →
      PowerStep s (.diePark d) (fun t => tblGet false t.dieParked d = true ∧ (∀ c ∈ dieCores d, (t.core c).halted = true) ∧
        ∀ e, e ≠ d → tblGet false t.dieParked e = tblGet false s.dieParked e)
  | quiesces (d : Nat) : d < 8 → s.psBusy = true → s.toUnpark = [] → s.toRaise = [] → s.toLower = [] → d ∈ s.toPark →
      (100 + d) ∉ s.psDone → s.dieTeams d = [] → PowerStep s (.diePark d) (fun t => t = { s with psDone := s.psDone ++ [100 + d] })
  | leaves (d : Nat) (x : Team) : d < 8 → s.psBusy = true → s.toUnpark = [] → s.toRaise = [] → s.toLower = [] → d ∈ s.toPark →
      (100 + d) ∉ s.psDone → s.dieTeams d = [x] →
      PowerStep s (.diePark d) (fun t => t.psDone = s.psDone ++ [100 + d] ∧ t.cores = s.cores ∧
        t.teams = s.teams.map (fun y => if y.id = x.id then { y with leaving := true } else y))
  | closes (d : Nat) : d < 8 → s.psBusy = true → s.toUnpark = [] → s.toRaise = [] → s.toLower = [] → d ∈ s.toPark →
      (100 + d) ∈ s.psDone → (200 + d) ∉ s.psDone → s.dieTeams d = [] → (∀ c ∈ dieCores d, (s.core c).openClasses = []) →
      PowerStep s (.diePark d) (fun t => t = { s with psDone := s.psDone ++ [200 + d] })
  | unparks (d : Nat) : d < 8 → s.psBusy = true → d ∈ s.toUnpark → (∀ e ∈ s.dieClosed, coreDie e.1 ≠ d) →
      PowerStep s (.dieUnpark d) (fun t => tblGet false t.dieParked d = false ∧
        (∀ i, i < 3 → tblGet 0 t.islandPs (3 * d + i) = s.psTarget) ∧
        ∀ c ∈ dieCores d, (t.core c).halted = false ∧ (t.core c).cyc = 0 ∧ (t.core c).ins = 0 ∧ (t.core c).flc = 0)

/-! ### The dispatcher (R12, R15 to R36, R84, R123 to R126, R160, R167, R192, R262, R288, R411, R426) -/

/-- Slot `n` of core `c` now runs other work, no longer frozen, at `pc`, with `g1`, `g2` and `g3`; the other cores and memory stay. -/
structure Runs (s t : State) (c n : Nat) (pc g1 g2 g3 : Word) : Prop where
  busy   : (t.slot c n).busy = true ∧ (t.slot c n).frozen = false ∧ (t.slot c n).stall = none
  pc     : (t.slot c n).w.pc = pc
  regs   : (t.slot c n).w.regs.getG 1 = g1 ∧ (t.slot c n).w.regs.getG 2 = g2 ∧ (t.slot c n).w.regs.getG 3 = g3
  others : ∀ d, d ≠ c → t.core d = s.core d
  slots  : ∀ m, m ≠ n → t.slot c m = s.slot c m
  memory : ∀ l, t.byteAt l = s.byteAt l

/-- R122: the words of entry `x` are those in memory at a place; its kind, level and what a place does not hold are those of `e`. -/
structure FromMemory (s : State) (l : Loc) (e x : Entry) : Prop where
  pc    : x.pc = wordOf (s.readNat l 8 / 4 % 2 ^ 55 * 4)
  frame : x.frame = wordOf (s.readNat (l.plus 8) 8)
  args  : x.g2 = wordOf (s.readNat (l.plus 16) 8) ∧ x.g3 = wordOf (s.readNat (l.plus 24) 8)
  kept  : x.kind = e.kind ∧ x.lvl = e.lvl ∧ x.team = e.team ∧ x.parked = e.parked ∧ x.landed = e.landed

/-- What the dispatcher does: a group that breaks the encoding traps with ILLEGAL; a deferred trap is taken with LEN 0 and the PC as EPC;
a head starts in a free slot with its PC, FRAME, `g2` and `g3`, a resumed one with the work it parked; an event starts the handler at
TVEC with its registers; a spilled entry moves to the chip, and the top of a deque is stolen into an idle core's ring, with the words that
memory holds in its place; a fault of a deque access aborts the context with reason 5; a stage item starts an L2 task; a full window
counts; in a cycle that is a multiple of 16 the core takes its picks, and each port's goes to a slot of the level of greatest age among those that
could issue. -/
inductive DispatchStep (s : State) : Instr → (State → Prop) → Prop
  | encoding (reason : Nat) (addr : Word) (w : IWord) : CanTrap s →
      DispatchStep s (.encodingError reason addr w) (fun t => Trapped s t 1 addr (wordOf (w.toNat * 2 ^ 32 + reason)))
  | deferred (c n : Nat) (d : Deferred) (ds : List Deferred) : isCore c = true → n < 8 → (s.slot c n).w.deferred = d :: ds →
      (s.slot c n).busy = true → (s.slot c n).frozen = false → (s.slot c n).waiting = [] → s.insideGmu c n = false → SlotCanTrap s c n →
      DispatchStep s (.deferredTrapDelivery c n) (fun t =>
        SlotTrapped s t c n 1 d.cause 0 { (s.slot c n).w with deferred := ds } ((s.slot c n).w.pc &&& ~~~3) d.eaddr d.einfo)
  | starts (c lvl n : Nat) (e : Entry) (es : List Entry) : isCore c = true → lvl < 4 → (s.core c).halted = false →
      (s.core c).stepHold = false → (lvl = 0 → (s.core c).events = []) → ((s.core c).ring lvl).chip = e :: es → e.kind ≠ 1 → e.kind ≠ 4 →
      s.slotFor c lvl e.allot e.share = some n → n < 8 →
      DispatchStep s (.taskStart c lvl) (fun t => Runs s t c n (e.pc &&& ~~~3) e.frame e.g2 e.g3 ∧ (t.slot c n).w.ctl.allot = e.allot ∧
        (t.slot c n).w.lvl = e.lvl ∧ (t.core c).ring lvl = { (s.core c).ring lvl with chip := es })
  | resumes (c lvl n : Nat) (e : Entry) (es : List Entry) (p : Parked) : isCore c = true → lvl < 4 → (s.core c).halted = false →
      (s.core c).stepHold = false → (lvl = 0 → (s.core c).events = []) → ((s.core c).ring lvl).chip = e :: es → e.kind = 4 →
      s.parkedOf e = some p → (∀ l, p.wait ≠ .cell l) → s.slotFor c lvl p.w.ctl.allot false = some n → n < 8 → (s.slot c n).held = none →
      DispatchStep s (.taskStart c lvl) (fun t => (t.slot c n).w = { p.w with capHeld := none } ∧
        (t.slot c n).cap = p.w.capHeld ∧ (t.slot c n).busy = true ∧
        t.parked = s.parked.filter (fun x => x.id != p.id) ∧ ∀ l, t.byteAt l = s.byteAt l)
  | handler (c n : Nat) (e : Event) (es : List Event) : isCore c = true → (s.core c).halted = false → (s.core c).tvec ≠ 0 →
      (s.core c).events = e :: es → (s.core c).evSpilled ≤ es.length → s.slotFor c 0 1 false = some n → n < 8 →
      DispatchStep s (.l0HandlerStart c) (fun t => Runs s t c n ((s.core c).tvec &&& ~~~3) 0 0 0 ∧ (t.core c).events = es ∧
        (t.slot c n).w.events = true ∧ (t.slot c n).w.ctl.epc = e.epc ∧ (t.slot c n).w.ctl.ecause = e.ecause ∧
        (t.slot c n).w.ctl.eaddr = e.eaddr ∧ (t.slot c n).w.ctl.einfo = e.einfo ∧ (t.slot c n).w.ctl.eslot = wordOf e.eslot)
  | dropped (c n : Nat) (cause : Nat) (a i : Word) (es : List Event) : isCore c = true → (s.core c).halted = false → (s.core c).tvec = 0 →
      cause = 0x13 ∨ cause = 0x14 → (s.core c).events = eventOf cause 8 a i :: es → (s.core c).evSpilled ≤ es.length →
      s.slotFor c 0 1 false = some n →
      DispatchStep s (.l0HandlerStart c) (fun t => CoreNow s t c (fun k => { k with events := es }))
  | refill (c lvl : Nat) (e : Entry) (es : List Entry) (l : Loc) : isCore c = true → 1 ≤ lvl → lvl < 4 → ((s.core c).ring lvl).chip.length = 15 →
      ((s.core c).ring lvl).spill = e :: es → e.kind < 6 → (s.core c).owed = [] →
      s.queuePlace c (slotVa ((s.core c).rrbOf lvl) ((s.core c).spillCap lvl) ((s.core c).ring lvl).at_) = .place l → Sound s l 32 →
      DispatchStep s (.spillRefill c lvl) (fun t => OnlyCores s t ∧ (∀ d, d ≠ c → t.core d = s.core d) ∧
        (∀ k, k ≠ lvl → (t.core c).ring k = (s.core c).ring k) ∧ ((t.core c).ring lvl).spill = es ∧
        ∃ x, ((t.core c).ring lvl).chip = ((s.core c).ring lvl).chip ++ [x] ∧ FromMemory s l e x)
  | stolen (thief victim : Nat) (e : Entry) (es : List Entry) (l : Loc) : isCore thief = true → isCore victim = true →
      (s.core thief).l3Idle = true → s.gives thief victim = true → (s.core victim).deque = e :: es → e.kind < 6 →
      (s.core victim).owed = [] → s.dequePlace victim 0 = .place l → Sound s l 32 →
      DispatchStep s (.stealRequest thief victim) (fun t => OnlyCores s t ∧ (t.core victim).deque = es ∧
        (∃ x, entries t thief 3 = [x] ∧ FromMemory s l e x) ∧ ∀ d, d ≠ thief → d ≠ victim → t.core d = s.core d)
  | round (c v : Nat) (e : Entry) (es : List Entry) (l : Loc) : isCompute c = true → isCore c = true → (s.core c).l3Idle = true →
      64 ≤ (s.core c).idle → (s.victims c).find? (s.gives c) = some v → (s.core v).deque = e :: es → e.kind < 6 → (s.core v).owed = [] →
      s.dequePlace v 0 = .place l → Sound s l 32 →
      DispatchStep s (.stealRound c) (fun t => OnlyCores s t ∧ (t.core v).deque = es ∧ ∃ x, entries t c 3 = [x] ∧ FromMemory s l e x)
  | dequeFault (thief victim ctx : Nat) (e : Entry) (es : List Entry) : isCore thief = true → isCore victim = true →
      (s.core thief).l3Idle = true → s.gives thief victim = true → (s.core victim).deque = e :: es → s.dequePlace victim 0 = .bad →
      s.ownerOf victim = some (false, ctx) → (s.context ctx).abort = none →
      DispatchStep s (.stealRequest thief victim) (fun t => (t.context ctx).abort = some (5, victim))
  | roundFails (c : Nat) : isCompute c = true → isCore c = true → (s.core c).l3Idle = true → 64 ≤ (s.core c).idle →
      (∀ v ∈ s.victims c, s.gives c v = false) →
      DispatchStep s (.stealRound c) (fun t => CoreNow s t c (fun k => { k with idle := 0 }))
  | stage (c i n : Nat) (item : Word) (items : List Word) : isCore c = true → isMc c = false → (s.core c).halted = false →
      (s.core c).stepHold = false → (s.core c).stg = 8 + i → i < 8 → 1 ≤ bits ((s.cluster (clusterOf c)).cfgWord i 0) 62 60 →
      entries s c 2 = [] → s.poppedBefore c i = false → tblGet [] (s.cluster (clusterOf c)).stages i = item :: items →
      s.slotFor c 2 (bits ((s.cluster (clusterOf c)).cfgWord i 0) 62 60) false = some n → n < 8 →
      DispatchStep s (.stagePop c) (fun t =>
        Runs s t c n (entryPc ((s.cluster (clusterOf c)).cfgWord i 0)) ((s.cluster (clusterOf c)).cfgWord i 1) item 0 ∧
        (t.slot c n).w.lvl = 2 ∧ tblGet [] (t.cluster (clusterOf c)).stages i = items)
  | window (n i : Nat) : n < 512 → i < 8 → wbit ((s.cluster n).cfgWord i 0) 63 = true → ((s.cluster n).govOf i).fresh = false →
      (∀ j, j < 8 → wbit ((s.cluster n).cfgWord j 0) 63 = true → ((s.cluster n).sampled.window j).lows < 2) →
      DispatchStep s (.governorWindow n) (fun t => t.cores = s.cores ∧
        ((t.cluster n).govOf i).highs = (if bits ((s.cluster n).cfgWord i 2) 24 16 < min ((s.cluster n).govOf i).lo ((s.cluster n).occupancy i)
          then ((s.cluster n).govOf i).highs + 1 else 0) ∧
        ((t.cluster n).govOf i).lows = (if max ((s.cluster n).govOf i).hi ((s.cluster n).occupancy i) < bits ((s.cluster n).cfgWord i 2) 8 0
          then ((s.cluster n).govOf i).lows + 1 else 0) ∧
        (t.cluster n).stages = (s.cluster n).stages ∧ (t.cluster n).cfg = (s.cluster n).cfg)
  | aged (c : Nat) : isCore c = true → (s.core c).cyc.toNat % 16 = 0 →
      DispatchStep s (.antiStarvationTurn c) (fun t => t = { s with agenda := .picks c :: s.agenda } ∧
        (∃ tries : List Nat, (s.takePicks c).agenda = tries.map (Turn.issue c) ++ ((s.core c).picks (s.readySlots c)).map (fun p => Turn.issue c p.2) ++ s.agenda) ∧
        ∀ port n, (port, n) ∈ (s.core c).picks (s.readySlots c) → (n, port) ∈ s.readySlots c ∧
          ∀ m, (m, port) ∈ s.readySlots c → m < 2 ∨ (s.core c).dutyOpen = true → (s.slot c m).yields port = false →
            tblGet 0 (s.core c).ages (m / 2) ≤ tblGet 0 (s.core c).ages (n / 2))
  | notAged (c : Nat) : isCore c = true → (s.core c).cyc.toNat % 16 ≠ 0 → DispatchStep s (.antiStarvationTurn c) (fun t => t = s)
  | control (c n : Nat) (pc frame : Word) (al : Nat) : isCompute c = true → 1 ≤ al → al ≤ 4 → (s.core c).halted = false →
      (s.core c).stepHold = false → s.slotFor c 0 al false = some n → n < 8 →
      DispatchStep s (.controlSpaceTaskStart c pc frame al) (fun t => Runs s t c n (pc &&& ~~~3) frame 0 0 ∧ (t.slot c n).w.ctl.fw = true ∧
        (t.slot c n).w.ctl.ctx = 0 ∧ (t.slot c n).w.lvl = 0 ∧ (t.slot c n).w.ctl.allot = al)
  | restart (c : Nat) : isCompute c = true → tblGet false s.dieParked (coreDie c) = false →
      DispatchStep s (.coreRestart c) (fun t => CoreNow s t c (fun k => { k with halted := false }))
  | grid (entry args : Word) (al tm th : Nat) : 1 ≤ al → al ≤ 4 → 1 ≤ tm → 1 ≤ th → tm * th ≤ 2 → s.mode ≠ 3 →
      tm * th ≤ (s.core mc1).l3Room → entries s mc1 3 = [] →
      DispatchStep s (.firmwareGridStart entry args al ⟨tm, th⟩) (fun t =>
        (∃ l, t.launches = s.launches ++ [l] ∧ l.fw = true ∧ l.queue = none) ∧ (entries t mc1 3).length = tm * th ∧
        (∀ e ∈ entries t mc1 3, e.pc = entry ∧ e.frame = args ∧ e.allot = al ∧ e.lvl = 3 ∧ e.g2.toNat < tm ∧ e.g3.toNat < th) ∧
        (∀ d, d ≠ mc1 → t.core d = s.core d) ∧ ∀ l, t.byteAt l = s.byteAt l)
  | abort (c n : Nat) (fw : Bool) (ctx : Nat) : isCore c = true → n < 2 → (s.slot c n).busy = true → s.ownerOf c = some (fw, ctx) →
      (s.context (if fw then 512 else ctx)).abort = none →
      DispatchStep s (.darkroomAbortRequest c n) (fun t => (t.context (if fw then 512 else ctx)).abort = some (11, c) ∧
        ∀ x, x ≠ (if fw then 512 else ctx) → t.context x = s.context x)

/-! ### Wakes and team swaps (R39 to R41, R134, R304, R308) -/

/-- Parked work that can be woken: it is not ready, its level's ring has room, no team of it is swapped out. -/
structure CanWake (s : State) (p : Parked) : Prop where
  here  : s.parked.find? (fun x => x.id == p.id) = some p
  sleep : p.ready = false
  room  : RingRoom (s.core p.core) p.w.lvl
  team  : ∀ x ∈ s.teams, some x.id = p.w.team → x.resident = true

/-- The work is ready, and its resume entry stands at the end of its level's ring. -/
structure Awakes (s t : State) (p : Parked) : Prop where
  ready  : t.parked = s.parked.map (fun x => if x.id = p.id then { x with ready := true } else x)
  entry  : entries t p.core p.w.lvl = entries s p.core p.w.lvl ++ [resumeEntry p]
  others : ∀ c, c ≠ p.core → t.core c = s.core c
  memory : ∀ l, t.byteAt l = s.byteAt l

/-- A wake releases the waiter of its line and frees the watch entry; a wait ends at its time; a quantum makes the longest-resident team leave;
a leaving team whose threads stand at a boundary is saved, with its scratchpad; it comes back ready where it was, with its scratchpad;
a team placed first gets the lowest cores that take it. -/
inductive TeamStep (s : State) : Instr → (State → Prop) → Prop
  | wake (c line : Nat) (p : Parked) (fw : Bool) (ctx : Nat) : isCore c = true → (line, c) ∈ s.wakes →
      (s.core c).watches = [{ line := line, fw := fw, ctx := ctx, waiters := [p.id] }] → CanWake s p → p.core = c → p.wait = .line line →
      TeamStep s (.watchWake c line) (fun t => Awakes s t p ∧ (line, c) ∉ t.wakes ∧ (t.core c).watches = [] ∧ (line, c) ∉ t.marks)
  | lineTime (p : Parked) (k u : Nat) : CanWake s p → p.wait = .line k → p.until_ = some u → u ≤ s.usec →
      TeamStep s (.waitaTimeout p.id) (fun t => Awakes s t p ∧ ∀ w ∈ (t.core p.core).watches, p.id ∉ w.waiters)
  | parkTime (p : Parked) (u : Nat) : CanWake s p → p.wait = .time → p.until_ = some u → u ≤ s.usec →
      TeamStep s (.parkTimeout p.id) (fun t => Awakes s t p)
  | quantum (n : Nat) (w x : Team) (ws xs : List Team) : n < 512 → s.waitingTeams n = w :: ws → s.residentTeams n = x :: xs →
      TeamStep s (.swapQuantum n) (fun t => t.teams = s.teams.map (fun y => if y.id = x.id then { y with leaving := true } else y) ∧
        (t.cluster n).quantum = s.usec ∧ t.cores = s.cores ∧ ∀ l, t.byteAt l = s.byteAt l)
  | noQuantum (n : Nat) : n < 512 → s.waitingTeams n = [] →
      TeamStep s (.swapQuantum n) (fun t => ClusterNow s t n (fun k => { k with quantum := s.usec }))
  | swapOut (x : Team) : s.teams.find? (fun y => y.id == x.id) = some x → x.resident = true → (x.leaving && s.teamDone x) = false →
      s.maySave x = true → s.engines = [] →
      s.parked = [] → (∀ c ∈ x.cores, (s.core c).gmu = []) → (∀ e ∈ s.cores, e.2.hasEntry x = false) → s.poison = [] →
      TeamStep s (.teamSwapOut x.id) (fun t => (∀ l, t.byteAt l = s.byteAt l) ∧ (∀ e ∈ s.threadSlots x, (t.slot e.1 e.2.1).busy = false) ∧
        ∃ y, y ∈ t.teams ∧ y.id = x.id ∧ y.resident = false ∧ y.leaving = false ∧ y.saved = (s.threadSlots x).map (fun e => (e.1, e.2.1, { e.2.2 with capHeld := (s.slot e.1 e.2.1).cap })) ∧
          y.savedMem = s.mem.filter (fun m => inRanges x.ranges m.1))
  | swapIn (x : Team) : s.teams.find? (fun y => y.id == x.id) = some x → x.resident = false → x.placed = true →
      (s.waitingTeams x.cluster).head?.map (fun y => y.id) = some x.id → s.mayReturn x = true → x.savedEng = [] → x.savedDq = [] →
      x.savedRdy = [] → (s.cluster x.cluster).jobs = [] → x.saved.length ≤ 16 → (∀ e ∈ x.saved, entries s e.1 3 = []) →
      TeamStep s (.teamSwapIn x.id) (fun t => (∃ y, y ∈ t.teams ∧ y.id = x.id ∧ y.resident = true ∧ y.saved = [] ∧ y.cores = x.cores) ∧
        (∀ e ∈ x.saved, ∃ p ∈ t.parked, p.core = e.1 ∧ p.w = e.2.2 ∧ p.ready = true ∧ resumeEntry p ∈ entries t e.1 3) ∧
        t.mem = restoreCells (dropRanges s.mem x.ranges) x.savedMem)
  | placed (x : Team) (n c : Nat) (k : Cluster) : s.teams.find? (fun y => y.id == x.id) = some x → x.resident = false → x.placed = false →
      x.threads = 1 → s.clusters.filter (fun e => e.2.owner == some x.ctx) = [(n, k)] →
      (s.waitingTeams n).head?.map (fun y => y.id) = some x.id → s.coreList x (clusterCores n) 0 = [c] → entries s c 3 = [] →
      TeamStep s (.teamSwapIn x.id) (fun t =>
        (∃ y, y ∈ t.teams ∧ y.id = x.id ∧ y.resident = true ∧ y.placed = true ∧ y.cluster = n ∧ y.cores = [c]) ∧
        entries t c 3 = [x.threadEntry 0] ∧ ∀ d, d ≠ c → t.core d = s.core d)

/-! ### Accesses under way (R71, R84, R86, R114, R115, R117, R233, R290, R403) -/

/-- The accesses under way without one; the other parts of its access keep what its window check found (R89). -/
def Landed (s t : State) (f : Flight) : Prop :=
  t.inflight.map (fun g => { g with ok := none }) = (s.inflight.filter (fun g => g.id != f.id)).map (fun g => { g with ok := none })

/-- A value fills its empty register; a refused load gives zero and a deferred trap, a refused store an event. A store reaches HBM; a load's
value goes back; a release before an untranslated store is held, and NACKed where 8 are held; it goes out again 64 cycles later, is
performed or stands committed when the token comes, and is dropped when it was withdrawn. An access out of its scope is held with SMR
and SCOPEMISS. A walk's entry lets the slot go on; no page gives XLATE with a fault record, a refusal PROTECT. A load that meets a double-bit error in
HBM aborts its context with reason 6, and the page is retired (R109, R412). -/
inductive FlightStep (s : State) : Instr → (State → Prop) → Prop
  | fill (r : Ret) (d : Nat) : s.ret r.id = some r → r.ret = .value → r.dest = .g d → (s.slot r.core r.slot).busy = true →
      (s.slot r.core r.slot).w.id = r.work →
      FlightStep s (.registerFill r.id) (fun t => t.returns = s.returns.filter (fun x => x.id != r.id) ∧
        WroteG (s.slot r.core r.slot).w.regs (t.slot r.core r.slot).w.regs d (wordOf r.data) ∧
        (t.slot r.core r.slot).w.pc = (s.slot r.core r.slot).w.pc ∧ ∀ l, t.byteAt l = s.byteAt l)
  | refused (r : Ret) (d cause : Nat) : s.ret r.id = some r → r.ret = .failed cause → r.dest = .g d →
      (s.slot r.core r.slot).busy = true → (s.slot r.core r.slot).w.id = r.work →
      FlightStep s (.refusalReturn r.id) (fun t => WroteG (s.slot r.core r.slot).w.regs (t.slot r.core r.slot).w.regs d 0 ∧
        (t.slot r.core r.slot).w.deferred = (s.slot r.core r.slot).w.deferred ++ [{ cause := cause, eaddr := r.va, einfo := r.pc, acc := r.acc }])
  | told (r : Ret) (cause : Nat) : s.ret r.id = some r → r.ret = .event cause → EventRoom s r.core →
      FlightStep s (.refusalReturn r.id) (fun t => Told s t r.core (eventOf cause r.slot r.va (wordOf r.data)) ∧
        t.returns = s.returns.filter (fun x => x.id != r.id) ∧ ∀ l, t.byteAt l = s.byteAt l)
  | stored (f : Flight) : s.flight f.id = some f → f.kind = .store → f.loc.sp = .hbm → memWf s.mem = true → s.ready f = true →
      s.uncommitted f = false → f.ok = none → Sound s f.loc f.len →
      FlightStep s (.remoteAccessAtHome f.id) (fun t => Landed s t f ∧ Stored s t f.loc f.len f.data)
  | loaded (f : Flight) : s.flight f.id = some f → f.kind = .load false → f.loc.sp = .hbm → s.ready f = true → s.uncommitted f = false →
      f.ok = none → Sound s f.loc f.len → f.idx = 0 → s.gathers.find? (fun g => g.acc == f.acc) = some { acc := f.acc, left := 1, data := 0, bad := none } →
      FlightStep s (.remoteAccessAtHome f.id) (fun t => Landed s t f ∧ (∀ l, t.byteAt l = s.byteAt l) ∧
        ∃ r, t.returns = s.returns ++ [r] ∧ r.ret = .value ∧ r.dest = f.dest ∧ r.core = f.core ∧ r.slot = f.slot ∧ r.work = f.work ∧
          r.data = s.readNat f.loc f.len)
  | held (f : Flight) : s.flight f.id = some f → f.st = .going → s.uncommitted f = true → f.outOfScope = false → s.heldAt f.loc.home < 8 →
      FlightStep s (.remoteAccessAtHome f.id) (fun t =>
        t = { s with inflight := s.inflight.map (fun g => if g.id = f.id then { g with st := .held } else g) })
  | nacked (f : Flight) : s.flight f.id = some f → f.st = .going → s.uncommitted f = true → f.outOfScope = false → 8 ≤ s.heldAt f.loc.home →
      FlightStep s (.remoteAccessAtHome f.id) (fun t => (t.core f.core).nkc = (s.core f.core).nkc + 1 ∧
        t.inflight = s.inflight.map (fun g => if g.id = f.id then { g with st := .nacked ((s.core f.core).cyc.toNat + 64) } else g))
  | retried (f : Flight) : s.flight f.id = some f → f.st = .nacked ((s.core f.core).cyc.toNat) →
      FlightStep s (.releaseRetry f.id) (fun t =>
        t = { s with inflight := s.inflight.map (fun g => if g.id = f.id then { g with st := .going } else g) })
  | committed (f : Flight) : s.flight f.id = some f → f.st = .held → s.uncommitted f = false → f.kind = .store → f.loc.sp = .hbm →
      memWf s.mem = true → f.ok = none → Sound s f.loc f.len → s.linksFree f = true → f.outOfScope = false → mayPerform { f with st := .committed }
        (s.inflight.map (fun g => if g.id = f.id then { g with st := .committed } else g)) = true →
      FlightStep s (.commitToken f.id) (fun t => Stored s t f.loc f.len f.data ∧ ∀ g ∈ t.inflight, g.id ≠ f.id)
  | withdrawn (f : Flight) : s.flight f.id = some f → f.st = .withdrawn →
      FlightStep s (.releaseWithdraw f.id) (fun t => t = { s with inflight := s.inflight.filter (fun g => g.id != f.id) })
  | missed (f : Flight) : s.flight f.id = some f → f.st = .going → f.outOfScope = true → (s.slot f.core f.slot).held = none →
      EventRoom s f.core →
      FlightStep s (.scopeMissReturn f.id) (fun t => (t.slot f.core f.slot).held = some f ∧ (t.slot f.core f.slot).w.ctl.smr = f.smr ∧
        (t.core f.core).smc = (s.core f.core).smc + 1 ∧ Told s t f.core (eventOf 0x12 f.slot (f.va - wordOf f.idx) f.pc) ∧
        ∀ l, t.byteAt l = s.byteAt l)
  | walked (c n k at_ : Nat) (va w0 w1 : Word) : isCore c = true → n < 8 → (s.slot c n).waiting = [] →
      (s.slot c n).stall = some (.walk va k, at_) → s.walksHeld c (s.slot c n).w.ctl.fw (s.slot c n).w.ctl.ctx = false → (s.core c).wanted = [] →
      entryFormOk { w0 := w0, w1 := w1 } = true → s.entryPermitted { w0 := w0, w1 := w1 } = true →
      FlightStep s (.tlbMissMessage c n (.entry w0 w1)) (fun t => (t.slot c n).stall = none ∧ (t.slot c n).w = (s.slot c n).w ∧
        { w0 := w0, w1 := w1 } ∈ (t.core c).l1 ∧ ∀ l, t.byteAt l = s.byteAt l)
  | absent (c n k at_ : Nat) (va : Word) : isCore c = true → n < 8 → (s.slot c n).waiting = [] →
      (s.slot c n).stall = some (.walk va k, at_) → s.walksHeld c (s.slot c n).w.ctl.fw (s.slot c n).w.ctl.ctx = false → (s.core c).wanted = [] → SlotCanTrap s c n →
      FlightStep s (.tlbMissMessage c n .absent) (fun t => (t.slot c n).frozen = true ∧ t.faults.seq = s.faults.seq + 1 ∧
        Told s t c { eslot := n, epc := (s.slot c n).w.pc &&& ~~~3, ecause := wordOf 5, eaddr := va,
                     einfo := wordOf (s.faults.seq % 2 ^ 32 * 2 ^ 32 + (if k = 2 then 2 else if k = 0 then 0 else 1)) })
  | denied (c n k at_ : Nat) (va : Word) : isCore c = true → n < 8 → (s.slot c n).waiting = [] →
      (s.slot c n).stall = some (.walk va k, at_) → s.walksHeld c (s.slot c n).w.ctl.fw (s.slot c n).w.ctl.ctx = false → (s.core c).wanted = [] → SlotCanTrap s c n →
      FlightStep s (.tlbMissMessage c n .refused) (fun t => SlotTrapped s t c n 0 6 (s.slot c n).len (s.slot c n).w
        ((s.slot c n).w.pc &&& ~~~3) va (wordOf (4 + (if k = 2 then 2 else if k = 0 then 0 else 1))))
  | prefetched (c n : Nat) (q : Wanted) (w0 w1 : Word) : isCore c = true → n < 8 → (s.slot c n).waiting = [] → (s.slot c n).stall = none →
      (s.core c).wanted = [q] → s.translate c q.fw q.ctx q.va = .miss → s.walksHeld c q.fw q.ctx = false →
      entryFormOk { w0 := w0, w1 := w1 } = true → s.entryPermitted { w0 := w0, w1 := w1 } = true →
      FlightStep s (.tlbMissMessage c n (.entry w0 w1)) (fun t => { w0 := w0, w1 := w1 } ∈ (t.core c).l1 ∧ (t.slot c n).w = (s.slot c n).w ∧
        ∀ l, t.byteAt l = s.byteAt l)
  | lost (f : Flight) (ctx w : Nat) : s.flight f.id = some f → f.kind = .load false → f.loc.sp = .hbm → s.ready f = true →
      s.uncommitted f = false → f.ok = none → f.fw = false → s.ownerOf f.core = some (false, ctx) → (s.context ctx).abort = none →
      s.poison = [w] → 8 * w < f.loc.key + f.len → f.loc.key < 8 * w + 8 → s.contexts = [] → s.launches = [] →
      FlightStep s (.remoteAccessAtHome f.id) (fun t => (t.context ctx).abort = some (6, f.core) ∧ w / 2048 ∈ t.retired ∧
        ∀ l, t.byteAt l = s.byteAt l)
  | timeout (f : Flight) (m : Nat) : s.flight f.id = some f → f.loc.sp = .remote m → f.st = .going → f.kind = .store →
      f.loc.off = f.span.1 →
      FlightStep s (.remoteAccessTimeout f.id) (fun t => Landed s t f ∧ (∀ l, t.byteAt l = s.byteAt l) ∧
        ∃ r, t.returns = s.returns ++ [r] ∧ r.ret = .event 8 ∧ r.core = f.core ∧ r.slot = f.slot ∧ r.va = f.va)

/-! ### Packets and links (R94, R127 to R130, R138, R143, R150 to R152, R215, R217, R321, R404, R431) -/

/-- A packet that R127 lets into a core whose entry of its class is open, the class unmasked, its level's ring with room. -/
structure Welcome (s : State) (c : Nat) (p : Packet) : Prop where
  owner : p.local_ = true ∨ s.ownsCore p.fw p.ctx c = true
  up    : s.parkedCore c = false ∧ (s.core c).loading = false
  open_ : ((s.core c).handler p.cls).hState = 1
  form  : p.nrw = false
  area  : s.areaTakes c p ((s.core c).handler p.cls) = true
  mask  : (s.core c).masked p.cls = false
  ring  : (s.core c).acceptsArrival ((s.core c).handler p.cls).hLvl = true ∧ RingRoom (s.core c) ((s.core c).handler p.cls).hLvl

/-- R127, R129, R143: the packet's words stand in the next cell of its class's landing ring, and the handler's entry at the end of its
level's ring: PC, FRAME, ALLOT of the table, the cell's address in `g2`. -/
structure InCell (s t : State) (c : Nat) (p : Packet) : Prop where
  words : ∀ i, i < p.words.length → t.readNat { sp := .buf c 2, off :=
    (((s.core c).handler p.cls).hBase + ((s.core c).landingOf p.cls).next) * 64 + 8 * i } 8 = (p.words.getD i 0).toNat
  cell  : (t.core c).landingOf p.cls = { used := ((s.core c).landingOf p.cls).used ++ [(((s.core c).landingOf p.cls).next, false)],
                                         next := (((s.core c).landingOf p.cls).next + 1) % ((s.core c).handler p.cls).hCells }
  entry : ∃ e, entries t c ((s.core c).handler p.cls).hLvl = entries s c ((s.core c).handler p.cls).hLvl ++ [e] ∧
    e.pc = entryPc ((s.core c).handler p.cls).w0 ∧ e.frame = ((s.core c).handler p.cls).w1 ∧ e.allot = ((s.core c).handler p.cls).hAllot ∧
    e.g2 = selfVa 2 ((((s.core c).handler p.cls).hBase + ((s.core c).landingOf p.cls).next) * 64)
  others : ∀ d, d ≠ c → t.core d = s.core d

/-- A head moves one router X before Y, over a die boundary with a flit or more in the link's window, or waits while that window is full;
with a link retired on that path it goes Y before X, and with no path left its context aborts; it
stops at its core, is refused with REFUSED at a retired link that its route word names, or with NOHANDLER by an entry without V. A message lands in its class's
ring and readies the handler, or is refused with NOHANDLER while the class has none. A GM record goes to its mailbox slot and raises
its version. A post that was held is admitted, or waits. A packet held for its format is admitted or refused. A stalled `swapx` and an
issuer at a full queue time out. A class's entry is written while none of the class is on the die. Links: R404. -/
inductive PacketStep (s : State) : Instr → (State → Prop) → Prop
  | moves (p : Packet) (h : Dir) (c : Nat) : s.packets.find? (fun q => q.id == p.id && !q.here) = some p → isCompute p.at_ = true →
      bitAt (s.routeEntry p.at_ p.cls) 15 = true → fld (s.routeEntry p.at_ p.cls) 12 3 = 0 → p.route = none →
      hopToward true p.at_ p.dst = some h → routerNext p.at_ h = some c → coreDie p.at_ = coreDie c →
      (s.links.any (fun e => e.2.retired) = false ∨ s.clear true p.dst 512 p.at_ = true) →
      PacketStep s (.packetHeadRouting p.id) (fun t => t = { s with packets := s.packets.map (fun q =>
        if q.id = p.id then { p with at_ := c, head := some h, turn := p.turn + 1 } else q) })
  | otherWay (p : Packet) (h : Dir) (c : Nat) : s.packets.find? (fun q => q.id == p.id && !q.here) = some p → isCompute p.at_ = true →
      bitAt (s.routeEntry p.at_ p.cls) 15 = true → fld (s.routeEntry p.at_ p.cls) 12 3 = 0 → p.route = none →
      s.links.any (fun e => e.2.retired) = true → s.clear true p.dst 512 p.at_ = false → s.clear false p.dst 512 p.at_ = true →
      hopToward false p.at_ p.dst = some h → routerNext p.at_ h = some c → coreDie p.at_ = coreDie c →
      PacketStep s (.packetHeadRouting p.id) (fun t => t = { s with packets := s.packets.map (fun q =>
        if q.id = p.id then { p with at_ := c, head := some h, turn := p.turn + 1 } else q) })
  | noWay (p : Packet) : s.packets.find? (fun q => q.id == p.id && !q.here) = some p → isCompute p.at_ = true →
      bitAt (s.routeEntry p.at_ p.cls) 15 = true → fld (s.routeEntry p.at_ p.cls) 12 3 = 0 → p.route = none →
      s.links.any (fun e => e.2.retired) = true → s.clear true p.dst 512 p.at_ = false → s.clear false p.dst 512 p.at_ = false →
      s.diePath (coreDie p.at_) (coreDie p.dst) = none → (s.context (if p.fw then 512 else p.ctx)).abort = none →
      PacketStep s (.packetHeadRouting p.id) (fun t => (t.context (if p.fw then 512 else p.ctx)).abort = some (9, p.src))
  | linkGone (p : Packet) (w : IWord) (h : Dir) (c e : Nat) : s.packets.find? (fun q => q.id == p.id && !q.here) = some p →
      isCompute p.at_ = true → bitAt (s.routeEntry p.at_ p.cls) 15 = true → fld (s.routeEntry p.at_ p.cls) 12 3 = 3 → p.route = some w →
      routedHop p w = .go c h → coreDie p.at_ = coreDie c → engineOf p.at_ h = some e → (s.link (64 + e)).retired = true →
      p.local_ = false → EventRoom s p.src →
      PacketStep s (.packetHeadRouting p.id) (fun t => Told s t p.src (eventOf 8 p.sslot p.dword 0) ∧
        t.packets = s.packets.filter (fun q => q.id != p.id))
  | crosses (p : Packet) (h : Dir) (c : Nat) : s.packets.find? (fun q => q.id == p.id && !q.here) = some p → isCompute p.at_ = true →
      bitAt (s.routeEntry p.at_ p.cls) 15 = true → fld (s.routeEntry p.at_ p.cls) 12 3 = 0 → p.route = none →
      hopToward true p.at_ p.dst = some h → routerNext p.at_ h = some c → coreDie p.at_ ≠ coreDie c →
      (s.links.any (fun e => e.2.retired) = false ∨ s.clear true p.dst 512 p.at_ = true) →
      entryStops (s.routeEntry (0x8000 + (coreDie p.at_ * 8 + coreDie c)) p.cls) false = false →
      s.waitsAhead p.id (coreDie p.at_ * 8 + coreDie c) = false →
      (s.link (coreDie p.at_ * 8 + coreDie c)).window.length + p.linkFlits ≤ 128 →
      PacketStep s (.packetHeadRouting p.id) (fun t =>
        (∃ q ∈ t.packets, q = { p with at_ := c, head := some h, turn := p.turn + 1 }) ∧
        (t.link (coreDie p.at_ * 8 + coreDie c)).window.length =
          (s.link (coreDie p.at_ * 8 + coreDie c)).window.length + p.linkFlits ∧
        { t with packets := s.packets, links := s.links } = s)
  | windowFull (p : Packet) (h : Dir) (c : Nat) : s.packets.find? (fun q => q.id == p.id && !q.here) = some p →
      isCompute p.at_ = true → bitAt (s.routeEntry p.at_ p.cls) 15 = true → fld (s.routeEntry p.at_ p.cls) 12 3 = 0 →
      p.route = none → hopToward true p.at_ p.dst = some h → routerNext p.at_ h = some c → coreDie p.at_ ≠ coreDie c →
      (s.links.any (fun e => e.2.retired) = false ∨ s.clear true p.dst 512 p.at_ = true) →
      entryStops (s.routeEntry (0x8000 + (coreDie p.at_ * 8 + coreDie c)) p.cls) false = false →
      s.waitsAhead p.id (coreDie p.at_ * 8 + coreDie c) = false →
      128 < (s.link (coreDie p.at_ * 8 + coreDie c)).window.length + p.linkFlits →
      PacketStep s (.packetHeadRouting p.id) (fun t => t = s)
  | ejects (p : Packet) : s.packets.find? (fun q => q.id == p.id && !q.here) = some p → isCompute p.at_ = true →
      bitAt (s.routeEntry p.at_ p.cls) 15 = true → fld (s.routeEntry p.at_ p.cls) 12 3 = 0 → p.route = none →
      hopToward true p.at_ p.dst = none →
      PacketStep s (.packetHeadRouting p.id) (fun t =>
        t = { s with packets := s.packets.map (fun q => if q.id = p.id then { p with here := true } else q) })
  | noRoute (p : Packet) : s.packets.find? (fun q => q.id == p.id && !q.here) = some p → isCompute p.at_ = true →
      bitAt (s.routeEntry p.at_ p.cls) 15 = false → p.local_ = false → EventRoom s p.src →
      PacketStep s (.packetHeadRouting p.id) (fun t => Told s t p.src (eventOf 9 p.sslot p.dword (wordOf p.cls)) ∧
        t.packets = s.packets.filter (fun q => q.id != p.id))
  | lands (p : Packet) : s.arriving p.id false = some p → Welcome s p.at_ p → ((s.core p.at_).handler p.cls).hKind = 0 →
      memWf s.mem = true →
      PacketStep s (.messageArrival p.id) (fun t => InCell s t p.at_ p ∧ t.packets = s.packets.filter (fun q => q.id != p.id))
  | noHandler (p : Packet) : s.arriving p.id false = some p → p.local_ = false → s.ownsCore p.fw p.ctx p.at_ = true →
      s.parkedCore p.at_ = false → ((s.core p.at_).handler p.cls).hState = 0 →
      EventRoom s p.src →
      PacketStep s (.messageArrival p.id) (fun t => Told s t p.src (eventOf 9 p.sslot p.dword (wordOf p.cls)) ∧
        t.packets = s.packets.filter (fun q => q.id != p.id) ∧ ∀ l, t.byteAt l = s.byteAt l)
  | record (p : Packet) : s.arriving p.id true = some p → p.gm = true → Welcome s p.at_ p → ((s.core p.at_).handler p.cls).hKind = 1 →
      memWf s.mem = true → Sound s { sp := .buf p.at_ 2, off := ((s.core p.at_).handler p.cls).slotOff p.slot } 8 →
      Sound s { sp := .buf p.at_ 2, off := ((s.core p.at_).handler p.cls).slotOff p.slot } (gmSize (p.words.getD 1 0)) →
      16 ≤ ((p.words.flatMap (fun w => bytesOf 8 w.toNat)).take (gmSize (p.words.getD 1 0))).length →
      PacketStep s (.gmRecordArrival p.id) (fun t =>
        t.readNat { sp := .buf p.at_ 2, off := ((s.core p.at_).handler p.cls).slotOff p.slot } 2 = p.src % 32768 ∧
        t.readNat { sp := .buf p.at_ 2, off := ((s.core p.at_).handler p.cls).slotOff p.slot + 2 } 2 =
          (s.versionAt { sp := .buf p.at_ 2, off := ((s.core p.at_).handler p.cls).slotOff p.slot + 2 } + 1) % 65536 ∧
        (entries t p.at_ ((s.core p.at_).handler p.cls).hLvl).length = (entries s p.at_ ((s.core p.at_).handler p.cls).hLvl).length + 1)
  | alert (n : Nat) : n < 24 → n ∈ s.heldAlerts → Welcome s mc1 (alertPacket n) → ((s.core mc1).handler 0).hKind = 0 → memWf s.mem = true →
      PacketStep s (.heldAlertRetry n) (fun t => InCell s t mc1 (alertPacket n) ∧ n ∉ t.heldAlerts)
  | alertWaits (n : Nat) : n < 24 → n ∈ s.heldAlerts → ((s.core mc1).handler 0).hState = 0 →
      PacketStep s (.heldAlertRetry n) (fun t => t = s)
  | admitted (c : Nat) (p : Packet) : isCore c = true → (s.core c).fmth = some p → ((s.core c).handler p.cls).hState = 1 →
      s.areaTakes c p ((s.core c).handler p.cls) = true → (s.core c).masked p.cls = false →
      (s.core c).acceptsArrival ((s.core c).handler p.cls).hLvl = true → RingRoom (s.core c) ((s.core c).handler p.cls).hLvl →
      ((s.core c).handler p.cls).hKind = 0 → memWf s.mem = true →
      PacketStep s (.fmthAdmit c) (fun t => InCell s t c p ∧ (t.core c).fmth = none)
  | refusedHere (c : Nat) (p : Packet) : isCore c = true → (s.core c).fmth = some p → p.local_ = false → EventRoom s p.src →
      PacketStep s (.fmthRefuse c) (fun t => (t.core c).fmth = none ∧ Told s t p.src (eventOf 8 p.sslot p.dword 0) ∧
        ∀ l, t.byteAt l = s.byteAt l)
  | swapxTime (c n t0 off rows : Nat) : isCore c = true → n < 8 → (s.slot c n).stall = some (.partner off rows, t0) →
      (s.slot c n).busy = true → (s.slot c n).frozen = false → 2 ^ 24 < ((s.core c).cyc.toNat + 2 ^ 64 - t0) % 2 ^ 64 → SlotCanTrap s c n →
      PacketStep s (.swapxTimeout c n) (fun t => SlotTrapped s t c n 0 0x19 (s.slot c n).len (s.slot c n).w (s.slot c n).w.pc 0 0)
  | queueTime (c n t0 : Nat) : isCore c = true → n < 8 → (s.slot c n).stall = some (.queueFull, t0) →
      (s.slot c n).busy = true → (s.slot c n).frozen = false → 2 ^ 24 < ((s.core c).cyc.toNat + 2 ^ 64 - t0) % 2 ^ 64 → SlotCanTrap s c n →
      PacketStep s (.engwaitTimeout c n) (fun t => SlotTrapped s t c n 0 0x19 (s.slot c n).len (s.slot c n).w (s.slot c n).w.pc 0 0)
  | routes (r cls : Nat) (v : BitVec 16) : isCompute r = true → cls < 64 →
      (∀ p ∈ s.packets, p.cls = cls → isCompute p.at_ = true → coreDie p.at_ ≠ coreDie r) →
      PacketStep s (.routeTableWrite r cls v) (fun t => t = { s with routes := tblSet s.routes (r * 64 + cls) (v &&& 0xFE00) })
  | flit (l q : Nat) : q < 4096 → (s.link l).expect = q → q ∉ (s.link l).naks →
      PacketStep s (.flitArrival l q true) (fun t =>
        t = { s with links := tblSet s.links l { s.link l with expect := (q + 1) % 4096 } })
  | flitBad (l q : Nat) : q < 4096 → (s.link l).expect = q → q ∉ (s.link l).naks →
      PacketStep s (.flitArrival l q false) (fun t =>
        t = { s with links := tblSet s.links l { s.link l with expect := (q + 1) % 4096, naks := (s.link l).naks ++ [q] } })
  | flitAgain (l q : Nat) : q < 4096 → q ∈ (s.link l).naks →
      PacketStep s (.flitArrival l q true) (fun t => t = { s with links := tblSet s.links l (t.link l) } ∧
        q ∉ (t.link l).naks ∧ (t.link l).expect = (s.link l).expect)
  | ack (l q : Nat) : q < 4096 →
      PacketStep s (.flitAck l q) (fun t => q ∉ (t.link l).window ∧ t = { s with links := tblSet s.links l (t.link l) } ∧
        ∀ x, x ≠ q → (x ∈ (t.link l).window ↔ x ∈ (s.link l).window))
  | skip (l q : Nat) : q < 4096 → q ∈ (s.link l).window → q ∉ (s.link l).skips →
      PacketStep s (.flitNak l q true) (fun t => t = { s with links := tblSet s.links l { s.link l with skips := (s.link l).skips ++ [q] } })
  | again (l q : Nat) : q < 4096 → PacketStep s (.flitNak l q false) (fun t => t = { s with links := tblSet s.links l (s.link l) })
  | replay (l k : Nat) (left : Bool) : (∃ e ∈ (s.link l).copies, e.1 = k) → tblGet 0 (s.link l).fails k + 1 < 8 →
      PacketStep s (.replayRequest l k left) (fun t => (t.link l).retired = (s.link l).retired ∧
        tblGet 0 (t.link l).fails k = tblGet 0 (s.link l).fails k + 1)
  | retires (l k : Nat) : (∃ e ∈ (s.link l).copies, e.1 = k) → tblGet 0 (s.link l).fails k = 7 →
      ({ s with links := tblSet s.links l { s.link l with retired := true, fails := [] } } : State).routeFor l = true →
      PacketStep s (.replayRequest l k true) (fun t =>
        t = { s with links := tblSet s.links l { s.link l with retired := true, fails := [] } })
  | delivered (l k : Nat) : PacketStep s (.endToEndAck l k) (fun t => t = { s with links := tblSet s.links l (t.link l) } ∧
      ∀ e, e ∈ (t.link l).copies ↔ e ∈ (s.link l).copies ∧ e.1 ≠ k)

/-! ### Engines, copy engine and GMU (R131, R174, R184 to R190, R206, R219, R355 to R358) -/

/-- Halves that agree pair into a job that has not started; it starts with its B elements; a beat makes a row when it is the last; a row
leaves and is performed in the C buffer, or enters its ring; the last one retires the job. A copy job starts, moves a unit, is
suspended for a missing page with a fault record, or multicasts into a core. The GMU takes the head request and completes it. -/
inductive UnitStep (s : State) : Instr → (State → Prop) → Prop
  | pairs (e : Nat) (m h : Half) : isEngine e = true → (s.engine e).frozen = false → (s.engine e).job = none →
      (s.engine e).couple = some (m, h) → m.tag = h.tag → m.k = h.k → m.n = h.n → m.trb = h.trb →
      UnitStep s (.enginePairing e) (fun t => (∃ j, (t.engine e).job = some j ∧ j.mov = m ∧ j.sta = h ∧ j.started = false ∧ j.row = 0) ∧
        (∀ x ∈ (t.engine e).halves, x.seq ≠ m.seq ∧ x.seq ≠ h.seq) ∧ { t with engines := s.engines } = s)
  | starts (e : Nat) (j : Job) (c : PClass) : isEngine e = true → (s.engine e).frozen = false → (s.engine e).job = some j →
      j.started = false → s.startCheck j = .go c → (s.core j.sta.core).spmode = 0 → s.poison = [] →
      UnitStep s (.jobStart e) (fun t => { t with engines := s.engines } = s ∧ ∃ k, (t.engine e).job = some k ∧ k.started = true ∧
        k.mov = j.mov ∧ k.sta = j.sta ∧ k.start = (s.engine e).cyc ∧
        k.loadEnd = (s.engine e).cyc + (j.sta.k * j.sta.n * j.sta.td.tdBits + 255) / 256 ∧
        k.b = j.sta.bPairs.map (fun p => s.elemCode j.sta.core j.sta.td (j.sta.bAt p.1 p.2).1 (j.sta.bAt p.1 p.2).2))
  | beat (e : Nat) (j : Job) : isEngine e = true → (s.engine e).job = some j → (s.engine e).mayPull j = true →
      (s.core j.mov.core).spmode = 0 → s.poison = [] → (∀ r ∈ j.rows, r.done = true) → j.mov.k ≤ 256 / j.mov.td.tdBits →
      UnitStep s (.beatPull e) (fun t => { t with engines := s.engines, cores := s.cores } = s ∧
        (∀ c, { t.core c with acts := (s.core c).acts } = s.core c) ∧ (s.core j.mov.core).acts.beats < (t.core j.mov.core).acts.beats ∧ ∃ k r, (t.engine e).job = some k ∧ k.row = j.row + 1 ∧
        k.rows = j.rows ++ [r] ∧ r.row = j.row ∧ r.done = true ∧ r.beats = 1 ∧
        r.acc = rowAcc ((classOf j.mov.td j.sta.td).getD .f32) j (s.rowCodes j.mov j.row))
  | rowLeaves (e : Nat) (j : Job) (r : AccRow) (rs : List AccRow) : isEngine e = true → (s.engine e).leaving false = some (j, r, rs) →
      s.linkRoom j.mov = true → UnitStep s (.rowSend e) (fun t => (t.engine e).job = some { j with rows := rs, out := j.out + 1 } ∧
        ∃ p, t.results = s.results ++ [p] ∧ p.eng = e ∧ p.row = r.row ∧ p.acc = r.acc ∧ p.mov = j.mov)
  | rowLands (r : ResultPkt) : s.results.find? (fun q => q.id == r.id) = some r →
      (∀ q ∈ s.results.takeWhile (fun q => q.id != r.id), q.eng ≠ r.eng) → r.mov.accum = false → memWf s.mem = true →
      s.targetOk r.mov 3 (r.mov.toff + r.row * r.mov.rowBytes) (r.mov.toff + r.row * r.mov.rowBytes + r.mov.rowBytes) 35 = true →
      Sound s { sp := .buf r.mov.tcore 3, off := r.mov.toff + r.row * r.mov.rowBytes } r.mov.rowBytes → (resultRow ((classOf r.mov.td r.mov.td).getD .f32) r.mov r.acc none).length = r.mov.rowBytes →
      UnitStep s (.resultPacketArrival r.id) (fun t => t.results = s.results.filter (fun q => q.id != r.id) ∧
        Stored s t { sp := .buf r.mov.tcore 3, off := r.mov.toff + r.row * r.mov.rowBytes } r.mov.rowBytes
          (ofBytes (resultRow ((classOf r.mov.td r.mov.td).getD .f32) r.mov r.acc none)))
  | rowStreams (e : Nat) (j : Job) (r : AccRow) (rs : List AccRow) (ws : List Word) : isEngine e = true →
      (s.engine e).leaving true = some (j, r, rs) → s.linkRoom j.mov = true →
      ws = ringWords j.mov (resultRow ((classOf j.mov.td j.mov.td).getD .f32) j.mov r.acc none) →
      ((s.core j.mov.tcore).stream j.mov.toff).owner.isSome = true → ((s.core j.mov.tcore).stream j.mov.toff).team = none →
      ws.length ≤ ((s.core j.mov.tcore).stream j.mov.toff).room → s.ringRow j.mov ws ≠ some (s.issuerEvent j.mov 8 (wordOf j.mov.toff) 0) →
      UnitStep s (.streamRowDelivery e) (fun t =>
        ((t.core j.mov.tcore).stream j.mov.toff).occ = ((s.core j.mov.tcore).stream j.mov.toff).occ + ws.length ∧
        (t.engine e).job = some { j with rows := rs, out := j.out + 1, sent := j.sent + 1 })
  | jobEnds (e : Nat) (j : Job) : isEngine e = true → (s.engine e).job = some j → (s.engine e).frozen = false → j.started = true →
      j.mov.m ≤ j.sent → j.mov.nobar = true → j.mov.cmd < 255 → (s.cluster (clusterOf j.mov.core)).idWaits = [] →
      UnitStep s (.tileEndArrival e) (fun t => (t.engine e).job = none ∧ (t.cluster (clusterOf j.mov.core)).cmdState j.mov.cmd = 2 ∧
        ∀ l, t.byteAt l = s.byteAt l)
  | copyStarts (n : Nat) (j : CopyJob) : n < 512 →
      (s.cluster n).jobs.find? (fun k => !k.running && !k.stopped && !s.jobHeld k && !(s.cluster n).jobs.any (fun i => k.after.contains i.serial) &&
        !s.bcts.any (fun b => k.after.contains b.serial)) = some j → ((s.cluster n).jobs.filter (fun k => k.running)).length < 4 → tblGet false s.dieParked (n / 64) = false →
      UnitStep s (.copyJobStart n) (fun t => ClusterNow s t n (fun k =>
        { k with jobs := k.jobs.map (fun i => if i.serial = j.serial then { i with running := true } else i) }))
  | copies (n i b lo len : Nat) (j : CopyJob) (src dst : Loc) (ans : WalkAnswer) : n < 512 → i < 64 → s.cceOpen n = true →
      (s.cluster n).jobReady i = some j → (∀ u ∈ s.bcts, u.serial ≠ j.serial) → s.jobHeld j = false → j.fn = 0 → j.unit + 1 < j.units → j.cpyBlock j.unit = (b, lo, len) →
      s.pieces j 34 (cuts (rdAddr j.card b + (lo - wrAddr j.card b)) len) = .ok [(src, len)] → s.uninit src len = 0 →
      s.pieces j 35 (cuts lo len) = .ok [(dst, len)] → s.roomOn (s.unitLinks j) = true → memWf s.mem = true →
      UnitStep s (.copyUnit n i ans) (fun t => Stored s t dst len (s.readNat src len) ∧
        (t.cluster n).jobs = (s.cluster n).jobs.map (fun k => if k.serial = j.serial then { k with unit := k.unit + 1 } else k))
  | suspends (n i : Nat) (j : CopyJob) (va : Word) : n < 512 → i < 64 → s.cceOpen n = true → (s.cluster n).jobReady i = some j →
      (∀ u ∈ s.bcts, u.serial ≠ j.serial) → s.jobHeld j = false → s.walksHeld j.core j.fw j.ctx = false → s.parkedCore j.core = false →
      s.roomOn (s.unitLinks j) = true → s.unitOf n j = .miss va → (∃ c o, j.obj = { sp := .buf c 3, off := o } ∧ c = j.core) → EventRoom s j.core →
      UnitStep s (.copyUnit n i .absent) (fun t => t.faults.seq = s.faults.seq + 1 ∧
        (t.cluster n).jobs = (s.cluster n).jobs.map (fun k => if k.serial = j.serial then { k with token := some (s.faults.seq % 2 ^ 32) } else k) ∧
        (t.core j.core).events.length = (s.core j.core).events.length + 1)
  | multicast (u : BctUnit) : s.bcts.find? (fun x => x.id == u.id) = some u →
      (∀ j ∈ (s.cluster u.cluster).jobs, j.serial = u.serial → j.unit < j.units) → memWf s.mem = true → s.bctOk u = true →
      Sound s { sp := .buf u.dst u.buf, off := u.off } u.data.length →
      UnitStep s (.bctArrival u.id) (fun t => t.bcts = s.bcts.filter (fun x => x.id != u.id) ∧
        Stored s t { sp := .buf u.dst u.buf, off := u.off } u.data.length (ofBytes u.data) ∧ t.clusters = s.clusters)
  | gmuTakes (c : Nat) : isCore c = true → (s.core c).gmuBusy = false → (s.core c).gmu ≠ [] →
      UnitStep s (.gmuRequestStart c) (fun t =>
        CoreNow s t c (fun k => { k with gmuBusy := true, acts := { k.acts with requests := k.acts.requests + 1 } }))
  | gmuEnds (c : Nat) (q : GmuReq) (qs : List GmuReq) (u : State) (v : Word) : isCore c = true → (s.core c).gmuBusy = true →
      (s.core c).gmu = q :: qs → (s.modCore c (fun k => { k with gmu := qs, gmuBusy := false })).gmRun c q = .ok u v →
      UnitStep s (.gmuRequestComplete c) (fun t => (t.core c).gmu = (u.core c).gmu ∧ (∀ l, t.byteAt l = u.byteAt l) ∧
        (t.slot c q.slot).stall = none ∧ (t.slot c q.slot).w.regs.getG q.d = (if q.d = 0 then 0 else v) ∧
        (t.slot c q.slot).w.pc = (u.slot c q.slot).w.pc + wordOf (4 * (u.slot c q.slot).len) ∧ (t.core c).ins = (u.core c).ins + 1)
  | gmuCopies (c xo d : Nat) (q : GmuReq) (qs : List GmuReq) (x r : Rec) : isCore c = true → (s.core c).gmuBusy = true →
      (s.core c).gmu = q :: qs → q.fn = 7 → q.d = 0 → q.a.toNat % 16 = 0 → q.b.toNat % 16 = 0 → (s.core c).spmode = 0 → s.poison = [] → memWf s.mem = true →
      s.recPlace c q.b 16 = some { sp := .buf c 2, off := xo } → s.recPlace c q.a 16 = some { sp := .buf c 2, off := d } →
      x = s.recAt { sp := .buf c 2, off := xo } → r = s.recAt { sp := .buf c 2, off := d } → x.ok = true → r.ok = true →
      (s.recPlace c q.b x.size).isSome = true → (s.recPlace c q.a x.size).isSome = true →
      UnitStep s (.gmuRequestComplete c) (fun t =>
        Stored s t { sp := .buf c 2, off := d } x.size (s.readNat { sp := .buf c 2, off := xo } x.size) ∧
        (t.slot c q.slot).w.pc = (s.slot c q.slot).w.pc + wordOf (4 * (s.slot c q.slot).len))

/-! ### The host and firmware (R35 to R39, R135, R137, R155 to R159, R371, R395 to R414) -/

/-- R137: the IOD takes the head record of queue `q`, of the kind given, now. -/
abbrev Takes (s : State) (q kind : Nat) : Prop :=
  q < 64 ∧ s.mayTake q = true ∧ recKind (s.head q) = kind

/-- The completion queue of `q` has room and holds nothing back. -/
abbrev CqRoom (s : State) (q : Nat) : Prop :=
  (s.queue (s.queue q).cq).cqTail - (s.queue (s.queue q).cq).cqHead < 2 ^ bits (s.queue (s.queue q).cq).w2 12 8 ∧
  (s.queue (s.queue q).cq).heldRecs = []

/-- R137, R400: one completion record more on the queue paired with `q`: its 32 bytes at the tail's place, with the phase of the tail's
pass. -/
structure Completed (s t : State) (q status kind ctx reason : Nat) (tag : Word) (core : Nat) : Prop where
  tail : (t.queue (s.queue q).cq).cqTail = (s.queue (s.queue q).cq).cqTail + 1
  rec_ : t.readNat { sp := .host, off := (s.queue (s.queue q).cq).w1.toNat +
      32 * ((s.queue (s.queue q).cq).cqTail % 2 ^ bits (s.queue (s.queue q).cq).w2 12 8) } 32 =
    status * 2 ^ 48 + kind * 2 ^ 44 + ctx * 2 ^ 35 + reason +
      (if (s.queue (s.queue q).cq).cqTail / 2 ^ bits (s.queue (s.queue q).cq).w2 12 8 % 2 = 0 then 2 ^ 63 else 0) +
      2 ^ 64 * tag.toNat + 2 ^ 128 * (wordOf s.usec).toNat + 2 ^ 192 * core

/-- A record taken and completed. -/
def Answered (s t : State) (q status kind ctx : Nat) : Prop :=
  (t.queue q).head = (s.queue q).head + 1 ∧ Completed s t q status kind ctx 0 (nthW (s.head q) 5) 0x7FFF

/-- What the host, firmware and Safelight bring about. -/
inductive HostStep (s : State) : Instr → (State → Prop) → Prop
  | doorbell (q n : Nat) : q < 64 → HostStep s (.sqDoorbell q n) (fun t =>
      { t with queues := s.queues } = s ∧ t.queue q = { s.queue q with tail := n } ∧ ∀ p, p ≠ q → t.queue p = s.queue p)
  | cqHead (q n : Nat) : q < 64 → (s.queue q).heldRecs = [] → HostStep s (.cqHeadWrite q n) (fun t =>
      { t with queues := s.queues } = s ∧ t.queue q = { s.queue q with cqHead := n } ∧ ∀ p, p ≠ q → t.queue p = s.queue p)
  | cqHeld (q n : Nat) (r : Words4) : q < 64 → (s.queue q).heldRecs = [r] → (s.queue q).cqTail - n < 2 ^ bits (s.queue q).w2 12 8 →
      HostStep s (.cqHeadWrite q n) (fun t => (t.queue q).heldRecs = [] ∧ (t.queue q).cqTail = (s.queue q).cqTail + 1 ∧
        (t.queue q).cqHead = n)
  | queueBase (q : Nat) (v : Word) : q < 64 → wbit (s.queue q).w2 63 = false → s.mode ≠ 3 →
      HostStep s (.queueConfigurationWrite q 0 v) (fun t => t.queue q = { s.queue q with w0 := v } ∧ { t with queues := s.queues } = s)
  | cqBase (q : Nat) (v : Word) : q < 64 → wbit (s.queue q).w2 63 = false → s.mode ≠ 3 →
      HostStep s (.queueConfigurationWrite q 1 v) (fun t => t.queue q = { s.queue q with w1 := v } ∧ { t with queues := s.queues } = s)
  | queueWord (q : Nat) (v : Word) : q < 64 → wbit (s.queue q).w2 63 = false → s.mode ≠ 3 →
      HostStep s (.queueConfigurationWrite q 2 v) (fun t => { t with queues := s.queues } = s ∧ wbit (t.queue q).w2 63 = wbit v 63 ∧
        (t.queue q).cq = bits v 21 16 ∧ bits (t.queue q).w2 12 8 = bits v 12 8 ∧ (t.queue q).sqLog = bits v 4 0)
  | queueEnabled (q w : Nat) (v : Word) : q < 64 → w < 4 → wbit (s.queue q).w2 63 = true →
      HostStep s (.queueConfigurationWrite q w v) (fun t => t = s)
  | ringBase (v : Word) : HostStep s (.queueConfigurationWrite 64 0 v) (fun t => t = { s with faults := { s.faults with base := v } })
  | ringSize (v : Word) : 8 ≤ v.toNat → v.toNat ≤ 20 →
      HostStep s (.queueConfigurationWrite 64 1 v) (fun t => t = { s with faults := { s.faults with size := v } } ∧
        t.faults.capacity = 2 ^ v.toNat)
  | launchMalformed (q : Nat) : Takes s q 0 → CqRoom s q → memWf s.mem = true → s.loadingCtx (recCtx (s.head q)) = false →
      s.recordOk q (s.head q) = false ∨ launchFormOk (s.head q) = false →
      HostStep s (.launchRecord q) (fun t => Answered s t q 1 0 (recCtx (s.head q)))
  | launchDenied (q : Nat) : Takes s q 0 → CqRoom s q → memWf s.mem = true → s.loadingCtx (recCtx (s.head q)) = false →
      s.recordOk q (s.head q) = true → launchFormOk (s.head q) = true → s.created (recCtx (s.head q)) = false →
      HostStep s (.launchRecord q) (fun t => Answered s t q 4 0 (recCtx (s.head q)))
  | launches (q : Nat) : Takes s q 0 → s.loadingCtx (recCtx (s.head q)) = false → s.recordOk q (s.head q) = true →
      launchFormOk (s.head q) = true → s.created (recCtx (s.head q)) = true → s.capacityOk (s.head q) = true →
      (∀ e ∈ s.clusters, e.2.owner = some (recCtx (s.head q)) → ∀ c ∈ clusterCores e.1, (s.core c).halted = true) →
      HostStep s (.launchRecord q) (fun t => (t.queue q).head = (s.queue q).head + 1 ∧ t.cores = s.cores ∧
        (∃ l, t.launches = s.launches ++ [l] ∧ l.queue = some q ∧ l.ctx = recCtx (s.head q) ∧ l.tag = nthW (s.head q) 5 ∧ l.fw = false ∧
          ∃ ts, t.teams = s.teams ++ ts ∧ ts.length = recTeams (s.head q) ∧ ∀ x ∈ ts, x.launch = l.id ∧ x.threads = recThreads (s.head q) ∧
            x.allot = recAllot (s.head q) ∧ x.entry = entryPc (nthW (s.head q) 1) ∧ x.args = nthW (s.head q) 2 ∧ x.placed = false) ∧
        ∀ l, t.byteAt l = s.byteAt l)
  | createDenied (q : Nat) (ans : WalkAnswer) : Takes s q 1 → CqRoom s q → memWf s.mem = true → (s.context (recCtx (s.head q))).loader ≠ some q →
      s.recordOk q (s.head q) = true → createFormOk (s.head q) = true → s.created (recCtx (s.head q)) = true →
      HostStep s (.createContextRecord ⟨q, ans⟩) (fun t => Answered s t q 4 1 (recCtx (s.head q)))
  | creates (q : Nat) (ans : WalkAnswer) : Takes s q 1 → CqRoom s q → memWf s.mem = true → (s.context (recCtx (s.head q))).loader ≠ some q →
      s.recordOk q (s.head q) = true → createFormOk (s.head q) = true → s.created (recCtx (s.head q)) = false →
      (∀ n ∈ recClusters (s.head q), n < 512 ∧ (s.cluster n).owner = none) → s.recLost (s.head q) = false → s.createOk (s.head q) = true →
      (∀ n ∈ recClusters (s.head q), ∀ c ∈ clusterCores n, (s.core c).holding = []) →
      wbit (nthW (s.recImage (s.head q)) 0) 63 = false →
      HostStep s (.createContextRecord ⟨q, ans⟩) (fun t => Answered s t q 0 1 (recCtx (s.head q)) ∧
        (∀ n ∈ recClusters (s.head q), (t.cluster n).owner = some (recCtx (s.head q))) ∧
        (t.context (recCtx (s.head q))).clusters = recClusters (s.head q))
  | destroys (q : Nat) : Takes s q 2 → CqRoom s q → memWf s.mem = true → s.loadingCtx (recCtx (s.head q)) = false →
      s.recordOk q (s.head q) = true → bits (nthW (s.head q) 0) 50 0 = 0 → nthW (s.head q) 1 = 0 → nthW (s.head q) 2 = 0 →
      nthW (s.head q) 3 = 0 → bits (nthW (s.head q) 4) 31 0 = 0 → nthW (s.head q) 6 = 0 → s.created (recCtx (s.head q)) = true →
      (∀ l ∈ s.launches, l.fw = true ∨ l.ctx ≠ recCtx (s.head q)) →
      (∀ n ∈ (s.context (recCtx (s.head q))).clusters, ∀ c ∈ clusterCores n, (s.core c).holding = []) →
      HostStep s (.destroyContextRecord q) (fun t => Answered s t q 0 2 (recCtx (s.head q)) ∧ t.created (recCtx (s.head q)) = false ∧
        ∀ n ∈ (s.context (recCtx (s.head q))).clusters, (t.cluster n).owner = none)
  | checkpoints (q : Nat) : Takes s q 3 → s.checkpoint = none → s.recordOk q (s.head q) = true → bits (nthW (s.head q) 0) 59 0 = 0 →
      bits (nthW (s.head q) 2) 13 0 = 0 → nthW (s.head q) 3 = 0 → bits (nthW (s.head q) 4) 31 0 = 0 → nthW (s.head q) 6 = 0 →
      HostStep s (.checkpointRecord q) (fun t => ∃ k, t = { s with checkpoint := some k } ∧ k.queue = q ∧
        k.job = bits (nthW (s.head q) 1) 15 0 ∧ k.dest = nthW (s.head q) 2 ∧ k.tag = nthW (s.head q) 5 ∧ k.copying = false)
  | copies (q : Nat) (k : Checkpoint) : Takes s q 3 → s.checkpoint = some k → k.queue = q → k.copying = false →
      s.jobStands k.job = true → memWf s.mem = true →
      HostStep s (.checkpointRecord q) (fun t => t.checkpoint = some { k with copying := true } ∧ t.queues = s.queues ∧ t.cores = s.cores ∧
        ∀ a, a < 2 ^ 40 → t.byteAt { sp := .host, off := k.dest.toNat + a } = s.byteAt { sp := .hbm, off := a } ∧
          t.byteAt { sp := .hbm, off := a } = s.byteAt { sp := .hbm, off := a })
  | streams (k : Checkpoint) : s.checkpoint = some k → k.copying = true → memWf s.mem = true → CqRoom s k.queue →
      HostStep s .checkpointStream (fun t => t.checkpoint = none ∧ (t.queue k.queue).head = (s.queue k.queue).head + 1 ∧
        Completed s t k.queue 0 3 0 0 k.tag 0x7FFF)
  | completes (ctx q : Nat) (l : Launch) : ctx < 512 → s.launches.filter (fun l => !l.fw && l.ctx == ctx) = [l] → l.queue = some q →
      s.ctxIdle ctx = true → CqRoom s q → memWf s.mem = true →
      HostStep s (.launchCompletion ctx) (fun t => Completed s t q 0 0 ctx 0 l.tag 0x7FFF ∧ (∀ m ∈ t.launches, m.fw = true ∨ m.ctx ≠ ctx) ∧
        ∀ x ∈ t.teams, x.launch ≠ l.id)
  | gridEnds : s.gridIdle = true → (∀ l ∈ s.launches, l.fw = true → l.queue = none) →
      HostStep s (.launchCompletion 512) (fun t => t = { s with launches := s.launches.filter (fun l => !l.fw), teams := t.teams } ∧
        ∀ x ∈ t.teams, x ∈ s.teams)
  | watchdog (l : Launch) : s.launches.find? (fun m => m.id == l.id && m.wdog != 0 && decide (m.at_ + 1000 * m.wdog ≤ s.usec)) = some l →
      l.fw = false → (s.context l.ctx).abort = none →
      HostStep s (.watchdogExpiry l.id) (fun t => (t.context l.ctx).abort = some (8, 0x7FFF) ∧ ∀ m ∈ t.launches, m.fw = true ∨ m.ctx ≠ l.ctx)
  | abortEnds (ctx : Nat) : ctx ≤ 512 → (s.context ctx).abort.isSome = true →
      HostStep s (.contextAbortEnd ctx) (fun t => { t with contexts := s.contexts } = s ∧
        t.context ctx = { s.context ctx with abort := none } ∧ ∀ x, x ≠ ctx → t.context x = s.context x)
  | consumer (n : Nat) : s.faults.heldRecs = [] →
      HostStep s (.faultConsumerIndex n) (fun t => t = { s with faults := { s.faults with cons := n } })
  | consumerHeld (n c : Nat) (r : Words4) : s.faults.heldRecs = [(c, r)] → s.faults.prod - n < s.faults.capacity →
      HostStep s (.faultConsumerIndex n) (fun t => t.faults.heldRecs = [] ∧ t.faults.prod = s.faults.prod + 1 ∧ t.faults.cons = n ∧
        (t.core c).flc = (s.core c).flc + 1)
  | resolution (n : BitVec 32) : s.parked = [] → s.contexts = [] →
      HostStep s (.resolutionWord n) (fun t => t.faults.res = wordOf n.toNat ∧ t.clusters = s.clusters ∧ ∀ l, t.byteAt l = s.byteAt l)
  | attest (w : Nat) (v : Word) : w < 5 → HostStep s (.attestationRequest w v) (fun t => t = { s with attest := tblSet s.attest w v })
  | recovWord (w : Nat) (v : Word) : w < 2 → HostStep s (.attestationRequest (6 + w) v) (fun t => t = { s with recov := tblSet s.recov w v })
  | report : tblGet 0 s.attest 5 ≠ 1 → memWf s.mem = true →
      HostStep s (.attestationRequest 5 1) (fun t => tblGet 0 t.attest 5 = 0 ∧
        (∀ i, i < 4 → t.readNat { sp := .host, off := (tblGet 0 s.attest 4).toNat + 8 * i } 8 = (tblGet 0 s.attest i).toNat) ∧
        (∀ i, i < 64 → t.byteAt { sp := .host, off := (tblGet 0 s.attest 4).toNat + 32 + i } = (sha512 s.imageBytes).getD i 0 ∧
          t.byteAt { sp := .host, off := (tblGet 0 s.attest 4).toNat + 96 + i } = (sha512 s.failBytes).getD i 0) ∧
        t.readNat { sp := .host, off := (tblGet 0 s.attest 4).toNat + 160 } 8 = s.mode % 2 ^ 64 ∧
        t.readNat { sp := .host, off := (tblGet 0 s.attest 4).toNat + 168 } 8 = s.pceil % 2 ^ 64 ∧
        t.readNat { sp := .host, off := (tblGet 0 s.attest 4).toNat + 176 } 8 = s.modnum % 2 ^ 64 ∧
        t.readNat { sp := .host, off := (tblGet 0 s.attest 4).toNat + 184 } 8 = s.usec % 2 ^ 64)
  | recovers (w : Word) : s.mode = 3 → HostStep s (.recoveryRequest w true) (fun t => t.mode = 0 ∧ t.cores = State.reset.cores ∧
      t.mem = s.mem.filter outsideCores ∧ t.fwImage = s.imageAt w)
  | staysDown (w : Word) : s.mode = 3 → HostStep s (.recoveryRequest w false) (fun t => t = { s with recov := t.recov } ∧
      tblGet 0 t.recov 0 = w ∧ tblGet 0 t.recov 1 = 0)
  | notDown (w : Word) (ok : Bool) : s.mode ≠ 3 → HostStep s (.recoveryRequest w ok) (fun t => t = { s with recov := t.recov } ∧
      tblGet 0 t.recov 0 = w ∧ tblGet 0 t.recov 1 = 1)
  | hostRead (pa n : Nat) : s.psCur ≠ 7 → pa + n ≤ 2 ^ 40 → Sound s { sp := .hbm, off := pa } n →
      HostStep s (.hostMemoryAccess pa n .read) (fun t => t = { s with reply := .data (s.read { sp := .hbm, off := pa } n) })
  | hostPoison (pa n : Nat) : s.psCur = 7 → pa + n ≤ 2 ^ 40 →
      HostStep s (.hostMemoryAccess pa n .read) (fun t => t = { s with reply := .poison })
  | hostLost (pa n w : Nat) : s.psCur ≠ 7 → pa + n ≤ 2 ^ 40 → s.poison = [w] → 8 * w < pa + n → pa < 8 * w + 8 → s.contexts = [] →
      HostStep s (.hostMemoryAccess pa n .read) (fun t => t.reply = .poison ∧ w / 2048 ∈ t.retired ∧ t.mem = s.mem)
  | barOther (pa n : Nat) (d : Word) : n ≠ 8 ∨ pa % 8 ≠ 0 → HostStep s (.hostMemoryAccess pa n (.barWrite d)) (fun t => t = s)
  | barOnes (pa n : Nat) : n ≠ 8 ∨ pa % 8 ≠ 0 →
      HostStep s (.hostMemoryAccess pa n .barRead) (fun t => t = { s with reply := .data (List.replicate n 0xFF) })
  | hostWrite (pa n : Nat) (d : Word) : s.psCur ≠ 7 → pa + n ≤ 2 ^ 40 → Sound s { sp := .hbm, off := pa } n → memWf s.mem = true →
      HostStep s (.hostMemoryAccess pa n (.write d)) (fun t => Stored s t { sp := .hbm, off := pa } n d.toNat ∧ t.cores = s.cores)
  | hostDropped (pa n : Nat) (d : Word) : s.psCur = 7 → HostStep s (.hostMemoryAccess pa n (.write d)) (fun t => t = s)
  | power (ok : Bool) (n : BitVec 14) : HostStep s (.powerOn ok n) (fun t => t.mode = (if ok then 0 else 3) ∧
      (ok = true → t.modnum = n.toNat) ∧ t.cores = State.reset.cores ∧ t.clusters = State.reset.clusters ∧
      t.mem = s.mem.filter outsideModule)
  | service : s.mode = 0 → HostStep s (.modeChange 1) (fun t => t.mode = 1 ∧ t.routesUp = true ∧ t.mem = s.mem ∧
      ∀ e ∈ t.cores, e.2.spmode = 0)
  | afterTest : s.mode = 2 → HostStep s (.modeChange 1) (fun t => t.mode = 1 ∧ t.mem = s.mem ∧ ∀ e ∈ t.cores, e.2.spmode = 0)
  | test : s.mode = 1 → s.anyWork = false → HostStep s (.modeChange 2) (fun t => t = { s with mode := 2 })
  | fails : s.mode = 0 → HostStep s (.modeChange 3) (fun t => t = { s with mode := 3 })
  | header (ctx : Nat) (w : Word) : ctx ≤ 512 → s.narrows ctx = false → bits w 62 5 = 0 → wbit w 63 = true → bits (s.context ctx).header 4 0 ≤ bits w 4 0 →
      HostStep s (.permissionTableWrite ctx 0 w 0) (fun t => { t with contexts := s.contexts } = s ∧
        t.context ctx = { s.context ctx with header := w } ∧ ∀ x, x ≠ ctx → t.context x = s.context x)
  | headerNarrows (ctx : Nat) (w : Word) : ctx < 512 → s.narrows ctx = false → bits w 62 5 = 0 → bits w 4 0 < bits (s.context ctx).header 4 0 →
      HostStep s (.permissionTableWrite ctx 0 w 0) (fun t => (t.context ctx).header = w ∧
        ∀ c, ∀ e ∈ (t.core c).l1, wbit e.w0 9 = true ∨ (wbit e.w0 11 = false ∧ bits e.w0 8 0 ≠ ctx))
  | narrowWaits (ctx i : Nat) (w0 w1 : Word) : ctx ≤ 512 → i < 32 → s.narrows ctx = true →
      HostStep s (.permissionTableWrite ctx i w0 w1) (fun t => t = s)
  | range (ctx i : Nat) (w0 w1 : Word) : ctx ≤ 512 → s.narrows ctx = false → 1 ≤ i → i < 32 → bits w0 59 58 ≠ 3 → bits w0 56 52 = 0 → bits w1 63 52 = 0 →
      bits w1 13 0 = 0 → wbit (tblGet (0, 0) (s.context ctx).ranges (i - 1)).1 63 = false →
      HostStep s (.permissionTableWrite ctx i w0 w1) (fun t => { t with contexts := s.contexts } = s ∧
        tblGet (0, 0) (t.context ctx).ranges (i - 1) = (w0, w1) ∧
        ∀ j, j ≠ i - 1 → tblGet (0, 0) (t.context ctx).ranges j = tblGet (0, 0) (s.context ctx).ranges j)
  | stageWord (c n cl i w : Nat) (v : Word) : isCore c = true → n < 2 → cl < 512 → i < 8 → w < 4 →
      (s.slot c n).w.ctl.fw = true ∨ (s.cluster cl).owner = some (s.slot c n).w.ctl.ctx → stageStoreBad (s.cluster cl) i w v = false →
      HostStep s (.stageConfigStore c n cl (32 * i + 8 * w) v) (fun t => { t with clusters := s.clusters } = s ∧
        (t.cluster cl).cfgWord i w = v ∧ ∀ m, m ≠ cl → t.cluster m = s.cluster m)
  | stageRefused (c n cl i w : Nat) (v : Word) : isCore c = true → n < 2 → cl < 512 → i < 8 → w < 4 →
      (s.slot c n).w.ctl.fw = false → (s.cluster cl).owner ≠ some (s.slot c n).w.ctl.ctx → EventRoom s c →
      HostStep s (.stageConfigStore c n cl (32 * i + 8 * w) v) (fun t =>
        Told s t c (eventOf 8 n (wordOf (0x100000 + cl * 0x4000 + 32 * i + 8 * w)) 0) ∧ t.clusters = s.clusters)
  | pod (job m : Nat) : job ≠ 0 → (∀ x ∈ s.teams, x.arrived = []) →
      HostStep s (.podBarrierArrival job m) (fun t => t = { s with podArrived := tblSet s.podArrived job (tblGet 0 s.podArrived job + 1) })

/-! ### The encoding, the step, the registers and the whole machine (R20, R69, R72, R73, R75, R175, R192, R246 to R249, R256, R262, R263) -/

/-! ### Where these members complete (R17 to R19, R34, R76 to R94, R116, R180 to R183, R315, R316, R349, R366, R368, R369, R431) -/

/-- What writing a register by number leaves, where the register takes the value: each of the slot's own (R52, R55, R79, R80, R82 to R84), the
same registers and SMR of a slot of the core by its cross-slot number (R76, R86), each of the core (R87 to R91, R128, R177, R431) and each of a
management core (R92, R94). A write of CMASK makes pending starts ready, which the rings must hold; one of FMTH admits or refuses the held
packet, whose handler or whose sender's event must find room, and which may land in a mailbox word that holds no double-bit error (R98); a
compare of TPRD may post an alert to MC1 likewise. -/
inductive CrWritten (s : State) (v : Word) : Nat → (State → Prop) → Prop
  | slot (n : Nat) (x : Ctl) : SetsSlot s.cur.core s.me.ctl v n x → CrWritten s v n (fun t => t.me.ctl = x)
  | cross (k n : Nat) (x : Ctl) : k < 8 → SetsSlot s.cur.core (s.slot s.cur.core k).w.ctl v n x →
      CrWritten s v (0x1000 + 256 * k + n) (fun t => (t.slot s.cur.core k).w.ctl = x)
  | smr (f : Flight) (sc : Scope) : v.toNat / 2 ^ 3 = 1 → v.toNat % 8 ≠ 0 → scopeOf (v.toNat % 8) = some sc →
      s.me.ctl.smr.toNat / 2 ^ 63 = 1 → s.curSlot.held = some f →
      CrWritten s v 0x15 (fun t => t.curSlot.held = none ∧ t.me.ctl.smr.toNat = s.me.ctl.smr.toNat % 2 ^ 63)
  | crossSmr (k : Nat) (f : Flight) (sc : Scope) : k < 8 → v.toNat / 2 ^ 3 = 1 → v.toNat % 8 ≠ 0 → scopeOf (v.toNat % 8) = some sc →
      (s.slot s.cur.core k).w.ctl.smr.toNat / 2 ^ 63 = 1 → (s.slot s.cur.core k).held = some f →
      CrWritten s v (0x1015 + 256 * k) (fun t => (t.slot s.cur.core k).held = none ∧
        (t.slot s.cur.core k).w.ctl.smr.toNat = (s.slot s.cur.core k).w.ctl.smr.toNat % 2 ^ 63)
  | core (n : Nat) (k : Core) : isCompute s.cur.core = true → SetsCore s.mode (countIns s.myCore) v n k →
      CrWritten s v n (fun t => t.myCore = { k with slots := t.myCore.slots })
  | cmask : isCompute s.cur.core = true →
      (∀ p ∈ s.myCore.pending, (s.myCore.ring p.entry.lvl).spill = [] ∧
        (s.myCore.ring p.entry.lvl).chip.length + s.myCore.pending.length ≤ 16) →
      CrWritten s v 0x103 (fun t => t.myCore.cmask = v)
  | fmthAdmit (p : Packet) : isCompute s.cur.core = true → s.myCore.fmth = some p → v.toNat / 4 % 2 ^ 61 = 0 → v.toNat % 4 = 1 →
      (∀ lvl, RingRoom s.myCore lvl) → EventRoom s p.src → s.poison = [] → CrWritten s v 0x126 (fun t => t.myCore.fmth = none)
  | fmthRefuse (p : Packet) : isCompute s.cur.core = true → s.myCore.fmth = some p → v.toNat / 4 % 2 ^ 61 = 0 → v.toNat % 4 = 2 →
      EventRoom s p.src → CrWritten s v 0x126 (fun t => t.myCore.fmth = none)
  | tprd (i : Nat) : i < 24 → (∀ lvl, RingRoom (s.core mc1) lvl) → s.poison = [] → CrWritten s v (0x230 + i) (fun t => tblGet 0 t.tprd i = v.setWidth 16)
  | icl (i : Nat) : i < 24 → v.toNat % 32 ≤ 16 → CrWritten s v (0x250 + i) (fun t => tblGet 16 t.icl i = v.toNat % 32)
  | pceil : 150 ≤ v.toNat % 1024 → v.toNat % 1024 ≤ 1000 → CrWritten s v 0x270 (fun t => t.pceil = v.toNat % 1024)
  | alth : CrWritten s v 0x272 (fun t => t.alth = v.setWidth 16)
  | hyst : v.toNat % 2 ^ 16 ≤ 0x7FFF → CrWritten s v 0x273 (fun t => t.hyst = v.setWidth 16)
  | alst : CrWritten s v 0x274 (fun t => t.alst = s.alst &&& ~~~v)
  | tlogp : CrWritten s v 0x275 (fun t => t.tlogp = wordOf (v.toNat % 2 ^ 32))

/-- R315: what `grow` to an allotment `n` gives: 0 where the steps are there or `n` is the slot's own, 2 where the core's threads would hold more
than eight, 1 where too few steps are free or a higher level waits for them. -/
def growAnswer (s : State) (n : Nat) : Nat :=
  if n = s.me.ctl.allot then 0
  else if s.me.thread = true ∧ 8 < s.myCore.threadSteps + (n - s.me.ctl.allot) then 2
  else if s.myCore.freeSteps < n - s.me.ctl.allot ∨ s.higherWaits s.cur.core (s.cur.slot / 2) = true then 1
  else 0

/-- The stage of a word, in the cluster of the issuing core. -/
def stageOf (s t : State) (i : Nat) : List Word := tblGet [] (t.cluster (clusterOf s.cur.core)).stages i

/-- A member, what lets it complete, and what it leaves. -/
inductive NormalRun (s : State) : Instr → (State → Prop) → Prop
  | grow (d a : GReg) (ea : Bool) (n : Nat) : Ready (.grow d a ea) s → (s.g a).toNat = n → 1 ≤ n → n ≤ 4 → s.me.ctl.allot ≤ n →
      NormalRun s (.grow d a ea) (fun t => t.me.ctl.allot = (if growAnswer s n = 0 then n else s.me.ctl.allot) ∧
        t.me.regs.getG d.toNat = (if d = 0 then 0 else wordOf (growAnswer s n)))
  | shrink (d a : GReg) (ea : Bool) (n : Nat) : Ready (.shrink d a ea) s → (s.g a).toNat = n → 1 ≤ n → n ≤ s.me.ctl.allot → s.me.ctl.allot ≤ 4 →
      d.toNat < 16 * n → s.me.regs.fullAbove n = true →
      NormalRun s (.shrink d a ea) (fun t => t.me.ctl.allot = n ∧
        t.me.regs.getG d.toNat = (if d = 0 then 0 else wordOf (s.me.ctl.allot - n)))
  | stgpush (d a b : GReg) (ea eb : Bool) (i : Nat) : Ready (.stgpush d a b ea eb) s → s.settled = true → (s.g a).toNat = i → i < 8 →
      isMc s.cur.core = false → (stageOf s s i).length < 256 → bits ((s.cluster (clusterOf s.cur.core)).cfgWord i 0) 62 60 ≠ 0 →
      NormalRun s (.stgpush d a b ea eb) (fun t => stageOf s t i = stageOf s s i ++ [s.g b] ∧ t.me.regs.getG d.toNat = 0)
  | stgpushNo (d a b : GReg) (ea eb : Bool) (i : Nat) : Ready (.stgpush d a b ea eb) s → s.settled = true → (s.g a).toNat = i → i < 8 →
      (isMc s.cur.core = true ∨ 256 ≤ (stageOf s s i).length ∨ bits ((s.cluster (clusterOf s.cur.core)).cfgWord i 0) 62 60 = 0) →
      NormalRun s (.stgpush d a b ea eb) (fun t => t.clusters = s.clusters ∧ t.me.regs.getG d.toNat = if d = 0 then 0 else 1)
  | stgsub (a : GReg) (ea : Bool) : Ready (.stgsub a ea) s → (s.g a).toNat < 16 →
      NormalRun s (.stgsub a ea) (fun t => t.myCore.stg = (s.g a).toNat)
  | lks (a : GReg) (eg : BitVec 3) (l : Dir) (e nb : Nat) (h : Half) : Ready (.lks a eg l) s → s.engineAt s.cur.core l = some e →
      isCompute s.cur.core = true → neighbour s.cur.core l = some nb →
      h = s.halfOf false (engineLow e == s.cur.core) (s.g a) 0 eg.toNat (s.engine e).cyc → geometryOk h.td h.k h.n = true →
      operandsOk false (s.g a) 0 = true → s.reaches nb = true → (s.engine e).queued false h.low < 2 → s.relBlocked = false →
      s.ownStoresOut = false →
      NormalRun s (.lks a eg l) (fun t => (t.engine e).queued false h.low = (s.engine e).queued false h.low + 1 ∧ t.me.regs = s.me.regs)
  | lkm (d a b : GReg) (eg : BitVec 3) (l : Dir) (e nb : Nat) (h : Half) : Ready (.lkm d a b eg l) s → s.engineAt s.cur.core l = some e →
      isCompute s.cur.core = true → neighbour s.cur.core l = some nb →
      h = s.halfOf true (engineLow e == s.cur.core) (s.g a) (s.g b) eg.toNat (s.engine e).cyc → geometryOk h.td h.k h.n = true →
      operandsOk true (s.g a) (s.g b) = true → targetFormOk h = true → s.reaches nb = true → s.reaches h.tcore = true →
      (s.engine e).queued true h.low < 2 → s.relBlocked = false → s.ownStoresOut = false →
      NormalRun s (.lkm d a b eg l) (fun t => (t.engine e).queued true h.low = (s.engine e).queued true h.low + 1 ∧
        t.me.regs = s.me.regs.markG d.toNat)
  | tlbw (d a b : GReg) (ea eb : Bool) (c : Nat) (l2 : Bool) (e : TlbEntry) : Ready (.tlbw d a b ea eb) s → e = entryOfWords (s.g a) (s.g b) →
      entryFormOk e = true → c < 2 ^ 15 → (s.g d).toNat = c + (if l2 then 2 ^ 15 else 0) → isCompute c = true →
      clusterOf c = clusterOf s.cur.core → s.entryPermitted e = true →
      NormalRun s (.tlbw d a b ea eb) (fun t => e ∈ (t.cluster (clusterOf c)).l2 ∧ (l2 = false → e ∈ (t.core c).l1))
  | tlbi (a b : GReg) (ea eb : Bool) (sc : Scope) : Ready (.tlbi a b ea eb) s → tlbiOk s.cur.core (s.g a) (s.g b) = true →
      scopeOf ((s.g b).toNat / 2 ^ 16 % 8) = some sc →
      (∀ f ∈ s.inflight, f.st = .withdrawn ∨ scopeHasCore sc s.cur.core f.core = false ∨
        tlbiReaches (s.g a) (s.g b) f.va f.fw (match s.ownerOf f.core with | some (false, x) => some x | _ => none) = false) →
      (∀ e ∈ s.clusters, ∀ j ∈ e.2.jobs, scopeHasCore sc s.cur.core j.core = false ∨
        tlbiReaches (s.g a) (s.g b) j.objVa j.fw (some j.ctx) = false) →
      NormalRun s (.tlbi a b ea eb) (fun t =>
        (∀ c, scopeHasCore sc s.cur.core c = true → ∀ e ∈ (t.core c).l1, tlbiMatches (s.g a) (s.g b) e = false) ∧
        (∀ n, scopeHasCore sc s.cur.core (tscOf n) = true → ∀ e ∈ (t.cluster n).l2, tlbiMatches (s.g a) (s.g b) e = false))
  | setc (a : GReg) (ea : Bool) (n : BitVec 13) (Q : State → Prop) : Ready (.setc a ea n) s → CrWritten s (s.g a) n.toNat Q →
      NormalRun s (.setc a ea n) Q

end Sys2Proof.Claims

open Sys2Proof Sys2Proof.Machine Sys2Proof.Safety Sys2Proof.Claims

/-- Every member of the integer ALU but division, the immediate members, the literals, the bit-field members and `pget` complete on every
operand: `gd` takes the value of the rule, every other register and all else stays, the slot goes on behind the group. -/
def Obligations.ScalarResults : Prop :=
  ∀ (i : Instr) (s : State) (d : GReg) (P : Word → Prop), Scalar s i d P → i.wellFormed = true → Ready i s →
    ∃ v, P v ∧ GivesG i s d v

/-- Every compare and every predicate operation with a predicate target completes: the target is true exactly when the rule's condition
holds (`p0` stays true, R69), and nothing else changes.

R275: `pput` completes: for i = 1 to 7, p[i] takes A[i] where B[i] is 1 and stays otherwise; `p0`, the other registers and all else
stay. -/
def Obligations.PredicateResults : Prop :=
  (∀ (i : Instr) (s : State) (d : PReg) (P : Prop), Pred s i d P → Ready i s → ∃ b, (b = true ↔ P) ∧ GivesP i s d b) ∧
  (∀ (a b : GReg) (ea eb : Bool) (s : State), Ready (.pput a b ea eb) s →
     ∃ t, exec (.pput a b ea eb) s = .next t ∧ Retired s t s.nextPc t.me.regs s.me.ctl ∧
       (∀ i, i < 8 → t.me.regs.getP i =
         if i = 0 then true else if (s.g b).getLsbD i then (s.g a).getLsbD i else s.me.regs.getP i) ∧
       t.me.regs.g = s.me.regs.g ∧ t.me.regs.ge = s.me.regs.ge ∧ t.me.regs.v = s.me.regs.v ∧ t.me.regs.ve = s.me.regs.ve)

/-- R268: a division member whose divisor is not zero completes with the quotient toward zero, or the remainder with the sign of the
dividend; -2^63 by -1 gives -2^63 and 0.

R268: a division by zero traps with cause INTDIV0 (17H), EADDR 0 and EINFO 0, whatever the destination; no register is written.

R267, R268: `mulh.s` and `mulh.z` give the high half of the signed and of the unsigned product: of -1 by 1 all ones, of 2^63 by 4 two. -/
def Obligations.DivisionRule : Prop :=
  (∀ (i : Instr) (s : State) (d b : GReg) (P : Word → Prop), Division s i d b P → Ready i s → s.g b ≠ 0 →
     ∃ v, P v ∧ GivesG i s d v) ∧
  (∀ (i : Instr) (s : State) (d b : GReg) (P : Word → Prop), Division s i d b P → Ready i s → CanTrap s → s.g b = 0 →
     ∃ t, exec i s = .next t ∧ Trapped s t 0x17 0 0) ∧
  (∀ (s : State) (d a b : GReg) (ea eb : Bool),
     (Ready (.mulhS d a b ea eb) s → s.g a = BitVec.ofInt 64 (-1) → s.g b = 1 → GivesG (.mulhS d a b ea eb) s d 0xFFFFFFFFFFFFFFFF) ∧
     (Ready (.mulhZ d a b ea eb) s → s.g a = wordOf (2 ^ 63) → s.g b = 4 → GivesG (.mulhZ d a b ea eb) s d 2))

/-- R276 to R278, and `nop` of R280. A branch, `call`, `jr`, `jalr` and `nop` always complete: the slot goes on at the target, the link alone is
written, and memory and all else stay. Their words decode to them; a field that must be 0 and is not is an encoding error with reason 3, a
guard before `br` or `call` one with reason 5; `g15` lies within every allotment. -/
def Obligations.TransferRules : Prop :=
  (∀ (i : Instr) (s : State) (pc : Word) (l : Option (Nat × Word)), Transfer s i pc l → Ready i s →
    ∃ t, exec i s = .next t ∧ Retired s t pc t.me.regs s.me.ctl ∧
      match l with
      | none => t.me.regs = s.me.regs
      | some (d, v) => WroteG s.me.regs t.me.regs d v) ∧
  (∀ (p : PReg) (n : Bool) (disp : BitVec 22), decodeGroup [formB 0x0C p.toNat (b2n n) disp.toNat] = .group (plainGroup (.br p n disp)) ∧
    ∀ g b, decodeGroup [guardWord g b, formB 0x0C p.toNat (b2n n) disp.toNat] = .bad 5 1 2) ∧
  (∀ disp : BitVec 22, decodeGroup [formB 0x0D 0 0 disp.toNat] = .group (plainGroup (.call disp)) ∧
    (∀ g b, decodeGroup [guardWord g b, formB 0x0D 0 0 disp.toNat] = .bad 5 1 2) ∧
    ∀ (p : PReg) (n : Bool), ¬(p = 0 ∧ n = false) → decodeGroup [formB 0x0D p.toNat (b2n n) disp.toNat] = .bad 3 0 1) ∧
  (∀ (a : GReg) (ea : Bool), decodeGroup [formJ 0 a.toNat (b2n ea) 0] = .group (plainGroup (.jr a ea)) ∧
    ∀ d : GReg, decodeGroup [formJ d.toNat a.toNat (b2n ea) 1] = .group (plainGroup (.jalr d a ea)) ∧
      (d ≠ 0 → decodeGroup [formJ d.toNat a.toNat (b2n ea) 0] = .bad 3 0 1) ∧
      ∀ (b : GReg) (eb : Bool) (fn : Nat), fn < 2 → ¬(b = 0 ∧ eb = false) →
        decodeGroup [formJ d.toNat a.toNat (b2n ea) fn ||| BitVec.ofNat 32 (b.toNat * 2 ^ 8 + b2n eb * 2 ^ 6)] = .bad 3 0 1) ∧
  (∀ allot disp, 1 ≤ allot → withinAllot allot (operands (.call disp)) = true)

/-- R286: `trap code` and `brk` take a SWTRAP (0DH) with EADDR 0 and EINFO the code, or 64 for `brk`.

R282, R283: `eret` in a handler started for a trap, with ACT 0 or 1 and the handler's ESLOT: the handler's slot is freed and the trapped
slot issues again at EPC, or at EPC plus four bytes for each word of the trapped group, bits 1:0 cleared (R246; that `eret` clears them is
the model's choice, log entry 87); its registers stay. -/
def Obligations.TrapsAndReturns : Prop :=
  (∀ (s : State), CanTrap s →
     (∀ code : BitVec 6, Ready (.trap code) s → ∃ t, exec (.trap code) s = .next t ∧ Trapped s t 0xD 0 (wordOf code.toNat)) ∧
     (Ready .brk s → ∃ t, exec .brk s = .next t ∧ Trapped s t 0xD 0 64)) ∧
  (∀ (s : State) (a : GReg) (ea : Bool) (e act : Nat), Ready (.eret a ea) s → s.me.regs.noneEmpty = true → s.me.events = true →
     e < 8 → e ≠ s.cur.slot → act ≤ 1 → s.g a = wordOf (16 * act + e) → s.me.ctl.eslot.toNat % 16 = e →
     s.me.ctl.ecause.toNat / 256 % 4 ≤ 1 → (s.slot s.cur.core e).busy = true → (s.slot s.cur.core e).frozen = true →
     s.me.thread = false →
     ∃ t, exec (.eret a ea) s = .next t ∧ OnlyCores s t ∧ (∀ l, t.byteAt l = s.byteAt l) ∧ Freed s t s.cur.slot ∧
       t.slot s.cur.core e = { s.slot s.cur.core e with frozen := false, stall := none, w := { (s.slot s.cur.core e).w with
         pc := BitVec.ofNat 64 ((s.me.ctl.epc + wordOf (4 * (act * (s.slot s.cur.core e).len))).toNat / 4 * 4) } } ∧
       ∀ n, n ≠ s.cur.slot → n ≠ e → t.slot s.cur.core n = s.slot s.cur.core n)

/-- R287: `yield` completes: its slot is then no candidate, on either port, for 16 cycles from then or until another slot has issued there; its
registers and all else stay.

R281: `end` in a task that handles no event and no trap, once no register of the slot is empty: the task ends, its slot is freed, its
stream rings are unbound and INS counts the group; the other slots of the core, the other cores and memory stay.

R288: `halt` at L0 of firmware. On a compute core whose other slots hold no context the core stops and the halting task ends; on a
management core with an entry in its event queue or a ready ring it completes and goes on.
R288 names compute and management cores; that a translation service core does as a management core does is the model's choice (log entry 18). -/
def Obligations.EndYieldHalt : Prop :=
  (∀ (s : State), Ready .yield s → ∃ t, exec .yield s = .next t ∧ OnlySlot s t countIns ∧
     t.curSlot = { s.curSlot with w := { s.me with pc := s.nextPc }, stall := none, cap := none,
                                  yielded := some (16, true, true) }) ∧
  (∀ (s : State), Ready .endTask s → s.me.regs.noneEmpty = true → s.me.events = false → s.me.thread = false →
     ∃ t, exec .endTask s = .next t ∧ OnlyCores s t ∧ (∀ l, t.byteAt l = s.byteAt l) ∧ (∀ c, c ≠ s.cur.core → t.core c = s.core c) ∧
       Freed s t s.cur.slot ∧ (∀ n, n ≠ s.cur.slot → t.slot s.cur.core n = s.slot s.cur.core n) ∧ t.myCore.ins = s.myCore.ins + 1) ∧
  (∀ (s : State), Ready .halt s →
     (isCompute s.cur.core = true → (∀ n, n < 8 → n ≠ s.cur.slot → (s.slot s.cur.core n).busy = false) → s.me.regs.noneEmpty = true →
       s.me.thread = false →
       ∃ t, exec .halt s = .next t ∧ OnlyCores s t ∧ t.myCore.halted = true ∧ Freed s t s.cur.slot) ∧
     (isCompute s.cur.core = false → s.myCore.events ≠ [] ∨ (∃ l, l < 4 ∧ (s.myCore.ring l).chip ≠ []) → GoesTo .halt s s.nextPc))

/-- R290 steps 3 to 7, R110, R228: an address whose bits 63:57 differ from bit 56 traps with PROTECT (6), then one off its alignment
with MISALIGN (7), each with EADDR the address; then the first part that the checks of steps 5 to 7 stop traps with its cause and, as
EADDR, the access's address, or that of its part on the second page (R228); nothing is performed. EINFO is 1 when the access writes.

R101: a scalar load of an own word that nothing has written, under SPMODE 2, traps with UNINIT (11H) and EADDR the address. -/
def Obligations.AccessTraps : Prop :=
  (∀ (i : Instr) (s : State) (al : Nat) (q : Req), Access s i al q → Ready i s → CanTrap s →
     (canonical q.va = false → ∃ t, exec i s = .next t ∧ Trapped s t 6 q.va (Req.einfo q)) ∧
     (canonical q.va = true → q.va.toNat % al ≠ 0 → ∃ t, exec i s = .next t ∧ Trapped s t 7 q.va (Req.einfo q)) ∧
     (∀ cause va, canonical q.va = true → q.va.toNat % al = 0 → Clear q s → s.planHere q = .trap cause va →
       ∃ t, exec i s = .next t ∧ Trapped s t cause va (Req.einfo q))) ∧
  (∀ (s : State) (d a : GReg) (ea : Bool) (sz : Size) (ann : Ann) (off : BitVec 7) (b o : Nat), Ready (.ldZ d a ea sz ann off) s → CanTrap s →
     (addrM (s.g a) sz off).toNat % sizeBytes sz = 0 → Own s (addrM (s.g a) sz off) (sizeBytes sz) b o →
     Sound s (ownLoc s b o) (sizeBytes sz) → s.drained = true → s.curSlot.held = none → s.allValid (ownLoc s b o) (sizeBytes sz) = false → s.myCore.spmode = 2 →
     ∃ t, exec (.ldZ d a ea sz ann off) s = .next t ∧ Trapped s t 0x11 (addrM (s.g a) sz off) 0)

/-- R71, R225, R290, R291: an access that the checks let pass and that leaves the self region issues: its parts are on their way behind the
earlier ones, its destination is empty, and the slot goes on; no byte of memory changes yet. R114, R233: one whose translation misses goes
on too, its destination empty; it waits at the core, with the registers that a fault would restore. -/
def Obligations.AccessesLeave : Prop :=
  ∀ (i : Instr) (s : State) (al : Nat) (q : Req), Access s i al q → Ready i s → canonical q.va = true → q.va.toNat % al = 0 → Clear q s →
    (∀ ps, s.planHere q = .go ps → ps.all (fun p => p.page.own) = false →
      ∃ t, exec i s = .next t ∧ Went s t (s.me.regs.markDest q.kind q.dest) ∧ OnlyMemory s t ∧ (∀ l, t.byteAt l = s.byteAt l) ∧
        t.inflight = s.inflight ++ s.flightsOf q s.nextId (s.nextId + 1) ps ∧ t.returns = s.returns ∧ t.valid = s.valid ∧
        t.wakes = s.wakes) ∧
    (∀ va, s.planHere q = .walk va →
      ∃ t e, exec i s = .next t ∧ t.me = { s.me with pc := s.nextPc, regs := s.me.regs.markDest q.kind q.dest } ∧
        t.curSlot.waiting = [e] ∧ e.va = q.va ∧ e.kind = q.kind ∧ e.data = q.data ∧ e.dest = q.dest ∧ e.pc = s.cur.pc ∧ e.regs = s.me.regs ∧
        (∀ l, t.byteAt l = s.byteAt l) ∧ t.inflight = s.inflight ∧ t.returns = s.returns ∧ (∀ c, c ≠ s.cur.core → t.core c = s.core c))

/-- R65, R99, R100, R292, R294, R295: a load of the issuing core's own buffer with nothing before it to wait for, whose words are written or
whose SPMODE is 0, and hold no double-bit error (R98), completes at once: its destination takes the bytes at the address, zero-extended, sign-extended, as lanes or
transposed; memory and all else stay. -/
def Obligations.OwnLoads : Prop :=
  ∀ (i : Instr) (s : State) (va : Word) (al n b o : Nat) (P : Regs → Regs → Prop), OwnLoad s (ownLoc s b o) i va al n P →
    Ready i s → va.toNat % al = 0 → Own s va n b o → Sound s (ownLoc s b o) n → s.drained = true → s.curSlot.waiting = [] →
    s.curSlot.held = none → s.allValid (ownLoc s b o) n = true ∨ s.myCore.spmode = 0 →
    ∃ t, exec i s = .next t ∧ Retired s t s.nextPc t.me.regs s.me.ctl ∧ P s.me.regs t.me.regs

/-- R65, R99, R100, R101, R292, R294: a store to the issuing core's own buffer with nothing before it to wait for completes at once: the bytes
at the address take the register's low bytes and their words are written; every other byte, the registers and all else stay. -/
def Obligations.OwnStores : Prop :=
  ∀ (i : Instr) (s : State) (va : Word) (al n data b o : Nat), OwnStore s i va al n data → Ready i s → memWf s.mem = true →
    va.toNat % al = 0 → Own s va n b o → Sound s (ownLoc s b o) n → s.drained = true → s.curSlot.waiting = [] →
    s.curSlot.held = none → s.relBlocked = false →
    ∃ t, exec i s = .next t ∧ Went s t s.me.regs ∧ OnlyMemory s t ∧ Stored s t (ownLoc s b o) n data ∧
      t.allValid (ownLoc s b o) n = true ∧ t.inflight = s.inflight ∧ t.returns = s.returns

/-- R66, R301, R303: an `amo` or `fadd` on the issuing core's own C buffer with nothing before it to wait for: its bytes take the new value,
every other byte stays, the destination is empty and the old value is on its way to it.

R165, R303: `decp` on a record of the issuing core's own A or C buffer whose count is above 1: the count goes down by one, every other byte
stays, the destination is empty and the old count, sign-extended, is on its way to it. A count of 1 also puts the codelet at the
tail of the core's ready ring of the record's level, here one with room on chip.
That the codelet's entry has no team is the model's choice (log entry 89). -/
def Obligations.OwnAtomics : Prop :=
  (∀ (i : Instr) (s : State) (d : GReg) (va : Word) (n new o : Nat), OwnAtomic s (ownLoc s 3 o) i d va n new → Ready i s →
     memWf s.mem = true → va.toNat % n = 0 → Own s va n 3 o → Sound s (ownLoc s 3 o) n → s.drained = true → s.curSlot.waiting = [] →
     s.curSlot.held = none → s.allValid (ownLoc s 3 o) n = true ∨ s.myCore.spmode = 0 →
     ∃ t r, exec i s = .next t ∧ Went s t (s.me.regs.markG d.toNat) ∧ OnlyMemory s t ∧ Stored s t (ownLoc s 3 o) n new ∧
       t.returns = s.returns ++ [r] ∧ r.core = s.cur.core ∧ r.slot = s.cur.slot ∧ r.work = s.me.id ∧ r.dest = .g d.toNat ∧
       r.data = s.readNat (ownLoc s 3 o) n ∧ r.ret = .value) ∧
  (∀ (s : State) (d a : GReg) (ea : Bool) (b o : Nat), Ready (.decp d a ea) s → memWf s.mem = true → (s.g a).toNat % 32 = 0 →
     Own s (s.g a) 4 b o → Sound s (ownLoc s b o) 4 → b = 2 ∨ b = 3 → s.drained = true → s.curSlot.waiting = [] →
     s.allValid (ownLoc s b o) 4 = true ∨ s.myCore.spmode = 0 → 1 ≤ s.readNat (ownLoc s b o) 4 → s.readNat (ownLoc s b o) 4 < 2 ^ 31 →
     (s.myCore.ring (fld (s.readNat (ownLoc s b o) 8) 62 2)).spill = [] → (s.myCore.ring (fld (s.readNat (ownLoc s b o) 8) 62 2)).chip.length < 16 →
     ∃ t r, exec (.decp d a ea) s = .next t ∧ OnlyMemory s t ∧ Stored s t (ownLoc s b o) 4 (s.readNat (ownLoc s b o) 4 - 1) ∧
       (∀ c, c ≠ s.cur.core → t.core c = s.core c) ∧ t.me = { s.me with pc := s.nextPc, regs := s.me.regs.markG d.toNat } ∧
       t.returns = s.returns ++ [r] ∧ r.work = s.me.id ∧ r.dest = .g d.toNat ∧ r.data = s.readNat (ownLoc s b o) 4 ∧ r.ret = .value ∧
       (1 < s.readNat (ownLoc s b o) 4 → t.myCore.ready = s.myCore.ready) ∧
       (s.readNat (ownLoc s b o) 4 = 1 → t.myCore.ring (fld (s.readNat (ownLoc s b o) 8) 62 2) =
         (s.myCore.push (fld (s.readNat (ownLoc s b o) 8) 62 2)
           { kind := 1, allot := 0, pc := 0, lvl := fld (s.readNat (ownLoc s b o) 8) 62 2, frame := selfVa b o, g2 := 0, g3 := 0,
             landed := none, hclass := none, parked := none, team := none, share := false }).ring
           (fld (s.readNat (ownLoc s b o) 8) 62 2)))

/-- R225, R296, R297: `pf` completes with no trap, whatever its address; the page of its line, where no entry gives it, is asked for.
`fence.acq` completes when no earlier load or atomic of the slot awaits its value, `fence.full` when every
earlier access is performed; `fence.rel` completes and marks the accesses before it; nothing else changes.

R298: `salloc` of B bytes at A, both multiples of 4, within one own buffer below its capacity: the words of the range are no longer
written, every other word's valid bit and every byte of memory stays; B = 0 completes with no effect. -/
def Obligations.FencesAndSalloc : Prop :=
  (∀ (s : State), (∀ a, Ready (.pf a) s →
       ∃ t, exec (.pf a) s = .next t ∧ t.me = { s.me with pc := s.nextPc } ∧ OnlySlot s t (fun k => countIns { k with wanted := t.myCore.wanted }) ∧
         (canonical (s.g a) = true → s.translate s.cur.core s.me.ctl.fw s.me.ctl.ctx (s.g a &&& ~~~63) = .miss →
           ∃ w ∈ t.myCore.wanted, w.va = s.g a &&& ~~~63 ∧ w.fw = s.me.ctl.fw ∧ w.ctx = s.me.ctl.ctx ∧ w.deque = false)) ∧
     (∀ sc, Ready (.fence .acq sc) s → (∀ f ∈ s.inflight, f.work ≠ s.me.id) → (∀ r ∈ s.returns, r.work ≠ s.me.id) →
       GoesTo (.fence .acq sc) s s.nextPc) ∧
     (∀ sc, Ready (.fence .full sc) s → (∀ f ∈ s.inflight, f.work ≠ s.me.id) → GoesTo (.fence .full sc) s s.nextPc) ∧
     (∀ sc, Ready (.fence .rel sc) s → ∃ t, exec (.fence .rel sc) s = .next t ∧ OnlySlot s t countIns ∧
       t.me = { s.me with pc := s.nextPc, relMark := some s.nextId })) ∧
  (∀ (s : State) (a b : GReg) (ea eb : Bool) (bf o : Nat), Ready (.salloc a b ea eb) s → canonical (s.g a) = true →
     (s.g a).toNat % 4 = 0 → (s.g b).toNat % 4 = 0 →
     (s.g b = 0 → GoesTo (.salloc a b ea eb) s s.nextPc) ∧
     (s.g b ≠ 0 → Own s (s.g a) (s.g b).toNat bf o → s.drained = true →
       ∃ t, exec (.salloc a b ea eb) s = .next t ∧ Went s t s.me.regs ∧ { t with cores := s.cores, valid := s.valid } = s ∧
         ∀ w, w ∈ t.valid ↔ w ∈ s.valid ∧ ¬((ownLoc s bf o).key ≤ 4 * w ∧ 4 * w < (ownLoc s bf o).key + (s.g b).toNat)))

/-- R299: `qbind` of a free q register to a free ring whose rows lie below capacity completes: the ring is empty and bound to the q register
of this work. `qfree` of a bound q register frees the ring, of an unbound one does nothing.

R299, R300: `qstat` writes bit 63, the ring at bit 16 and the occupancy, or 0 for an unbound q register. `qget` and `qgetv` on an unbound
one trap with STREAMUNBOUND (18H) and EINFO its number; on a ring with too few elements they stall and take nothing; else they take the
oldest element, or the two oldest with the older in bits 63:0, which is on its way to the empty destination. -/
def Obligations.StreamMembers : Prop :=
  (∀ (s : State) (q : QReg),
     (∀ (a : GReg) (ea : Bool) (lk base r : Nat), Ready (.qbind q a ea) s → s.g a = bindWord lk base r → 3 ≤ lk → lk ≤ 10 → base < 768 →
       r < 16 → s.boundRing q = none → (s.myCore.stream r).owner = none → base + 2 ^ (lk - 3) ≤ s.spcap s.cur.core 2 →
       ∃ t, exec (.qbind q a ea) s = .next t ∧ OnlyCores s t ∧ t.boundRing q = some r ∧ (t.myCore.stream r).owner = some (s.me.id, q.toNat) ∧
         (t.myCore.stream r).occ = 0 ∧ (t.myCore.stream r).base = base ∧ (t.myCore.stream r).logk = lk ∧
         (∀ k, k ≠ r → t.myCore.stream k = s.myCore.stream k) ∧ t.me.pc = s.nextPc ∧ t.me.regs = s.me.regs ∧
         (∀ c, c ≠ s.cur.core → t.core c = s.core c) ∧ ∀ n, n ≠ s.cur.slot → t.slot s.cur.core n = s.slot s.cur.core n) ∧
     (Ready (.qfree q) s → s.boundRing q = none → GoesTo (.qfree q) s s.nextPc) ∧
     (∀ r, Ready (.qfree q) s → s.boundRing q = some r →
       ∃ t, exec (.qfree q) s = .next t ∧ OnlyCores s t ∧ t.boundRing q = none ∧ (t.myCore.stream r).owner = none ∧
         (t.myCore.stream r).occ = 0 ∧ (∀ k, k ≠ r → t.myCore.stream k = s.myCore.stream k) ∧ t.me.pc = s.nextPc ∧
         t.me.regs = s.me.regs ∧ (∀ c, c ≠ s.cur.core → t.core c = s.core c))) ∧
  (∀ (s : State) (q : QReg),
     (∀ d, Ready (.qstat d q) s → GivesG (.qstat d q) s d (match s.boundRing q with
       | none => 0
       | some r => wordOf (2 ^ 63 + r * 2 ^ 16 + (s.myCore.stream r).occ))) ∧
     (∀ d, Ready (.qget d q) s → s.boundRing q = none → CanTrap s →
       ∃ t, exec (.qget d q) s = .next t ∧ Trapped s t 0x18 0 (wordOf q.toNat)) ∧
     (∀ d r, Ready (.qget d q) s → s.boundRing q = some r → (s.myCore.stream r).occ = 0 →
       ∃ t, exec (.qget d q) s = .next t ∧ Stalled s t .ring) ∧
     (∀ d r, Ready (.qget d q) s → s.boundRing q = some r → 1 ≤ (s.myCore.stream r).occ →
       Sound s ((s.myCore.stream r).place s.cur.core 0) 8 →
       ∃ t x, exec (.qget d q) s = .next t ∧ (t.myCore.stream r).occ = (s.myCore.stream r).occ - 1 ∧
         (t.myCore.stream r).rd = ((s.myCore.stream r).rd + 1) % 2 ^ (s.myCore.stream r).logk ∧
         t.me = { s.me with pc := s.nextPc, regs := s.me.regs.markG d.toNat } ∧ (∀ l, t.byteAt l = s.byteAt l) ∧
         t.returns = s.returns ++ [x] ∧ x.work = s.me.id ∧ x.dest = .g d.toNat ∧ x.ret = .value ∧
         x.data = s.readNat ((s.myCore.stream r).place s.cur.core 0) 8) ∧
     (∀ v, Ready (.qgetv v q) s → s.boundRing q = none → CanTrap s →
       ∃ t, exec (.qgetv v q) s = .next t ∧ Trapped s t 0x18 0 (wordOf q.toNat)) ∧
     (∀ v r, Ready (.qgetv v q) s → s.boundRing q = some r → (s.myCore.stream r).occ ≤ 1 →
       ∃ t, exec (.qgetv v q) s = .next t ∧ Stalled s t .ring) ∧
     (∀ v r, Ready (.qgetv v q) s → s.boundRing q = some r → 2 ≤ (s.myCore.stream r).occ →
       Sound s ((s.myCore.stream r).place s.cur.core 0) 8 → Sound s ((s.myCore.stream r).place s.cur.core 1) 8 →
       ∃ t x, exec (.qgetv v q) s = .next t ∧ (t.myCore.stream r).occ = (s.myCore.stream r).occ - 2 ∧
         (t.myCore.stream r).rd = ((s.myCore.stream r).rd + 2) % 2 ^ (s.myCore.stream r).logk ∧
         t.me = { s.me with pc := s.nextPc, regs := s.me.regs.markV v.toNat } ∧ (∀ l, t.byteAt l = s.byteAt l) ∧
         t.returns = s.returns ++ [x] ∧ x.work = s.me.id ∧ x.dest = .v v.toNat ∧ x.ret = .value ∧
         x.data = s.readNat ((s.myCore.stream r).place s.cur.core 0) 8 + 2 ^ 64 * s.readNat ((s.myCore.stream r).place s.cur.core 1) 8))

/-- R27, R304: `waita` of a thread on a word that its place lets it watch, with T below 2^32: when the word differs from B the group completes
and nothing else changes; when it equals B the thread parks behind the group, watching the line, for T microseconds, or without limit
for T = 0. T counts whole microseconds from the park (R304; the rest of the present one is log entry 90's), and what the thread's park area
in HBM would hold stands in the model's state, so that no byte changes (log entry 90, the model's choice).

R27, R308: `park` of a thread for T microseconds, 1 to 2^32 - 1: the thread parks behind the group until then. T = 0 leaves it ready at
once; a T of 2^32 or more traps with ILLEGAL (1) and EINFO B00H. That no byte of memory changes, the thread's park area in HBM among
them, and that the rest of the present microsecond does not count, is log entry 90, the model's choice. -/
def Obligations.WaitsAndParks : Prop :=
  (∀ (s : State) (d a b : GReg) (ea eb : Bool) (p : Page), Ready (.waita d a b ea eb) s → s.me.thread = true → (s.g d).toNat < 2 ^ 32 →
     s.findAligned (s.g a) 8 0 0 = .page p → waitaPlace p = true → s.drained = true → Room s p true →
     s.homeOk p.loc 8 34 = true → s.uninit p.loc 8 = 0 → Sound s p.loc 8 →
     (s.readNat p.loc 8 ≠ (s.g b).toNat → GoesOver (.waita d a b ea eb) s p true s.nextPc) ∧
     (s.readNat p.loc 8 = (s.g b).toNat → CanPark s →
       ∃ t, exec (.waita d a b ea eb) s = .next t ∧ (∀ l, t.byteAt l = s.byteAt l) ∧ Watches t p.loc.key s.nextId ∧
         Parks s t s.nextPc (.line (p.loc.key / 64)) (if s.g d = 0 then none else some (wakeAt s (s.g d).toNat)) false)) ∧
  (∀ (s : State) (a : GReg) (ea : Bool), Ready (.park a ea) s → s.me.thread = true →
     (1 ≤ (s.g a).toNat → (s.g a).toNat < 2 ^ 32 → CanPark s →
       ∃ t, exec (.park a ea) s = .next t ∧ Parks s t s.nextPc .time (some (wakeAt s (s.g a).toNat)) false ∧
         ∀ l, t.byteAt l = s.byteAt l) ∧
     (s.g a = 0 → CanPark s → RingRoom s.myCore s.me.lvl → (∀ p ∈ s.parked, p.id ≠ s.nextId) →
       ∃ t p, exec (.park a ea) s = .next t ∧ t.curSlot.busy = false ∧ t.parked = s.parked ++ [p] ∧ p.id = s.nextId ∧ p.ready = true ∧
         p.w = { s.me with pc := s.nextPc } ∧ ∀ l, t.byteAt l = s.byteAt l) ∧
     (2 ^ 32 ≤ (s.g a).toNat → CanTrap s → ∃ t, exec (.park a ea) s = .next t ∧ Trapped s t 1 0 (wordOf 0xB00)))

/-- R44, R236, R305: a barrier whose arrival of this thread counts as completed lets it go on: the group completes, the arrival is gone, and of
the machine nothing else changes. A thread that has not arrived stalls at the barrier; while an earlier access of it is not performed
it does not arrive.

R290 step 2: `waita`, a barrier, `bowait`, `park` or `swapx` issued by anything other than a team thread traps with BLOCKINTASK (4);
EADDR is the address that it names and EINFO is 1 for one that writes there (a barrier and `park` name none: EADDR 0 is log entry 39's). -/
def Obligations.Barriers : Prop :=
  (∀ (i : Instr) (sc : Scope) (s : State) (x : Team), Bar i sc → Ready i s → s.me.thread = true → MyTeam s x →
     (tblGet (Scope.sys, false) x.arrived s.me.threadNo = (sc, true) →
       ∃ t, exec i s = .next t ∧ Went s t s.me.regs ∧ { t with cores := s.cores, teams := s.teams } = s ∧
         t.teams = s.teams.map (fun y => if some y.id == s.me.team then { y with arrived := tblDel y.arrived s.me.threadNo } else y)) ∧
     (tblGet (Scope.sys, false) x.arrived s.me.threadNo = (sc, false) → ∃ t, exec i s = .next t ∧ Stalled s t .barrier) ∧
     (tblGet (Scope.sys, false) x.arrived s.me.threadNo ≠ (sc, true) → tblGet (Scope.sys, false) x.arrived s.me.threadNo ≠ (sc, false) →
       s.drained = false → ∃ t, exec i s = .next t ∧ Stalled s t .ordering)) ∧
  (∀ (i : Instr) (s : State) (va einfo : Word), ThreadOnly s i va einfo → Ready i s → CanTrap s → s.me.thread = false →
     ∃ t, exec i s = .next t ∧ Trapped s t 4 va einfo)

/-- R170 to R172, R306, R307, on an object that the owner admits and that holds no double-bit error. `boinit` of a target T from 1 on: COUNT 0, TARGET T, GEN and WSUM kept, the
other bits 0. `boarr` of N on an object with a target: COUNT plus N modulo TARGET, and GEN counts the completions; the other bits stay.
`bowait` with the number of an earlier generation completes with nothing changed; with the current one, no wake-all and no status it
parks at its own address, watching the object, and WSUM counts it. That `boinit` writes the other bits 0 and the 16 bytes whole is log entry
40, that a park leaves every other byte of memory is log entry 90: the model's choices. -/
def Obligations.BarrierObjects : Prop :=
  ∀ (s : State) (a b : GReg) (ea eb : Bool) (p : Page), s.findObject (s.g a) = .page p → s.homeOk p.loc 16 36 = true →
    memWf s.mem = true → Sound s p.loc 16 →
    (Ready (.boinit a b ea eb) s → (s.g b).toNat % 2 ^ 32 ≠ 0 → s.drained = true → Room s p true →
      ∃ t, exec (.boinit a b ea eb) s = .next t ∧ Went s t s.me.regs ∧ OnlyMemory (s.cross p false) t ∧ Stored s t p.loc 16 ((s.g b).toNat % 2 ^ 32 * 2 ^ 32 +
        2 ^ 64 * (s.readNat (p.loc.plus 14) 2 * 2 ^ 48 + boGen s p.loc))) ∧
    (Ready (.boarr a b ea eb) s → s.settled = true → Room s p false → s.uninit p.loc 16 = 0 → boTarget s p.loc ≠ 0 →
      ∃ t, exec (.boarr a b ea eb) s = .next t ∧ Went s t s.me.regs ∧ OnlyMemory (s.cross p false) t ∧
        boTarget t p.loc = boTarget s p.loc ∧
        boCount t p.loc = (boCount s p.loc + (s.g b).toNat % 2 ^ 32) % boTarget s p.loc ∧
        boGen t p.loc = (boGen s p.loc + (boCount s p.loc + (s.g b).toNat % 2 ^ 32) / boTarget s p.loc) % 2 ^ 32 ∧
        t.readNat (p.loc.plus 12) 4 = s.readNat (p.loc.plus 12) 4 ∧
        ∀ k : Loc, (k.key < p.loc.key ∨ p.loc.key + 16 ≤ k.key) → t.byteAt k = s.byteAt k) ∧
    (Ready (.bowait a b ea eb) s → s.me.thread = true → s.drained = true → Room s p true → s.uninit p.loc 16 = 0 → s.curSlot.held = none →
      (boGen s p.loc ≠ (s.g b).toNat % 2 ^ 32 → GoesOver (.bowait a b ea eb) s p true s.nextPc) ∧
      (boGen s p.loc = (s.g b).toNat % 2 ^ 32 → fld (s.readNat (p.loc.plus 8) 8) 32 4 = 0 → CanPark s →
        ∃ t, exec (.bowait a b ea eb) s = .next t ∧ Parks s t s.cur.pc (.object p.loc) none false ∧ Watches t p.loc.key s.nextId ∧
          Stored s t (p.loc.plus 14) 2 (min (s.readNat (p.loc.plus 14) 2 + 1) 0xFFFF)))

/-- R122, R125, R164, R310, R313, R314, once every earlier access of the slot is performed (for `fork` and `post` apart from accesses to UO pages, R227). `fork`: at 4,096 entries `gd` is 1 and nothing
else changes; below, where the place of the new entry takes writes, the task's entry is at the bottom of the deque, its four words stand
at that place, little-endian, and `gd` is 0. `post` with room on chip puts an entry of KIND 2 at the tail of the ring of its level.
`cdinit` of a well-formed record with a count stores its 32 bytes whole; a malformed one traps with ILLEGAL and EINFO 700H (R309). -/
def Obligations.WorkCreation : Prop :=
  ∀ (s : State),
    (∀ (d a b : GReg) (ea eb : Bool) (al pc4 : Nat), Ready (.fork d a b ea eb) s → s.settled = true → 1 ≤ al → al ≤ 4 → pc4 < 2 ^ 55 →
      s.g a = entryWord al pc4 3 → s.myCore.dqb ≠ 0 →
      (4096 ≤ s.myCore.deque.length → GivesG (.fork d a b ea eb) s d 1) ∧
      (∀ l, s.myCore.deque.length < 4096 → s.dequePlace s.cur.core s.myCore.deque.length = .place l → Sound s l 32 → memWf s.mem = true →
        ∃ t, exec (.fork d a b ea eb) s = .next t ∧ OnlyMemory s t ∧
        Stored s t l 32 (5 * 2 ^ 61 + al * 2 ^ 58 + pc4 * 4 + 3 + 2 ^ 64 * (s.g b).toNat) ∧
        t.myCore.deque = s.myCore.deque ++ [plainEntry 5 al pc4 3 (s.g b) s.me.team] ∧ WroteG s.me.regs t.me.regs d.toNat 0 ∧
        t.me.pc = s.nextPc ∧ (∀ c, c ≠ s.cur.core → t.core c = s.core c) ∧
        ∀ n, n ≠ s.cur.slot → t.slot s.cur.core n = s.slot s.cur.core n)) ∧
    (∀ (a b : GReg) (ea eb : Bool) (al pc4 lvl : Nat), Ready (.post a b ea eb) s → s.settled = true → 1 ≤ al → al ≤ 4 → pc4 < 2 ^ 55 → lvl < 4 →
      (lvl = 0 → s.me.ctl.fw = true) → s.g a = entryWord al pc4 lvl → RingRoom s.myCore lvl →
      ∃ t, exec (.post a b ea eb) s = .next t ∧ OnlyCores s t ∧ t.me = { s.me with pc := s.nextPc } ∧
        (t.myCore.ring lvl).chip ++ (t.myCore.ring lvl).spill = (s.myCore.ring lvl).chip ++ (s.myCore.ring lvl).spill ++
          [plainEntry 2 al pc4 lvl (s.g b) (if lvl = 3 then s.me.team else none)] ∧
        (∀ k, k ≠ lvl → t.myCore.ring k = s.myCore.ring k) ∧ (∀ c, c ≠ s.cur.core → t.core c = s.core c)) ∧
    (∀ (a b : GReg) (ea eb : Bool) (p q : Page), Ready (.cdinit a b ea eb) s → s.drained = true → memWf s.mem = true →
      s.findRecord (s.g a) = .page p → s.homeOk p.loc 32 35 = true → Room s p false → Room s q true → s.findAligned (s.g b) 32 0 0 = .page q → q.denies s.atL0 (.load false) 32 false = none →
      q.loc.sp ≠ .ctl → s.homeOk q.loc 32 34 = true → s.uninit q.loc 32 = 0 → Sound s q.loc 32 → Sound s p.loc 32 →
      (recordOk (s.readNat q.loc 32) = true → s.readNat q.loc 4 ≠ 0 → (s.readNat q.loc 8 / 2 ^ 62 = 0 → s.me.ctl.fw = true) →
        Room (s.cross q true) p false →
        ∃ t, exec (.cdinit a b ea eb) s = .next t ∧ Went s t s.me.regs ∧ OnlyMemory ((s.cross q true).cross p false) t ∧ Stored s t p.loc 32 (s.readNat q.loc 32)) ∧
      (recordOk (s.readNat q.loc 32) = false → CanTrap s → ∃ t, exec (.cdinit a b ea eb) s = .next t ∧ Trapped (s.cross q true) t 1 0 (wordOf 0x700)))

/-- R168, R169, R311, on a join cell that its owner admits and with every earlier access performed. A count of 1 without PK becomes 0 and the
issuer goes on at CONT. A count above 1 goes down by one: a thread sets PK where it is 0 and parks to go on at CONT, a task ends. A
count of 1 with PK ends the issuer and clears the cell's word. Every byte outside the word stays: for a thread that parks that is log entry
90, and CONT's address without a sign log entry 60: the model's choices. -/
def Obligations.JoinOutcomes : Prop :=
  ∀ (s : State) (a : GReg) (ea : Bool) (p : Page) (n pk : Nat), Ready (.join a ea) s → memWf s.mem = true → s.findCell (s.g a) = .page p →
    s.settled = true → Room s p true → s.homeOk p.loc 16 36 = true → s.uninit p.loc 16 = 0 → Sound s p.loc 16 → s.me.events = false → s.me.regs.noneEmpty = true →
    s.readNat p.loc 8 = pk * 2 ^ 32 + n → pk ≤ 1 → n < 2 ^ 31 →
    (n = 1 → pk = 0 → ∃ t, exec (.join a ea) s = .next t ∧ OnlyMemory (s.cross p true) t ∧ Stored s t p.loc 8 0 ∧
      t.me = { s.me with pc := wordOf (fld (s.readNat (p.loc.plus 8) 8) 2 55 * 4) }) ∧
    (1 < n → pk = 0 → s.me.thread = true → CanPark s → ∃ t, exec (.join a ea) s = .next t ∧
      Stored s t p.loc 8 (2 ^ 32 + n - 1) ∧ Watches t p.loc.key s.nextId ∧
      Parks s t (wordOf (fld (s.readNat (p.loc.plus 8) 8) 2 55 * 4)) (.cell p.loc) none false) ∧
    (1 < n → s.me.thread = false → ∃ t, exec (.join a ea) s = .next t ∧ Stored s t p.loc 8 (pk * 2 ^ 32 + n - 1) ∧ Ends s t) ∧
    (n = 1 → pk = 1 → s.me.thread = false → ∃ t, exec (.join a ea) s = .next t ∧ Stored s t p.loc 8 0 ∧ Ends s t)

/-- R31, R312: `rfork` of a thread with a well-formed descriptor, once every earlier access is performed: over 0 indexes it goes on at the
cell's CONT and nothing else changes; over more, the cell's COUNT is the number of shares, one where no core is idle and never more
than the indexes over GRAIN rounded up or the idle cores, its PK is set, and the thread parks to go on at CONT. That every other byte stays
when it parks is log entry 90, and CONT's address without a sign log entry 60: the model's choices. -/
def Obligations.RforkOutcomes : Prop :=
  ∀ (s : State) (a b : GReg) (ea eb : Bool) (d : Nat) (q p : Page), Ready (.rfork a b ea eb) s → memWf s.mem = true → s.me.thread = true →
    s.settled = true → s.findAligned (s.g b) 32 0 0 = .page q → q.denies s.atL0 (.load false) 32 false = none →
    s.mayAct (s.g b) q 32 .vload = true → s.homeOk q.loc 32 34 = true → s.uninit q.loc 32 = 0 → Sound s q.loc 32 →
    d = s.fetchNat q.loc 32 → descOk d = true → (s.cross q true).findCell (blockWord d 2) = .page p →
    Room (s.cross q true) p true → s.homeOk p.loc 16 36 = true → Sound s p.loc 16 →
    (s.g a = 0 → s.uninit p.loc 16 = 0 → ∃ t, exec (.rfork a b ea eb) s = .next t ∧
      Retired ((s.cross q true).cross p true) t (wordOf (fld (s.readNat (p.loc.plus 8) 8) 2 55 * 4)) s.me.regs s.me.ctl) ∧
    (s.g a ≠ 0 → CanPark s → RingRoom s.myCore 3 →
      (s.recruits (bits (blockWord d 0) 1 0) (bits (blockWord d 0) 60 58)).Nodup →
      (s.recruits (bits (blockWord d 0) 1 0) (bits (blockWord d 0) 60 58)).length < 2 ^ 32 → ∃ t, exec (.rfork a b ea eb) s = .next t ∧
      Stored s t p.loc 8 (2 ^ 32 + max 1 (min (s.recruits (bits (blockWord d 0) 1 0) (bits (blockWord d 0) 60 58)).length
        (((s.g a).toNat + bits (blockWord d 3) 31 0 - 1) / bits (blockWord d 3) 31 0))) ∧
      t.curSlot.busy = false ∧ ∃ x, t.parked = s.parked ++ [x] ∧ x.wait = .cell p.loc ∧
        x.w = { s.me with pc := wordOf (fld (s.readNat (p.loc.plus 8) 8) 2 55 * 4) })

/-- R17 to R19, R315, for an allotment A of 1 to 4 no smaller than the slot's own. `grow` to its own gives 0 and changes nothing else; with the
steps free, no higher level waiting and a thread's core within eight thread steps it gives 0 and ALLOT is A, the registers below
kept, those above zero; with too few free steps it gives 1 and ALLOT stays. `shrink` to A no larger gives the steps freed, ALLOT is A,
the registers below A stay. -/
def Obligations.AllotmentChanges : Prop :=
  ∀ (s : State) (d a : GReg) (ea : Bool), tblRising 0 s.me.regs.g = true →
    (Ready (.grow d a ea) s → 1 ≤ (s.g a).toNat → (s.g a).toNat ≤ 4 → s.me.ctl.allot ≤ (s.g a).toNat →
      ((s.g a).toNat = s.me.ctl.allot → GivesG (.grow d a ea) s d 0) ∧
      ((s.g a).toNat ≠ s.me.ctl.allot → s.me.thread = false → s.myCore.freeSteps < (s.g a).toNat - s.me.ctl.allot →
        GivesG (.grow d a ea) s d 1) ∧
      ((s.g a).toNat ≠ s.me.ctl.allot → s.me.thread = true → 8 < s.myCore.threadSteps + ((s.g a).toNat - s.me.ctl.allot) →
        GivesG (.grow d a ea) s d 2) ∧
      ((s.g a).toNat ≠ s.me.ctl.allot → s.me.thread = false → (s.g a).toNat - s.me.ctl.allot ≤ s.myCore.freeSteps →
        s.higherWaits s.cur.core (s.cur.slot / 2) = false →
        ∃ t, exec (.grow d a ea) s = .next t ∧ OnlyCores s t ∧ t.me.ctl = { s.me.ctl with allot := (s.g a).toNat } ∧
          t.me.pc = s.nextPc ∧ (∀ r, r ≠ d.toNat → r < 16 * s.me.ctl.allot → t.me.regs.getG r = s.me.regs.getG r) ∧
          t.me.regs.getG d.toNat = 0)) ∧
    (Ready (.shrink d a ea) s → 1 ≤ (s.g a).toNat → (s.g a).toNat ≤ s.me.ctl.allot → s.me.ctl.allot ≤ 4 →
      d.toNat < 16 * (s.g a).toNat → s.me.regs.noneEmpty = true →
      ∃ t, exec (.shrink d a ea) s = .next t ∧ OnlyCores s t ∧ t.me.ctl = { s.me.ctl with allot := (s.g a).toNat } ∧
        t.me.pc = s.nextPc ∧ (∀ r, r ≠ d.toNat → r < 16 * (s.g a).toNat → t.me.regs.getG r = s.me.regs.getG r) ∧
        t.me.regs.getG d.toNat = if d = 0 then 0 else wordOf (s.me.ctl.allot - (s.g a).toNat))

/-- R34, R316: `stgpush` to a stage 0 to 7 of a core that is no management core, once every earlier access is performed (apart from accesses
to UO pages, R227): with fewer than 256
items in a configured stage the item is at its ring's tail and `gd` is 0; else `gd` is 1 and nothing else changes. `stgsub` of a word
below 16 writes the core's subscription. -/
def Obligations.StageMembers : Prop :=
  ∀ (s : State),
    (∀ (d a b : GReg) (ea eb : Bool) (i : Nat), Ready (.stgpush d a b ea eb) s → s.settled = true → isMc s.cur.core = false →
      s.g a = wordOf i → i < 8 →
      ((tblGet [] (s.cluster (clusterOf s.cur.core)).stages i).length < 256 →
        bits ((s.cluster (clusterOf s.cur.core)).cfgWord i 0) 62 60 ≠ 0 →
        ∃ t, exec (.stgpush d a b ea eb) s = .next t ∧ { t with cores := s.cores, clusters := s.clusters } = s ∧
          tblGet [] (t.cluster (clusterOf s.cur.core)).stages i =
            tblGet [] (s.cluster (clusterOf s.cur.core)).stages i ++ [s.g b] ∧ WroteG s.me.regs t.me.regs d.toNat 0 ∧
          t.me.pc = s.nextPc) ∧
      (256 ≤ (tblGet [] (s.cluster (clusterOf s.cur.core)).stages i).length → GivesG (.stgpush d a b ea eb) s d 1)) ∧
    (∀ (a : GReg) (ea : Bool), Ready (.stgsub a ea) s → (s.g a).toNat < 16 →
      ∃ t, exec (.stgsub a ea) s = .next t ∧ OnlyCores s t ∧ t.myCore.stg = (s.g a).toNat ∧ t.me = { s.me with pc := s.nextPc } ∧
        (∀ c, c ≠ s.cur.core → t.core c = s.core c) ∧ ∀ n, n ≠ s.cur.slot → t.slot s.cur.core n = s.slot s.cur.core n)

/-- R317 to R319: `send` to a core of the sender's own context and `sendr` with a well-formed route word complete: one packet with the words at
A, the destination, the class and the sender's TOPX leaves the core; memory, registers and all else stay. -/
def Obligations.SendsComplete : Prop :=
  ∀ (s : State) (cls : BitVec 6) (a b : GReg) (ea eb nrw : Bool) (dst slot words bf o : Nat), CanSend s a words bf o → dst < 2 ^ 15 → slot < 128 →
    (Ready (.send cls a b ea eb) s → s.g b = destWord dst slot words nrw → s.ownsCore s.me.ctl.fw s.me.ctl.ctx dst = true →
      ∃ t p, exec (.send cls a b ea eb) s = .next t ∧ Went s t s.me.regs ∧
        { t with cores := s.cores, packets := s.packets, nextId := s.nextId } = s ∧ t.packets = s.packets ++ [p] ∧ p.dst = dst ∧
        p.cls = cls.toNat ∧ p.slot = slot ∧ p.nrw = nrw ∧ p.topx = (nfcHere s).getLsbD 16 ∧ p.src = s.cur.core ∧ p.route = none ∧
        p.words = (List.range words).map (fun i => wordOf (s.readNat ((ownLoc s bf o).plus (8 * i)) 8))) ∧
    (∀ route : IWord, Ready (.sendr cls a b ea eb route) s → s.g b = destWord 0 slot words nrw → routeOk route = true →
      ∃ t p, exec (.sendr cls a b ea eb route) s = .next t ∧ Went s t s.me.regs ∧
        { t with cores := s.cores, packets := s.packets, nextId := s.nextId } = s ∧ t.packets = s.packets ++ [p] ∧
        p.cls = cls.toNat ∧ p.slot = slot ∧ p.nrw = nrw ∧ p.topx = (nfcHere s).getLsbD 16 ∧ p.src = s.cur.core ∧ p.route = some route ∧
        p.words = (List.range words).map (fun i => wordOf (s.readNat ((ownLoc s bf o).plus (8 * i)) 8)))

/-- R128, R320: `cmask` sets the bits of A in CMASK. `cunmask` clears them; a start that pends in a class it opens goes to the tail of its
ring, here one with room on chip. `cpend` gives the classes with a pending start and, for A = 0, changes nothing else. -/
def Obligations.ClassMasks : Prop :=
  ∀ (s : State) (a : GReg) (ea : Bool),
    (Ready (.cmask a ea) s → ∃ t, exec (.cmask a ea) s = .next t ∧
      WentWith s t s.me.regs (fun k => { k with cmask := k.cmask ||| s.g a })) ∧
    (Ready (.cunmask a ea) s → s.myCore.pending = [] → ∃ t, exec (.cunmask a ea) s = .next t ∧
      WentWith s t s.me.regs (fun k => { k with cmask := k.cmask &&& ~~~(s.g a) })) ∧
    (∀ p, Ready (.cunmask a ea) s → s.myCore.pending = [p] → s.myCore.cmask.getLsbD p.cls = true → (s.g a).getLsbD p.cls = true →
      RingRoom s.myCore p.entry.lvl → ∃ t, exec (.cunmask a ea) s = .next t ∧ t.myCore.pending = [] ∧
        (t.myCore.ring p.entry.lvl).chip ++ (t.myCore.ring p.entry.lvl).spill =
          (s.myCore.ring p.entry.lvl).chip ++ (s.myCore.ring p.entry.lvl).spill ++ [p.entry]) ∧
    (∀ d, Ready (.cpend d a ea) s → s.g a = 0 →
      ∃ v : Word, (∀ c, c < 64 → v.getLsbD c = s.myCore.pending.any (fun p => p.cls == c)) ∧ GivesG (.cpend d a ea) s d v)

/-- R201, R321: `swapx` of B rows at A, on a core within its tile: on the diagonal it completes with no effect; where the mirror core's thread
waits with the same number of rows, all rows written and sound, the rows of the two A buffers change places, both groups complete and every other byte stays; where
none waits, the slot stalls. -/
def Obligations.SwapxOutcomes : Prop :=
  ∀ (s : State) (a b : GReg) (ea eb : Bool) (m : Nat), Ready (.swapx a b ea eb) s → s.me.thread = true → (s.g a).toNat % 64 = 0 →
    1 ≤ (s.g b).toNat → (s.g b).toNat ≤ 768 → (s.g a).toNat / 64 + (s.g b).toNat ≤ s.spcap s.cur.core 2 →
    bits s.me.ctl.swp 14 12 ≠ 0 → mirrorOf s.me.ctl.swp s.cur.core = some m → s.settled = true →
    (m = s.cur.core → GoesTo (.swapx a b ea eb) s s.nextPc) ∧
    (m ≠ s.cur.core → s.partnerAt s.cur.core m = none →
      ∃ t, exec (.swapx a b ea eb) s = .next t ∧ Stalled s t (.partner (s.g a).toNat (s.g b).toNat)) ∧
    (∀ n off, m ≠ s.cur.core → memWf s.mem = true → s.partnerAt s.cur.core m = some (n, off, (s.g b).toNat) →
      off + 64 * (s.g b).toNat ≤ 768 * 64 → s.uninit (ownLoc s 2 (s.g a).toNat) (64 * (s.g b).toNat) = 0 →
      s.uninit { sp := .buf m 2, off := off } (64 * (s.g b).toNat) = 0 → Sound s (ownLoc s 2 (s.g a).toNat) (64 * (s.g b).toNat) →
      Sound s { sp := .buf m 2, off := off } (64 * (s.g b).toNat) →
      ∃ t, exec (.swapx a b ea eb) s = .next t ∧ t.me = { s.me with pc := s.nextPc } ∧
        (t.slot m n).stall = none ∧ (t.slot m n).w = { (s.slot m n).w with
          pc := (s.slot m n).w.pc + wordOf (4 * (s.slot m n).len) } ∧
        (∀ k, k < 64 * (s.g b).toNat →
          t.byteAt { sp := .buf s.cur.core 2, off := (s.g a).toNat + k } = s.byteAt { sp := .buf m 2, off := off + k } ∧
          t.byteAt { sp := .buf m 2, off := off + k } = s.byteAt { sp := .buf s.cur.core 2, off := (s.g a).toNat + k }) ∧
        ∀ l : Loc, (∀ k, k < 64 * (s.g b).toNat → l.key ≠ Loc.key { sp := .buf s.cur.core 2, off := (s.g a).toNat + k } ∧
          l.key ≠ Loc.key { sp := .buf m 2, off := off + k }) → t.byteAt l = s.byteAt l)

/-- Every bit member and every member that moves lanes completes on every operand: `vd` takes the lanes of the rule, no flag is raised, every
other register and all else stay.

R337: `vext` writes the lane to a `g` register, sign-extended for a signed type and zero-extended for any other; an index at or above a
narrow type's lane count traps with ILLEGAL (1) and EINFO 900H, and so does `vins`. -/
def Obligations.VectorMoves : Prop :=
  (∀ (i : Instr) (s : State) (d : VReg) (P : Vec → Prop), Moves s i d P → i.wellFormed = true → Ready i s → ∃ v, P v ∧ GivesV i s d v) ∧
  (∀ (s : State) (d a : VReg) (idx : BitVec 5) (ty : Ty),
     (Ready (.vext d a idx ty) s → idx.toNat < 128 / laneW s.nfc ty → GivesG (.vext d a idx ty) s (d.zeroExtend 6)
       (if tySigned ty then BitVec.ofInt 64 (fieldS (tyWidth ty) (ln (tyWidth ty) (s.vr a) idx.toNat))
        else wordOf (ln (laneW s.nfc ty) (s.vr a) idx.toNat % 2 ^ codeBits s ty))) ∧
     (Ready (.vext d a idx ty) s → CanTrap s → 128 / laneW s.nfc ty ≤ idx.toNat →
       ∃ t, exec (.vext d a idx ty) s = .next t ∧ Trapped s t 1 0 (wordOf 0x900)) ∧
     (Ready (.vins d a idx ty) s → CanTrap s → 128 / laneW s.nfc ty ≤ idx.toNat →
       ∃ t, exec (.vins d a idx ty) s = .next t ∧ Trapped s t 1 0 (wordOf 0x900)))

/-- Every member with an integer type and no modifier completes on every operand: its lanes are those of the rule, no flag is raised, every
other register and all else stay. -/
def Obligations.VectorIntegers : Prop :=
  ∀ (i : Instr) (s : State) (d : VReg) (ty : Ty) (P : Vec → Prop), IntLanes s i d ty P → tyIsInt ty = true → i.wellFormed = true →
    Ready i s → s.cur.mod = none → ∃ v, P v ∧ GivesV i s d v

/-- R57, R323, R325 to R335, R339, R342, R345: every lane member completes when no flag that it raises has its enable set in FPC: `vd` takes the
lanes, with zeros above them, the flags of all lanes join FPC, every other register and all else stay. When one has, it traps with
FPEXC (CH) and EINFO the flags, and nothing is written. Without a modifier, a flush bit or an enable, and with NFC at its reset value, every
lane whose inputs are those of a worked case takes that case's code, and FPC its flags. -/
def Obligations.VectorLanes : Prop :=
  (∀ (i : Instr) (s : State) (d : VReg) (w : Nat) (ins : List (VReg × Nat × Nat × Nat)) (rm r fl : Nat), FloatCase i d w ins rm r fl → Ready i s →
    s.cur.mod = none → s.fpc.toNat / 2 ^ 9 % 2 ^ 5 = 0 → s.fpc.toNat % 2 ^ 4 = rm → s.nfc = 0xA307 →
    ∃ t, exec i s = .next t ∧ ∀ k, k < 128 / w → (∀ x ∈ ins, k + x.2.2.1 < 128 / x.2.1 ∧ ln x.2.1 (s.vr x.1) (k + x.2.2.1) = x.2.2.2) →
      ln w (t.me.regs.getV d.toNat) k = r ∧ t.me.ctl.fpc &&& wordOf (16 * fl) = wordOf (16 * fl)) ∧
  ∀ (i : Instr) (s : State) (d : VReg) (w : Nat) (l : List (Nat × Flags)), Lanes s i d w l → i.wellFormed = true → Ready i s →
    ((flagsOf l).toNat &&& bits s.fpc 13 9 = 0 → GivesVF i s d (BitVec.ofNat 128 (ofLanes w (l.map (fun e => e.1)))) (flagsOf l)) ∧
    ((flagsOf l).toNat &&& bits s.fpc 13 9 ≠ 0 → CanTrap s → ∃ t, exec i s = .next t ∧ Trapped s t 0xC 0 (wordOf (flagsOf l).toNat))

/-- R65, R341, R57: a reduction of floating lanes completes when FPC enables no flag; every bit of `vd` above lane 0 is zero and FPC alone
changes beside it. Without a modifier, `vred.add` gives the value and the flags of the fixed tree of rounded sums, with NV where a leaf is a
signalling NaN. `vred.min` and `vred.max` give, where no lane is a NaN, the least or greatest leaf with -0 below +0, with no flag. A NaN in
any lane gives the canonical quiet NaN. For the FP32 lanes 1, 2^24, 1, -2^24 under RNE `vred.add` gives 1 with NX.

R46, R47, R326, R328, R331, R334: without a modifier and with no enable set in FPC, a lane with a NaN among its inputs gives the
canonical quiet NaN of the type. -/
def Obligations.FloatReductions : Prop :=
  (∀ (s : State) (d a : VReg) (ty : Ty), ty = .f64 ∨ ty = .f32 ∨ ty = .f16 ∨ ty = .bf16 → bits s.fpc 13 9 = 0 →
     (∀ i, i ∈ [Instr.vredAdd d a ty, Instr.vredMin d a ty, Instr.vredMax d a ty] → Ready i s →
       ∃ v f, v.toNat < 2 ^ tyWidth ty ∧ GivesVF i s d v f ∧
         (s.cur.mod = none → (∃ j, j < 128 / tyWidth ty ∧ isNanCode ty (ln (tyWidth ty) (s.vr a) j)) → v.toNat = quietNan ty) ∧
         ((∃ j, j < 128 / tyWidth ty ∧ isSnanCode ty (ln (tyWidth ty) (s.vr a) j)) → f.nv = true)) ∧
     (Ready (.vredAdd d a ty) s → s.cur.mod = none → ∃ v f, GivesVF (.vredAdd d a ty) s d v f ∧
       v.toNat = (redTree (Env.bin { s.env with fzi := false } ty (fun x y => sumF s.env.rm [x, y])) (leaves s ty a)
         (128 / tyWidth ty).log2 0).1 ∧
       ((∀ j, j < 128 / tyWidth ty → ¬isSnanCode ty (ln (tyWidth ty) (s.vr a) j)) →
         f = (redTree (Env.bin { s.env with fzi := false } ty (fun x y => sumF s.env.rm [x, y])) (leaves s ty a)
           (128 / tyWidth ty).log2 0).2)) ∧
     (Ready (.vredMin d a ty) s → s.cur.mod = none → (∀ j, j < 128 / tyWidth ty → ¬isNanCode ty (ln (tyWidth ty) (s.vr a) j)) →
       ∃ v, GivesVF (.vredMin d a ty) s d v Flags.zero ∧ (∃ j, j < 128 / tyWidth ty ∧ v.toNat = leaves s ty a j) ∧
         ∀ j, j < 128 / tyWidth ty → codeOrder ty v.toNat ≤ codeOrder ty (leaves s ty a j)) ∧
     (Ready (.vredMax d a ty) s → s.cur.mod = none → (∀ j, j < 128 / tyWidth ty → ¬isNanCode ty (ln (tyWidth ty) (s.vr a) j)) →
       ∃ v, GivesVF (.vredMax d a ty) s d v Flags.zero ∧ (∃ j, j < 128 / tyWidth ty ∧ v.toNat = leaves s ty a j) ∧
         ∀ j, j < 128 / tyWidth ty → codeOrder ty (leaves s ty a j) ≤ codeOrder ty v.toNat) ∧
     (Ready (.vredAdd d a .f32) s → s.cur.mod = none → s.fpc.toNat % 2 ^ 4 = 0 →
       s.vr a = BitVec.ofNat 128 (0x3F800000 + 0x4B800000 * 2 ^ 32 + 0x3F800000 * 2 ^ 64 + 0xCB800000 * 2 ^ 96) →
       GivesVF (.vredAdd d a .f32) s d (BitVec.ofNat 128 0x3F800000) { Flags.zero with nx := true })) ∧
  (∀ (i : Instr) (s : State) (d : VReg) (ty : Ty) (rs : List VReg), NanThrough i d ty rs → i.wellFormed = true → Ready i s → s.cur.mod = none →
     bits s.fpc 13 9 = 0 → ∃ t, exec i s = .next t ∧
       ∀ k r, k < 128 / tyWidth ty → r ∈ rs → isNanCode ty (ln (tyWidth ty) (s.vr r) k) →
         ln (tyWidth ty) (t.me.regs.getV d.toNat) k = quietNan ty)

/-- R180 to R183, R349: a half whose link is not retired, whose geometry, operands, target and owners pass R181's checks and whose queue has
room issues, where no earlier release, acquire or store to its own buffers is still to be performed: it stands at
the end of its queue, no byte of memory changes and the slot goes on. `lks` changes nothing else; of `lkm` the destination is empty
and, where no other `lkm` of the cluster waits and the next command ID is not pending, that ID is pending and on its way. -/
def Obligations.HalvesIssue : Prop :=
  ∀ (s : State) (d a b : GReg) (eg : BitVec 3) (l : Dir) (e nb : Nat) (h : Half), s.engineAt s.cur.core l = some e → isCompute s.cur.core = true →
    neighbour s.cur.core l = some nb → geometryOk h.td h.k h.n = true → s.reaches nb = true →
    (s.engine e).queued h.moving h.low < 2 → s.relBlocked = false → s.ownStoresOut = false →
    (Ready (.lks a eg l) s → h = s.halfOf false (engineLow e == s.cur.core) (s.g a) 0 eg.toNat (s.engine e).cyc → operandsOk false (s.g a) 0 = true →
      ∃ t, exec (.lks a eg l) s = .next t ∧ Went s t s.me.regs ∧
        { t with cores := s.cores, engines := s.engines, nextId := s.nextId } = s ∧ t.engine e = (s.engine e).enqueue h ∧
        ∀ k, k ≠ e → t.engine k = s.engine k) ∧
    (Ready (.lkm d a b eg l) s → h = s.halfOf true (engineLow e == s.cur.core) (s.g a) (s.g b) eg.toNat (s.engine e).cyc →
      operandsOk true (s.g a) (s.g b) = true → targetFormOk h = true → s.reaches h.tcore = true →
      (s.cluster (clusterOf s.cur.core)).idWaits = [] →
      (s.cluster (clusterOf s.cur.core)).cmdState (s.cluster (clusterOf s.cur.core)).nextCmd ≠ 1 →
      ∃ t r, exec (.lkm d a b eg l) s = .next t ∧ Went s t (s.me.regs.markG d.toNat) ∧ (∀ k, t.byteAt k = s.byteAt k) ∧
        (t.engine e).queued true h.low = (s.engine e).queued true h.low + 1 ∧
        (t.cluster (clusterOf s.cur.core)).cmdState (s.cluster (clusterOf s.cur.core)).nextCmd = 1 ∧
        (t.cluster (clusterOf s.cur.core)).lastCmd = some (s.cluster (clusterOf s.cur.core)).nextCmd ∧
        t.returns = s.returns ++ [r] ∧ r.work = s.me.id ∧ r.dest = (if d = 0 then .none else .g d.toNat) ∧ r.ret = .value ∧
        r.data = (s.cluster (clusterOf s.cur.core)).nextCmd)

/-- R196 to R198: `lkq` reads the engine's status word. `lkfrz` of a frozen engine changes nothing; of one at a row boundary it freezes it;
else the slot waits. `lkthw` thaws it. `lkdrain` of a frozen engine writes within the 49 blocks that were found alone. `lkload` of an
acceptable image without a job changes nothing. `lkcan` of the slot's own halves, with no job, gives their number and leaves none of
them.
Which image `lkload` accepts and the job that it rebuilds are the model's choices (log entries 24 and 109; the rows of the bank, log entry 19). -/
def Obligations.EngineControl : Prop :=
  ∀ (s : State) (l : Dir) (e : Nat), s.engineAt s.cur.core l = some e →
    (∀ d, Ready (.lkq d l) s → GivesG (.lkq d l) s d ((s.engine e).status (engineLow e == s.cur.core))) ∧
    (Ready (.lkfrz l) s → (s.engine e).frozen = true → GoesTo (.lkfrz l) s s.nextPc) ∧
    (Ready (.lkfrz l) s → (s.engine e).frozen = false → s.atBoundary e = true → ∃ t, exec (.lkfrz l) s = .next t ∧ Went s t s.me.regs ∧
      { t with cores := s.cores, engines := s.engines } = s ∧ t.engine e = { s.engine e with frozen := true, stop := false }) ∧
    (Ready (.lkthw l) s → ∃ t, exec (.lkthw l) s = .next t ∧ Went s t s.me.regs ∧
      { t with cores := s.cores, engines := s.engines } = s ∧ t.engine e = { s.engine e with frozen := false, stop := false }) ∧
    (∀ a ps, Ready (.lkdrain a l) s → (s.engine e).frozen = true → s.findImage (s.g a) 49 .vstore = .ok ps →
      (∀ p ∈ ps, s.homeOk p.loc 64 35 = true ∧ Sound s p.loc 64) → memWf s.mem = true → ∃ t, exec (.lkdrain a l) s = .next t ∧ Went s t s.me.regs ∧
        OnlyMemory (s.flitsOn (s.spansAll ps false)) t ∧ ∀ k : Loc, (∀ p ∈ ps, k.key < p.loc.key ∨ p.loc.key + 64 ≤ k.key) → t.byteAt k = s.byteAt k) ∧
    (∀ a ps bs, Ready (.lkload a l) s → (s.engine e).frozen = true → (s.engine e).job = none → (s.engine e).halves = [] →
      s.findImage (s.g a) 49 .vload = .ok ps → s.readBlocks (s.g a) ps true = .ok bs (s.flitsOn (s.spansAll ps true)) →
      imageOk e s.me.ctl.fw s.me.ctl.ctx bs = true →
      (wbit (imageWord bs 0) 63 = false → ∃ t, exec (.lkload a l) s = .next t ∧
        Retired (s.flitsOn (s.spansAll ps true)) t s.nextPc s.me.regs s.me.ctl) ∧
      (wbit (imageWord bs 0) 63 = true → ∃ t, exec (.lkload a l) s = .next t ∧ Went s t s.me.regs ∧ (∀ k, t.byteAt k = s.byteAt k) ∧
        (t.engine e).job = some (s.imageJob e bs) ∧ (t.engine e).frozen = true)) ∧
    (∀ d a, Ready (.lkcan d a l) s → s.g a = 0 → (s.engine e).job = none →
      (∀ h ∈ (s.engine e).halves, h.moving = false ∧ h.core = s.cur.core ∧ h.slot = s.cur.slot) →
      ∃ t, exec (.lkcan d a l) s = .next t ∧ (t.engine e).halves = [] ∧ (∀ k, t.byteAt k = s.byteAt k) ∧ t.me.pc = s.nextPc ∧
        WroteG s.me.regs t.me.regs d.toNat (wordOf (s.engine e).halves.length))

/-- R351, R354, R357: a copy command whose card is well formed, whose completion object is found and whose cluster has a free job slot issues: the job
is at the end of the cluster's queue with its card, object and member and a number below 64 that no other job has, it waits for the earlier jobs that it overlaps, its number is on
its way to the empty destination, and no byte of memory changes. -/
def Obligations.CardsIssue : Prop :=
  ∀ (i : Instr) (s : State) (fn : Nat) (d a b : GReg) (ps : List Page) (bs : List Byte) (p : Page), Card i fn d a b → Ready i s →
    isMc s.cur.core = false → s.settled = true → (s.g a).toNat % 64 = 0 → s.findImage (s.g a) 2 .vload = .ok ps →
    s.readBlocks (s.g a) ps = .ok bs (s.flitsOn (s.spansAll ps true)) →
    s.cardFormOk s.cur.core fn (cardOf bs) = true → memberRulesOk fn (cardOf bs) = true →
    (s.flitsOn (s.spansAll ps true)).findObject (s.g b) = .page p →
    (fn = 4 → (rectCores (coreDie s.cur.core) (cardRect (cardOf bs))).all (fun h => s.reaches h) = true) →
    (∃ n < 64, ∀ k ∈ (s.cluster (clusterOf s.cur.core)).jobs, k.jid ≠ n) →
    ∃ t j r, exec i s = .next t ∧ Went s t (s.me.regs.markG d.toNat) ∧ (∀ k, t.byteAt k = s.byteAt k) ∧
      { t with cores := s.cores, clusters := s.clusters, returns := s.returns, nextId := s.nextId } =
        s.flitsOn (s.spansAll ps true) ∧
      (t.cluster (clusterOf s.cur.core)).jobs = (s.cluster (clusterOf s.cur.core)).jobs ++ [j] ∧ j.jid < 64 ∧
      (∀ k ∈ (s.cluster (clusterOf s.cur.core)).jobs, k.jid ≠ j.jid) ∧ j.fn = fn ∧
      j.card = cardOf bs ∧ j.obj = p.loc ∧ j.unit = 0 ∧
      j.after = ((s.cluster (clusterOf s.cur.core)).jobs.filter (fun k => k.overlaps j)).map (fun k => k.serial) ∧
      t.returns = s.returns ++ [r] ∧ r.work = s.me.id ∧ r.ret = .value ∧ r.data = j.jid ∧
      r.dest = if d = 0 then .none else .g d.toNat

/-- R146, R148, R361 to R363: `tdset` of a well-formed image that fits writes the entry, with V set; the other entries stay. `tdget` reads a word of
an entry. `tdinv` clears V of an entry, or with bit 63 of every one. A tensor ID of 64 or more traps with ILLEGAL (1), EINFO F00H. -/
def Obligations.TensorTable : Prop :=
  ∀ (s : State),
    (∀ (a b : GReg) (d : Nat) (q : Page), Ready (.tdset a b) s → (s.g a).toNat < 64 → s.readBlock (s.g b) 32 32 = .data d (s.cross q true) →
      tensorFormOk (tensorOf d ((nfcHere s).getLsbD 16)) = true → s.tensorFits s.cur.core (tensorOf d ((nfcHere s).getLsbD 16)) = true →
      ∃ t, exec (.tdset a b) s = .next t ∧
        WentWith (s.cross q true) t s.me.regs (fun k => { k with tensors := tblSet k.tensors (s.g a).toNat (tensorOf d ((nfcHere s).getLsbD 16)) })) ∧
    (∀ (a b : GReg), Ready (.tdset a b) s → CanTrap s → 64 ≤ (s.g a).toNat →
      ∃ t, exec (.tdset a b) s = .next t ∧ Trapped s t 1 0 (wordOf 0xF00)) ∧
    (∀ (d a b : GReg), Ready (.tdget d a b) s → (s.g a).toNat < 64 → (s.g b).toNat < 4 → GivesG (.tdget d a b) s d
      (match (s.g b).toNat with
       | 0 => (tblGet words0 s.myCore.tensors (s.g a).toNat).w0
       | 1 => (tblGet words0 s.myCore.tensors (s.g a).toNat).w1
       | 2 => (tblGet words0 s.myCore.tensors (s.g a).toNat).w2
       | _ => (tblGet words0 s.myCore.tensors (s.g a).toNat).w3)) ∧
    (∀ (a : GReg) (id : Nat), Ready (.tdinv a) s → s.g a = wordOf id → id < 64 → ∃ t, exec (.tdinv a) s = .next t ∧ OnlyCores s t ∧
      (tblGet words0 t.myCore.tensors id).w0.getLsbD 63 = false ∧
      (∀ k, k ≠ id → tblGet words0 t.myCore.tensors k = tblGet words0 s.myCore.tensors k) ∧ t.me = { s.me with pc := s.nextPc }) ∧
    (∀ (a : GReg), Ready (.tdinv a) s → s.g a = wordOf (2 ^ 63) → ∃ t, exec (.tdinv a) s = .next t ∧ OnlyCores s t ∧
      (∀ k, (tblGet words0 t.myCore.tensors k).w0.getLsbD 63 = false) ∧ t.me = { s.me with pc := s.nextPc })

/-- R206, R214, R218: a member of the Gaussian message unit with no request of its slot queued, no earlier own access on its way and fewer than
eight requests queued issues: the request, with the operands and GMC as they stand, is at the end of the core's queue, `gd` is empty and
the slot waits at its instruction; memory stays. -/
def Obligations.GaussianIssue : Prop :=
  ∀ (i : Instr) (s : State) (fn : Nat) (a b : GReg) (blk d : Nat), Gaussian i fn a b blk d → Ready i s →
    (∀ q ∈ s.myCore.gmu, ¬(q.work = s.me.id ∧ q.slot = s.cur.slot)) → s.drained = true → s.myCore.gmu.length < 8 →
    (fn = 6 → (s.g b).toNat % 2 ^ 36 = 0 ∧ s.ownsCore s.me.ctl.fw s.me.ctl.ctx ((s.g b).toNat / 2 ^ 49) = true) →
    ∃ t q, exec i s = .next t ∧ OnlyCores s t ∧ t.myCore.gmu = s.myCore.gmu ++ [q] ∧ q.slot = s.cur.slot ∧ q.work = s.me.id ∧ q.fn = fn ∧
      q.a = s.g a ∧ q.b = s.g b ∧ q.blk = blk ∧ q.d = d ∧ q.gmc = s.me.ctl.gmc ∧
      t.me = { s.me with regs := s.me.regs.markG d } ∧ (∃ n, t.curSlot.stall = some (.gmu, n)) ∧
      (∀ c, c ≠ s.cur.core → t.core c = s.core c) ∧ ∀ n, n ≠ s.cur.slot → t.slot s.cur.core n = s.slot s.cur.core n

/-- R76 to R79, R87, R92, R365: `getc` of a register that the slot's level and core may read completes: `gd` takes the register, every other
register and all else stay. -/
def Obligations.ControlReads : Prop :=
  ∀ (s : State) (d : GReg) (n : BitVec 13) (v : Word), CrValue s n.toNat v → Ready (.getc d n) s → GivesG (.getc d n) s d v

/-- R77 to R91, R176, R177, R366: `setc` of a register that the slot's level and core may write, with a value in its range, completes: the register
takes the value's fields, no other register of the slot and no other field of the core but INS changes, and the slot goes on. -/
def Obligations.ControlWrites : Prop :=
  ∀ (s : State) (a : GReg) (ea : Bool) (n : BitVec 13), Ready (.setc a ea n) s →
    (∀ x, SetsSlot s.cur.core s.me.ctl (s.g a) n.toNat x → ∃ t, exec (.setc a ea n) s = .next t ∧ Retired s t s.nextPc s.me.regs x) ∧
    (∀ k, isCompute s.cur.core = true → SetsCore s.mode (countIns s.myCore) (s.g a) n.toNat k →
      ∃ t, exec (.setc a ea n) s = .next t ∧ OnlyCores s t ∧ t.myCore = { k with slots := t.myCore.slots } ∧
        t.me = { s.me with pc := s.nextPc } ∧ (∀ c, c ≠ s.cur.core → t.core c = s.core c) ∧
        ∀ m, m ≠ s.cur.slot → t.slot s.cur.core m = s.slot s.cur.core m)

/-- R77: a read or write by number of a register that does not exist on the core traps with ILLEGAL (1), as does a write of a read-only one;
a register kept for L0 traps with PRIVILEGED (15H) at another level.
EINFO 0 of PRIVILEGED and of an ILLEGAL for a register that is absent or read-only is the model's choice (log entry 39).

R75, R280, R348: a privileged member within the allotment that its level, core or context may not issue traps with PRIVILEGED (15H), EADDR 0
and EINFO 0; nothing else happens.
EINFO 0 of PRIVILEGED is the model's choice (log entry 39). -/
def Obligations.RegisterTraps : Prop :=
  (∀ (s : State) (d a : GReg) (ea : Bool) (n : BitVec 13), CanTrap s →
     (withinAllot s.me.ctl.allot (operands (.getc d n)) = true →
       (crClass s.cur.core n.toNat = .absent → ∃ t, exec (.getc d n) s = .next t ∧ Trapped s t 1 0 0) ∧
       (crClass s.cur.core n.toNat = .l0r → 2 ≤ s.cur.slot → ∃ t, exec (.getc d n) s = .next t ∧ Trapped s t 0x15 0 0)) ∧
     (withinAllot s.me.ctl.allot (operands (.setc a ea n)) = true →
       (crClass s.cur.core n.toNat = .absent → ∃ t, exec (.setc a ea n) s = .next t ∧ Trapped s t 1 0 0) ∧
       (crClass s.cur.core n.toNat = .ro → n.toNat < 0x1000 → ∃ t, exec (.setc a ea n) s = .next t ∧ Trapped s t 1 0 0) ∧
       (crClass s.cur.core n.toNat = .l0 ∨ crClass s.cur.core n.toNat = .l0r → 2 ≤ s.cur.slot →
         ∃ t, exec (.setc a ea n) s = .next t ∧ Trapped s t 0x15 0 0))) ∧
  (∀ (i : Instr) (s : State) (P : Prop), Privileged s i P → withinAllot s.me.ctl.allot (operands i) = true → CanTrap s → ¬P →
     ∃ t, exec i s = .next t ∧ Trapped s t 0x15 0 0)

/-- R111 to R116, R368, R369. `tlbw` for a core of the service core's cluster, of a well-formed entry that its context's table permits: the
entry is first in the cluster's L2 and, unless bit 15 asks for the L2 alone, in the core's L1; no byte of memory changes. `tlbi`, with no
access left that a removed entry may have translated and no copy job queued: no entry that it names stays in the L1 of a core of its scope, every other one
stays.
Which global and firmware entries `tlbi` removes (`tlbiMatches`) is the model's choice (log entry 55). -/
def Obligations.TlbMembers : Prop :=
  ∀ (s : State) (a b : GReg) (ea eb : Bool),
    (∀ (d : GReg) (c : Nat) (l2 : Bool), Ready (.tlbw d a b ea eb) s → entryFormOk (entryOfWords (s.g a) (s.g b)) = true → c < 2 ^ 15 →
      s.g d = wordOf (c + if l2 then 2 ^ 15 else 0) → isCompute c = true → clusterOf c = clusterOf s.cur.core →
      s.entryPermitted (entryOfWords (s.g a) (s.g b)) = true →
      ∃ t, exec (.tlbw d a b ea eb) s = .next t ∧ (∀ l, t.byteAt l = s.byteAt l) ∧ t.me = { s.me with pc := s.nextPc } ∧
        { t with cores := s.cores, clusters := s.clusters, nextId := s.nextId } = s ∧
        (t.cluster (clusterOf c)).l2.head? = some (entryOfWords (s.g a) (s.g b)) ∧
        (l2 = false → (t.core c).l1.head? = some (entryOfWords (s.g a) (s.g b))) ∧ (l2 = true → (t.core c).l1 = (s.core c).l1)) ∧
    (∀ (sc : Scope), Ready (.tlbi a b ea eb) s → tlbiOk s.cur.core (s.g a) (s.g b) = true →
      scopeOf ((s.g b).toNat / 2 ^ 16 % 8) = some sc → (∀ f ∈ s.inflight, f.st = .withdrawn) → (∀ e ∈ s.clusters, e.2.jobs = []) →
      ∃ t, exec (.tlbi a b ea eb) s = .next t ∧ (∀ l, t.byteAt l = s.byteAt l) ∧ t.me = { s.me with pc := s.nextPc } ∧
        { t with cores := s.cores, clusters := s.clusters } = s ∧
        (∀ c, scopeHasCore sc s.cur.core c = true → (t.core c).l1 = (s.core c).l1.filter (fun e => !tlbiMatches (s.g a) (s.g b) e)) ∧
        (∀ c, scopeHasCore sc s.cur.core c = false → (t.core c).l1 = (s.core c).l1))

/-- R370, R371: `fres` of a sequence and a context, with nothing parked and no copy job: the RSEQ of every core of the context's clusters is
the sequence, unless it stood ahead of it; memory stays and the slot goes on. -/
def Obligations.ResolveFaults : Prop :=
  ∀ (s : State) (a b : GReg) (ea eb : Bool) (sq ctx : Nat), Ready (.fres a b ea eb) s → sq < 2 ^ 32 → ctx < 512 → s.g a = wordOf sq →
    s.g b = wordOf ctx → s.parked = [] → (∀ n, (s.cluster n).jobs = []) →
    ∃ t, exec (.fres a b ea eb) s = .next t ∧ OnlyCores s t ∧ (t.me = { s.me with pc := s.nextPc }) ∧
      (∀ n ord, ord < 48 → (∃ e ∈ s.clusters, e.1 = n ∧ e.2.owner = some ctx) →
        (t.core (coreAt n ord)).rseq =
          if resolved sq (s.core (coreAt n ord)).rseq then (s.core (coreAt n ord)).rseq else sq)

/-- R140, R141, R372, R373. `ctxs` with its image and its handler table's found and admitted writes within their blocks alone. `ctxl` at a quiet
core: an image with V = 0 leaves the image's registers at their reset values, with no handler and no tensor, and the core in no context;
one with V = 1 that is found whole and that no word spoils is loaded with its handler table, and puts the core into the context it names.
That DFPC, DNFC and DGMC return to 0, A307H and F82800H, where R372 says only the reset values, is the model's choice (log entries 2 and 58), and so is
what the packets held by a class come to when a table is loaded over it (`tableChanged`, log entry 58). -/
def Obligations.CoreImages : Prop :=
  ∀ (s : State) (a : GReg) (ea : Bool),
    (∀ ps hs, Ready (.ctxs a ea) s → memWf s.mem = true → s.findImage (s.g a) 36 .store = .ok ps → s.findTable s.myCore.htb .store = .ok hs →
      (∀ p ∈ ps ++ hs, s.homeOk p.loc 64 35 = true) → s.roomOn (s.spansAll (ps ++ hs) false) = true →
      ∃ t, exec (.ctxs a ea) s = .next t ∧ Went s t s.me.regs ∧ OnlyMemory s { t with links := s.links } ∧
        t.links = ((s.flitsOn (s.spansAll ps false)).flitsOn ((s.flitsOn (s.spansAll ps false)).spansAll hs false)).links ∧
        ∀ k : Loc, (∀ p ∈ ps ++ hs, k.key < p.loc.key ∨ p.loc.key + 64 ≤ k.key) → t.byteAt k = s.byteAt k) ∧
    (∀ d s1, Ready (.ctxl a ea) s → s.quiet s.cur.core s.cur.slot = true → s.readBlock (s.g a) 8 64 true = .data d s1 →
      { s1 with links := s.links } = s → bitAt d 63 = false →
      ∃ t : State, exec (.ctxl a ea) s = .next (t.tableChanged s.cur.core s.myCore) ∧ t.coreCtx = tblSet s.coreCtx s.cur.core none ∧
        WentWith s { t with coreCtx := s.coreCtx, links := s.links } s.me.regs (fun k => { k with
        htb := 0, dqb := 0, tvec := 0, rrb := [], cmask := 0, spmode := 0, dfpc := 0, dnfc := 0xA307, dgmc := 0xF82800, rseq := 0, win := [], tensors := [], handlers := [],
        landing := [] })) ∧
    (∀ d ps bs hs tb s1 s2 s3, Ready (.ctxl a ea) s → s.quiet s.cur.core s.cur.slot = true → s.readBlock (s.g a) 8 64 true = .data d s1 →
      bitAt d 63 = true → s1.findImage (s.g a) 36 (.load false) = .ok ps → s1.readBlocks (s.g a) ps true = .ok bs s2 →
      s2.imageBad (wordsIn 288 bs) = none → s2.findTable (coreCrMask 0x102 (nthW (wordsIn 288 bs) 1)) (.load false) = .ok hs →
      s2.readBlocks (baseVa (nthW (wordsIn 288 bs) 1)) hs true = .ok tb s3 → { s1 with links := s.links } = s → { s3 with links := s.links } = s →
      ∃ t : State, exec (.ctxl a ea) s = .next (t.tableChanged s.cur.core s.myCore) ∧
        OnlyCores s { t with coreCtx := s.coreCtx, links := s.links } ∧ (t.me = { s.me with pc := s.nextPc }) ∧
        t.coreCtx = tblSet s.coreCtx s.cur.core (some ((nthW (wordsIn 288 bs) 0).toNat % 2 ^ 9)) ∧
        t.myCore.cmask = nthW (wordsIn 288 bs) 8 ∧ t.myCore.rseq = (nthW (wordsIn 288 bs) 13).toNat % 2 ^ 32 ∧
        t.myCore.dfpc = wordOf ((nthW (wordsIn 288 bs) 10).toNat % 2 ^ 14) ∧ t.myCore.landing = [] ∧
        (∀ i, i < 64 → tblGet words0 t.myCore.tensors i = words4At (wordsIn 288 bs) (32 + 4 * i)) ∧
        ∀ i, i < 64 → t.myCore.handler i = words4At (wordsIn 256 tb) (4 * i))

/-- R140 to R145, R374, at a class that holds no packet and whose save image is found: `wtab` of a well-formed image that keeps the area, or finds it
free, writes the entry; one whose area reaches past the A floor traps with PROTECT (6), EINFO 200H plus the class. `wclose` sets STATE 2
and `wopen` STATE 1 of an entry that is not empty. -/
def Obligations.HandlerTable : Prop :=
  ∀ (s : State) (a b : GReg) (ea eb : Bool) (cls : Nat), cls < 64 → s.g a = wordOf cls → memWf s.mem = true → s.myCore.holdingOf cls = [] →
    (∀ d q, Ready (.wtab a b ea eb) s → s.readBlock (s.g b) 32 32 true = .data d (s.cross q true) → (∀ t, (s.cross q true).savePlace cls ≠ .stop t) →
      handlerBad (blockWords d) = false → s.overFloor s.cur.core (blockWords d) = false →
      (s.myCore.handler cls).w2 = (blockWords d).w2 ∨
        ((s.myCore.handler cls).hState ≠ 1 ∧ s.me.landed = none ∧ s.me.hclass ≠ some cls ∧ s.myCore.areaBusy cls = false) →
      ∃ t, exec (.wtab a b ea eb) s = .next t ∧ EntryWritten s t cls (blockWords d) ((s.cross q true).savePlace cls)) ∧
    (∀ d q, Ready (.wtab a b ea eb) s → CanTrap s → s.readBlock (s.g b) 32 32 true = .data d (s.cross q true) → handlerBad (blockWords d) = false →
      s.overFloor s.cur.core (blockWords d) = true →
      ∃ t, exec (.wtab a b ea eb) s = .next t ∧ Trapped (s.cross q true) t 6 0 (wordOf (0x200 + cls))) ∧
    (Ready (.wclose a ea) s → (∀ t, s.savePlace cls ≠ .stop t) → (s.myCore.handler cls).hState ≠ 0 → ∃ t, exec (.wclose a ea) s = .next t ∧
      EntryWritten s t cls ((s.myCore.handler cls).withState 2) (s.savePlace cls)) ∧
    (Ready (.wopen a ea) s → (∀ t, s.savePlace cls ≠ .stop t) → (s.myCore.handler cls).hState ≠ 0 → ∃ t, exec (.wopen a ea) s = .next t ∧
      EntryWritten s t cls ((s.myCore.handler cls).withState 1) (s.savePlace cls))

/-- R102 to R106, R375, R376, on a logical row and a physical row of a buffer of a compute core. `rmap` with M = 1 of an unmapped row to a good
physical row that no row uses maps it, and its bytes read 0; with M = 0 during a step it unmaps a mapped row. `evac` of a mapped row to
such a physical row moves it: its bytes stay. Every other row keeps its place and its bytes. -/
def Obligations.RowMembers : Prop :=
  ∀ (s : State) (a b : GReg) (ea eb : Bool) (c bf pt row p : Nat), isCompute c = true → 1 ≤ bf → bf ≤ 3 → pt < 4 → row < bufRows bf →
    p < bufPhys bf → s.g a = rowWordOf c bf pt row → memWf s.mem = true →
    (Ready (.rmap a b ea eb) s → s.g b = wordOf (2 ^ 63 + p) → s.rowOf c bf row = none → s.physUsed c bf p = false →
      s.rowGood c bf p pt = true → ∃ t, exec (.rmap a b ea eb) s = .next t ∧ t.rowOf c bf row = some p ∧ Went s t s.me.regs ∧
        (∀ r, r < bufRows bf → r ≠ row → t.rowOf c bf r = s.rowOf c bf r) ∧
        Stored s t { sp := .buf c bf, off := 64 * row } 64 0) ∧
    (Ready (.rmap a b ea eb) s → s.g b = 0 → s.rowOf c bf row ≠ none → (s.core c).stepHold = true →
      ∃ t, exec (.rmap a b ea eb) s = .next t ∧ t.rowOf c bf row = none ∧ Went s t s.me.regs ∧
        (∀ r, r < bufRows bf → r ≠ row → t.rowOf c bf r = s.rowOf c bf r) ∧
        Stored s t { sp := .buf c bf, off := 64 * row } 64 0) ∧
    (Ready (.evac a b ea eb) s → s.g b = wordOf p → s.rowOf c bf row ≠ none → s.physUsed c bf p = false → s.rowGood c bf p pt = true →
      ∃ t, exec (.evac a b ea eb) s = .next t ∧ t.rowOf c bf row = some p ∧ Went s t s.me.regs ∧
        (∀ r, r < bufRows bf → r ≠ row → t.rowOf c bf r = s.rowOf c bf r) ∧ (∀ l, t.byteAt l = s.byteAt l) ∧ t.valid = s.valid)

/-- R86, R92, R94, R128, R177: the register writes that are steps of their own. -/
def Obligations.RegisterWrites : Prop :=
 ∀ (s : State) (i : Instr) (P : State → Prop), RegisterWrite s i P → ∃ t, exec i s = .next t ∧ P t

/-- R105, R107, R161, R175, R378, R380 to R385, R390 to R395: power.
The model's choices: the shares by one division over the whole tree and the power model as the operand of a period (log entries 65 and 98), and the
point at which a die that was declined or unparked stands (log entry 66). -/
def Obligations.PowerSteps : Prop :=
 ∀ (s : State) (i : Instr) (P : State → Prop), PowerStep s i P → ∃ t, exec i s = .next t ∧ P t

/-- R12, R15 to R17, R25, R27, R29, R33, R34, R36, R84, R123 to R126, R192, R262, R288, R411, R426: the dispatcher.
The model's choices: which fields of an entry memory holds, their layout and what stays beside it (log entry 59), the PC that an entry word
names (log entry 60), that parked work resumes from the state's record of it (log entry 90), and the firmware grid's place on MC1
(log entry 72). -/
def Obligations.DispatchSteps : Prop :=
 ∀ (s : State) (i : Instr) (P : State → Prop), DispatchStep s i P → ∃ t, exec i s = .next t ∧ P t

/-- R39 to R41, R134, R304, R308: wakes and the turns of teams.
The model's choices: that a thread which ran when its team left comes back as a ready resume entry, and when a team may leave or return
(log entry 61), and KIND 6 of a placed thread (log entry 59). -/
def Obligations.TeamSteps : Prop :=
 ∀ (s : State) (i : Instr) (P : State → Prop), TeamStep s i P → ∃ t, exec i s = .next t ∧ P t

/-- R71, R84, R86, R114, R115, R117, R135, R192, R232, R233, R290, R403: accesses on their way.
A lost home (R109, R412) retires the page in the same step, with what R98 leaves open of the word in error: the model's choices (log entries
84 and 83). -/
def Obligations.FlightSteps : Prop :=
 ∀ (s : State) (i : Instr) (P : State → Prop), FlightStep s i P → ∃ t, exec i s = .next t ∧ P t

/-- R94, R127 to R130, R138, R143, R150 to R152, R215, R321, R404, R431: packets and links.
The model's choices: the numbers of links and their flits (log entry 71), the number of a die-to-die router (log entry 97), the routes that
are regenerated (log entry 110), EINFO and EADDR 0 of REFUSED and ENGWAIT where no rule gives them (log entry 39). -/
def Obligations.PacketSteps : Prop :=
 ∀ (s : State) (i : Instr) (P : State → Prop), PacketStep s i P → ∃ t, exec i s = .next t ∧ P t

/-- R131, R184 to R190, R206, R214, R219, R355 to R358: the engines, the copy engine and the GMU.
The model's choices: B read at the job's start and an A row at its last beat (log entry 49), a row's padding written (log entry 48). -/
def Obligations.UnitSteps : Prop :=
 ∀ (s : State) (i : Instr) (P : State → Prop), UnitStep s i P → ∃ t, exec i s = .next t ∧ P t

/-- R35 to R39, R91, R135, R137, R155 to R159, R371, R395 to R414: the host, firmware and Safelight.
The model's choices: the fault ring as queue number 64 and its indexes (log entry 10), what the digests of the report are taken over (log
entry 7), HBM copied in one step (log entry 69), what a lost word does to a host read (log entries 83 and 84), what each reset leaves (log
entry 70), EINFO 0 of a refused store to a stage (log entries 22 and 39). -/
def Obligations.HostSteps : Prop :=
 ∀ (s : State) (i : Instr) (P : State → Prop), HostStep s i P → ∃ t, exec i s = .next t ∧ P t

/-- R246 to R263: for every group of a well-formed member with the prefixes that the member takes, the encoder's words decode to it with
every operand, and the decoder asks for exactly these words. -/
def Obligations.GroupsRoundTrip : Prop :=
  ∀ g : Group, g.instr.isWord = true → g.instr.wellFormed = true → (g.guard.isSome = true → acceptsGuard g.instr = true) →
    (∀ m, g.mod = some m → acceptsMod g.instr = true ∧ modFits m g.instr = true) → g.len = (encodeGroup g).length →
    decodeGroup (encodeGroup g) = .group g ∧ needsWord (encodeGroup g) = false ∧
      ∀ k, k < (encodeGroup g).length → needsWord ((encodeGroup g).take k) = true

/-- R260 to R263: a group that the decoder accepts is a well-formed member, and its words are the encoder's: no bit of an accepted word is
ignored, and no two lists of words are one group. -/
def Obligations.WordsOfGroups : Prop :=
  ∀ (ws : List IWord) (g : Group), decodeGroup ws = .group g → g.len ≤ ws.length →
    g.instr.isWord = true ∧ g.instr.wellFormed = true ∧ ws.take g.len = encodeGroup g

/-- The words that the spec writes out for members of each family (R256, R268, R270, R272, R274 to R278, R280, the worked examples of
13_isa_scalar to 15_isa_vector). -/
def Obligations.DecodeWords : Prop :=
  decodeGroup [0x04614280] = .group { guard := none, mod := none, instr := .add 6 5 2 true false, len := 1 } ∧
  decodeGroup [0x0490C017] = .group { guard := none, mod := none, instr := .clz 9 3 false, len := 1 } ∧
  decodeGroup [0x1C824003] = .group { guard := none, mod := none, instr := .shli 8 9 false 3, len := 1 } ∧
  decodeGroup [0x28A2D107] = .group { guard := none, mod := none, instr := .bins 10 11 false 8 7, len := 1 } ∧
  decodeGroup [0x2081C20D] = .group { guard := none, mod := none, instr := .cmpi 1 7 false .ne 13, len := 1 } ∧
  decodeGroup [0x2C304200] = .group { guard := none, mod := none, instr := .pand 3 1 2, len := 1 } ∧
  decodeGroup [0x303FFFFF] = .group { guard := none, mod := none, instr := .br 0 false 0x3FFFFF, len := 1 } ∧
  decodeGroup [0xF9800000, 0x3C000503] = .group { guard := some (3, false), mod := none, instr := .trap 5, len := 2 }

/-- R246 to R249, R256, R262: a running slot's turn. The words at its PC that decode to a group run it, once its guard holds or its
registers leave the allotment; a guard that is false completes the group and changes nothing else; words that break the encoding, or
cannot be fetched, trap; a page that is missing stalls the slot. A turn that is no group runs its step.
EADDR, the word that cannot be fetched, and EINFO 2 of that trap are the model's choice (log entry 39). -/
def Obligations.StepRunsGroups : Prop :=
  ∀ (s u : State) (c n : Nat) (rest : List Turn), u = { s with agenda := rest } →
    (∀ i, s.agenda = .event i :: rest → step s = exec i u) ∧
    (s.agenda = .issue c n :: rest → (s.slot c n).busy = true → (s.slot c n).frozen = false → (s.core c).halted = false →
      (s.slot c n).w.deferred = [] → (s.slot c n).w.gmTrap = none →
      (∀ ws g, u.fetchGroup c n = .words ws → decodeGroup ws = .group g →
        (withinAllot (s.slot c n).w.ctl.allot (operands g.instr) = false ∨ g.guard = none ∨
          (∃ p b, g.guard = some (p, b) ∧ (s.slot c n).w.regs.getP p.toNat ≠ b) → step s = exec g.instr (u.setCur c n g.len g.mod)) ∧
        (∀ p b, withinAllot (s.slot c n).w.ctl.allot (operands g.instr) = true → g.guard = some (p, b) →
          (s.slot c n).w.regs.getP p.toNat = b →
          ∃ t, step s = .next t ∧ Retired (u.setCur c n g.len g.mod) t (((s.slot c n).w.pc &&& ~~~3) + wordOf (4 * g.len))
            (s.slot c n).w.regs (s.slot c n).w.ctl)) ∧
      (∀ ws reason i len, u.fetchGroup c n = .words ws → decodeGroup ws = .bad reason i len → CanTrap (u.setCur c n len none) →
        ∃ t, step s = .next t ∧ Trapped (u.setCur c n len none) t 1 (((s.slot c n).w.pc &&& ~~~3) + wordOf (4 * i))
          (wordOf ((ws.getD i 0).toNat * 2 ^ 32 + reason))) ∧
      (∀ i, u.fetchGroup c n = .fault i → CanTrap (u.setCur c n (i + 1) none) →
        ∃ t, step s = .next t ∧ Trapped (u.setCur c n (i + 1) none) t 6 (((s.slot c n).w.pc &&& ~~~3) + wordOf (4 * i)) 2) ∧
      (∀ i, u.fetchGroup c n = .miss i →
        ∃ t, step s = .next t ∧ Stalled (u.setCur c n (i + 1) none) t (.walk (((s.slot c n).w.pc &&& ~~~3) + wordOf (4 * i)) 2)))

/-- A member of one word, placed where MC0 fetches next, is the one that the next step runs, in slot 0 of MC0 (R432, log entry 4). -/
def Obligations.PlacedWordRuns : Prop :=
  ∀ (s : State) (i : Instr), i.isWord = true → i.wellFormed = true → extOf i = [] → memWf s.mem = true →
    step (s.withFetchWord 32 (encodeWord i)) =
      exec i (({ s.withFetchWord 32 (encodeWord i) with agenda := [] } : State).setCur mc0 0 1 none)

/-- R20, R72, R73, R75, for every member with a word: it always answers a next state. A register beyond the allotment traps with REGBOUND (2),
then a level or core that may not run it with its cause, then the first empty source with EMPTY (3) and its number where its e-bit is 1,
while one without stalls; an empty destination stalls, and so does an earlier store that awaits translation where the member waits.
The model's choices: that the first empty source in field order decides (log entry 88), EINFO 0 of REGBOUND and PRIVILEGED (log entry 39),
and that a member waits for an earlier store that awaits translation (log entry 11). -/
def Obligations.OperandChecks : Prop :=
  ∀ (i : Instr) (s : State), i.isWord = true →
    (∃ t, exec i s = .next t) ∧
    (withinAllot s.me.ctl.allot (operands i) = false → CanTrap s → ∃ t, exec i s = .next t ∧ Trapped s t 2 0 0) ∧
    (withinAllot s.me.ctl.allot (operands i) = true →
      (∀ cause, privTrap i s = some cause → CanTrap s → ∃ t, exec i s = .next t ∧ Trapped s t cause 0 0) ∧
      (privTrap i s = none →
        (∀ pre r e post, (operands i).sg = pre ++ (r, e) :: post → (∀ q ∈ pre, s.me.regs.emptyG q.1 = false) → s.me.regs.emptyG r = true →
          (e = some true → CanTrap s → ∃ t, exec i s = .next t ∧ Trapped s t 3 0 (wordOf r)) ∧
          (e ≠ some true → ∃ t, exec i s = .next t ∧ Stalled s t .empty)) ∧
        ((∀ q ∈ (operands i).sg, s.me.regs.emptyG q.1 = false) →
          ((∃ r ∈ (operands i).sv, s.me.regs.emptyV r = true) → ∃ t, exec i s = .next t ∧ Stalled s t .empty) ∧
          ((∀ r ∈ (operands i).sv, s.me.regs.emptyV r = false) →
            (passesWaiting i = false → s.curSlot.waiting ≠ [] → ∃ t, exec i s = .next t ∧ Stalled s t .ordering) ∧
            (passesWaiting i = true ∨ s.curSlot.waiting = [] →
              (∃ r, (operands i).dg = some r ∧ s.me.regs.emptyG r = true) ∨ (∃ r ∈ (operands i).dv, s.me.regs.emptyV r = true) →
              ∃ t, exec i s = .next t ∧ Stalled s t .empty)))))

/-- R69, for any registers: `g0` reads as zero and is full whatever is written or marked, `p0` reads as true, and writes to either change
nothing. An `amo` or `fadd` aimed at `g0` on the own C buffer still updates memory, and no register is marked empty; nor is one by any
access aimed at `g0`, or at no register, that leaves the self region, whose parts are on their way as with another destination. -/
def Obligations.ZeroRegisters : Prop :=
  (∀ (x : Regs) (v : Word) (b : Bool), x.getG 0 = 0 ∧ x.emptyG 0 = false ∧ x.setG 0 v = x ∧ x.markG 0 = x ∧ x.getP 0 = true ∧
    x.setP 0 b = x) ∧
  (∀ (i : Instr) (s : State) (va : Word) (n new o : Nat), OwnAtomic s (ownLoc s 3 o) i 0 va n new → Ready i s →
    memWf s.mem = true → va.toNat % n = 0 → Own s va n 3 o → s.drained = true → s.curSlot.waiting = [] → s.curSlot.held = none →
    Sound s (ownLoc s 3 o) n →
    s.allValid (ownLoc s 3 o) n = true ∨ s.myCore.spmode = 0 →
    ∃ t, exec i s = .next t ∧ Went s t s.me.regs ∧ Stored s t (ownLoc s 3 o) n new) ∧
  ∀ (i : Instr) (s : State) (al : Nat) (q : Req) (ps : List Placed), Access s i al q → q.dest = .g 0 ∨ q.dest = .none → Ready i s → canonical q.va = true →
    q.va.toNat % al = 0 → Clear q s → s.planHere q = .go ps → ps.all (fun p => p.page.own) = false →
    ∃ t, exec i s = .next t ∧ Went s t s.me.regs ∧ t.inflight = s.inflight ++ s.flightsOf q s.nextId (s.nextId + 1) ps

/-- R175: with FDR = f a core fetches in the cycle c = CYC mod 16 exactly when ⌊(c + 1)·f/16⌋ > ⌊c·f/16⌋, its L0 slots in every cycle; the
examples for 6, 8 and 0; a new FDR value is taken at a window's first cycle, and it is the least of the budget share, the island's
ceiling, 8 while the clamp holds and 2 while the die's backstop holds. -/
def Obligations.FetchDuty : Prop :=
  (∀ k : Core, k.dutyOpen = true ↔ (k.cyc.toNat % 16 + 1) * k.fdr / 16 > k.cyc.toNat % 16 * k.fdr / 16) ∧
  (∀ (s : State) (c n : Nat), 2 ≤ n → s.runnable c n = true → (s.core c).dutyOpen = true) ∧
  (∀ (s : State) (c n : Nat), n < 2 → (s.slot c n).busy = true → (s.slot c n).frozen = false → (s.core c).halted = false →
    s.runnable c n = true) ∧
  (∀ k : Core, k.fdr = 6 → (k.dutyOpen = true ↔ k.cyc.toNat % 16 ∈ [2, 5, 7, 10, 13, 15])) ∧
  (∀ k : Core, k.fdr = 8 → (k.dutyOpen = true ↔ k.cyc.toNat % 2 = 1)) ∧
  (∀ k : Core, k.fdr = 0 → k.dutyOpen = false) ∧
  (∀ (s : State) (n c : Nat), tblRising 0 s.cores = true → (∃ e ∈ s.cores, e.1 = c) → ((s.advanceTime n).core c).fdr =
    if (s.core c).cyc.toNat / 16 < ((s.core c).cyc.toNat + s.cyclesIn n (clockOf c)) / 16 then s.dutyOf c else (s.core c).fdr) ∧
  (∀ (s : State) (n c : Nat), isCompute c = true → (∀ e ∈ s.cores, e.1 ≠ c) → ((s.advanceTime n).core c).fdr =
    if tblGet 0 s.cycles (islandOf c) / 16 < (tblGet 0 s.cycles (islandOf c) + s.cyclesIn n (islandOf c)) / 16 then s.leastDuty c 16
    else (s.core c).fdr) ∧
  (∀ (s : State) (c : Nat), isCompute c = true → ∃ t, exec (.fetchDutyWindow c) s = .next t ∧ OnlyCores s t ∧
    ∃ f, t.core c = { s.core c with fdr := f } ∧ f ≤ (s.core c).share ∧ f ≤ tblGet 16 s.icl (islandOf c) ∧
      (s.clampOn = true → f ≤ 8) ∧ (tblGet false s.backstop (coreDie c) = true → f ≤ 2) ∧
      (f = (s.core c).share ∨ f = tblGet 16 s.icl (islandOf c) ∨ (s.clampOn = true ∧ f = 8) ∨
        (tblGet false s.backstop (coreDie c) = true ∧ f = 2)))

/-- After reset: memory lists nothing; a slot runs nothing and has PACE, SWP and SMR 0, GMC F82800H and every EG FFFF000081H (R79, R80); a
core has FDR 16 and its other registers and counters 0 (R87, R88, R176); of the management registers ICL is 16, PCEIL 1000, ALTH 1000,
HYST 30, the others 0 (R92); the performance state is PS0 with park masks F0H and FCH (R161), the mode 0 (R406). What every step keeps
holds.
The model's choices: psCur = 0, where R161 gives only the park masks (log entry 2), and that memory lists nothing (log entry 1). -/
def Obligations.ResetState : Prop :=
  Legal State.reset ∧ State.reset.mem = [] ∧ State.reset.valid = [] ∧ State.reset.mode = 0 ∧ State.reset.psCur = 0 ∧
  State.reset.psPark4 = 0xF0 ∧ State.reset.psPark5 = 0xFC ∧ State.reset.pceil = 1000 ∧ State.reset.alth = 1000 ∧ State.reset.hyst = 30 ∧
  State.reset.alst = 0 ∧ State.reset.tlogp = 0 ∧ State.reset.usec = 0 ∧ State.reset.pmeas = 0 ∧
  (∀ n, tblGet 16 State.reset.icl n = 16 ∧ tblGet 0 State.reset.tsen n = 0 ∧ tblGet 0 State.reset.tprd n = 0) ∧
  (∀ c, (State.reset.core c).fdr = 16 ∧ (State.reset.core c).htb = 0 ∧ (State.reset.core c).cmask = 0 ∧ (State.reset.core c).spmode = 0 ∧
    (State.reset.core c).dqb = 0 ∧ (State.reset.core c).stg = 0 ∧ (State.reset.core c).tvec = 0 ∧ (∀ n, (State.reset.core c).rrbOf n = 0) ∧
    (∀ n, tblGet 0 (State.reset.core c).win n = 0) ∧ (State.reset.core c).cyc = 0 ∧ (State.reset.core c).ins = 0 ∧
    (State.reset.core c).ffc = 0 ∧ (State.reset.core c).smc = 0 ∧ (State.reset.core c).nkc = 0 ∧ (State.reset.core c).flc = 0 ∧
    (State.reset.core c).cpend = 0 ∧ (State.reset.core c).fmth = none) ∧
  ∀ c n, (State.reset.slot c n).busy = false ∧ (State.reset.slot c n).w.ctl.pace = 0 ∧ (State.reset.slot c n).w.ctl.swp = 0 ∧
    (State.reset.slot c n).w.ctl.smr = 0 ∧ (State.reset.slot c n).w.ctl.gmc = 0xF82800 ∧
    ∀ k, tblGet egReset (State.reset.slot c n).w.ctl.eg k = 0xFFFF000081

/-- Every step keeps memory in its one form, and the mode, the performance states, the park masks, PCEIL and HYST in their ranges. -/
def Obligations.StepsKeepLegal : Prop :=
 ∀ s t : State, Legal s → step s = .next t → Legal t

/-- R315, R316, R349, R366, R368, R369, with R17 to R19, R34, R76 to R94, R116, R180 to R183 and R431: `grow`, `shrink`, `stgpush`, `stgsub`, `lks`,
`lkm`, `tlbw`, `tlbi` and `setc` complete wherever their operands and the state meet the conditions of their rules: the next state stands
behind the group and holds what `NormalRun` says of it.
The model's choices: `stgpush` on a management core gives 1 (log entry 45), and which global and firmware entries `tlbi` removes (log entry
55). -/
def Obligations.MembersComplete : Prop :=
  ∀ (s : State) (i : Instr) (Q : State → Prop), NormalRun s i Q → ∃ t, exec i s = .next t ∧ t.me.pc = s.nextPc ∧ Q t
end

