-- ==== Sys2Proof/Laws/Tbl.lean ====
section
/-! SUPPORT. Laws of the sparse tables: a read after a set, other keys, rising keys. -/

namespace Sys2Proof

@[simp] theorem tblGet_nil {α : Type} (d : α) (k : Nat) : tblGet d [] k = d := rfl

/-- A read after a set at the same key gives the value set. -/
@[simp] theorem tblGet_set {α : Type} (d : α) (t : List (Nat × α)) (k : Nat) (v : α) : tblGet d (tblSet t k v) k = v := by
  induction t with
  | nil => simp [tblSet, tblGet]
  | cons e t ih =>
    simp only [tblSet]
    split
    · simp [tblGet]
    · split
      · simp [tblGet]
      · rename_i h1 h2
        simp [tblGet, h1, h2, ih]

/-- A set leaves every other key alone, whatever the order of the table. -/
theorem tblGet_set_ne {α : Type} (d : α) (t : List (Nat × α)) {k j : Nat} (v : α) (h : j ≠ k) :
    tblGet d (tblSet t k v) j = tblGet d t j := by
  induction t with
  | nil => simp only [tblSet, tblGet, if_neg h]; split <;> rfl
  | cons e t ih =>
    obtain ⟨i, x⟩ := e
    simp only [tblSet]
    split
    · rename_i hk
      simp only [tblGet, if_neg h, ← hk]
    · split
      · rename_i h1 h2
        simp only [tblGet, if_neg h]
        by_cases hlt : j < k
        · have h3 : j ≠ i := by omega
          have h4 : j < i := by omega
          simp [hlt, h3, h4]
        · simp [hlt]
      · simp only [tblGet, ih]

/-- Both together. -/
theorem tblGet_set_if {α : Type} (d : α) (t : List (Nat × α)) (k j : Nat) (v : α) :
    tblGet d (tblSet t k v) j = if j = k then v else tblGet d t j := by
  split
  · rename_i h; rw [h, tblGet_set]
  · rename_i h; exact tblGet_set_ne d t v h

/-- A set keeps keys rising, from any bound that the new key respects. -/
theorem tblRising_set {α : Type} (t : List (Nat × α)) (k : Nat) (v : α) :
    ∀ lo, tblRising lo t = true → lo ≤ k → tblRising lo (tblSet t k v) = true := by
  induction t with
  | nil => intro lo _ hk; simp [tblSet, tblRising, hk]
  | cons e t ih =>
    obtain ⟨i, x⟩ := e
    intro lo h hk
    simp only [tblRising, Bool.and_eq_true, decide_eq_true_eq] at h
    simp only [tblSet]
    split
    · rename_i he; subst he; simp [tblRising, h.1, h.2]
    · split
      · rename_i h1 h2
        simp only [tblRising, Bool.and_eq_true, decide_eq_true_eq]
        exact ⟨hk, by omega, h.2⟩
      · rename_i h1 h2
        simp only [tblRising, Bool.and_eq_true, decide_eq_true_eq]
        exact ⟨h.1, ih (i + 1) h.2 (by omega)⟩

/-- Rising from a bound is rising from a lower one. -/
theorem tblRising_mono {α : Type} (t : List (Nat × α)) {lo lo' : Nat} (hle : lo' ≤ lo) (h : tblRising lo t = true) :
    tblRising lo' t = true := by
  cases t with
  | nil => rfl
  | cons e t =>
    simp only [tblRising, Bool.and_eq_true, decide_eq_true_eq] at h ⊢
    exact ⟨by omega, h.2⟩

/-- A rising list stays so when entries go. -/
theorem tblRising_filter {α : Type} (p : Nat × α → Bool) (t : List (Nat × α)) :
    ∀ lo, tblRising lo t = true → tblRising lo (t.filter p) = true := by
  induction t with
  | nil => intro lo h; exact h
  | cons e t ih =>
    intro lo h
    simp only [tblRising, Bool.and_eq_true, decide_eq_true_eq] at h
    simp only [List.filter]
    split
    · simp only [tblRising, Bool.and_eq_true, decide_eq_true_eq]
      exact ⟨h.1, ih _ h.2⟩
    · exact tblRising_mono _ (by omega) (ih _ h.2)

/-- Below every key of a rising table, the table gives its default. -/
theorem tblGet_below {α : Type} (d : α) (t : List (Nat × α)) :
    ∀ {lo k : Nat}, tblRising lo t = true → k < lo → tblGet d t k = d := by
  cases t with
  | nil => intros; rfl
  | cons e t =>
    intro lo k h hk
    simp only [tblRising, Bool.and_eq_true, decide_eq_true_eq] at h
    have h1 : k ≠ e.1 := by omega
    have h2 : k < e.1 := by omega
    simp [tblGet, h1, h2]

end Sys2Proof
end

