-- ==== Sys2Proof/Laws/State.lean ====
section
/-! SUPPORT. One lemma for each field and each named update of `State`, true by unfolding, and the reads of cores, slots, clusters,
engines and queues after an update. -/

namespace Sys2Proof.Machine

/-! ### `State.setCore` -/

@[simp] theorem State.setCore_mem (s : State) (c : Nat) (k : Core) : (s.setCore c k).mem = s.mem := rfl
@[simp] theorem State.setCore_valid (s : State) (c : Nat) (k : Core) : (s.setCore c k).valid = s.valid := rfl
@[simp] theorem State.setCore_rowMap (s : State) (c : Nat) (k : Core) : (s.setCore c k).rowMap = s.rowMap := rfl
@[simp] theorem State.setCore_failOk (s : State) (c : Nat) (k : Core) : (s.setCore c k).failOk = s.failOk := rfl
@[simp] theorem State.setCore_floors (s : State) (c : Nat) (k : Core) : (s.setCore c k).floors = s.floors := rfl
@[simp] theorem State.setCore_clusters (s : State) (c : Nat) (k : Core) : (s.setCore c k).clusters = s.clusters := rfl
@[simp] theorem State.setCore_engines (s : State) (c : Nat) (k : Core) : (s.setCore c k).engines = s.engines := rfl
@[simp] theorem State.setCore_contexts (s : State) (c : Nat) (k : Core) : (s.setCore c k).contexts = s.contexts := rfl
@[simp] theorem State.setCore_teams (s : State) (c : Nat) (k : Core) : (s.setCore c k).teams = s.teams := rfl
@[simp] theorem State.setCore_launches (s : State) (c : Nat) (k : Core) : (s.setCore c k).launches = s.launches := rfl
@[simp] theorem State.setCore_parked (s : State) (c : Nat) (k : Core) : (s.setCore c k).parked = s.parked := rfl
@[simp] theorem State.setCore_inflight (s : State) (c : Nat) (k : Core) : (s.setCore c k).inflight = s.inflight := rfl
@[simp] theorem State.setCore_gathers (s : State) (c : Nat) (k : Core) : (s.setCore c k).gathers = s.gathers := rfl
@[simp] theorem State.setCore_returns (s : State) (c : Nat) (k : Core) : (s.setCore c k).returns = s.returns := rfl
@[simp] theorem State.setCore_packets (s : State) (c : Nat) (k : Core) : (s.setCore c k).packets = s.packets := rfl
@[simp] theorem State.setCore_results (s : State) (c : Nat) (k : Core) : (s.setCore c k).results = s.results := rfl
@[simp] theorem State.setCore_bcts (s : State) (c : Nat) (k : Core) : (s.setCore c k).bcts = s.bcts := rfl
@[simp] theorem State.setCore_routes (s : State) (c : Nat) (k : Core) : (s.setCore c k).routes = s.routes := rfl
@[simp] theorem State.setCore_routesUp (s : State) (c : Nat) (k : Core) : (s.setCore c k).routesUp = s.routesUp := rfl
@[simp] theorem State.setCore_marks (s : State) (c : Nat) (k : Core) : (s.setCore c k).marks = s.marks := rfl
@[simp] theorem State.setCore_wakes (s : State) (c : Nat) (k : Core) : (s.setCore c k).wakes = s.wakes := rfl
@[simp] theorem State.setCore_tsen (s : State) (c : Nat) (k : Core) : (s.setCore c k).tsen = s.tsen := rfl
@[simp] theorem State.setCore_tprd (s : State) (c : Nat) (k : Core) : (s.setCore c k).tprd = s.tprd := rfl
@[simp] theorem State.setCore_icl (s : State) (c : Nat) (k : Core) : (s.setCore c k).icl = s.icl := rfl
@[simp] theorem State.setCore_pceil (s : State) (c : Nat) (k : Core) : (s.setCore c k).pceil = s.pceil := rfl
@[simp] theorem State.setCore_pmeas (s : State) (c : Nat) (k : Core) : (s.setCore c k).pmeas = s.pmeas := rfl
@[simp] theorem State.setCore_alth (s : State) (c : Nat) (k : Core) : (s.setCore c k).alth = s.alth := rfl
@[simp] theorem State.setCore_hyst (s : State) (c : Nat) (k : Core) : (s.setCore c k).hyst = s.hyst := rfl
@[simp] theorem State.setCore_alst (s : State) (c : Nat) (k : Core) : (s.setCore c k).alst = s.alst := rfl
@[simp] theorem State.setCore_tlogp (s : State) (c : Nat) (k : Core) : (s.setCore c k).tlogp = s.tlogp := rfl
@[simp] theorem State.setCore_usec (s : State) (c : Nat) (k : Core) : (s.setCore c k).usec = s.usec := rfl
@[simp] theorem State.setCore_heldAlerts (s : State) (c : Nat) (k : Core) : (s.setCore c k).heldAlerts = s.heldAlerts := rfl
@[simp] theorem State.setCore_mode (s : State) (c : Nat) (k : Core) : (s.setCore c k).mode = s.mode := rfl
@[simp] theorem State.setCore_modnum (s : State) (c : Nat) (k : Core) : (s.setCore c k).modnum = s.modnum := rfl
@[simp] theorem State.setCore_poison (s : State) (c : Nat) (k : Core) : (s.setCore c k).poison = s.poison := rfl
@[simp] theorem State.setCore_retired (s : State) (c : Nat) (k : Core) : (s.setCore c k).retired = s.retired := rfl
@[simp] theorem State.setCore_narrowing (s : State) (c : Nat) (k : Core) : (s.setCore c k).narrowing = s.narrowing := rfl
@[simp] theorem State.setCore_coreCtx (s : State) (c : Nat) (k : Core) : (s.setCore c k).coreCtx = s.coreCtx := rfl
@[simp] theorem State.setCore_psTable (s : State) (c : Nat) (k : Core) : (s.setCore c k).psTable = s.psTable := rfl
@[simp] theorem State.setCore_cycles (s : State) (c : Nat) (k : Core) : (s.setCore c k).cycles = s.cycles := rfl
@[simp] theorem State.setCore_phases (s : State) (c : Nat) (k : Core) : (s.setCore c k).phases = s.phases := rfl
@[simp] theorem State.setCore_freshDuty (s : State) (c : Nat) (k : Core) : (s.setCore c k).freshDuty = s.freshDuty := rfl
@[simp] theorem State.setCore_fwImage (s : State) (c : Nat) (k : Core) : (s.setCore c k).fwImage = s.fwImage := rfl
@[simp] theorem State.setCore_reply (s : State) (c : Nat) (k : Core) : (s.setCore c k).reply = s.reply := rfl
@[simp] theorem State.setCore_psCur (s : State) (c : Nat) (k : Core) : (s.setCore c k).psCur = s.psCur := rfl
@[simp] theorem State.setCore_psReq (s : State) (c : Nat) (k : Core) : (s.setCore c k).psReq = s.psReq := rfl
@[simp] theorem State.setCore_psBusy (s : State) (c : Nat) (k : Core) : (s.setCore c k).psBusy = s.psBusy := rfl
@[simp] theorem State.setCore_psTarget (s : State) (c : Nat) (k : Core) : (s.setCore c k).psTarget = s.psTarget := rfl
@[simp] theorem State.setCore_psDecl (s : State) (c : Nat) (k : Core) : (s.setCore c k).psDecl = s.psDecl := rfl
@[simp] theorem State.setCore_psDone (s : State) (c : Nat) (k : Core) : (s.setCore c k).psDone = s.psDone := rfl
@[simp] theorem State.setCore_psPark4 (s : State) (c : Nat) (k : Core) : (s.setCore c k).psPark4 = s.psPark4 := rfl
@[simp] theorem State.setCore_psPark5 (s : State) (c : Nat) (k : Core) : (s.setCore c k).psPark5 = s.psPark5 := rfl
@[simp] theorem State.setCore_islandPs (s : State) (c : Nat) (k : Core) : (s.setCore c k).islandPs = s.islandPs := rfl
@[simp] theorem State.setCore_clampOn (s : State) (c : Nat) (k : Core) : (s.setCore c k).clampOn = s.clampOn := rfl
@[simp] theorem State.setCore_excess (s : State) (c : Nat) (k : Core) : (s.setCore c k).excess = s.excess := rfl
@[simp] theorem State.setCore_aboveCeil (s : State) (c : Nat) (k : Core) : (s.setCore c k).aboveCeil = s.aboveCeil := rfl
@[simp] theorem State.setCore_backstop (s : State) (c : Nat) (k : Core) : (s.setCore c k).backstop = s.backstop := rfl
@[simp] theorem State.setCore_dieParked (s : State) (c : Nat) (k : Core) : (s.setCore c k).dieParked = s.dieParked := rfl
@[simp] theorem State.setCore_dieClosed (s : State) (c : Nat) (k : Core) : (s.setCore c k).dieClosed = s.dieClosed := rfl
@[simp] theorem State.setCore_savedFloor (s : State) (c : Nat) (k : Core) : (s.setCore c k).savedFloor = s.savedFloor := rfl
@[simp] theorem State.setCore_queues (s : State) (c : Nat) (k : Core) : (s.setCore c k).queues = s.queues := rfl
@[simp] theorem State.setCore_lastQ (s : State) (c : Nat) (k : Core) : (s.setCore c k).lastQ = s.lastQ := rfl
@[simp] theorem State.setCore_faults (s : State) (c : Nat) (k : Core) : (s.setCore c k).faults = s.faults := rfl
@[simp] theorem State.setCore_attest (s : State) (c : Nat) (k : Core) : (s.setCore c k).attest = s.attest := rfl
@[simp] theorem State.setCore_recov (s : State) (c : Nat) (k : Core) : (s.setCore c k).recov = s.recov := rfl
@[simp] theorem State.setCore_podArrived (s : State) (c : Nat) (k : Core) : (s.setCore c k).podArrived = s.podArrived := rfl
@[simp] theorem State.setCore_checkpoint (s : State) (c : Nat) (k : Core) : (s.setCore c k).checkpoint = s.checkpoint := rfl
@[simp] theorem State.setCore_links (s : State) (c : Nat) (k : Core) : (s.setCore c k).links = s.links := rfl
@[simp] theorem State.setCore_cur (s : State) (c : Nat) (k : Core) : (s.setCore c k).cur = s.cur := rfl
@[simp] theorem State.setCore_agenda (s : State) (c : Nat) (k : Core) : (s.setCore c k).agenda = s.agenda := rfl
@[simp] theorem State.setCore_beat (s : State) (c : Nat) (k : Core) : (s.setCore c k).beat = s.beat := rfl
@[simp] theorem State.setCore_nextId (s : State) (c : Nat) (k : Core) : (s.setCore c k).nextId = s.nextId := rfl

/-! ### `State.modCluster` -/

@[simp] theorem State.modCluster_mem (s : State) (n : Nat) (f : Cluster → Cluster) : (s.modCluster n f).mem = s.mem := rfl
@[simp] theorem State.modCluster_valid (s : State) (n : Nat) (f : Cluster → Cluster) : (s.modCluster n f).valid = s.valid := rfl
@[simp] theorem State.modCluster_rowMap (s : State) (n : Nat) (f : Cluster → Cluster) : (s.modCluster n f).rowMap = s.rowMap := rfl
@[simp] theorem State.modCluster_failOk (s : State) (n : Nat) (f : Cluster → Cluster) : (s.modCluster n f).failOk = s.failOk := rfl
@[simp] theorem State.modCluster_floors (s : State) (n : Nat) (f : Cluster → Cluster) : (s.modCluster n f).floors = s.floors := rfl
@[simp] theorem State.modCluster_cores (s : State) (n : Nat) (f : Cluster → Cluster) : (s.modCluster n f).cores = s.cores := rfl
@[simp] theorem State.modCluster_engines (s : State) (n : Nat) (f : Cluster → Cluster) : (s.modCluster n f).engines = s.engines := rfl
@[simp] theorem State.modCluster_contexts (s : State) (n : Nat) (f : Cluster → Cluster) : (s.modCluster n f).contexts = s.contexts := rfl
@[simp] theorem State.modCluster_teams (s : State) (n : Nat) (f : Cluster → Cluster) : (s.modCluster n f).teams = s.teams := rfl
@[simp] theorem State.modCluster_launches (s : State) (n : Nat) (f : Cluster → Cluster) : (s.modCluster n f).launches = s.launches := rfl
@[simp] theorem State.modCluster_parked (s : State) (n : Nat) (f : Cluster → Cluster) : (s.modCluster n f).parked = s.parked := rfl
@[simp] theorem State.modCluster_inflight (s : State) (n : Nat) (f : Cluster → Cluster) : (s.modCluster n f).inflight = s.inflight := rfl
@[simp] theorem State.modCluster_gathers (s : State) (n : Nat) (f : Cluster → Cluster) : (s.modCluster n f).gathers = s.gathers := rfl
@[simp] theorem State.modCluster_returns (s : State) (n : Nat) (f : Cluster → Cluster) : (s.modCluster n f).returns = s.returns := rfl
@[simp] theorem State.modCluster_packets (s : State) (n : Nat) (f : Cluster → Cluster) : (s.modCluster n f).packets = s.packets := rfl
@[simp] theorem State.modCluster_results (s : State) (n : Nat) (f : Cluster → Cluster) : (s.modCluster n f).results = s.results := rfl
@[simp] theorem State.modCluster_bcts (s : State) (n : Nat) (f : Cluster → Cluster) : (s.modCluster n f).bcts = s.bcts := rfl
@[simp] theorem State.modCluster_routes (s : State) (n : Nat) (f : Cluster → Cluster) : (s.modCluster n f).routes = s.routes := rfl
@[simp] theorem State.modCluster_routesUp (s : State) (n : Nat) (f : Cluster → Cluster) : (s.modCluster n f).routesUp = s.routesUp := rfl
@[simp] theorem State.modCluster_marks (s : State) (n : Nat) (f : Cluster → Cluster) : (s.modCluster n f).marks = s.marks := rfl
@[simp] theorem State.modCluster_wakes (s : State) (n : Nat) (f : Cluster → Cluster) : (s.modCluster n f).wakes = s.wakes := rfl
@[simp] theorem State.modCluster_tsen (s : State) (n : Nat) (f : Cluster → Cluster) : (s.modCluster n f).tsen = s.tsen := rfl
@[simp] theorem State.modCluster_tprd (s : State) (n : Nat) (f : Cluster → Cluster) : (s.modCluster n f).tprd = s.tprd := rfl
@[simp] theorem State.modCluster_icl (s : State) (n : Nat) (f : Cluster → Cluster) : (s.modCluster n f).icl = s.icl := rfl
@[simp] theorem State.modCluster_pceil (s : State) (n : Nat) (f : Cluster → Cluster) : (s.modCluster n f).pceil = s.pceil := rfl
@[simp] theorem State.modCluster_pmeas (s : State) (n : Nat) (f : Cluster → Cluster) : (s.modCluster n f).pmeas = s.pmeas := rfl
@[simp] theorem State.modCluster_alth (s : State) (n : Nat) (f : Cluster → Cluster) : (s.modCluster n f).alth = s.alth := rfl
@[simp] theorem State.modCluster_hyst (s : State) (n : Nat) (f : Cluster → Cluster) : (s.modCluster n f).hyst = s.hyst := rfl
@[simp] theorem State.modCluster_alst (s : State) (n : Nat) (f : Cluster → Cluster) : (s.modCluster n f).alst = s.alst := rfl
@[simp] theorem State.modCluster_tlogp (s : State) (n : Nat) (f : Cluster → Cluster) : (s.modCluster n f).tlogp = s.tlogp := rfl
@[simp] theorem State.modCluster_usec (s : State) (n : Nat) (f : Cluster → Cluster) : (s.modCluster n f).usec = s.usec := rfl
@[simp] theorem State.modCluster_heldAlerts (s : State) (n : Nat) (f : Cluster → Cluster) : (s.modCluster n f).heldAlerts = s.heldAlerts := rfl
@[simp] theorem State.modCluster_mode (s : State) (n : Nat) (f : Cluster → Cluster) : (s.modCluster n f).mode = s.mode := rfl
@[simp] theorem State.modCluster_modnum (s : State) (n : Nat) (f : Cluster → Cluster) : (s.modCluster n f).modnum = s.modnum := rfl
@[simp] theorem State.modCluster_poison (s : State) (n : Nat) (f : Cluster → Cluster) : (s.modCluster n f).poison = s.poison := rfl
@[simp] theorem State.modCluster_retired (s : State) (n : Nat) (f : Cluster → Cluster) : (s.modCluster n f).retired = s.retired := rfl
@[simp] theorem State.modCluster_narrowing (s : State) (n : Nat) (f : Cluster → Cluster) : (s.modCluster n f).narrowing = s.narrowing := rfl
@[simp] theorem State.modCluster_coreCtx (s : State) (n : Nat) (f : Cluster → Cluster) : (s.modCluster n f).coreCtx = s.coreCtx := rfl
@[simp] theorem State.modCluster_psTable (s : State) (n : Nat) (f : Cluster → Cluster) : (s.modCluster n f).psTable = s.psTable := rfl
@[simp] theorem State.modCluster_cycles (s : State) (n : Nat) (f : Cluster → Cluster) : (s.modCluster n f).cycles = s.cycles := rfl
@[simp] theorem State.modCluster_phases (s : State) (n : Nat) (f : Cluster → Cluster) : (s.modCluster n f).phases = s.phases := rfl
@[simp] theorem State.modCluster_freshDuty (s : State) (n : Nat) (f : Cluster → Cluster) : (s.modCluster n f).freshDuty = s.freshDuty := rfl
@[simp] theorem State.modCluster_fwImage (s : State) (n : Nat) (f : Cluster → Cluster) : (s.modCluster n f).fwImage = s.fwImage := rfl
@[simp] theorem State.modCluster_reply (s : State) (n : Nat) (f : Cluster → Cluster) : (s.modCluster n f).reply = s.reply := rfl
@[simp] theorem State.modCluster_psCur (s : State) (n : Nat) (f : Cluster → Cluster) : (s.modCluster n f).psCur = s.psCur := rfl
@[simp] theorem State.modCluster_psReq (s : State) (n : Nat) (f : Cluster → Cluster) : (s.modCluster n f).psReq = s.psReq := rfl
@[simp] theorem State.modCluster_psBusy (s : State) (n : Nat) (f : Cluster → Cluster) : (s.modCluster n f).psBusy = s.psBusy := rfl
@[simp] theorem State.modCluster_psTarget (s : State) (n : Nat) (f : Cluster → Cluster) : (s.modCluster n f).psTarget = s.psTarget := rfl
@[simp] theorem State.modCluster_psDecl (s : State) (n : Nat) (f : Cluster → Cluster) : (s.modCluster n f).psDecl = s.psDecl := rfl
@[simp] theorem State.modCluster_psDone (s : State) (n : Nat) (f : Cluster → Cluster) : (s.modCluster n f).psDone = s.psDone := rfl
@[simp] theorem State.modCluster_psPark4 (s : State) (n : Nat) (f : Cluster → Cluster) : (s.modCluster n f).psPark4 = s.psPark4 := rfl
@[simp] theorem State.modCluster_psPark5 (s : State) (n : Nat) (f : Cluster → Cluster) : (s.modCluster n f).psPark5 = s.psPark5 := rfl
@[simp] theorem State.modCluster_islandPs (s : State) (n : Nat) (f : Cluster → Cluster) : (s.modCluster n f).islandPs = s.islandPs := rfl
@[simp] theorem State.modCluster_clampOn (s : State) (n : Nat) (f : Cluster → Cluster) : (s.modCluster n f).clampOn = s.clampOn := rfl
@[simp] theorem State.modCluster_excess (s : State) (n : Nat) (f : Cluster → Cluster) : (s.modCluster n f).excess = s.excess := rfl
@[simp] theorem State.modCluster_aboveCeil (s : State) (n : Nat) (f : Cluster → Cluster) : (s.modCluster n f).aboveCeil = s.aboveCeil := rfl
@[simp] theorem State.modCluster_backstop (s : State) (n : Nat) (f : Cluster → Cluster) : (s.modCluster n f).backstop = s.backstop := rfl
@[simp] theorem State.modCluster_dieParked (s : State) (n : Nat) (f : Cluster → Cluster) : (s.modCluster n f).dieParked = s.dieParked := rfl
@[simp] theorem State.modCluster_dieClosed (s : State) (n : Nat) (f : Cluster → Cluster) : (s.modCluster n f).dieClosed = s.dieClosed := rfl
@[simp] theorem State.modCluster_savedFloor (s : State) (n : Nat) (f : Cluster → Cluster) : (s.modCluster n f).savedFloor = s.savedFloor := rfl
@[simp] theorem State.modCluster_queues (s : State) (n : Nat) (f : Cluster → Cluster) : (s.modCluster n f).queues = s.queues := rfl
@[simp] theorem State.modCluster_lastQ (s : State) (n : Nat) (f : Cluster → Cluster) : (s.modCluster n f).lastQ = s.lastQ := rfl
@[simp] theorem State.modCluster_faults (s : State) (n : Nat) (f : Cluster → Cluster) : (s.modCluster n f).faults = s.faults := rfl
@[simp] theorem State.modCluster_attest (s : State) (n : Nat) (f : Cluster → Cluster) : (s.modCluster n f).attest = s.attest := rfl
@[simp] theorem State.modCluster_recov (s : State) (n : Nat) (f : Cluster → Cluster) : (s.modCluster n f).recov = s.recov := rfl
@[simp] theorem State.modCluster_podArrived (s : State) (n : Nat) (f : Cluster → Cluster) : (s.modCluster n f).podArrived = s.podArrived := rfl
@[simp] theorem State.modCluster_checkpoint (s : State) (n : Nat) (f : Cluster → Cluster) : (s.modCluster n f).checkpoint = s.checkpoint := rfl
@[simp] theorem State.modCluster_links (s : State) (n : Nat) (f : Cluster → Cluster) : (s.modCluster n f).links = s.links := rfl
@[simp] theorem State.modCluster_cur (s : State) (n : Nat) (f : Cluster → Cluster) : (s.modCluster n f).cur = s.cur := rfl
@[simp] theorem State.modCluster_agenda (s : State) (n : Nat) (f : Cluster → Cluster) : (s.modCluster n f).agenda = s.agenda := rfl
@[simp] theorem State.modCluster_beat (s : State) (n : Nat) (f : Cluster → Cluster) : (s.modCluster n f).beat = s.beat := rfl
@[simp] theorem State.modCluster_nextId (s : State) (n : Nat) (f : Cluster → Cluster) : (s.modCluster n f).nextId = s.nextId := rfl

/-! ### `State.setEngine` -/

@[simp] theorem State.setEngine_mem (s : State) (e : Nat) (x : Engine) : (s.setEngine e x).mem = s.mem := rfl
@[simp] theorem State.setEngine_valid (s : State) (e : Nat) (x : Engine) : (s.setEngine e x).valid = s.valid := rfl
@[simp] theorem State.setEngine_rowMap (s : State) (e : Nat) (x : Engine) : (s.setEngine e x).rowMap = s.rowMap := rfl
@[simp] theorem State.setEngine_failOk (s : State) (e : Nat) (x : Engine) : (s.setEngine e x).failOk = s.failOk := rfl
@[simp] theorem State.setEngine_floors (s : State) (e : Nat) (x : Engine) : (s.setEngine e x).floors = s.floors := rfl
@[simp] theorem State.setEngine_cores (s : State) (e : Nat) (x : Engine) : (s.setEngine e x).cores = s.cores := rfl
@[simp] theorem State.setEngine_clusters (s : State) (e : Nat) (x : Engine) : (s.setEngine e x).clusters = s.clusters := rfl
@[simp] theorem State.setEngine_contexts (s : State) (e : Nat) (x : Engine) : (s.setEngine e x).contexts = s.contexts := rfl
@[simp] theorem State.setEngine_teams (s : State) (e : Nat) (x : Engine) : (s.setEngine e x).teams = s.teams := rfl
@[simp] theorem State.setEngine_launches (s : State) (e : Nat) (x : Engine) : (s.setEngine e x).launches = s.launches := rfl
@[simp] theorem State.setEngine_parked (s : State) (e : Nat) (x : Engine) : (s.setEngine e x).parked = s.parked := rfl
@[simp] theorem State.setEngine_inflight (s : State) (e : Nat) (x : Engine) : (s.setEngine e x).inflight = s.inflight := rfl
@[simp] theorem State.setEngine_gathers (s : State) (e : Nat) (x : Engine) : (s.setEngine e x).gathers = s.gathers := rfl
@[simp] theorem State.setEngine_returns (s : State) (e : Nat) (x : Engine) : (s.setEngine e x).returns = s.returns := rfl
@[simp] theorem State.setEngine_packets (s : State) (e : Nat) (x : Engine) : (s.setEngine e x).packets = s.packets := rfl
@[simp] theorem State.setEngine_results (s : State) (e : Nat) (x : Engine) : (s.setEngine e x).results = s.results := rfl
@[simp] theorem State.setEngine_bcts (s : State) (e : Nat) (x : Engine) : (s.setEngine e x).bcts = s.bcts := rfl
@[simp] theorem State.setEngine_routes (s : State) (e : Nat) (x : Engine) : (s.setEngine e x).routes = s.routes := rfl
@[simp] theorem State.setEngine_routesUp (s : State) (e : Nat) (x : Engine) : (s.setEngine e x).routesUp = s.routesUp := rfl
@[simp] theorem State.setEngine_marks (s : State) (e : Nat) (x : Engine) : (s.setEngine e x).marks = s.marks := rfl
@[simp] theorem State.setEngine_wakes (s : State) (e : Nat) (x : Engine) : (s.setEngine e x).wakes = s.wakes := rfl
@[simp] theorem State.setEngine_tsen (s : State) (e : Nat) (x : Engine) : (s.setEngine e x).tsen = s.tsen := rfl
@[simp] theorem State.setEngine_tprd (s : State) (e : Nat) (x : Engine) : (s.setEngine e x).tprd = s.tprd := rfl
@[simp] theorem State.setEngine_icl (s : State) (e : Nat) (x : Engine) : (s.setEngine e x).icl = s.icl := rfl
@[simp] theorem State.setEngine_pceil (s : State) (e : Nat) (x : Engine) : (s.setEngine e x).pceil = s.pceil := rfl
@[simp] theorem State.setEngine_pmeas (s : State) (e : Nat) (x : Engine) : (s.setEngine e x).pmeas = s.pmeas := rfl
@[simp] theorem State.setEngine_alth (s : State) (e : Nat) (x : Engine) : (s.setEngine e x).alth = s.alth := rfl
@[simp] theorem State.setEngine_hyst (s : State) (e : Nat) (x : Engine) : (s.setEngine e x).hyst = s.hyst := rfl
@[simp] theorem State.setEngine_alst (s : State) (e : Nat) (x : Engine) : (s.setEngine e x).alst = s.alst := rfl
@[simp] theorem State.setEngine_tlogp (s : State) (e : Nat) (x : Engine) : (s.setEngine e x).tlogp = s.tlogp := rfl
@[simp] theorem State.setEngine_usec (s : State) (e : Nat) (x : Engine) : (s.setEngine e x).usec = s.usec := rfl
@[simp] theorem State.setEngine_heldAlerts (s : State) (e : Nat) (x : Engine) : (s.setEngine e x).heldAlerts = s.heldAlerts := rfl
@[simp] theorem State.setEngine_mode (s : State) (e : Nat) (x : Engine) : (s.setEngine e x).mode = s.mode := rfl
@[simp] theorem State.setEngine_modnum (s : State) (e : Nat) (x : Engine) : (s.setEngine e x).modnum = s.modnum := rfl
@[simp] theorem State.setEngine_poison (s : State) (e : Nat) (x : Engine) : (s.setEngine e x).poison = s.poison := rfl
@[simp] theorem State.setEngine_retired (s : State) (e : Nat) (x : Engine) : (s.setEngine e x).retired = s.retired := rfl
@[simp] theorem State.setEngine_narrowing (s : State) (e : Nat) (x : Engine) : (s.setEngine e x).narrowing = s.narrowing := rfl
@[simp] theorem State.setEngine_coreCtx (s : State) (e : Nat) (x : Engine) : (s.setEngine e x).coreCtx = s.coreCtx := rfl
@[simp] theorem State.setEngine_psTable (s : State) (e : Nat) (x : Engine) : (s.setEngine e x).psTable = s.psTable := rfl
@[simp] theorem State.setEngine_cycles (s : State) (e : Nat) (x : Engine) : (s.setEngine e x).cycles = s.cycles := rfl
@[simp] theorem State.setEngine_phases (s : State) (e : Nat) (x : Engine) : (s.setEngine e x).phases = s.phases := rfl
@[simp] theorem State.setEngine_freshDuty (s : State) (e : Nat) (x : Engine) : (s.setEngine e x).freshDuty = s.freshDuty := rfl
@[simp] theorem State.setEngine_fwImage (s : State) (e : Nat) (x : Engine) : (s.setEngine e x).fwImage = s.fwImage := rfl
@[simp] theorem State.setEngine_reply (s : State) (e : Nat) (x : Engine) : (s.setEngine e x).reply = s.reply := rfl
@[simp] theorem State.setEngine_psCur (s : State) (e : Nat) (x : Engine) : (s.setEngine e x).psCur = s.psCur := rfl
@[simp] theorem State.setEngine_psReq (s : State) (e : Nat) (x : Engine) : (s.setEngine e x).psReq = s.psReq := rfl
@[simp] theorem State.setEngine_psBusy (s : State) (e : Nat) (x : Engine) : (s.setEngine e x).psBusy = s.psBusy := rfl
@[simp] theorem State.setEngine_psTarget (s : State) (e : Nat) (x : Engine) : (s.setEngine e x).psTarget = s.psTarget := rfl
@[simp] theorem State.setEngine_psDecl (s : State) (e : Nat) (x : Engine) : (s.setEngine e x).psDecl = s.psDecl := rfl
@[simp] theorem State.setEngine_psDone (s : State) (e : Nat) (x : Engine) : (s.setEngine e x).psDone = s.psDone := rfl
@[simp] theorem State.setEngine_psPark4 (s : State) (e : Nat) (x : Engine) : (s.setEngine e x).psPark4 = s.psPark4 := rfl
@[simp] theorem State.setEngine_psPark5 (s : State) (e : Nat) (x : Engine) : (s.setEngine e x).psPark5 = s.psPark5 := rfl
@[simp] theorem State.setEngine_islandPs (s : State) (e : Nat) (x : Engine) : (s.setEngine e x).islandPs = s.islandPs := rfl
@[simp] theorem State.setEngine_clampOn (s : State) (e : Nat) (x : Engine) : (s.setEngine e x).clampOn = s.clampOn := rfl
@[simp] theorem State.setEngine_excess (s : State) (e : Nat) (x : Engine) : (s.setEngine e x).excess = s.excess := rfl
@[simp] theorem State.setEngine_aboveCeil (s : State) (e : Nat) (x : Engine) : (s.setEngine e x).aboveCeil = s.aboveCeil := rfl
@[simp] theorem State.setEngine_backstop (s : State) (e : Nat) (x : Engine) : (s.setEngine e x).backstop = s.backstop := rfl
@[simp] theorem State.setEngine_dieParked (s : State) (e : Nat) (x : Engine) : (s.setEngine e x).dieParked = s.dieParked := rfl
@[simp] theorem State.setEngine_dieClosed (s : State) (e : Nat) (x : Engine) : (s.setEngine e x).dieClosed = s.dieClosed := rfl
@[simp] theorem State.setEngine_savedFloor (s : State) (e : Nat) (x : Engine) : (s.setEngine e x).savedFloor = s.savedFloor := rfl
@[simp] theorem State.setEngine_queues (s : State) (e : Nat) (x : Engine) : (s.setEngine e x).queues = s.queues := rfl
@[simp] theorem State.setEngine_lastQ (s : State) (e : Nat) (x : Engine) : (s.setEngine e x).lastQ = s.lastQ := rfl
@[simp] theorem State.setEngine_faults (s : State) (e : Nat) (x : Engine) : (s.setEngine e x).faults = s.faults := rfl
@[simp] theorem State.setEngine_attest (s : State) (e : Nat) (x : Engine) : (s.setEngine e x).attest = s.attest := rfl
@[simp] theorem State.setEngine_recov (s : State) (e : Nat) (x : Engine) : (s.setEngine e x).recov = s.recov := rfl
@[simp] theorem State.setEngine_podArrived (s : State) (e : Nat) (x : Engine) : (s.setEngine e x).podArrived = s.podArrived := rfl
@[simp] theorem State.setEngine_checkpoint (s : State) (e : Nat) (x : Engine) : (s.setEngine e x).checkpoint = s.checkpoint := rfl
@[simp] theorem State.setEngine_links (s : State) (e : Nat) (x : Engine) : (s.setEngine e x).links = s.links := rfl
@[simp] theorem State.setEngine_cur (s : State) (e : Nat) (x : Engine) : (s.setEngine e x).cur = s.cur := rfl
@[simp] theorem State.setEngine_agenda (s : State) (e : Nat) (x : Engine) : (s.setEngine e x).agenda = s.agenda := rfl
@[simp] theorem State.setEngine_beat (s : State) (e : Nat) (x : Engine) : (s.setEngine e x).beat = s.beat := rfl
@[simp] theorem State.setEngine_nextId (s : State) (e : Nat) (x : Engine) : (s.setEngine e x).nextId = s.nextId := rfl

/-! ### `State.setQueue` -/

@[simp] theorem State.setQueue_mem (s : State) (q : Nat) (x : HostQ) : (s.setQueue q x).mem = s.mem := rfl
@[simp] theorem State.setQueue_valid (s : State) (q : Nat) (x : HostQ) : (s.setQueue q x).valid = s.valid := rfl
@[simp] theorem State.setQueue_rowMap (s : State) (q : Nat) (x : HostQ) : (s.setQueue q x).rowMap = s.rowMap := rfl
@[simp] theorem State.setQueue_failOk (s : State) (q : Nat) (x : HostQ) : (s.setQueue q x).failOk = s.failOk := rfl
@[simp] theorem State.setQueue_floors (s : State) (q : Nat) (x : HostQ) : (s.setQueue q x).floors = s.floors := rfl
@[simp] theorem State.setQueue_cores (s : State) (q : Nat) (x : HostQ) : (s.setQueue q x).cores = s.cores := rfl
@[simp] theorem State.setQueue_clusters (s : State) (q : Nat) (x : HostQ) : (s.setQueue q x).clusters = s.clusters := rfl
@[simp] theorem State.setQueue_engines (s : State) (q : Nat) (x : HostQ) : (s.setQueue q x).engines = s.engines := rfl
@[simp] theorem State.setQueue_contexts (s : State) (q : Nat) (x : HostQ) : (s.setQueue q x).contexts = s.contexts := rfl
@[simp] theorem State.setQueue_teams (s : State) (q : Nat) (x : HostQ) : (s.setQueue q x).teams = s.teams := rfl
@[simp] theorem State.setQueue_launches (s : State) (q : Nat) (x : HostQ) : (s.setQueue q x).launches = s.launches := rfl
@[simp] theorem State.setQueue_parked (s : State) (q : Nat) (x : HostQ) : (s.setQueue q x).parked = s.parked := rfl
@[simp] theorem State.setQueue_inflight (s : State) (q : Nat) (x : HostQ) : (s.setQueue q x).inflight = s.inflight := rfl
@[simp] theorem State.setQueue_gathers (s : State) (q : Nat) (x : HostQ) : (s.setQueue q x).gathers = s.gathers := rfl
@[simp] theorem State.setQueue_returns (s : State) (q : Nat) (x : HostQ) : (s.setQueue q x).returns = s.returns := rfl
@[simp] theorem State.setQueue_packets (s : State) (q : Nat) (x : HostQ) : (s.setQueue q x).packets = s.packets := rfl
@[simp] theorem State.setQueue_results (s : State) (q : Nat) (x : HostQ) : (s.setQueue q x).results = s.results := rfl
@[simp] theorem State.setQueue_bcts (s : State) (q : Nat) (x : HostQ) : (s.setQueue q x).bcts = s.bcts := rfl
@[simp] theorem State.setQueue_routes (s : State) (q : Nat) (x : HostQ) : (s.setQueue q x).routes = s.routes := rfl
@[simp] theorem State.setQueue_routesUp (s : State) (q : Nat) (x : HostQ) : (s.setQueue q x).routesUp = s.routesUp := rfl
@[simp] theorem State.setQueue_marks (s : State) (q : Nat) (x : HostQ) : (s.setQueue q x).marks = s.marks := rfl
@[simp] theorem State.setQueue_wakes (s : State) (q : Nat) (x : HostQ) : (s.setQueue q x).wakes = s.wakes := rfl
@[simp] theorem State.setQueue_tsen (s : State) (q : Nat) (x : HostQ) : (s.setQueue q x).tsen = s.tsen := rfl
@[simp] theorem State.setQueue_tprd (s : State) (q : Nat) (x : HostQ) : (s.setQueue q x).tprd = s.tprd := rfl
@[simp] theorem State.setQueue_icl (s : State) (q : Nat) (x : HostQ) : (s.setQueue q x).icl = s.icl := rfl
@[simp] theorem State.setQueue_pceil (s : State) (q : Nat) (x : HostQ) : (s.setQueue q x).pceil = s.pceil := rfl
@[simp] theorem State.setQueue_pmeas (s : State) (q : Nat) (x : HostQ) : (s.setQueue q x).pmeas = s.pmeas := rfl
@[simp] theorem State.setQueue_alth (s : State) (q : Nat) (x : HostQ) : (s.setQueue q x).alth = s.alth := rfl
@[simp] theorem State.setQueue_hyst (s : State) (q : Nat) (x : HostQ) : (s.setQueue q x).hyst = s.hyst := rfl
@[simp] theorem State.setQueue_alst (s : State) (q : Nat) (x : HostQ) : (s.setQueue q x).alst = s.alst := rfl
@[simp] theorem State.setQueue_tlogp (s : State) (q : Nat) (x : HostQ) : (s.setQueue q x).tlogp = s.tlogp := rfl
@[simp] theorem State.setQueue_usec (s : State) (q : Nat) (x : HostQ) : (s.setQueue q x).usec = s.usec := rfl
@[simp] theorem State.setQueue_heldAlerts (s : State) (q : Nat) (x : HostQ) : (s.setQueue q x).heldAlerts = s.heldAlerts := rfl
@[simp] theorem State.setQueue_mode (s : State) (q : Nat) (x : HostQ) : (s.setQueue q x).mode = s.mode := rfl
@[simp] theorem State.setQueue_modnum (s : State) (q : Nat) (x : HostQ) : (s.setQueue q x).modnum = s.modnum := rfl
@[simp] theorem State.setQueue_poison (s : State) (q : Nat) (x : HostQ) : (s.setQueue q x).poison = s.poison := rfl
@[simp] theorem State.setQueue_retired (s : State) (q : Nat) (x : HostQ) : (s.setQueue q x).retired = s.retired := rfl
@[simp] theorem State.setQueue_narrowing (s : State) (q : Nat) (x : HostQ) : (s.setQueue q x).narrowing = s.narrowing := rfl
@[simp] theorem State.setQueue_coreCtx (s : State) (q : Nat) (x : HostQ) : (s.setQueue q x).coreCtx = s.coreCtx := rfl
@[simp] theorem State.setQueue_psTable (s : State) (q : Nat) (x : HostQ) : (s.setQueue q x).psTable = s.psTable := rfl
@[simp] theorem State.setQueue_cycles (s : State) (q : Nat) (x : HostQ) : (s.setQueue q x).cycles = s.cycles := rfl
@[simp] theorem State.setQueue_phases (s : State) (q : Nat) (x : HostQ) : (s.setQueue q x).phases = s.phases := rfl
@[simp] theorem State.setQueue_freshDuty (s : State) (q : Nat) (x : HostQ) : (s.setQueue q x).freshDuty = s.freshDuty := rfl
@[simp] theorem State.setQueue_fwImage (s : State) (q : Nat) (x : HostQ) : (s.setQueue q x).fwImage = s.fwImage := rfl
@[simp] theorem State.setQueue_reply (s : State) (q : Nat) (x : HostQ) : (s.setQueue q x).reply = s.reply := rfl
@[simp] theorem State.setQueue_psCur (s : State) (q : Nat) (x : HostQ) : (s.setQueue q x).psCur = s.psCur := rfl
@[simp] theorem State.setQueue_psReq (s : State) (q : Nat) (x : HostQ) : (s.setQueue q x).psReq = s.psReq := rfl
@[simp] theorem State.setQueue_psBusy (s : State) (q : Nat) (x : HostQ) : (s.setQueue q x).psBusy = s.psBusy := rfl
@[simp] theorem State.setQueue_psTarget (s : State) (q : Nat) (x : HostQ) : (s.setQueue q x).psTarget = s.psTarget := rfl
@[simp] theorem State.setQueue_psDecl (s : State) (q : Nat) (x : HostQ) : (s.setQueue q x).psDecl = s.psDecl := rfl
@[simp] theorem State.setQueue_psDone (s : State) (q : Nat) (x : HostQ) : (s.setQueue q x).psDone = s.psDone := rfl
@[simp] theorem State.setQueue_psPark4 (s : State) (q : Nat) (x : HostQ) : (s.setQueue q x).psPark4 = s.psPark4 := rfl
@[simp] theorem State.setQueue_psPark5 (s : State) (q : Nat) (x : HostQ) : (s.setQueue q x).psPark5 = s.psPark5 := rfl
@[simp] theorem State.setQueue_islandPs (s : State) (q : Nat) (x : HostQ) : (s.setQueue q x).islandPs = s.islandPs := rfl
@[simp] theorem State.setQueue_clampOn (s : State) (q : Nat) (x : HostQ) : (s.setQueue q x).clampOn = s.clampOn := rfl
@[simp] theorem State.setQueue_excess (s : State) (q : Nat) (x : HostQ) : (s.setQueue q x).excess = s.excess := rfl
@[simp] theorem State.setQueue_aboveCeil (s : State) (q : Nat) (x : HostQ) : (s.setQueue q x).aboveCeil = s.aboveCeil := rfl
@[simp] theorem State.setQueue_backstop (s : State) (q : Nat) (x : HostQ) : (s.setQueue q x).backstop = s.backstop := rfl
@[simp] theorem State.setQueue_dieParked (s : State) (q : Nat) (x : HostQ) : (s.setQueue q x).dieParked = s.dieParked := rfl
@[simp] theorem State.setQueue_dieClosed (s : State) (q : Nat) (x : HostQ) : (s.setQueue q x).dieClosed = s.dieClosed := rfl
@[simp] theorem State.setQueue_savedFloor (s : State) (q : Nat) (x : HostQ) : (s.setQueue q x).savedFloor = s.savedFloor := rfl
@[simp] theorem State.setQueue_lastQ (s : State) (q : Nat) (x : HostQ) : (s.setQueue q x).lastQ = s.lastQ := rfl
@[simp] theorem State.setQueue_faults (s : State) (q : Nat) (x : HostQ) : (s.setQueue q x).faults = s.faults := rfl
@[simp] theorem State.setQueue_attest (s : State) (q : Nat) (x : HostQ) : (s.setQueue q x).attest = s.attest := rfl
@[simp] theorem State.setQueue_recov (s : State) (q : Nat) (x : HostQ) : (s.setQueue q x).recov = s.recov := rfl
@[simp] theorem State.setQueue_podArrived (s : State) (q : Nat) (x : HostQ) : (s.setQueue q x).podArrived = s.podArrived := rfl
@[simp] theorem State.setQueue_checkpoint (s : State) (q : Nat) (x : HostQ) : (s.setQueue q x).checkpoint = s.checkpoint := rfl
@[simp] theorem State.setQueue_links (s : State) (q : Nat) (x : HostQ) : (s.setQueue q x).links = s.links := rfl
@[simp] theorem State.setQueue_cur (s : State) (q : Nat) (x : HostQ) : (s.setQueue q x).cur = s.cur := rfl
@[simp] theorem State.setQueue_agenda (s : State) (q : Nat) (x : HostQ) : (s.setQueue q x).agenda = s.agenda := rfl
@[simp] theorem State.setQueue_beat (s : State) (q : Nat) (x : HostQ) : (s.setQueue q x).beat = s.beat := rfl
@[simp] theorem State.setQueue_nextId (s : State) (q : Nat) (x : HostQ) : (s.setQueue q x).nextId = s.nextId := rfl

/-! ### `State.write` -/

@[simp] theorem State.write_rowMap (s : State) (l : Loc) (bs : List Byte) : (s.write l bs).rowMap = s.rowMap := rfl
@[simp] theorem State.write_failOk (s : State) (l : Loc) (bs : List Byte) : (s.write l bs).failOk = s.failOk := rfl
@[simp] theorem State.write_floors (s : State) (l : Loc) (bs : List Byte) : (s.write l bs).floors = s.floors := rfl
@[simp] theorem State.write_cores (s : State) (l : Loc) (bs : List Byte) : (s.write l bs).cores = s.cores := rfl
@[simp] theorem State.write_clusters (s : State) (l : Loc) (bs : List Byte) : (s.write l bs).clusters = s.clusters := rfl
@[simp] theorem State.write_engines (s : State) (l : Loc) (bs : List Byte) : (s.write l bs).engines = s.engines := rfl
@[simp] theorem State.write_contexts (s : State) (l : Loc) (bs : List Byte) : (s.write l bs).contexts = s.contexts := rfl
@[simp] theorem State.write_teams (s : State) (l : Loc) (bs : List Byte) : (s.write l bs).teams = s.teams := rfl
@[simp] theorem State.write_launches (s : State) (l : Loc) (bs : List Byte) : (s.write l bs).launches = s.launches := rfl
@[simp] theorem State.write_parked (s : State) (l : Loc) (bs : List Byte) : (s.write l bs).parked = s.parked := rfl
@[simp] theorem State.write_inflight (s : State) (l : Loc) (bs : List Byte) : (s.write l bs).inflight = s.inflight := rfl
@[simp] theorem State.write_gathers (s : State) (l : Loc) (bs : List Byte) : (s.write l bs).gathers = s.gathers := rfl
@[simp] theorem State.write_returns (s : State) (l : Loc) (bs : List Byte) : (s.write l bs).returns = s.returns := rfl
@[simp] theorem State.write_packets (s : State) (l : Loc) (bs : List Byte) : (s.write l bs).packets = s.packets := rfl
@[simp] theorem State.write_results (s : State) (l : Loc) (bs : List Byte) : (s.write l bs).results = s.results := rfl
@[simp] theorem State.write_bcts (s : State) (l : Loc) (bs : List Byte) : (s.write l bs).bcts = s.bcts := rfl
@[simp] theorem State.write_routes (s : State) (l : Loc) (bs : List Byte) : (s.write l bs).routes = s.routes := rfl
@[simp] theorem State.write_routesUp (s : State) (l : Loc) (bs : List Byte) : (s.write l bs).routesUp = s.routesUp := rfl
@[simp] theorem State.write_marks (s : State) (l : Loc) (bs : List Byte) : (s.write l bs).marks = s.marks := rfl
@[simp] theorem State.write_tsen (s : State) (l : Loc) (bs : List Byte) : (s.write l bs).tsen = s.tsen := rfl
@[simp] theorem State.write_tprd (s : State) (l : Loc) (bs : List Byte) : (s.write l bs).tprd = s.tprd := rfl
@[simp] theorem State.write_icl (s : State) (l : Loc) (bs : List Byte) : (s.write l bs).icl = s.icl := rfl
@[simp] theorem State.write_pceil (s : State) (l : Loc) (bs : List Byte) : (s.write l bs).pceil = s.pceil := rfl
@[simp] theorem State.write_pmeas (s : State) (l : Loc) (bs : List Byte) : (s.write l bs).pmeas = s.pmeas := rfl
@[simp] theorem State.write_alth (s : State) (l : Loc) (bs : List Byte) : (s.write l bs).alth = s.alth := rfl
@[simp] theorem State.write_hyst (s : State) (l : Loc) (bs : List Byte) : (s.write l bs).hyst = s.hyst := rfl
@[simp] theorem State.write_alst (s : State) (l : Loc) (bs : List Byte) : (s.write l bs).alst = s.alst := rfl
@[simp] theorem State.write_tlogp (s : State) (l : Loc) (bs : List Byte) : (s.write l bs).tlogp = s.tlogp := rfl
@[simp] theorem State.write_usec (s : State) (l : Loc) (bs : List Byte) : (s.write l bs).usec = s.usec := rfl
@[simp] theorem State.write_heldAlerts (s : State) (l : Loc) (bs : List Byte) : (s.write l bs).heldAlerts = s.heldAlerts := rfl
@[simp] theorem State.write_mode (s : State) (l : Loc) (bs : List Byte) : (s.write l bs).mode = s.mode := rfl
@[simp] theorem State.write_modnum (s : State) (l : Loc) (bs : List Byte) : (s.write l bs).modnum = s.modnum := rfl
@[simp] theorem State.write_retired (s : State) (l : Loc) (bs : List Byte) : (s.write l bs).retired = s.retired := rfl
@[simp] theorem State.write_narrowing (s : State) (l : Loc) (bs : List Byte) : (s.write l bs).narrowing = s.narrowing := rfl
@[simp] theorem State.write_coreCtx (s : State) (l : Loc) (bs : List Byte) : (s.write l bs).coreCtx = s.coreCtx := rfl
@[simp] theorem State.write_psTable (s : State) (l : Loc) (bs : List Byte) : (s.write l bs).psTable = s.psTable := rfl
@[simp] theorem State.write_cycles (s : State) (l : Loc) (bs : List Byte) : (s.write l bs).cycles = s.cycles := rfl
@[simp] theorem State.write_phases (s : State) (l : Loc) (bs : List Byte) : (s.write l bs).phases = s.phases := rfl
@[simp] theorem State.write_freshDuty (s : State) (l : Loc) (bs : List Byte) : (s.write l bs).freshDuty = s.freshDuty := rfl
@[simp] theorem State.write_fwImage (s : State) (l : Loc) (bs : List Byte) : (s.write l bs).fwImage = s.fwImage := rfl
@[simp] theorem State.write_reply (s : State) (l : Loc) (bs : List Byte) : (s.write l bs).reply = s.reply := rfl
@[simp] theorem State.write_psCur (s : State) (l : Loc) (bs : List Byte) : (s.write l bs).psCur = s.psCur := rfl
@[simp] theorem State.write_psReq (s : State) (l : Loc) (bs : List Byte) : (s.write l bs).psReq = s.psReq := rfl
@[simp] theorem State.write_psBusy (s : State) (l : Loc) (bs : List Byte) : (s.write l bs).psBusy = s.psBusy := rfl
@[simp] theorem State.write_psTarget (s : State) (l : Loc) (bs : List Byte) : (s.write l bs).psTarget = s.psTarget := rfl
@[simp] theorem State.write_psDecl (s : State) (l : Loc) (bs : List Byte) : (s.write l bs).psDecl = s.psDecl := rfl
@[simp] theorem State.write_psDone (s : State) (l : Loc) (bs : List Byte) : (s.write l bs).psDone = s.psDone := rfl
@[simp] theorem State.write_psPark4 (s : State) (l : Loc) (bs : List Byte) : (s.write l bs).psPark4 = s.psPark4 := rfl
@[simp] theorem State.write_psPark5 (s : State) (l : Loc) (bs : List Byte) : (s.write l bs).psPark5 = s.psPark5 := rfl
@[simp] theorem State.write_islandPs (s : State) (l : Loc) (bs : List Byte) : (s.write l bs).islandPs = s.islandPs := rfl
@[simp] theorem State.write_clampOn (s : State) (l : Loc) (bs : List Byte) : (s.write l bs).clampOn = s.clampOn := rfl
@[simp] theorem State.write_excess (s : State) (l : Loc) (bs : List Byte) : (s.write l bs).excess = s.excess := rfl
@[simp] theorem State.write_aboveCeil (s : State) (l : Loc) (bs : List Byte) : (s.write l bs).aboveCeil = s.aboveCeil := rfl
@[simp] theorem State.write_backstop (s : State) (l : Loc) (bs : List Byte) : (s.write l bs).backstop = s.backstop := rfl
@[simp] theorem State.write_dieParked (s : State) (l : Loc) (bs : List Byte) : (s.write l bs).dieParked = s.dieParked := rfl
@[simp] theorem State.write_dieClosed (s : State) (l : Loc) (bs : List Byte) : (s.write l bs).dieClosed = s.dieClosed := rfl
@[simp] theorem State.write_savedFloor (s : State) (l : Loc) (bs : List Byte) : (s.write l bs).savedFloor = s.savedFloor := rfl
@[simp] theorem State.write_queues (s : State) (l : Loc) (bs : List Byte) : (s.write l bs).queues = s.queues := rfl
@[simp] theorem State.write_lastQ (s : State) (l : Loc) (bs : List Byte) : (s.write l bs).lastQ = s.lastQ := rfl
@[simp] theorem State.write_faults (s : State) (l : Loc) (bs : List Byte) : (s.write l bs).faults = s.faults := rfl
@[simp] theorem State.write_attest (s : State) (l : Loc) (bs : List Byte) : (s.write l bs).attest = s.attest := rfl
@[simp] theorem State.write_recov (s : State) (l : Loc) (bs : List Byte) : (s.write l bs).recov = s.recov := rfl
@[simp] theorem State.write_podArrived (s : State) (l : Loc) (bs : List Byte) : (s.write l bs).podArrived = s.podArrived := rfl
@[simp] theorem State.write_checkpoint (s : State) (l : Loc) (bs : List Byte) : (s.write l bs).checkpoint = s.checkpoint := rfl
@[simp] theorem State.write_links (s : State) (l : Loc) (bs : List Byte) : (s.write l bs).links = s.links := rfl
@[simp] theorem State.write_cur (s : State) (l : Loc) (bs : List Byte) : (s.write l bs).cur = s.cur := rfl
@[simp] theorem State.write_agenda (s : State) (l : Loc) (bs : List Byte) : (s.write l bs).agenda = s.agenda := rfl
@[simp] theorem State.write_beat (s : State) (l : Loc) (bs : List Byte) : (s.write l bs).beat = s.beat := rfl
@[simp] theorem State.write_nextId (s : State) (l : Loc) (bs : List Byte) : (s.write l bs).nextId = s.nextId := rfl

/-! ### `State.bump` -/

@[simp] theorem State.bump_mem (s : State) : s.bump.mem = s.mem := rfl
@[simp] theorem State.bump_valid (s : State) : s.bump.valid = s.valid := rfl
@[simp] theorem State.bump_rowMap (s : State) : s.bump.rowMap = s.rowMap := rfl
@[simp] theorem State.bump_failOk (s : State) : s.bump.failOk = s.failOk := rfl
@[simp] theorem State.bump_floors (s : State) : s.bump.floors = s.floors := rfl
@[simp] theorem State.bump_cores (s : State) : s.bump.cores = s.cores := rfl
@[simp] theorem State.bump_clusters (s : State) : s.bump.clusters = s.clusters := rfl
@[simp] theorem State.bump_engines (s : State) : s.bump.engines = s.engines := rfl
@[simp] theorem State.bump_contexts (s : State) : s.bump.contexts = s.contexts := rfl
@[simp] theorem State.bump_teams (s : State) : s.bump.teams = s.teams := rfl
@[simp] theorem State.bump_launches (s : State) : s.bump.launches = s.launches := rfl
@[simp] theorem State.bump_parked (s : State) : s.bump.parked = s.parked := rfl
@[simp] theorem State.bump_inflight (s : State) : s.bump.inflight = s.inflight := rfl
@[simp] theorem State.bump_gathers (s : State) : s.bump.gathers = s.gathers := rfl
@[simp] theorem State.bump_returns (s : State) : s.bump.returns = s.returns := rfl
@[simp] theorem State.bump_packets (s : State) : s.bump.packets = s.packets := rfl
@[simp] theorem State.bump_results (s : State) : s.bump.results = s.results := rfl
@[simp] theorem State.bump_bcts (s : State) : s.bump.bcts = s.bcts := rfl
@[simp] theorem State.bump_routes (s : State) : s.bump.routes = s.routes := rfl
@[simp] theorem State.bump_routesUp (s : State) : s.bump.routesUp = s.routesUp := rfl
@[simp] theorem State.bump_marks (s : State) : s.bump.marks = s.marks := rfl
@[simp] theorem State.bump_wakes (s : State) : s.bump.wakes = s.wakes := rfl
@[simp] theorem State.bump_tsen (s : State) : s.bump.tsen = s.tsen := rfl
@[simp] theorem State.bump_tprd (s : State) : s.bump.tprd = s.tprd := rfl
@[simp] theorem State.bump_icl (s : State) : s.bump.icl = s.icl := rfl
@[simp] theorem State.bump_pceil (s : State) : s.bump.pceil = s.pceil := rfl
@[simp] theorem State.bump_pmeas (s : State) : s.bump.pmeas = s.pmeas := rfl
@[simp] theorem State.bump_alth (s : State) : s.bump.alth = s.alth := rfl
@[simp] theorem State.bump_hyst (s : State) : s.bump.hyst = s.hyst := rfl
@[simp] theorem State.bump_alst (s : State) : s.bump.alst = s.alst := rfl
@[simp] theorem State.bump_tlogp (s : State) : s.bump.tlogp = s.tlogp := rfl
@[simp] theorem State.bump_usec (s : State) : s.bump.usec = s.usec := rfl
@[simp] theorem State.bump_heldAlerts (s : State) : s.bump.heldAlerts = s.heldAlerts := rfl
@[simp] theorem State.bump_mode (s : State) : s.bump.mode = s.mode := rfl
@[simp] theorem State.bump_modnum (s : State) : s.bump.modnum = s.modnum := rfl
@[simp] theorem State.bump_poison (s : State) : s.bump.poison = s.poison := rfl
@[simp] theorem State.bump_retired (s : State) : s.bump.retired = s.retired := rfl
@[simp] theorem State.bump_narrowing (s : State) : s.bump.narrowing = s.narrowing := rfl
@[simp] theorem State.bump_coreCtx (s : State) : s.bump.coreCtx = s.coreCtx := rfl
@[simp] theorem State.bump_psTable (s : State) : s.bump.psTable = s.psTable := rfl
@[simp] theorem State.bump_cycles (s : State) : s.bump.cycles = s.cycles := rfl
@[simp] theorem State.bump_phases (s : State) : s.bump.phases = s.phases := rfl
@[simp] theorem State.bump_freshDuty (s : State) : s.bump.freshDuty = s.freshDuty := rfl
@[simp] theorem State.bump_fwImage (s : State) : s.bump.fwImage = s.fwImage := rfl
@[simp] theorem State.bump_reply (s : State) : s.bump.reply = s.reply := rfl
@[simp] theorem State.bump_psCur (s : State) : s.bump.psCur = s.psCur := rfl
@[simp] theorem State.bump_psReq (s : State) : s.bump.psReq = s.psReq := rfl
@[simp] theorem State.bump_psBusy (s : State) : s.bump.psBusy = s.psBusy := rfl
@[simp] theorem State.bump_psTarget (s : State) : s.bump.psTarget = s.psTarget := rfl
@[simp] theorem State.bump_psDecl (s : State) : s.bump.psDecl = s.psDecl := rfl
@[simp] theorem State.bump_psDone (s : State) : s.bump.psDone = s.psDone := rfl
@[simp] theorem State.bump_psPark4 (s : State) : s.bump.psPark4 = s.psPark4 := rfl
@[simp] theorem State.bump_psPark5 (s : State) : s.bump.psPark5 = s.psPark5 := rfl
@[simp] theorem State.bump_islandPs (s : State) : s.bump.islandPs = s.islandPs := rfl
@[simp] theorem State.bump_clampOn (s : State) : s.bump.clampOn = s.clampOn := rfl
@[simp] theorem State.bump_excess (s : State) : s.bump.excess = s.excess := rfl
@[simp] theorem State.bump_aboveCeil (s : State) : s.bump.aboveCeil = s.aboveCeil := rfl
@[simp] theorem State.bump_backstop (s : State) : s.bump.backstop = s.backstop := rfl
@[simp] theorem State.bump_dieParked (s : State) : s.bump.dieParked = s.dieParked := rfl
@[simp] theorem State.bump_dieClosed (s : State) : s.bump.dieClosed = s.dieClosed := rfl
@[simp] theorem State.bump_savedFloor (s : State) : s.bump.savedFloor = s.savedFloor := rfl
@[simp] theorem State.bump_queues (s : State) : s.bump.queues = s.queues := rfl
@[simp] theorem State.bump_lastQ (s : State) : s.bump.lastQ = s.lastQ := rfl
@[simp] theorem State.bump_faults (s : State) : s.bump.faults = s.faults := rfl
@[simp] theorem State.bump_attest (s : State) : s.bump.attest = s.attest := rfl
@[simp] theorem State.bump_recov (s : State) : s.bump.recov = s.recov := rfl
@[simp] theorem State.bump_podArrived (s : State) : s.bump.podArrived = s.podArrived := rfl
@[simp] theorem State.bump_checkpoint (s : State) : s.bump.checkpoint = s.checkpoint := rfl
@[simp] theorem State.bump_links (s : State) : s.bump.links = s.links := rfl
@[simp] theorem State.bump_cur (s : State) : s.bump.cur = s.cur := rfl
@[simp] theorem State.bump_agenda (s : State) : s.bump.agenda = s.agenda := rfl
@[simp] theorem State.bump_beat (s : State) : s.bump.beat = s.beat := rfl

/-! ### Reads after an update -/

@[simp] theorem State.core_setCore (s : State) (c : Nat) (k : Core) : (s.setCore c k).core c = k := tblGet_set _ _ _ _
theorem State.core_setCore_ne (s : State) {c d : Nat} (k : Core) (h : d ≠ c) : (s.setCore c k).core d = s.core d := tblGet_set_ne _ _ _ h
@[simp] theorem State.core_modCore (s : State) (c : Nat) (f : Core → Core) : (s.modCore c f).core c = f (s.core c) := tblGet_set _ _ _ _
theorem State.core_modCore_ne (s : State) {c d : Nat} (f : Core → Core) (h : d ≠ c) : (s.modCore c f).core d = s.core d :=
  tblGet_set_ne _ _ _ h
@[simp] theorem Core.slot_setSlot (k : Core) (n : Nat) (x : Slot) : (k.setSlot n x).slot n = x := tblGet_set _ _ _ _
theorem Core.slot_setSlot_ne (k : Core) {n m : Nat} (x : Slot) (h : m ≠ n) : (k.setSlot n x).slot m = k.slot m := tblGet_set_ne _ _ _ h
@[simp] theorem State.slot_modSlot (s : State) (c n : Nat) (f : Slot → Slot) : (s.modSlot c n f).slot c n = f (s.slot c n) := by
  simp [State.slot, State.modSlot]
theorem State.slot_modSlot_ne (s : State) {c d n m : Nat} (f : Slot → Slot) (h : d ≠ c ∨ m ≠ n) :
    (s.modSlot c n f).slot d m = s.slot d m := by
  unfold State.slot State.modSlot
  by_cases hd : d = c
  · subst hd; rw [State.core_modCore, Core.slot_setSlot_ne _ _ (h.resolve_left (fun e => e rfl))]
  · rw [State.core_modCore_ne _ _ hd]
@[simp] theorem State.cluster_modCluster (s : State) (n : Nat) (f : Cluster → Cluster) : (s.modCluster n f).cluster n = f (s.cluster n) :=
  tblGet_set _ _ _ _
theorem State.cluster_modCluster_ne (s : State) {n m : Nat} (f : Cluster → Cluster) (h : m ≠ n) :
    (s.modCluster n f).cluster m = s.cluster m := tblGet_set_ne _ _ _ h
@[simp] theorem State.engine_setEngine (s : State) (e : Nat) (x : Engine) : (s.setEngine e x).engine e = x := tblGet_set _ _ _ _
theorem State.engine_setEngine_ne (s : State) {e f : Nat} (x : Engine) (h : f ≠ e) : (s.setEngine e x).engine f = s.engine f :=
  tblGet_set_ne _ _ _ h
@[simp] theorem State.queue_setQueue (s : State) (q : Nat) (x : HostQ) : (s.setQueue q x).queue q = x := tblGet_set _ _ _ _
theorem State.queue_setQueue_ne (s : State) {q r : Nat} (x : HostQ) (h : r ≠ q) : (s.setQueue q x).queue r = s.queue r :=
  tblGet_set_ne _ _ _ h

end Sys2Proof.Machine
end

