-- ==== Sys2Proof/Laws/Ops.lean ====
section
/-! SUPPORT. What each shared operation of a group can do, said once: the checks before the effect, completing, stalling, trapping,
and the reads of registers after a write. -/

namespace Sys2Proof.Machine

open Sys2Proof.Safety

/-! ### The checks before the effect -/

theorem checkG_full {x : Regs} (l : List (Nat × Option Bool)) (h : ∀ e ∈ l, x.emptyG e.1 = false) : checkG x l = .full := by
  induction l with
  | nil => rfl
  | cons e t ih =>
    simp only [checkG, h e (List.mem_cons_self ..)]
    exact ih (fun e' he => h e' (List.mem_cons_of_mem _ he))

theorem any_emptyV {x : Regs} (l : List Nat) (h : ∀ r ∈ l, x.emptyV r = false) : l.any (fun r => x.emptyV r) = false :=
  List.any_eq_false.mpr (fun r hr => by rw [h r hr]; decide)

/-- Nothing stops an instruction that is ready. -/
theorem ready_enter {i : Instr} {s : State} (h : Ready i s) : enter i s = none := by
  have hs : checkSources s.me.regs (operands i) = .full := by
    simp only [checkSources, checkG_full _ h.srcG, any_emptyV _ h.srcV]; rfl
  have hd : destEmpty s.me.regs (operands i) = false := by
    simp only [destEmpty, any_emptyV _ h.dstV, Bool.or_false]
    cases hg : (operands i).dg with
    | none => rfl
    | some r => exact h.dstG r hg
  have ho : (!passesWaiting i && !s.curSlot.waiting.isEmpty) = false := by
    rcases h.older with e | e
    · rw [e]; rfl
    · rw [e]; exact Bool.and_false _
  simp only [enter, h.allot, h.level, hs, ho, hd, Bool.not_true, Bool.false_eq_true, if_false]

theorem checkG_full_iff {x : Regs} (l : List (Nat × Option Bool)) (h : checkG x l = .full) : ∀ e ∈ l, x.emptyG e.1 = false := by
  induction l with
  | nil => intro e he; cases he
  | cons a t ih =>
    obtain ⟨r, b⟩ := a
    unfold checkG at h
    cases ha : x.emptyG r with
    | true =>
      rw [ha, if_pos rfl] at h
      split at h <;> cases h
    | false =>
      rw [ha, if_neg Bool.false_ne_true] at h
      intro e he
      rcases List.mem_cons.mp he with q | q
      · rw [q]; exact ha
      · exact ih h e q

theorem entered_ready {i : Instr} {s : State} (h : Ready i s) (k : State → State) : entered i s k = .next (k s) := by
  rw [entered, ready_enter h]

/-- An instruction that nothing stops is ready. -/
theorem enter_ready {i : Instr} {s : State} (h : enter i s = none) : Ready i s := by
  cases ha : withinAllot s.me.ctl.allot (operands i) with
  | false => simp [enter, ha] at h
  | true =>
  cases hp : privTrap i s with
  | some c => simp [enter, ha, hp] at h
  | none =>
  cases hc : checkSources s.me.regs (operands i) with
  | empty r => simp [enter, ha, hp, hc] at h
  | wait => simp [enter, ha, hp, hc] at h
  | full =>
  cases ho : (!passesWaiting i && !s.curSlot.waiting.isEmpty) with
  | true => simp [enter, ha, hp, hc, ho] at h
  | false =>
  cases hd : destEmpty s.me.regs (operands i) with
  | true => simp [enter, ha, hp, hc, ho, hd] at h
  | false =>
    rw [checkSources] at hc
    cases hg : checkG s.me.regs (operands i).sg with
    | empty r => rw [hg] at hc; cases hc
    | wait => rw [hg] at hc; cases hc
    | full =>
      rw [hg] at hc
      have hv : (operands i).sv.any (fun r => s.me.regs.emptyV r) = false := by
        cases hv : (operands i).sv.any (fun r => s.me.regs.emptyV r) with
        | false => rfl
        | true => simp [hv] at hc
      rw [destEmpty, Bool.or_eq_false_iff] at hd
      refine ⟨ha, hp, checkG_full_iff _ hg, fun r hr => ?_, fun r hr => ?_, fun r hr => ?_, ?_⟩
      · simpa using List.any_eq_false.mp hv r hr
      · have := hd.1
        rw [hr] at this
        exact this
      · simpa using List.any_eq_false.mp hd.2 r hr
      · cases hw : passesWaiting i with
        | true => exact .inl rfl
        | false =>
          rw [hw] at ho
          exact .inr (by simpa using ho)

/-! ### Registers -/

@[simp] theorem Regs.getG_zero (x : Regs) : x.getG 0 = 0 := rfl
@[simp] theorem Regs.emptyG_zero (x : Regs) : x.emptyG 0 = false := rfl
@[simp] theorem Regs.getP_zero (x : Regs) : x.getP 0 = true := rfl

theorem wroteG_setG (x : Regs) (d : Nat) (v : Word) : WroteG x (x.setG d v) d v := by
  by_cases h : d = 0
  · subst h
    exact ⟨rfl, rfl, fun r hr => ⟨rfl, rfl⟩, ⟨rfl, rfl⟩, rfl⟩
  · refine ⟨?_, ?_, fun r hr => ⟨?_, ?_⟩, ⟨?_, ?_⟩, ?_⟩ <;> simp only [Regs.setG, Regs.getG, Regs.emptyG, if_neg h]
    · exact tblGet_set _ _ _ _
    · exact tblGet_set _ _ _ _
    · rw [tblGet_set_ne _ _ _ hr]
    · rw [tblGet_set_ne _ _ _ hr]

theorem wroteV_setV (x : Regs) (d : Nat) (v : Vec) : WroteV x (x.setV d v) d v :=
  ⟨tblGet_set _ _ _ _, tblGet_set _ _ _ _, fun _ hr => ⟨tblGet_set_ne _ _ _ hr, tblGet_set_ne _ _ _ hr⟩, ⟨rfl, rfl⟩, rfl⟩

theorem getLsbD_bit (x : BitVec 8) (i : Nat) : x.getLsbD i = decide (x.toNat / 2 ^ i % 2 = 1) := by
  rw [← BitVec.testBit_toNat, Nat.testBit_eq_decide_div_mod_eq]

theorem b2n_bitAt (n i : Nat) : b2n (bitAt n i) = n / 2 ^ i % 2 := by
  rw [bitAt, b2n]
  rcases Nat.mod_two_eq_zero_or_one (n / 2 ^ i) with h | h <;> rw [h] <;> rfl

/-- One bit of a byte replaced. -/
theorem bit_put {n B i j : Nat} (hn : n < 256) (hB : B < 2) (hi : i < 8) (hj : j < 8) :
    (n - n / 2 ^ i % 2 * 2 ^ i + B * 2 ^ i) % 256 / 2 ^ j % 2 = if j = i then B else n / 2 ^ j % 2 := by
  have hi' : i = 0 ∨ i = 1 ∨ i = 2 ∨ i = 3 ∨ i = 4 ∨ i = 5 ∨ i = 6 ∨ i = 7 := by omega
  have hj' : j = 0 ∨ j = 1 ∨ j = 2 ∨ j = 3 ∨ j = 4 ∨ j = 5 ∨ j = 6 ∨ j = 7 := by omega
  rcases hi' with e | e | e | e | e | e | e | e <;> subst e <;>
  rcases hj' with e | e | e | e | e | e | e | e <;> subst e <;> simp only [Nat.reducePow, Nat.reduceEqDiff, if_false, if_true] <;> omega

theorem wroteP_setP (x : Regs) (d : PReg) (b : Bool) : WroteP x (x.setP d.toNat b) d.toNat b := by
  have hd := d.isLt
  have hp := x.p.isLt
  generalize d.toNat = i at hd
  by_cases h : i = 0
  · subst h
    exact ⟨rfl, fun r _ hr => rfl, ⟨rfl, rfl⟩, ⟨rfl, rfl⟩⟩
  have hb : b2n b < 2 := by cases b <;> decide
  refine ⟨?_, fun j hj hr => ?_, ⟨?_, ?_⟩, ⟨?_, ?_⟩⟩ <;> simp only [Regs.setP, Regs.getP, if_neg h]
  · rw [getLsbD_bit, BitVec.toNat_ofNat, b2n_bitAt, bit_put hp hb (by omega) (by omega), if_pos rfl]
    have : (i == 0) = false := by simp [h]
    rw [this, Bool.false_or]
    cases b <;> rfl
  · by_cases hj0 : j = 0
    · rw [if_pos hj0, if_pos hj0]
    · rw [if_neg hj0, if_neg hj0, getLsbD_bit, BitVec.toNat_ofNat, b2n_bitAt, bit_put hp hb (by omega) hj, if_neg hr, getLsbD_bit]

/-! ### The issuing slot changed -/

theorem byteAt_of_mem {s t : State} (h : t.mem = s.mem) (l : Loc) : t.byteAt l = s.byteAt l := by rw [State.byteAt, h]; rfl

/-- A change of the issuing slot alone. -/
theorem onlySlot_modSlot (s : State) (f : Slot → Slot) : OnlySlot s (s.modSlot s.cur.core s.cur.slot f) (fun k => k) where
  outside := rfl
  memory := fun _ => rfl
  others := fun c hc => State.core_modCore_ne _ _ hc
  core := by simp only [State.myCore, State.modSlot, State.modCore, State.setCore_cur, State.core_setCore]; rfl
  slots := fun n hn => State.slot_modSlot_ne _ _ (.inr hn)

/-- A change of the issuing slot, and of its core beside the slots. -/
theorem onlySlot_setCore (s : State) (x : Slot) (f : Core → Core) (hf : ∀ k l, f { k with slots := l } = { f k with slots := l }) :
    OnlySlot s (s.setCore s.cur.core (f (s.myCore.setSlot s.cur.slot x))) f where
  outside := rfl
  memory := fun _ => rfl
  others := fun c hc => State.core_setCore_ne _ _ hc
  core := by
    simp only [State.myCore, State.setCore_cur, State.core_setCore, Core.setSlot]
    rw [hf]
  slots := fun n hn => by
    simp only [State.slot, State.core_setCore, State.myCore, Core.setSlot]
    rw [hf]
    exact tblGet_set_ne _ _ _ hn

theorem curSlot_setCore (s : State) (x : Slot) (f : Core → Core) (hf : ∀ k l, f { k with slots := l } = { f k with slots := l }) :
    (s.setCore s.cur.core (f (s.myCore.setSlot s.cur.slot x))).curSlot = x := by
  simp only [State.curSlot, State.slot, State.setCore_cur, State.core_setCore, State.myCore, Core.setSlot]
  rw [hf]
  exact tblGet_set _ _ _ _

/-- Two changes of the issuing slot one after the other. -/
theorem onlySlot_trans {s t u : State} {f g : Core → Core} (h1 : OnlySlot s t f) (h2 : OnlySlot t u g) (hc : t.cur = s.cur)
    (hg : ∀ k l, g { k with slots := l } = { g k with slots := l }) : OnlySlot s u (fun k => g (f k)) where
  outside := by
    have a := h1.outside; have b := h2.outside
    simp only [OnlyCores] at a b ⊢
    rw [← a, ← b]
  memory := fun l => (h2.memory l).trans (h1.memory l)
  others := fun c h => (h2.others c (by rw [hc]; exact h)).trans (h1.others c h)
  core := by
    have hu : u.cur = t.cur := by have := congrArg State.cur h2.outside; exact this
    have a := h2.core; have b := h1.core
    rw [a, b, hg]
  slots := fun n h => by
    have := h2.slots n (by rw [hc]; exact h)
    rw [hc] at this
    exact this.trans (h1.slots n h)

/-! ### Completing -/

theorem retired_retireTo (s : State) (pc : Word) : Retired s (s.retireTo pc) pc s.me.regs s.me.ctl where
  only := onlySlot_setCore s { s.curSlot with w := { s.me with pc := pc }, stall := none, cap := none } countIns (fun _ _ => rfl)
  slot := curSlot_setCore s { s.curSlot with w := { s.me with pc := pc }, stall := none, cap := none } countIns (fun _ _ => rfl)

/-- Registers and control registers changed, and the group completed. -/
theorem retired_work (s : State) (pc : Word) (x : Regs) (c : Ctl) :
    Retired s ((s.modWork s.cur.core s.cur.slot (fun w => { w with regs := x, ctl := c })).retireTo pc) pc x c := by
  have hc : (s.modWork s.cur.core s.cur.slot (fun w => { w with regs := x, ctl := c })).curSlot =
      { s.curSlot with w := { s.me with regs := x, ctl := c } } := State.slot_modSlot _ _ _ _
  have h := retired_retireTo (s.modWork s.cur.core s.cur.slot (fun w => { w with regs := x, ctl := c })) pc
  refine ⟨?_, ?_⟩
  · exact onlySlot_trans (onlySlot_modSlot s _) h.only rfl (fun _ _ => rfl)
  · rw [h.slot, State.me, hc]

theorem retired_modRegs (s : State) (pc : Word) (f : Regs → Regs) :
    Retired s ((s.modRegs f).retireTo pc) pc (f s.me.regs) s.me.ctl := by
  have hc : (s.modRegs f).curSlot = { s.curSlot with w := { s.me with regs := f s.me.regs } } := State.slot_modSlot _ _ _ _
  have h := retired_retireTo (s.modRegs f) pc
  refine ⟨?_, ?_⟩
  · exact onlySlot_trans (onlySlot_modSlot s (fun y => { y with w := { y.w with regs := f y.w.regs } })) h.only rfl (fun _ _ => rfl)
  · rw [h.slot, State.me, hc]

theorem retired_regs {s t : State} {pc : Word} {x : Regs} {c : Ctl} (h : Retired s t pc x c) : t.me.regs = x := by
  rw [State.me, h.slot]

theorem gives_retireG (s : State) (d : GReg) (v : Word) :
    Retired s (s.retireG d v) s.nextPc (s.retireG d v).me.regs s.me.ctl ∧ WroteG s.me.regs (s.retireG d v).me.regs d.toNat v := by
  have h := retired_modRegs s s.nextPc (fun x => x.setG d.toNat v)
  have e : (s.retireG d v).me.regs = s.me.regs.setG d.toNat v := retired_regs h
  rw [e]
  exact ⟨h, wroteG_setG _ _ _⟩

theorem gives_retireV (s : State) (d : VReg) (v : Vec) :
    Retired s (s.retireV d v) s.nextPc (s.retireV d v).me.regs s.me.ctl ∧ WroteV s.me.regs (s.retireV d v).me.regs d.toNat v := by
  have h := retired_modRegs s s.nextPc (fun x => x.setV d.toNat v)
  have e : (s.retireV d v).me.regs = s.me.regs.setV d.toNat v := retired_regs h
  rw [e]
  exact ⟨h, wroteV_setV _ _ _⟩

theorem gives_retireP (s : State) (d : PReg) (b : Bool) :
    Retired s (s.retireP d b) s.nextPc (s.retireP d b).me.regs s.me.ctl ∧ WroteP s.me.regs (s.retireP d b).me.regs d.toNat b := by
  have h := retired_modRegs s s.nextPc (fun x => x.setP d.toNat b)
  have e : (s.retireP d b).me.regs = s.me.regs.setP d.toNat b := retired_regs h
  rw [e]
  exact ⟨h, wroteP_setP _ _ _⟩

/-! ### A trap -/

theorem trapped_trap {s : State} (h : CanTrap s) (cause : Nat) (eaddr einfo : Word) :
    Trapped s (s.trap cause eaddr einfo) cause eaddr einfo := by
  have hw : s.curSlot.waiting.isEmpty = true := by rw [h.older]; rfl
  let x : Slot := { s.curSlot with frozen := true, len := s.cur.len, stall := none, cap := none }
  let s1 : State := s.setCore s.cur.core (countIns (s.myCore.setSlot s.cur.slot x))
  have hs1 : s1.core s.cur.core = countIns (s.myCore.setSlot s.cur.slot x) := State.core_setCore _ _ _
  have hslot : ∀ n, n ≠ s.cur.slot → s1.slot s.cur.core n = s.slot s.cur.core n := fun n hn =>
    (onlySlot_setCore s x countIns (fun _ _ => rfl)).slots n hn
  have hn : ¬(((s1.slot s.cur.core 0).frozen && (s1.slot s.cur.core 1).frozen) = true) := by
    intro hf
    rw [Bool.and_eq_true] at hf
    by_cases h0 : s.cur.slot = 0
    · apply h.l0
      rw [h0]
      exact ⟨by omega, by rw [← hslot 1 (by omega)]; exact hf.2⟩
    · by_cases h1 : s.cur.slot = 1
      · apply h.l0
        rw [h1]
        exact ⟨by omega, by rw [← hslot 0 (by omega)]; exact hf.1⟩
      · exact h.both ⟨by rw [← hslot 0 (fun e => h0 e.symm)]; exact hf.1, by rw [← hslot 1 (fun e => h1 e.symm)]; exact hf.2⟩
  have hev : (s1.core s.cur.core).evSpilled = 0 ∧ (s1.core s.cur.core).events.length < 16 := by rw [hs1]; exact h.room
  have hroom : (s1.core s.cur.core).events.length < 16 + (s1.core s.cur.core).spillCap 0 := Nat.lt_add_right _ hev.2
  have hsp : ¬(0 < (s1.core s.cur.core).evSpilled ∧ (s1.core s.cur.core).spillCap 0 ≤ (s1.core s.cur.core).evSpilled) := by
    rw [hev.1]; exact fun q => Nat.lt_irrefl 0 q.1
  have hcw : causeWord 0 cause = wordOf cause := by rw [causeWord, Nat.zero_mul, Nat.zero_add]
  let k2 : Core := { countIns (s.myCore.setSlot s.cur.slot x) with
    events := s.myCore.events ++ [{ eslot := s.cur.slot, epc := s.cur.pc, ecause := wordOf cause, eaddr := eaddr, einfo := einfo }],
    pushes := s.myCore.pushes + 1 }
  have e : s.trap cause eaddr einfo = s1.setCore s.cur.core k2 := by
    rw [State.trap, if_pos hw, State.takeTrap]
    refine (if_neg hn).trans ?_
    rw [State.pushEvent, hcw]
    refine (if_pos hroom).trans ((if_neg hsp).trans ((if_pos hev).trans ?_))
    exact congrArg (fun k : Core => s1.setCore s.cur.core { k with
      events := k.events ++ [{ eslot := s.cur.slot, epc := s.cur.pc, ecause := wordOf cause, eaddr := eaddr, einfo := einfo }],
      pushes := k.pushes + 1 }) hs1
  have ht : (s1.setCore s.cur.core k2).core s.cur.core = k2 := State.core_setCore _ _ _
  rw [e]
  refine ⟨⟨rfl, fun _ => rfl, fun c hc => ?_, ?_, fun n hn => ?_⟩, ?_⟩
  · rw [State.core_setCore_ne _ _ hc]; exact State.core_setCore_ne _ _ hc
  · rw [show (s1.setCore s.cur.core k2).myCore = k2 from ht]; rfl
  · rw [State.slot, ht]; exact tblGet_set_ne _ _ _ hn
  · rw [State.curSlot, State.slot, show (s1.setCore s.cur.core k2).core (s1.setCore s.cur.core k2).cur.core = k2 from ht]
    exact tblGet_set _ _ _ _

/-! ### A stall -/

theorem stalled_stallFor (s : State) (y : Why) : Stalled s (s.stallFor y) y where
  only := onlySlot_modSlot s _
  work := by
    have e : (s.stallFor y).curSlot = _ := State.slot_modSlot s s.cur.core s.cur.slot _
    rw [State.me, e]; rfl
  why := by
    have e : (s.stallFor y).curSlot = _ := State.slot_modSlot s s.cur.core s.cur.slot _
    rw [e]
    generalize (s.slot s.cur.core s.cur.slot).stall = z
    cases z with
    | none => exact ⟨_, rfl⟩
    | some p =>
      obtain ⟨y', n⟩ := p
      by_cases h : y' = y
      · exact ⟨n, by simp [h]⟩
      · exact ⟨(s.core s.cur.core).cyc.toNat, by simp [h]⟩

end Sys2Proof.Machine
end

