-- ==== Sys2Proof/Laws/Exec.lean ====
section
/-! SUPPORT. The meaning that `exec` calls for each constructor of `Instr`, one equation each, and how an instruction that is ready goes on
to its own effect. -/

namespace Sys2Proof.Machine

open Sys2Proof.Safety

theorem exec_add (d a b : GReg) (ea eb : Bool) (x : State) : exec (.add d a b ea eb) x = execAdd d a b ea eb x := rfl
theorem exec_sub (d a b : GReg) (ea eb : Bool) (x : State) : exec (.sub d a b ea eb) x = execSub d a b ea eb x := rfl
theorem exec_mul (d a b : GReg) (ea eb : Bool) (x : State) : exec (.mul d a b ea eb) x = execMul d a b ea eb x := rfl
theorem exec_mulhS (d a b : GReg) (ea eb : Bool) (x : State) : exec (.mulhS d a b ea eb) x = execMulhS d a b ea eb x := rfl
theorem exec_mulhZ (d a b : GReg) (ea eb : Bool) (x : State) : exec (.mulhZ d a b ea eb) x = execMulhZ d a b ea eb x := rfl
theorem exec_divS (d a b : GReg) (ea eb : Bool) (x : State) : exec (.divS d a b ea eb) x = execDivS d a b ea eb x := rfl
theorem exec_divZ (d a b : GReg) (ea eb : Bool) (x : State) : exec (.divZ d a b ea eb) x = execDivZ d a b ea eb x := rfl
theorem exec_remS (d a b : GReg) (ea eb : Bool) (x : State) : exec (.remS d a b ea eb) x = execRemS d a b ea eb x := rfl
theorem exec_remZ (d a b : GReg) (ea eb : Bool) (x : State) : exec (.remZ d a b ea eb) x = execRemZ d a b ea eb x := rfl
theorem exec_and (d a b : GReg) (ea eb : Bool) (x : State) : exec (.and d a b ea eb) x = execAnd d a b ea eb x := rfl
theorem exec_or (d a b : GReg) (ea eb : Bool) (x : State) : exec (.or d a b ea eb) x = execOr d a b ea eb x := rfl
theorem exec_xor (d a b : GReg) (ea eb : Bool) (x : State) : exec (.xor d a b ea eb) x = execXor d a b ea eb x := rfl
theorem exec_andn (d a b : GReg) (ea eb : Bool) (x : State) : exec (.andn d a b ea eb) x = execAndn d a b ea eb x := rfl
theorem exec_orn (d a b : GReg) (ea eb : Bool) (x : State) : exec (.orn d a b ea eb) x = execOrn d a b ea eb x := rfl
theorem exec_shl (d a b : GReg) (ea eb : Bool) (x : State) : exec (.shl d a b ea eb) x = execShl d a b ea eb x := rfl
theorem exec_shr (d a b : GReg) (ea eb : Bool) (x : State) : exec (.shr d a b ea eb) x = execShr d a b ea eb x := rfl
theorem exec_sar (d a b : GReg) (ea eb : Bool) (x : State) : exec (.sar d a b ea eb) x = execSar d a b ea eb x := rfl
theorem exec_rol (d a b : GReg) (ea eb : Bool) (x : State) : exec (.rol d a b ea eb) x = execRol d a b ea eb x := rfl
theorem exec_ror (d a b : GReg) (ea eb : Bool) (x : State) : exec (.ror d a b ea eb) x = execRor d a b ea eb x := rfl
theorem exec_minS (d a b : GReg) (ea eb : Bool) (x : State) : exec (.minS d a b ea eb) x = execMinS d a b ea eb x := rfl
theorem exec_minZ (d a b : GReg) (ea eb : Bool) (x : State) : exec (.minZ d a b ea eb) x = execMinZ d a b ea eb x := rfl
theorem exec_maxS (d a b : GReg) (ea eb : Bool) (x : State) : exec (.maxS d a b ea eb) x = execMaxS d a b ea eb x := rfl
theorem exec_maxZ (d a b : GReg) (ea eb : Bool) (x : State) : exec (.maxZ d a b ea eb) x = execMaxZ d a b ea eb x := rfl
theorem exec_clz (d a : GReg) (ea : Bool) (x : State) : exec (.clz d a ea) x = execClz d a ea x := rfl
theorem exec_ctz (d a : GReg) (ea : Bool) (x : State) : exec (.ctz d a ea) x = execCtz d a ea x := rfl
theorem exec_popc (d a : GReg) (ea : Bool) (x : State) : exec (.popc d a ea) x = execPopc d a ea x := rfl
theorem exec_bswap (d a : GReg) (ea : Bool) (x : State) : exec (.bswap d a ea) x = execBswap d a ea x := rfl
theorem exec_lea1 (d a b : GReg) (ea eb : Bool) (x : State) : exec (.lea1 d a b ea eb) x = execLea1 d a b ea eb x := rfl
theorem exec_lea2 (d a b : GReg) (ea eb : Bool) (x : State) : exec (.lea2 d a b ea eb) x = execLea2 d a b ea eb x := rfl
theorem exec_lea3 (d a b : GReg) (ea eb : Bool) (x : State) : exec (.lea3 d a b ea eb) x = execLea3 d a b ea eb x := rfl
theorem exec_cmp (pd : PReg) (a b : GReg) (ea eb : Bool) (cc : Cond) (x : State) :
    exec (.cmp pd a b ea eb cc) x = execCmp pd a b ea eb cc x := rfl
theorem exec_addi (d a : GReg) (ea : Bool) (imm : BitVec 13) (x : State) : exec (.addi d a ea imm) x = execAddi d a ea imm x := rfl
theorem exec_andi (d a : GReg) (ea : Bool) (imm : BitVec 13) (x : State) : exec (.andi d a ea imm) x = execAndi d a ea imm x := rfl
theorem exec_ori (d a : GReg) (ea : Bool) (imm : BitVec 13) (x : State) : exec (.ori d a ea imm) x = execOri d a ea imm x := rfl
theorem exec_xori (d a : GReg) (ea : Bool) (imm : BitVec 13) (x : State) : exec (.xori d a ea imm) x = execXori d a ea imm x := rfl
theorem exec_shli (d a : GReg) (ea : Bool) (amount : BitVec 6) (x : State) : exec (.shli d a ea amount) x = execShli d a ea amount x := rfl
theorem exec_shri (d a : GReg) (ea : Bool) (amount : BitVec 6) (x : State) : exec (.shri d a ea amount) x = execShri d a ea amount x := rfl
theorem exec_sari (d a : GReg) (ea : Bool) (amount : BitVec 6) (x : State) : exec (.sari d a ea amount) x = execSari d a ea amount x := rfl
theorem exec_cmpi (pd : PReg) (a : GReg) (ea : Bool) (cc : Cond) (imm : BitVec 9) (x : State) :
    exec (.cmpi pd a ea cc imm) x = execCmpi pd a ea cc imm x := rfl
theorem exec_liS (d : GReg) (lit : IWord) (x : State) : exec (.liS d lit) x = execLiS d lit x := rfl
theorem exec_liZ (d : GReg) (lit : IWord) (x : State) : exec (.liZ d lit) x = execLiZ d lit x := rfl
theorem exec_lih (d : GReg) (lit : IWord) (x : State) : exec (.lih d lit) x = execLih d lit x := rfl
theorem exec_bextS (d a : GReg) (ea : Bool) (pos : BitVec 6) (wm1 : BitVec 5) (x : State) :
    exec (.bextS d a ea pos wm1) x = execBextS d a ea pos wm1 x := rfl
theorem exec_bextZ (d a : GReg) (ea : Bool) (pos : BitVec 6) (wm1 : BitVec 5) (x : State) :
    exec (.bextZ d a ea pos wm1) x = execBextZ d a ea pos wm1 x := rfl
theorem exec_bins (d a : GReg) (ea : Bool) (pos : BitVec 6) (wm1 : BitVec 5) (x : State) :
    exec (.bins d a ea pos wm1) x = execBins d a ea pos wm1 x := rfl
theorem exec_pand (pd pa pb : PReg) (x : State) : exec (.pand pd pa pb) x = execPand pd pa pb x := rfl
theorem exec_por (pd pa pb : PReg) (x : State) : exec (.por pd pa pb) x = execPor pd pa pb x := rfl
theorem exec_pxor (pd pa pb : PReg) (x : State) : exec (.pxor pd pa pb) x = execPxor pd pa pb x := rfl
theorem exec_pandn (pd pa pb : PReg) (x : State) : exec (.pandn pd pa pb) x = execPandn pd pa pb x := rfl
theorem exec_pnot (pd pa : PReg) (x : State) : exec (.pnot pd pa) x = execPnot pd pa x := rfl
theorem exec_pmov (pd pa : PReg) (x : State) : exec (.pmov pd pa) x = execPmov pd pa x := rfl
theorem exec_pget (d : GReg) (x : State) : exec (.pget d) x = execPget d x := rfl
theorem exec_pput (a b : GReg) (ea eb : Bool) (x : State) : exec (.pput a b ea eb) x = execPput a b ea eb x := rfl
theorem exec_br (p : PReg) (n : Bool) (disp : BitVec 22) (x : State) : exec (.br p n disp) x = execBr p n disp x := rfl
theorem exec_call (disp : BitVec 22) (x : State) : exec (.call disp) x = execCall disp x := rfl
theorem exec_jr (a : GReg) (ea : Bool) (x : State) : exec (.jr a ea) x = execJr a ea x := rfl
theorem exec_jalr (d a : GReg) (ea : Bool) (x : State) : exec (.jalr d a ea) x = execJalr d a ea x := rfl
theorem exec_nop (x : State) : exec (.nop) x = execNop x := rfl
theorem exec_endTask (x : State) : exec (.endTask) x = execEndTask x := rfl
theorem exec_yield (x : State) : exec (.yield) x = execYield x := rfl
theorem exec_trap (code : BitVec 6) (x : State) : exec (.trap code) x = execTrap code x := rfl
theorem exec_eret (a : GReg) (ea : Bool) (x : State) : exec (.eret a ea) x = execEret a ea x := rfl
theorem exec_halt (x : State) : exec (.halt) x = execHalt x := rfl
theorem exec_brk (x : State) : exec (.brk) x = execBrk x := rfl
theorem exec_ldZ (d a : GReg) (ea : Bool) (sz : Size) (ann : Ann) (off : BitVec 7) (x : State) :
    exec (.ldZ d a ea sz ann off) x = execLdZ d a ea sz ann off x := rfl
theorem exec_ldS (d a : GReg) (ea : Bool) (sz : Size) (ann : Ann) (off : BitVec 7) (x : State) :
    exec (.ldS d a ea sz ann off) x = execLdS d a ea sz ann off x := rfl
theorem exec_st (d a : GReg) (ea : Bool) (sz : Size) (ann : Ann) (off : BitVec 7) (x : State) :
    exec (.st d a ea sz ann off) x = execSt d a ea sz ann off x := rfl
theorem exec_ldv (v : VReg) (a : GReg) (ea : Bool) (ann : Ann) (off : BitVec 10) (x : State) :
    exec (.ldv v a ea ann off) x = execLdv v a ea ann off x := rfl
theorem exec_stv (v : VReg) (a : GReg) (ea : Bool) (ann : Ann) (off : BitVec 10) (x : State) :
    exec (.stv v a ea ann off) x = execStv v a ea ann off x := rfl
theorem exec_ldvt (v : VReg) (a : GReg) (ea : Bool) (es : ESize) (off : BitVec 10) (x : State) :
    exec (.ldvt v a ea es off) x = execLdvt v a ea es off x := rfl
theorem exec_fence (k : FenceKind) (s : Scope) (x : State) : exec (.fence k s) x = execFence k s x := rfl
theorem exec_pf (a : GReg) (x : State) : exec (.pf a) x = execPf a x := rfl
theorem exec_qbind (q : QReg) (a : GReg) (ea : Bool) (x : State) : exec (.qbind q a ea) x = execQbind q a ea x := rfl
theorem exec_qfree (q : QReg) (x : State) : exec (.qfree q) x = execQfree q x := rfl
theorem exec_salloc (a b : GReg) (ea eb : Bool) (x : State) : exec (.salloc a b ea eb) x = execSalloc a b ea eb x := rfl
theorem exec_qstat (d : GReg) (q : QReg) (x : State) : exec (.qstat d q) x = execQstat d q x := rfl
theorem exec_qget (d : GReg) (q : QReg) (x : State) : exec (.qget d q) x = execQget d q x := rfl
theorem exec_qgetv (v : VReg) (q : QReg) (x : State) : exec (.qgetv v q) x = execQgetv v q x := rfl
theorem exec_amo32 (d a b : GReg) (op : Aop) (ann : AAnn) (x : State) : exec (.amo32 d a b op ann) x = execAmo32 d a b op ann x := rfl
theorem exec_amo64 (d a b : GReg) (op : Aop) (ann : AAnn) (x : State) : exec (.amo64 d a b op ann) x = execAmo64 d a b op ann x := rfl
theorem exec_faddF32 (d a b : GReg) (ea eb : Bool) (x : State) : exec (.faddF32 d a b ea eb) x = execFaddF32 d a b ea eb x := rfl
theorem exec_faddF16 (d a b : GReg) (ea eb : Bool) (x : State) : exec (.faddF16 d a b ea eb) x = execFaddF16 d a b ea eb x := rfl
theorem exec_faddF64 (d a b : GReg) (ea eb : Bool) (x : State) : exec (.faddF64 d a b ea eb) x = execFaddF64 d a b ea eb x := rfl
theorem exec_faddBf16 (d a b : GReg) (ea eb : Bool) (x : State) : exec (.faddBf16 d a b ea eb) x = execFaddBf16 d a b ea eb x := rfl
theorem exec_decp (d a : GReg) (ea : Bool) (x : State) : exec (.decp d a ea) x = execDecp d a ea x := rfl
theorem exec_waita (t a b : GReg) (ea eb : Bool) (x : State) : exec (.waita t a b ea eb) x = execWaita t a b ea eb x := rfl
theorem exec_barQuad (x : State) : exec (.barQuad) x = execBarQuad x := rfl
theorem exec_barClus (x : State) : exec (.barClus) x = execBarClus x := rfl
theorem exec_barDie (x : State) : exec (.barDie) x = execBarDie x := rfl
theorem exec_barMod (x : State) : exec (.barMod) x = execBarMod x := rfl
theorem exec_barPod (x : State) : exec (.barPod) x = execBarPod x := rfl
theorem exec_boinit (a b : GReg) (ea eb : Bool) (x : State) : exec (.boinit a b ea eb) x = execBoinit a b ea eb x := rfl
theorem exec_boarr (a b : GReg) (ea eb : Bool) (x : State) : exec (.boarr a b ea eb) x = execBoarr a b ea eb x := rfl
theorem exec_bowait (a b : GReg) (ea eb : Bool) (x : State) : exec (.bowait a b ea eb) x = execBowait a b ea eb x := rfl
theorem exec_fork (d a b : GReg) (ea eb : Bool) (x : State) : exec (.fork d a b ea eb) x = execFork d a b ea eb x := rfl
theorem exec_join (a : GReg) (ea : Bool) (x : State) : exec (.join a ea) x = execJoin a ea x := rfl
theorem exec_rfork (a b : GReg) (ea eb : Bool) (x : State) : exec (.rfork a b ea eb) x = execRfork a b ea eb x := rfl
theorem exec_post (a b : GReg) (ea eb : Bool) (x : State) : exec (.post a b ea eb) x = execPost a b ea eb x := rfl
theorem exec_cdinit (a b : GReg) (ea eb : Bool) (x : State) : exec (.cdinit a b ea eb) x = execCdinit a b ea eb x := rfl
theorem exec_grow (d a : GReg) (ea : Bool) (x : State) : exec (.grow d a ea) x = execGrow d a ea x := rfl
theorem exec_shrink (d a : GReg) (ea : Bool) (x : State) : exec (.shrink d a ea) x = execShrink d a ea x := rfl
theorem exec_stgpush (d a b : GReg) (ea eb : Bool) (x : State) : exec (.stgpush d a b ea eb) x = execStgpush d a b ea eb x := rfl
theorem exec_stgsub (a : GReg) (ea : Bool) (x : State) : exec (.stgsub a ea) x = execStgsub a ea x := rfl
theorem exec_park (a : GReg) (ea : Bool) (x : State) : exec (.park a ea) x = execPark a ea x := rfl
theorem exec_send (cls : BitVec 6) (a b : GReg) (ea eb : Bool) (x : State) : exec (.send cls a b ea eb) x = execSend cls a b ea eb x := rfl
theorem exec_cmask (a : GReg) (ea : Bool) (x : State) : exec (.cmask a ea) x = execCmask a ea x := rfl
theorem exec_cunmask (a : GReg) (ea : Bool) (x : State) : exec (.cunmask a ea) x = execCunmask a ea x := rfl
theorem exec_cpend (d a : GReg) (ea : Bool) (x : State) : exec (.cpend d a ea) x = execCpend d a ea x := rfl
theorem exec_swapx (a b : GReg) (ea eb : Bool) (x : State) : exec (.swapx a b ea eb) x = execSwapx a b ea eb x := rfl
theorem exec_sendr (cls : BitVec 6) (a b : GReg) (ea eb : Bool) (route : IWord) (x : State) :
    exec (.sendr cls a b ea eb route) x = execSendr cls a b ea eb route x := rfl
theorem exec_vadd (d a b : VReg) (ty : Ty) (x : State) : exec (.vadd d a b ty) x = execVadd d a b ty x := rfl
theorem exec_vsub (d a b : VReg) (ty : Ty) (x : State) : exec (.vsub d a b ty) x = execVsub d a b ty x := rfl
theorem exec_vmul (d a b : VReg) (ty : Ty) (x : State) : exec (.vmul d a b ty) x = execVmul d a b ty x := rfl
theorem exec_vmin (d a b : VReg) (ty : Ty) (x : State) : exec (.vmin d a b ty) x = execVmin d a b ty x := rfl
theorem exec_vmax (d a b : VReg) (ty : Ty) (x : State) : exec (.vmax d a b ty) x = execVmax d a b ty x := rfl
theorem exec_vand (d a b : VReg) (x : State) : exec (.vand d a b) x = execVand d a b x := rfl
theorem exec_vor (d a b : VReg) (x : State) : exec (.vor d a b) x = execVor d a b x := rfl
theorem exec_vxor (d a b : VReg) (x : State) : exec (.vxor d a b) x = execVxor d a b x := rfl
theorem exec_vandn (d a b : VReg) (x : State) : exec (.vandn d a b) x = execVandn d a b x := rfl
theorem exec_vshl (d a b : VReg) (ty : Ty) (x : State) : exec (.vshl d a b ty) x = execVshl d a b ty x := rfl
theorem exec_vshr (d a b : VReg) (ty : Ty) (x : State) : exec (.vshr d a b ty) x = execVshr d a b ty x := rfl
theorem exec_vsar (d a b : VReg) (ty : Ty) (x : State) : exec (.vsar d a b ty) x = execVsar d a b ty x := rfl
theorem exec_vmov (d a : VReg) (x : State) : exec (.vmov d a) x = execVmov d a x := rfl
theorem exec_vfma (d a b c : VReg) (ty : Ty) (x : State) : exec (.vfma d a b c ty) x = execVfma d a b c ty x := rfl
theorem exec_vfms (d a b c : VReg) (ty : Ty) (x : State) : exec (.vfms d a b c ty) x = execVfms d a b c ty x := rfl
theorem exec_vfnma (d a b c : VReg) (ty : Ty) (x : State) : exec (.vfnma d a b c ty) x = execVfnma d a b c ty x := rfl
theorem exec_vfnms (d a b c : VReg) (ty : Ty) (x : State) : exec (.vfnms d a b c ty) x = execVfnms d a b c ty x := rfl
theorem exec_vcvt (d a : VReg) (dt st : Ty) (rm : CvtRm) (x : State) : exec (.vcvt d a dt st rm) x = execVcvt d a dt st rm x := rfl
theorem exec_vrcp (d a : VReg) (ty : Ty) (x : State) : exec (.vrcp d a ty) x = execVrcp d a ty x := rfl
theorem exec_vrsqrt (d a : VReg) (ty : Ty) (x : State) : exec (.vrsqrt d a ty) x = execVrsqrt d a ty x := rfl
theorem exec_vsqrt (d a : VReg) (ty : Ty) (x : State) : exec (.vsqrt d a ty) x = execVsqrt d a ty x := rfl
theorem exec_vexp2 (d a : VReg) (ty : Ty) (x : State) : exec (.vexp2 d a ty) x = execVexp2 d a ty x := rfl
theorem exec_vlog2 (d a : VReg) (ty : Ty) (x : State) : exec (.vlog2 d a ty) x = execVlog2 d a ty x := rfl
theorem exec_vdiv (d a b : VReg) (ty : Ty) (x : State) : exec (.vdiv d a b ty) x = execVdiv d a b ty x := rfl
theorem exec_vperm (d a b : VReg) (ty : Ty) (x : State) : exec (.vperm d a b ty) x = execVperm d a b ty x := rfl
theorem exec_vbcast (d a : VReg) (ty : Ty) (x : State) : exec (.vbcast d a ty) x = execVbcast d a ty x := rfl
theorem exec_vins (d a : VReg) (idx : BitVec 5) (ty : Ty) (x : State) : exec (.vins d a idx ty) x = execVins d a idx ty x := rfl
theorem exec_vext (d a : VReg) (idx : BitVec 5) (ty : Ty) (x : State) : exec (.vext d a idx ty) x = execVext d a idx ty x := rfl
theorem exec_vredAdd (d a : VReg) (ty : Ty) (x : State) : exec (.vredAdd d a ty) x = execVredAdd d a ty x := rfl
theorem exec_vredMin (d a : VReg) (ty : Ty) (x : State) : exec (.vredMin d a ty) x = execVredMin d a ty x := rfl
theorem exec_vredMax (d a : VReg) (ty : Ty) (x : State) : exec (.vredMax d a ty) x = execVredMax d a ty x := rfl
theorem exec_vpack (d a b : VReg) (ty : Ty) (x : State) : exec (.vpack d a b ty) x = execVpack d a b ty x := rfl
theorem exec_vunpkLo (d a : VReg) (ty : Ty) (x : State) : exec (.vunpkLo d a ty) x = execVunpkLo d a ty x := rfl
theorem exec_vunpkHi (d a : VReg) (ty : Ty) (x : State) : exec (.vunpkHi d a ty) x = execVunpkHi d a ty x := rfl
theorem exec_vzip (d a b : VReg) (ty : Ty) (x : State) : exec (.vzip d a b ty) x = execVzip d a b ty x := rfl
theorem exec_vunzip (d a b : VReg) (ty : Ty) (x : State) : exec (.vunzip d a b ty) x = execVunzip d a b ty x := rfl
theorem exec_vcmp (d a b : VReg) (ty : Ty) (cc : VCond) (x : State) : exec (.vcmp d a b ty cc) x = execVcmp d a b ty cc x := rfl
theorem exec_vclass (d a : VReg) (ty : Ty) (x : State) : exec (.vclass d a ty) x = execVclass d a ty x := rfl
theorem exec_vsel (d a b c : VReg) (x : State) : exec (.vsel d a b c) x = execVsel d a b c x := rfl
theorem exec_vdot (d a b c : VReg) (ty : Ty) (x : State) : exec (.vdot d a b c ty) x = execVdot d a b c ty x := rfl
theorem exec_vdotI (d a b c : VReg) (ty : Ty) (x : State) : exec (.vdotI d a b c ty) x = execVdotI d a b c ty x := rfl
theorem exec_lks (a : GReg) (eg : BitVec 3) (l : Dir) (x : State) : exec (.lks a eg l) x = execLks a eg l x := rfl
theorem exec_lkm (d a b : GReg) (eg : BitVec 3) (l : Dir) (x : State) : exec (.lkm d a b eg l) x = execLkm d a b eg l x := rfl
theorem exec_lkq (d : GReg) (l : Dir) (x : State) : exec (.lkq d l) x = execLkq d l x := rfl
theorem exec_lkdrain (a : GReg) (l : Dir) (x : State) : exec (.lkdrain a l) x = execLkdrain a l x := rfl
theorem exec_lkload (a : GReg) (l : Dir) (x : State) : exec (.lkload a l) x = execLkload a l x := rfl
theorem exec_lkfrz (l : Dir) (x : State) : exec (.lkfrz l) x = execLkfrz l x := rfl
theorem exec_lkthw (l : Dir) (x : State) : exec (.lkthw l) x = execLkthw l x := rfl
theorem exec_lkcan (d a : GReg) (l : Dir) (x : State) : exec (.lkcan d a l) x = execLkcan d a l x := rfl
theorem exec_cpy (d a b : GReg) (x : State) : exec (.cpy d a b) x = execCpy d a b x := rfl
theorem exec_gat (d a b : GReg) (x : State) : exec (.gat d a b) x = execGat d a b x := rfl
theorem exec_sca (d a b : GReg) (x : State) : exec (.sca d a b) x = execSca d a b x := rfl
theorem exec_redc (d a b : GReg) (x : State) : exec (.redc d a b) x = execRedc d a b x := rfl
theorem exec_bct (d a b : GReg) (x : State) : exec (.bct d a b) x = execBct d a b x := rfl
theorem exec_tdset (a b : GReg) (x : State) : exec (.tdset a b) x = execTdset a b x := rfl
theorem exec_tdget (d a b : GReg) (x : State) : exec (.tdget d a b) x = execTdget d a b x := rfl
theorem exec_tdinv (a : GReg) (x : State) : exec (.tdinv a) x = execTdinv a x := rfl
theorem exec_gmacc (a b : GReg) (blk : BitVec 3) (x : State) : exec (.gmacc a b blk) x = execGmacc a b blk x := rfl
theorem exec_gmsub (a b : GReg) (blk : BitVec 3) (x : State) : exec (.gmsub a b blk) x = execGmsub a b blk x := rfl
theorem exec_gmelim (d a b : GReg) (x : State) : exec (.gmelim d a b) x = execGmelim d a b x := rfl
theorem exec_gmdamp (a b : GReg) (x : State) : exec (.gmdamp a b) x = execGmdamp a b x := rfl
theorem exec_gmmean (d a b : GReg) (x : State) : exec (.gmmean d a b) x = execGmmean d a b x := rfl
theorem exec_gmres (d a b : GReg) (x : State) : exec (.gmres d a b) x = execGmres d a b x := rfl
theorem exec_gmsend (a b : GReg) (x : State) : exec (.gmsend a b) x = execGmsend a b x := rfl
theorem exec_gmcpy (a b : GReg) (x : State) : exec (.gmcpy a b) x = execGmcpy a b x := rfl
theorem exec_tlbw (t a b : GReg) (ea eb : Bool) (x : State) : exec (.tlbw t a b ea eb) x = execTlbw t a b ea eb x := rfl
theorem exec_tlbi (a b : GReg) (ea eb : Bool) (x : State) : exec (.tlbi a b ea eb) x = execTlbi a b ea eb x := rfl
theorem exec_fres (a b : GReg) (ea eb : Bool) (x : State) : exec (.fres a b ea eb) x = execFres a b ea eb x := rfl
theorem exec_ctxs (a : GReg) (ea : Bool) (x : State) : exec (.ctxs a ea) x = execCtxs a ea x := rfl
theorem exec_ctxl (a : GReg) (ea : Bool) (x : State) : exec (.ctxl a ea) x = execCtxl a ea x := rfl
theorem exec_wtab (a b : GReg) (ea eb : Bool) (x : State) : exec (.wtab a b ea eb) x = execWtab a b ea eb x := rfl
theorem exec_wclose (a : GReg) (ea : Bool) (x : State) : exec (.wclose a ea) x = execWclose a ea x := rfl
theorem exec_wopen (a : GReg) (ea : Bool) (x : State) : exec (.wopen a ea) x = execWopen a ea x := rfl
theorem exec_rmap (a b : GReg) (ea eb : Bool) (x : State) : exec (.rmap a b ea eb) x = execRmap a b ea eb x := rfl
theorem exec_evac (a b : GReg) (ea eb : Bool) (x : State) : exec (.evac a b ea eb) x = execEvac a b ea eb x := rfl
theorem exec_getc (d : GReg) (n : BitVec 13) (x : State) : exec (.getc d n) x = execGetc d n x := rfl
theorem exec_setc (a : GReg) (ea : Bool) (n : BitVec 13) (x : State) : exec (.setc a ea n) x = execSetc a ea n x := rfl
theorem exec_encodingError (reason : Nat) (addr : Word) (word : IWord) (x : State) :
    exec (.encodingError reason addr word) x = execEncodingError reason addr word x := rfl
theorem exec_deferredTrapDelivery (core slot : Nat) (x : State) :
    exec (.deferredTrapDelivery core slot) x = execDeferredTrapDelivery core slot x := rfl
theorem exec_taskStart (core lvl : Nat) (x : State) : exec (.taskStart core lvl) x = execTaskStart core lvl x := rfl
theorem exec_l0HandlerStart (core : Nat) (x : State) : exec (.l0HandlerStart core) x = execL0HandlerStart core x := rfl
theorem exec_spillRefill (core lvl : Nat) (x : State) : exec (.spillRefill core lvl) x = execSpillRefill core lvl x := rfl
theorem exec_fetchDutyWindow (core : Nat) (x : State) : exec (.fetchDutyWindow core) x = execFetchDutyWindow core x := rfl
theorem exec_stealRound (core : Nat) (x : State) : exec (.stealRound core) x = execStealRound core x := rfl
theorem exec_stagePop (core : Nat) (x : State) : exec (.stagePop core) x = execStagePop core x := rfl
theorem exec_governorWindow (cluster : Nat) (x : State) : exec (.governorWindow cluster) x = execGovernorWindow cluster x := rfl
theorem exec_swapQuantum (cluster : Nat) (x : State) : exec (.swapQuantum cluster) x = execSwapQuantum cluster x := rfl
theorem exec_teamSwapOut (team : Nat) (x : State) : exec (.teamSwapOut team) x = execTeamSwapOut team x := rfl
theorem exec_teamSwapIn (team : Nat) (x : State) : exec (.teamSwapIn team) x = execTeamSwapIn team x := rfl
theorem exec_watchWake (core line : Nat) (x : State) : exec (.watchWake core line) x = execWatchWake core line x := rfl
theorem exec_waitaTimeout (id : Nat) (x : State) : exec (.waitaTimeout id) x = execWaitaTimeout id x := rfl
theorem exec_parkTimeout (id : Nat) (x : State) : exec (.parkTimeout id) x = execParkTimeout id x := rfl
theorem exec_registerFill (id : Nat) (x : State) : exec (.registerFill id) x = execRegisterFill id x := rfl
theorem exec_remoteAccessAtHome (id : Nat) (x : State) : exec (.remoteAccessAtHome id) x = execRemoteAccessAtHome id x := rfl
theorem exec_releaseRetry (id : Nat) (x : State) : exec (.releaseRetry id) x = execReleaseRetry id x := rfl
theorem exec_commitToken (id : Nat) (x : State) : exec (.commitToken id) x = execCommitToken id x := rfl
theorem exec_releaseWithdraw (id : Nat) (x : State) : exec (.releaseWithdraw id) x = execReleaseWithdraw id x := rfl
theorem exec_scopeMissReturn (id : Nat) (x : State) : exec (.scopeMissReturn id) x = execScopeMissReturn id x := rfl
theorem exec_refusalReturn (id : Nat) (x : State) : exec (.refusalReturn id) x = execRefusalReturn id x := rfl
theorem exec_tlbMissMessage (core slot : Nat) (ans : WalkAnswer) (x : State) :
    exec (.tlbMissMessage core slot ans) x = execTlbMissMessage core slot ans x := rfl
theorem exec_packetHeadRouting (id : Nat) (x : State) : exec (.packetHeadRouting id) x = execPacketHeadRouting id x := rfl
theorem exec_messageArrival (id : Nat) (x : State) : exec (.messageArrival id) x = execMessageArrival id x := rfl
theorem exec_gmRecordArrival (id : Nat) (x : State) : exec (.gmRecordArrival id) x = execGmRecordArrival id x := rfl
theorem exec_heldAlertRetry (n : Nat) (x : State) : exec (.heldAlertRetry n) x = execHeldAlertRetry n x := rfl
theorem exec_enginePairing (e : Nat) (x : State) : exec (.enginePairing e) x = execEnginePairing e x := rfl
theorem exec_jobStart (e : Nat) (x : State) : exec (.jobStart e) x = execJobStart e x := rfl
theorem exec_beatPull (e : Nat) (x : State) : exec (.beatPull e) x = execBeatPull e x := rfl
theorem exec_rowSend (e : Nat) (x : State) : exec (.rowSend e) x = execRowSend e x := rfl
theorem exec_resultPacketArrival (id : Nat) (x : State) : exec (.resultPacketArrival id) x = execResultPacketArrival id x := rfl
theorem exec_streamRowDelivery (e : Nat) (x : State) : exec (.streamRowDelivery e) x = execStreamRowDelivery e x := rfl
theorem exec_tileEndArrival (e : Nat) (x : State) : exec (.tileEndArrival e) x = execTileEndArrival e x := rfl
theorem exec_engwaitTimeout (core slot : Nat) (x : State) : exec (.engwaitTimeout core slot) x = execEngwaitTimeout core slot x := rfl
theorem exec_swapxTimeout (core slot : Nat) (x : State) : exec (.swapxTimeout core slot) x = execSwapxTimeout core slot x := rfl
theorem exec_copyJobStart (cluster : Nat) (x : State) : exec (.copyJobStart cluster) x = execCopyJobStart cluster x := rfl
theorem exec_copyUnit (cluster job : Nat) (ans : WalkAnswer) (x : State) :
    exec (.copyUnit cluster job ans) x = execCopyUnit cluster job ans x := rfl
theorem exec_bctArrival (id : Nat) (x : State) : exec (.bctArrival id) x = execBctArrival id x := rfl
theorem exec_gmuRequestStart (core : Nat) (x : State) : exec (.gmuRequestStart core) x = execGmuRequestStart core x := rfl
theorem exec_gmuRequestComplete (core : Nat) (x : State) : exec (.gmuRequestComplete core) x = execGmuRequestComplete core x := rfl
theorem exec_transitionStart (x : State) : exec (.transitionStart) x = execTransitionStart x := rfl
theorem exec_islandStepDown (island : Nat) (x : State) : exec (.islandStepDown island) x = execIslandStepDown island x := rfl
theorem exec_launchRecord (q : Nat) (x : State) : exec (.launchRecord q) x = execLaunchRecord q x := rfl
theorem exec_createContextRecord (q : TakenRecord) (x : State) :
    exec (.createContextRecord q) x = execCreateContextRecord q x := rfl
theorem exec_destroyContextRecord (q : Nat) (x : State) : exec (.destroyContextRecord q) x = execDestroyContextRecord q x := rfl
theorem exec_checkpointRecord (q : Nat) (x : State) : exec (.checkpointRecord q) x = execCheckpointRecord q x := rfl
theorem exec_checkpointStream (x : State) : exec (.checkpointStream) x = execCheckpointStream x := rfl
theorem exec_launchCompletion (ctx : Nat) (x : State) : exec (.launchCompletion ctx) x = execLaunchCompletion ctx x := rfl
theorem exec_watchdogExpiry (launch : Nat) (x : State) : exec (.watchdogExpiry launch) x = execWatchdogExpiry launch x := rfl
theorem exec_contextAbortEnd (ctx : Nat) (x : State) : exec (.contextAbortEnd ctx) x = execContextAbortEnd ctx x := rfl
theorem exec_remoteAccessTimeout (id : Nat) (x : State) : exec (.remoteAccessTimeout id) x = execRemoteAccessTimeout id x := rfl
theorem exec_diePark (d : Nat) (x : State) : exec (.diePark d) x = execDiePark d x := rfl
theorem exec_dieUnpark (d : Nat) (x : State) : exec (.dieUnpark d) x = execDieUnpark d x := rfl
theorem exec_smrReissue (core slot : Nat) (value : Word) (x : State) :
    exec (.smrReissue core slot value) x = execSmrReissue core slot value x := rfl
theorem exec_fmthAdmit (core : Nat) (x : State) : exec (.fmthAdmit core) x = execFmthAdmit core x := rfl
theorem exec_fmthRefuse (core : Nat) (x : State) : exec (.fmthRefuse core) x = execFmthRefuse core x := rfl
theorem exec_tprdWrite (n : Nat) (value : BitVec 16) (x : State) : exec (.tprdWrite n value) x = execTprdWrite n value x := rfl
theorem exec_alstClear (value : Word) (x : State) : exec (.alstClear value) x = execAlstClear value x := rfl
theorem exec_cmaskWrite (core : Nat) (value : Word) (x : State) : exec (.cmaskWrite core value) x = execCmaskWrite core value x := rfl
theorem exec_iclWrite (n value : Nat) (x : State) : exec (.iclWrite n value) x = execIclWrite n value x := rfl
theorem exec_pceilWrite (value : Nat) (x : State) : exec (.pceilWrite value) x = execPceilWrite value x := rfl
theorem exec_counterWrite (core n : Nat) (value : Word) (x : State) :
    exec (.counterWrite core n value) x = execCounterWrite core n value x := rfl
theorem exec_antiStarvationTurn (core : Nat) (x : State) : exec (.antiStarvationTurn core) x = execAntiStarvationTurn core x := rfl
theorem exec_stealRequest (thief victim : Nat) (x : State) : exec (.stealRequest thief victim) x = execStealRequest thief victim x := rfl
theorem exec_budgetPeriod (nonCore : Nat) (energy : List (Nat × Nat)) (x : State) :
    exec (.budgetPeriod nonCore energy) x = execBudgetPeriod nonCore energy x := rfl
theorem exec_monitorSample (power current : BitVec 16) (x : State) :
    exec (.monitorSample power current) x = execMonitorSample power current x := rfl
theorem exec_sensorSample (temps : List (BitVec 16)) (x : State) : exec (.sensorSample temps) x = execSensorSample temps x := rfl
theorem exec_stateRequest (value : Word) (x : State) : exec (.stateRequest value) x = execStateRequest value x := rfl
theorem exec_sqDoorbell (q tail : Nat) (x : State) : exec (.sqDoorbell q tail) x = execSqDoorbell q tail x := rfl
theorem exec_cqHeadWrite (q head : Nat) (x : State) : exec (.cqHeadWrite q head) x = execCqHeadWrite q head x := rfl
theorem exec_faultConsumerIndex (index : Nat) (x : State) : exec (.faultConsumerIndex index) x = execFaultConsumerIndex index x := rfl
theorem exec_resolutionWord (seq : BitVec 32) (x : State) : exec (.resolutionWord seq) x = execResolutionWord seq x := rfl
theorem exec_attestationRequest (word : Nat) (value : Word) (x : State) :
    exec (.attestationRequest word value) x = execAttestationRequest word value x := rfl
theorem exec_recoveryRequest (image : Word) (verified : Bool) (x : State) :
    exec (.recoveryRequest image verified) x = execRecoveryRequest image verified x := rfl
theorem exec_hostMemoryAccess (pa bytes : Nat) (acc : HostAccess) (x : State) :
    exec (.hostMemoryAccess pa bytes acc) x = execHostMemoryAccess pa bytes acc x := rfl
theorem exec_powerOn (verified : Bool) (modnum : BitVec 14) (x : State) :
    exec (.powerOn verified modnum) x = execPowerOn verified modnum x := rfl
theorem exec_flitArrival (link seq : Nat) (crcOk : Bool) (x : State) :
    exec (.flitArrival link seq crcOk) x = execFlitArrival link seq crcOk x := rfl
theorem exec_flitAck (link seq : Nat) (x : State) : exec (.flitAck link seq) x = execFlitAck link seq x := rfl
theorem exec_flitNak (link seq : Nat) (windowError : Bool) (x : State) :
    exec (.flitNak link seq windowError) x = execFlitNak link seq windowError x := rfl
theorem exec_replayRequest (link pkt : Nat) (routeLeft : Bool) (x : State) :
    exec (.replayRequest link pkt routeLeft) x = execReplayRequest link pkt routeLeft x := rfl
theorem exec_endToEndAck (link seq : Nat) (x : State) : exec (.endToEndAck link seq) x = execEndToEndAck link seq x := rfl
theorem exec_controlSpaceTaskStart (core : Nat) (pc frame : Word) (allot : Nat) (x : State) :
    exec (.controlSpaceTaskStart core pc frame allot) x = execControlSpaceTaskStart core pc frame allot x := rfl
theorem exec_coreRestart (core : Nat) (x : State) : exec (.coreRestart core) x = execCoreRestart core x := rfl
theorem exec_stageConfigStore (core slot cluster off : Nat) (value : Word) (x : State) :
    exec (.stageConfigStore core slot cluster off value) x = execStageConfigStore core slot cluster off value x := rfl
theorem exec_routeTableWrite (router cls : Nat) (value : BitVec 16) (x : State) :
    exec (.routeTableWrite router cls value) x = execRouteTableWrite router cls value x := rfl
theorem exec_psTableWrite (state : Nat) (mask : BitVec 8) (x : State) :
    exec (.psTableWrite state mask) x = execPsTableWrite state mask x := rfl
theorem exec_permissionTableWrite (ctx idx : Nat) (w0 w1 : Word) (x : State) :
    exec (.permissionTableWrite ctx idx w0 w1) x = execPermissionTableWrite ctx idx w0 w1 x := rfl
theorem exec_floorWrite (core w a c : Nat) (x : State) : exec (.floorWrite core w a c) x = execFloorWrite core w a c x := rfl
theorem exec_queueConfigurationWrite (q word : Nat) (value : Word) (x : State) :
    exec (.queueConfigurationWrite q word value) x = execQueueConfigurationWrite q word value x := rfl
theorem exec_modeChange (m : Nat) (x : State) : exec (.modeChange m) x = execModeChange m x := rfl
theorem exec_podBarrierArrival (job module : Nat) (x : State) :
    exec (.podBarrierArrival job module) x = execPodBarrierArrival job module x := rfl
theorem exec_firmwareGridStart (entry args : Word) (allot : Nat) (threads : GridShape) (x : State) :
    exec (.firmwareGridStart entry args allot threads) x = execFirmwareGridStart entry args allot threads x := rfl
theorem exec_darkroomAbortRequest (core slot : Nat) (x : State) :
    exec (.darkroomAbortRequest core slot) x = execDarkroomAbortRequest core slot x := rfl

/-- The meaning of a member of the encoding is its effect behind the shared checks. -/
theorem exec_isEntered (i : Instr) (s : State) (h : i.isWord = true) : ∃ k, exec i s = entered i s k := by
  cases i with
  | add => exact ⟨_, (exec_add ..).trans (by rw [execAdd])⟩
  | sub => exact ⟨_, (exec_sub ..).trans (by rw [execSub])⟩
  | mul => exact ⟨_, (exec_mul ..).trans (by rw [execMul])⟩
  | mulhS => exact ⟨_, (exec_mulhS ..).trans (by rw [execMulhS])⟩
  | mulhZ => exact ⟨_, (exec_mulhZ ..).trans (by rw [execMulhZ])⟩
  | divS => exact ⟨_, (exec_divS ..).trans (by rw [execDivS])⟩
  | divZ => exact ⟨_, (exec_divZ ..).trans (by rw [execDivZ])⟩
  | remS => exact ⟨_, (exec_remS ..).trans (by rw [execRemS])⟩
  | remZ => exact ⟨_, (exec_remZ ..).trans (by rw [execRemZ])⟩
  | and => exact ⟨_, (exec_and ..).trans (by rw [execAnd])⟩
  | or => exact ⟨_, (exec_or ..).trans (by rw [execOr])⟩
  | xor => exact ⟨_, (exec_xor ..).trans (by rw [execXor])⟩
  | andn => exact ⟨_, (exec_andn ..).trans (by rw [execAndn])⟩
  | orn => exact ⟨_, (exec_orn ..).trans (by rw [execOrn])⟩
  | shl => exact ⟨_, (exec_shl ..).trans (by rw [execShl])⟩
  | shr => exact ⟨_, (exec_shr ..).trans (by rw [execShr])⟩
  | sar => exact ⟨_, (exec_sar ..).trans (by rw [execSar])⟩
  | rol => exact ⟨_, (exec_rol ..).trans (by rw [execRol])⟩
  | ror => exact ⟨_, (exec_ror ..).trans (by rw [execRor])⟩
  | minS => exact ⟨_, (exec_minS ..).trans (by rw [execMinS])⟩
  | minZ => exact ⟨_, (exec_minZ ..).trans (by rw [execMinZ])⟩
  | maxS => exact ⟨_, (exec_maxS ..).trans (by rw [execMaxS])⟩
  | maxZ => exact ⟨_, (exec_maxZ ..).trans (by rw [execMaxZ])⟩
  | clz => exact ⟨_, (exec_clz ..).trans (by rw [execClz])⟩
  | ctz => exact ⟨_, (exec_ctz ..).trans (by rw [execCtz])⟩
  | popc => exact ⟨_, (exec_popc ..).trans (by rw [execPopc])⟩
  | bswap => exact ⟨_, (exec_bswap ..).trans (by rw [execBswap])⟩
  | lea1 => exact ⟨_, (exec_lea1 ..).trans (by rw [execLea1])⟩
  | lea2 => exact ⟨_, (exec_lea2 ..).trans (by rw [execLea2])⟩
  | lea3 => exact ⟨_, (exec_lea3 ..).trans (by rw [execLea3])⟩
  | cmp => exact ⟨_, (exec_cmp ..).trans (by rw [execCmp])⟩
  | addi => exact ⟨_, (exec_addi ..).trans (by rw [execAddi])⟩
  | andi => exact ⟨_, (exec_andi ..).trans (by rw [execAndi])⟩
  | ori => exact ⟨_, (exec_ori ..).trans (by rw [execOri])⟩
  | xori => exact ⟨_, (exec_xori ..).trans (by rw [execXori])⟩
  | shli => exact ⟨_, (exec_shli ..).trans (by rw [execShli])⟩
  | shri => exact ⟨_, (exec_shri ..).trans (by rw [execShri])⟩
  | sari => exact ⟨_, (exec_sari ..).trans (by rw [execSari])⟩
  | cmpi => exact ⟨_, (exec_cmpi ..).trans (by rw [execCmpi])⟩
  | liS => exact ⟨_, (exec_liS ..).trans (by rw [execLiS])⟩
  | liZ => exact ⟨_, (exec_liZ ..).trans (by rw [execLiZ])⟩
  | lih => exact ⟨_, (exec_lih ..).trans (by rw [execLih])⟩
  | bextS => exact ⟨_, (exec_bextS ..).trans (by rw [execBextS])⟩
  | bextZ => exact ⟨_, (exec_bextZ ..).trans (by rw [execBextZ])⟩
  | bins => exact ⟨_, (exec_bins ..).trans (by rw [execBins])⟩
  | pand => exact ⟨_, (exec_pand ..).trans (by rw [execPand])⟩
  | por => exact ⟨_, (exec_por ..).trans (by rw [execPor])⟩
  | pxor => exact ⟨_, (exec_pxor ..).trans (by rw [execPxor])⟩
  | pandn => exact ⟨_, (exec_pandn ..).trans (by rw [execPandn])⟩
  | pnot => exact ⟨_, (exec_pnot ..).trans (by rw [execPnot])⟩
  | pmov => exact ⟨_, (exec_pmov ..).trans (by rw [execPmov])⟩
  | pget => exact ⟨_, (exec_pget ..).trans (by rw [execPget])⟩
  | pput => exact ⟨_, (exec_pput ..).trans (by rw [execPput])⟩
  | br => exact ⟨_, (exec_br ..).trans (by rw [execBr])⟩
  | call => exact ⟨_, (exec_call ..).trans (by rw [execCall])⟩
  | jr => exact ⟨_, (exec_jr ..).trans (by rw [execJr])⟩
  | jalr => exact ⟨_, (exec_jalr ..).trans (by rw [execJalr])⟩
  | nop => exact ⟨_, (exec_nop ..).trans (by rw [execNop])⟩
  | endTask => exact ⟨_, (exec_endTask ..).trans (by rw [execEndTask])⟩
  | yield => exact ⟨_, (exec_yield ..).trans (by rw [execYield])⟩
  | trap => exact ⟨_, (exec_trap ..).trans (by rw [execTrap])⟩
  | eret => exact ⟨_, (exec_eret ..).trans (by rw [execEret])⟩
  | halt => exact ⟨_, (exec_halt ..).trans (by rw [execHalt])⟩
  | brk => exact ⟨_, (exec_brk ..).trans (by rw [execBrk])⟩
  | ldZ => exact ⟨_, (exec_ldZ ..).trans (by rw [execLdZ])⟩
  | ldS => exact ⟨_, (exec_ldS ..).trans (by rw [execLdS])⟩
  | st => exact ⟨_, (exec_st ..).trans (by rw [execSt])⟩
  | ldv => exact ⟨_, (exec_ldv ..).trans (by rw [execLdv])⟩
  | stv => exact ⟨_, (exec_stv ..).trans (by rw [execStv])⟩
  | ldvt => exact ⟨_, (exec_ldvt ..).trans (by rw [execLdvt])⟩
  | fence => exact ⟨_, (exec_fence ..).trans (by rw [execFence])⟩
  | pf => exact ⟨_, (exec_pf ..).trans (by rw [execPf])⟩
  | qbind => exact ⟨_, (exec_qbind ..).trans (by rw [execQbind])⟩
  | qfree => exact ⟨_, (exec_qfree ..).trans (by rw [execQfree])⟩
  | salloc => exact ⟨_, (exec_salloc ..).trans (by rw [execSalloc])⟩
  | qstat => exact ⟨_, (exec_qstat ..).trans (by rw [execQstat])⟩
  | qget => exact ⟨_, (exec_qget ..).trans (by rw [execQget])⟩
  | qgetv => exact ⟨_, (exec_qgetv ..).trans (by rw [execQgetv])⟩
  | amo32 => exact ⟨_, (exec_amo32 ..).trans (by rw [execAmo32])⟩
  | amo64 => exact ⟨_, (exec_amo64 ..).trans (by rw [execAmo64])⟩
  | faddF32 => exact ⟨_, (exec_faddF32 ..).trans (by rw [execFaddF32])⟩
  | faddF16 => exact ⟨_, (exec_faddF16 ..).trans (by rw [execFaddF16])⟩
  | faddF64 => exact ⟨_, (exec_faddF64 ..).trans (by rw [execFaddF64])⟩
  | faddBf16 => exact ⟨_, (exec_faddBf16 ..).trans (by rw [execFaddBf16])⟩
  | decp => exact ⟨_, (exec_decp ..).trans (by rw [execDecp])⟩
  | waita => exact ⟨_, (exec_waita ..).trans (by rw [execWaita])⟩
  | barQuad => exact ⟨_, (exec_barQuad ..).trans (by rw [execBarQuad])⟩
  | barClus => exact ⟨_, (exec_barClus ..).trans (by rw [execBarClus])⟩
  | barDie => exact ⟨_, (exec_barDie ..).trans (by rw [execBarDie])⟩
  | barMod => exact ⟨_, (exec_barMod ..).trans (by rw [execBarMod])⟩
  | barPod => exact ⟨_, (exec_barPod ..).trans (by rw [execBarPod])⟩
  | boinit => exact ⟨_, (exec_boinit ..).trans (by rw [execBoinit])⟩
  | boarr => exact ⟨_, (exec_boarr ..).trans (by rw [execBoarr])⟩
  | bowait => exact ⟨_, (exec_bowait ..).trans (by rw [execBowait])⟩
  | fork => exact ⟨_, (exec_fork ..).trans (by rw [execFork])⟩
  | join => exact ⟨_, (exec_join ..).trans (by rw [execJoin])⟩
  | rfork => exact ⟨_, (exec_rfork ..).trans (by rw [execRfork])⟩
  | post => exact ⟨_, (exec_post ..).trans (by rw [execPost])⟩
  | cdinit => exact ⟨_, (exec_cdinit ..).trans (by rw [execCdinit])⟩
  | grow => exact ⟨_, (exec_grow ..).trans (by rw [execGrow])⟩
  | shrink => exact ⟨_, (exec_shrink ..).trans (by rw [execShrink])⟩
  | stgpush => exact ⟨_, (exec_stgpush ..).trans (by rw [execStgpush])⟩
  | stgsub => exact ⟨_, (exec_stgsub ..).trans (by rw [execStgsub])⟩
  | park => exact ⟨_, (exec_park ..).trans (by rw [execPark])⟩
  | send => exact ⟨_, (exec_send ..).trans (by rw [execSend])⟩
  | cmask => exact ⟨_, (exec_cmask ..).trans (by rw [execCmask])⟩
  | cunmask => exact ⟨_, (exec_cunmask ..).trans (by rw [execCunmask])⟩
  | cpend => exact ⟨_, (exec_cpend ..).trans (by rw [execCpend])⟩
  | swapx => exact ⟨_, (exec_swapx ..).trans (by rw [execSwapx])⟩
  | sendr => exact ⟨_, (exec_sendr ..).trans (by rw [execSendr])⟩
  | vadd => exact ⟨_, (exec_vadd ..).trans (by rw [execVadd])⟩
  | vsub => exact ⟨_, (exec_vsub ..).trans (by rw [execVsub])⟩
  | vmul => exact ⟨_, (exec_vmul ..).trans (by rw [execVmul])⟩
  | vmin => exact ⟨_, (exec_vmin ..).trans (by rw [execVmin])⟩
  | vmax => exact ⟨_, (exec_vmax ..).trans (by rw [execVmax])⟩
  | vand => exact ⟨_, (exec_vand ..).trans (by rw [execVand])⟩
  | vor => exact ⟨_, (exec_vor ..).trans (by rw [execVor])⟩
  | vxor => exact ⟨_, (exec_vxor ..).trans (by rw [execVxor])⟩
  | vandn => exact ⟨_, (exec_vandn ..).trans (by rw [execVandn])⟩
  | vshl => exact ⟨_, (exec_vshl ..).trans (by rw [execVshl])⟩
  | vshr => exact ⟨_, (exec_vshr ..).trans (by rw [execVshr])⟩
  | vsar => exact ⟨_, (exec_vsar ..).trans (by rw [execVsar])⟩
  | vmov => exact ⟨_, (exec_vmov ..).trans (by rw [execVmov])⟩
  | vfma => exact ⟨_, (exec_vfma ..).trans (by rw [execVfma])⟩
  | vfms => exact ⟨_, (exec_vfms ..).trans (by rw [execVfms])⟩
  | vfnma => exact ⟨_, (exec_vfnma ..).trans (by rw [execVfnma])⟩
  | vfnms => exact ⟨_, (exec_vfnms ..).trans (by rw [execVfnms])⟩
  | vcvt => exact ⟨_, (exec_vcvt ..).trans (by rw [execVcvt])⟩
  | vrcp => exact ⟨_, (exec_vrcp ..).trans (by rw [execVrcp])⟩
  | vrsqrt => exact ⟨_, (exec_vrsqrt ..).trans (by rw [execVrsqrt])⟩
  | vsqrt => exact ⟨_, (exec_vsqrt ..).trans (by rw [execVsqrt])⟩
  | vexp2 => exact ⟨_, (exec_vexp2 ..).trans (by rw [execVexp2])⟩
  | vlog2 => exact ⟨_, (exec_vlog2 ..).trans (by rw [execVlog2])⟩
  | vdiv => exact ⟨_, (exec_vdiv ..).trans (by rw [execVdiv])⟩
  | vperm => exact ⟨_, (exec_vperm ..).trans (by rw [execVperm])⟩
  | vbcast => exact ⟨_, (exec_vbcast ..).trans (by rw [execVbcast])⟩
  | vins => exact ⟨_, (exec_vins ..).trans (by rw [execVins])⟩
  | vext => exact ⟨_, (exec_vext ..).trans (by rw [execVext])⟩
  | vredAdd => exact ⟨_, (exec_vredAdd ..).trans (by rw [execVredAdd])⟩
  | vredMin => exact ⟨_, (exec_vredMin ..).trans (by rw [execVredMin])⟩
  | vredMax => exact ⟨_, (exec_vredMax ..).trans (by rw [execVredMax])⟩
  | vpack => exact ⟨_, (exec_vpack ..).trans (by rw [execVpack])⟩
  | vunpkLo => exact ⟨_, (exec_vunpkLo ..).trans (by rw [execVunpkLo])⟩
  | vunpkHi => exact ⟨_, (exec_vunpkHi ..).trans (by rw [execVunpkHi])⟩
  | vzip => exact ⟨_, (exec_vzip ..).trans (by rw [execVzip])⟩
  | vunzip => exact ⟨_, (exec_vunzip ..).trans (by rw [execVunzip])⟩
  | vcmp => exact ⟨_, (exec_vcmp ..).trans (by rw [execVcmp])⟩
  | vclass => exact ⟨_, (exec_vclass ..).trans (by rw [execVclass])⟩
  | vsel => exact ⟨_, (exec_vsel ..).trans (by rw [execVsel])⟩
  | vdot => exact ⟨_, (exec_vdot ..).trans (by rw [execVdot])⟩
  | vdotI => exact ⟨_, (exec_vdotI ..).trans (by rw [execVdotI])⟩
  | lks => exact ⟨_, (exec_lks ..).trans (by rw [execLks])⟩
  | lkm => exact ⟨_, (exec_lkm ..).trans (by rw [execLkm])⟩
  | lkq => exact ⟨_, (exec_lkq ..).trans (by rw [execLkq])⟩
  | lkdrain => exact ⟨_, (exec_lkdrain ..).trans (by rw [execLkdrain])⟩
  | lkload => exact ⟨_, (exec_lkload ..).trans (by rw [execLkload])⟩
  | lkfrz => exact ⟨_, (exec_lkfrz ..).trans (by rw [execLkfrz])⟩
  | lkthw => exact ⟨_, (exec_lkthw ..).trans (by rw [execLkthw])⟩
  | lkcan => exact ⟨_, (exec_lkcan ..).trans (by rw [execLkcan])⟩
  | cpy => exact ⟨_, (exec_cpy ..).trans (by rw [execCpy])⟩
  | gat => exact ⟨_, (exec_gat ..).trans (by rw [execGat])⟩
  | sca => exact ⟨_, (exec_sca ..).trans (by rw [execSca])⟩
  | redc => exact ⟨_, (exec_redc ..).trans (by rw [execRedc])⟩
  | bct => exact ⟨_, (exec_bct ..).trans (by rw [execBct])⟩
  | tdset => exact ⟨_, (exec_tdset ..).trans (by rw [execTdset])⟩
  | tdget => exact ⟨_, (exec_tdget ..).trans (by rw [execTdget])⟩
  | tdinv => exact ⟨_, (exec_tdinv ..).trans (by rw [execTdinv])⟩
  | gmacc => exact ⟨_, (exec_gmacc ..).trans (by rw [execGmacc])⟩
  | gmsub => exact ⟨_, (exec_gmsub ..).trans (by rw [execGmsub])⟩
  | gmelim => exact ⟨_, (exec_gmelim ..).trans (by rw [execGmelim])⟩
  | gmdamp => exact ⟨_, (exec_gmdamp ..).trans (by rw [execGmdamp])⟩
  | gmmean => exact ⟨_, (exec_gmmean ..).trans (by rw [execGmmean])⟩
  | gmres => exact ⟨_, (exec_gmres ..).trans (by rw [execGmres])⟩
  | gmsend => exact ⟨_, (exec_gmsend ..).trans (by rw [execGmsend])⟩
  | gmcpy => exact ⟨_, (exec_gmcpy ..).trans (by rw [execGmcpy])⟩
  | tlbw => exact ⟨_, (exec_tlbw ..).trans (by rw [execTlbw])⟩
  | tlbi => exact ⟨_, (exec_tlbi ..).trans (by rw [execTlbi])⟩
  | fres => exact ⟨_, (exec_fres ..).trans (by rw [execFres])⟩
  | ctxs => exact ⟨_, (exec_ctxs ..).trans (by rw [execCtxs])⟩
  | ctxl => exact ⟨_, (exec_ctxl ..).trans (by rw [execCtxl])⟩
  | wtab => exact ⟨_, (exec_wtab ..).trans (by rw [execWtab])⟩
  | wclose => exact ⟨_, (exec_wclose ..).trans (by rw [execWclose])⟩
  | wopen => exact ⟨_, (exec_wopen ..).trans (by rw [execWopen])⟩
  | rmap => exact ⟨_, (exec_rmap ..).trans (by rw [execRmap])⟩
  | evac => exact ⟨_, (exec_evac ..).trans (by rw [execEvac])⟩
  | getc => exact ⟨_, (exec_getc ..).trans (by rw [execGetc])⟩
  | setc => exact ⟨_, (exec_setc ..).trans (by rw [execSetc])⟩
  | smrReissue => exact Bool.noConfusion h
  | fmthAdmit => exact Bool.noConfusion h
  | fmthRefuse => exact Bool.noConfusion h
  | tprdWrite => exact Bool.noConfusion h
  | alstClear => exact Bool.noConfusion h
  | cmaskWrite => exact Bool.noConfusion h
  | iclWrite => exact Bool.noConfusion h
  | pceilWrite => exact Bool.noConfusion h
  | counterWrite => exact Bool.noConfusion h
  | taskStart => exact Bool.noConfusion h
  | l0HandlerStart => exact Bool.noConfusion h
  | deferredTrapDelivery => exact Bool.noConfusion h
  | spillRefill => exact Bool.noConfusion h
  | antiStarvationTurn => exact Bool.noConfusion h
  | fetchDutyWindow => exact Bool.noConfusion h
  | stealRound => exact Bool.noConfusion h
  | stealRequest => exact Bool.noConfusion h
  | stagePop => exact Bool.noConfusion h
  | governorWindow => exact Bool.noConfusion h
  | swapQuantum => exact Bool.noConfusion h
  | teamSwapOut => exact Bool.noConfusion h
  | teamSwapIn => exact Bool.noConfusion h
  | watchWake => exact Bool.noConfusion h
  | waitaTimeout => exact Bool.noConfusion h
  | parkTimeout => exact Bool.noConfusion h
  | registerFill => exact Bool.noConfusion h
  | remoteAccessAtHome => exact Bool.noConfusion h
  | releaseRetry => exact Bool.noConfusion h
  | commitToken => exact Bool.noConfusion h
  | releaseWithdraw => exact Bool.noConfusion h
  | scopeMissReturn => exact Bool.noConfusion h
  | refusalReturn => exact Bool.noConfusion h
  | tlbMissMessage => exact Bool.noConfusion h
  | packetHeadRouting => exact Bool.noConfusion h
  | messageArrival => exact Bool.noConfusion h
  | gmRecordArrival => exact Bool.noConfusion h
  | heldAlertRetry => exact Bool.noConfusion h
  | enginePairing => exact Bool.noConfusion h
  | jobStart => exact Bool.noConfusion h
  | beatPull => exact Bool.noConfusion h
  | rowSend => exact Bool.noConfusion h
  | resultPacketArrival => exact Bool.noConfusion h
  | streamRowDelivery => exact Bool.noConfusion h
  | tileEndArrival => exact Bool.noConfusion h
  | engwaitTimeout => exact Bool.noConfusion h
  | swapxTimeout => exact Bool.noConfusion h
  | copyJobStart => exact Bool.noConfusion h
  | copyUnit => exact Bool.noConfusion h
  | bctArrival => exact Bool.noConfusion h
  | gmuRequestStart => exact Bool.noConfusion h
  | gmuRequestComplete => exact Bool.noConfusion h
  | budgetPeriod => exact Bool.noConfusion h
  | monitorSample => exact Bool.noConfusion h
  | sensorSample => exact Bool.noConfusion h
  | stateRequest => exact Bool.noConfusion h
  | transitionStart => exact Bool.noConfusion h
  | islandStepDown => exact Bool.noConfusion h
  | diePark => exact Bool.noConfusion h
  | dieUnpark => exact Bool.noConfusion h
  | sqDoorbell => exact Bool.noConfusion h
  | launchRecord => exact Bool.noConfusion h
  | createContextRecord => exact Bool.noConfusion h
  | destroyContextRecord => exact Bool.noConfusion h
  | checkpointRecord => exact Bool.noConfusion h
  | checkpointStream => exact Bool.noConfusion h
  | launchCompletion => exact Bool.noConfusion h
  | watchdogExpiry => exact Bool.noConfusion h
  | cqHeadWrite => exact Bool.noConfusion h
  | faultConsumerIndex => exact Bool.noConfusion h
  | resolutionWord => exact Bool.noConfusion h
  | attestationRequest => exact Bool.noConfusion h
  | recoveryRequest => exact Bool.noConfusion h
  | hostMemoryAccess => exact Bool.noConfusion h
  | powerOn => exact Bool.noConfusion h
  | remoteAccessTimeout => exact Bool.noConfusion h
  | flitArrival => exact Bool.noConfusion h
  | flitAck => exact Bool.noConfusion h
  | flitNak => exact Bool.noConfusion h
  | replayRequest => exact Bool.noConfusion h
  | endToEndAck => exact Bool.noConfusion h
  | controlSpaceTaskStart => exact Bool.noConfusion h
  | coreRestart => exact Bool.noConfusion h
  | stageConfigStore => exact Bool.noConfusion h
  | routeTableWrite => exact Bool.noConfusion h
  | psTableWrite => exact Bool.noConfusion h
  | permissionTableWrite => exact Bool.noConfusion h
  | floorWrite => exact Bool.noConfusion h
  | encodingError => exact Bool.noConfusion h
  | queueConfigurationWrite => exact Bool.noConfusion h
  | modeChange => exact Bool.noConfusion h
  | podBarrierArrival => exact Bool.noConfusion h
  | firmwareGridStart => exact Bool.noConfusion h
  | contextAbortEnd => exact Bool.noConfusion h
  | darkroomAbortRequest => exact Bool.noConfusion h

end Sys2Proof.Machine
end

