-- ==== Sys2Proof/Laws/Fields.lean ====
section
/-! SUPPORT. The encoder and the decoder agree on every member: one lemma for each constructor of `Instr`, over the fields of
each form (R250). -/

namespace Sys2Proof.Laws

open Sys2Proof

/-! ### Small fields -/

theorem scopeOf_code (s : Scope) : scopeOf (scopeCode s) = some s := by cases s <;> rfl
theorem condOf_code (c : Cond) : condOf (condCode c) = some c := by cases c <;> rfl
theorem tyOf_code (t : Ty) : tyOf (tyCode t) = some t := by cases t <;> rfl
theorem rmOf_code (r : CvtRm) : rmOf (rmCode r) = some r := by cases r <;> rfl
theorem kindOf_code (k : FenceKind) : kindOf (kindCode k) = some k := by cases k <;> rfl
theorem aopOf_code (p : Aop) : aopOf (aopCode p) = p := by cases p <;> rfl
theorem esizeOf_code (e : ESize) : esizeOf (esizeCode e) = some e := by cases e <;> rfl
theorem dirOf_code (d : Dir) : dirOf (dirCode d) = d := by cases d <;> rfl
theorem sizeOf_code (z : Size) : sizeOf (sizeCode z) = z := by cases z <;> rfl
theorem scopeCode_lt (s : Scope) : scopeCode s < 7 := by cases s <;> decide
theorem condCode_lt (c : Cond) : condCode c < 11 := by cases c <;> decide
theorem vcondCode_lt (c : VCond) : vcondCode c < 4 := by cases c <;> decide
theorem tyCode_lt (t : Ty) : tyCode t < 13 := by cases t <;> decide
theorem rmCode_lt (r : CvtRm) : rmCode r < 5 := by cases r <;> decide
theorem kindCode_lt (k : FenceKind) : kindCode k < 3 := by cases k <;> decide
theorem aopCode_lt (p : Aop) : aopCode p < 8 := by cases p <;> decide
theorem esizeCode_lt (e : ESize) : esizeCode e < 3 := by cases e <;> decide
theorem dirCode_lt (d : Dir) : dirCode d < 4 := by cases d <;> decide
theorem sizeCode_lt (z : Size) : sizeCode z < 4 := by cases z <;> decide
theorem annCode_lt (a : Ann) : annCode a < 16 := by cases a <;> simp only [annCode] <;> first | decide | (have := scopeCode_lt ‹Scope›; omega)
theorem aannCode_lt (a : AAnn) : aannCode a < 32 := by
  cases a <;> simp only [aannCode] <;> first | decide | (have := scopeCode_lt ‹Scope›; omega)
theorem tyCode_inj {t u : Ty} (h : tyCode t = tyCode u) : t = u := by
  have := congrArg tyOf h; rw [tyOf_code, tyOf_code] at this; exact Option.some.inj this

theorem b2n_lt (b : Bool) : b2n b < 2 := by cases b <;> decide
theorem b2n_bit (b : Bool) : (b2n b == 1) = b := by cases b <;> rfl
theorem b2n_zero (b : Bool) : (b2n b == 0) = !b := by cases b <;> rfl
/-! ### One field read back -/

theorem z_eq {w lo len k : Nat} (h : fld w lo len = k) (hk : k = 0) : z w lo len = true := by simp [z, h, hk]
theorem and_eq {a b : Bool} (ha : a = true) (hb : b = true) : (a && b) = true := by rw [ha, hb]; rfl
theorem ofNat_eq {n : Nat} (v : BitVec n) {k m : Nat} (h : k = m) (hm : m = v.toNat) : BitVec.ofNat n k = v := by
  rw [h, hm, BitVec.ofNat_toNat, BitVec.setWidth_eq]
theorem gr_eq (v : GReg) {w lo k : Nat} (h : fld w lo 6 = k) (hk : k = v.toNat) : gr w lo = v := ofNat_eq v h hk
theorem vr_eq (v : VReg) {w lo k : Nat} (h : fld w lo 5 = k) (hk : k = v.toNat) : vr w lo = v := ofNat_eq v h hk
theorem pr_eq (v : PReg) {w lo k : Nat} (h : fld w lo 3 = k) (hk : k = v.toNat) : pr w lo = v := ofNat_eq v h hk
theorem qr_eq (v : QReg) {w lo k : Nat} (h : fld w lo 4 = k) (hk : k = v.toNat) : qr w lo = v := ofNat_eq v h hk
theorem code_eq {α : Type} {f : Nat → α} {v : α} {k m : Nat} (h : k = m) (hm : f m = v) : f k = v := by rw [h, hm]
theorem tyD_eq (t : Ty) {w lo k : Nat} (h : fld w lo 4 = k) (hk : k = tyCode t) : tyD w lo = t := by
  rw [tyD, h, hk, tyOf_code]; rfl
theorem tyIn_eq (t : Ty) {w lo k : Nat} {l : List Ty} (h : fld w lo 4 = k) (hk : k = tyCode t) (hl : l.contains t = true) :
    tyIn w lo l = true := by
  rw [tyIn, h, hk, tyOf_code]; exact hl
theorem fld_one {w o k : Nat} (h : fld w o 1 = k) : w / 2 ^ o % 2 = k := by rw [fld, Nat.pow_one] at h; exact h
theorem fld_two {w o k : Nat} (h : fld w o 2 = k) : w / 2 ^ o % 4 = k := h
theorem fld_three {w o k : Nat} (h : fld w o 3 = k) : w / 2 ^ o % 8 = k := h
theorem annOf_eq (a : Ann) {w o lo : Nat} (h1 : fld w o 1 = annCode a / 8) (h3 : fld w lo 3 = annCode a % 8) : annOf w o lo = a := by
  rw [annOf, fld_one h1, fld_three h3]
  cases a with
  | relaxed => rfl
  | ordered s => cases s <;> rfl
theorem annOk_eq (a : Ann) {w o lo : Nat} (h1 : fld w o 1 = annCode a / 8) (h3 : fld w lo 3 = annCode a % 8) : annOk w o lo = true := by
  rw [annOk, fld_one h1, fld_three h3]
  cases a with
  | relaxed => rfl
  | ordered s => cases s <;> rfl
theorem annZ_eq (a : Ann) {w o lo : Nat} (h1 : fld w o 1 = annCode a / 8) (h3 : fld w lo 3 = annCode a % 8) :
    (bitAt w o || z w lo 3) = true := by
  rw [bitAt, fld_one h1, z, h3]
  cases a with
  | relaxed => rfl
  | ordered s => cases s <;> rfl
theorem aannOf_eq (a : AAnn) {w : Nat} (h2 : fld w 3 2 = aannCode a / 8) (h3 : fld w 0 3 = aannCode a % 8) : aannOf w = a := by
  have e2 : w / 8 % 4 = aannCode a / 8 := fld_two h2
  have e3 : w % 8 = aannCode a % 8 := by have := fld_three h3; rwa [Nat.pow_zero, Nat.div_one] at this
  rw [aannOf, e2, e3]
  cases a with
  | relaxed => rfl
  | acq s => cases s <;> rfl
  | rel s => cases s <;> rfl
  | acqrel s => cases s <;> rfl
theorem aannZ_eq (a : AAnn) {w : Nat} (h2 : fld w 3 2 = aannCode a / 8) (h3 : fld w 0 3 = aannCode a % 8) :
    (!(z w 3 2) || z w 0 3) = true := by
  rw [z, z, h2, h3]
  cases a with
  | relaxed => rfl
  | acq s => cases s <;> rfl
  | rel s => cases s <;> rfl
  | acqrel s => cases s <;> rfl
theorem aannOk_eq (a : AAnn) {w : Nat} (h2 : fld w 3 2 = aannCode a / 8) (h3 : fld w 0 3 = aannCode a % 8) :
    (z w 3 2 || (scopeOf (fld w 0 3)).isSome) = true := by
  rw [z, h2, h3]
  cases a with
  | relaxed => rfl
  | acq s => cases s <;> rfl
  | rel s => cases s <;> rfl
  | acqrel s => cases s <;> rfl
theorem lt_eq {a b c : Nat} (h : a = b) (hb : b < c) : a < c := h ▸ hb
theorem row_eq {a b : Bool} {i j : Instr} (ha : a = true) (hb : b = true) (hi : i = j) : Member.row a b i = .row true true j := by
  rw [ha, hb, hi]


/-- The fields of form T. -/
structure TFields (w : Nat) (op fn d a b : Nat) (ea eb : Bool) : Prop where
  lt : w < 4294967296
  f26_6 : fld w 26 6 = op
  f20_6 : fld w 20 6 = d
  f14_6 : fld w 14 6 = a
  f8_6 : fld w 8 6 = b
  f7_1 : fld w 7 1 = b2n ea
  f6_1 : fld w 6 1 = b2n eb
  f0_6 : fld w 0 6 = fn
  f23_3 : fld w 23 3 = d / 8
  f20_3 : fld w 20 3 = d % 8
  f17_3 : fld w 17 3 = a / 8
  f14_3 : fld w 14 3 = a % 8
  f11_3 : fld w 11 3 = b / 8
  f8_3 : fld w 8 3 = b % 8
  f24_2 : fld w 24 2 = d / 16
  f20_4 : fld w 20 4 = d % 16
  f18_2 : fld w 18 2 = a / 16
  f14_4 : fld w 14 4 = a % 16
  f25_1 : fld w 25 1 = d / 32
  f20_5 : fld w 20 5 = d % 32
  f8_1 : fld w 8 1 = b % 2
  f9_2 : fld w 9 2 = b / 2 % 4
  b7 : bitAt w 7 = ea
  b6 : bitAt w 6 = eb

theorem encT_fields (op fn d a b : Nat) (ea eb : Bool)
    (h0 : op < 64) (h1 : fn < 64) (h2 : d < 64) (h3 : a < 64) (h4 : b < 64) :
    TFields (encT op fn d a b ea eb) op fn d a b ea eb := by
  have hbea := b2n_lt ea
  have hbeb := b2n_lt eb
  constructor
  case lt => simp only [encT]; omega
  case b7 =>
    have : encT op fn d a b ea eb / 2 ^ 7 % 2 = b2n ea := by simp only [encT]; omega
    rw [bitAt, this, b2n_bit]
  case b6 =>
    have : encT op fn d a b ea eb / 2 ^ 6 % 2 = b2n eb := by simp only [encT]; omega
    rw [bitAt, this, b2n_bit]
  all_goals (simp only [fld, encT]; omega)


/-- The fields of form I. -/
structure IFields (w : Nat) (op d a : Nat) (ea : Bool) (imm : Nat) : Prop where
  lt : w < 4294967296
  f26_6 : fld w 26 6 = op
  f20_6 : fld w 20 6 = d
  f14_6 : fld w 14 6 = a
  f13_1 : fld w 13 1 = b2n ea
  f0_13 : fld w 0 13 = imm
  f23_3 : fld w 23 3 = d / 8
  f20_3 : fld w 20 3 = d % 8
  f11_2 : fld w 11 2 = imm / 2048
  f6_5 : fld w 6 5 = imm / 64 % 32
  f0_6 : fld w 0 6 = imm % 64
  f5_6 : fld w 5 6 = imm / 32 % 64
  f0_5 : fld w 0 5 = imm % 32
  f9_4 : fld w 9 4 = imm / 512
  f0_9 : fld w 0 9 = imm % 512
  b13 : bitAt w 13 = ea

theorem encI_fields (op d a : Nat) (ea : Bool) (imm : Nat)
    (h0 : op < 64) (h1 : d < 64) (h2 : a < 64) (h3 : imm < 8192) :
    IFields (encI op d a ea imm) op d a ea imm := by
  have hbea := b2n_lt ea
  constructor
  case lt => simp only [encI]; omega
  case b13 =>
    have : encI op d a ea imm / 2 ^ 13 % 2 = b2n ea := by simp only [encI]; omega
    rw [bitAt, this, b2n_bit]
  all_goals (simp only [fld, encI]; omega)


/-- The fields of form M. -/
structure MFields (w : Nat) (op d a : Nat) (ea : Bool) (sz ann off : Nat) : Prop where
  lt : w < 4294967296
  f26_6 : fld w 26 6 = op
  f20_6 : fld w 20 6 = d
  f14_6 : fld w 14 6 = a
  f11_2 : fld w 11 2 = sz
  f7_3 : fld w 7 3 = ann % 8
  f10_1 : fld w 10 1 = ann / 8
  f0_7 : fld w 0 7 = off
  b13 : bitAt w 13 = ea

theorem encM_fields (op d a : Nat) (ea : Bool) (sz ann off : Nat)
    (h0 : op < 64) (h1 : d < 64) (h2 : a < 64) (h3 : sz < 4) (h4 : ann < 16) (h5 : off < 128) :
    MFields (encM op d a ea sz ann off) op d a ea sz ann off := by
  have hbea := b2n_lt ea
  constructor
  case lt => simp only [encM]; omega
  case b13 =>
    have : encM op d a ea sz ann off / 2 ^ 13 % 2 = b2n ea := by simp only [encM]; omega
    rw [bitAt, this, b2n_bit]
  all_goals (simp only [fld, encM]; omega)


/-- The fields of form W. -/
structure WFields (w : Nat) (op v a : Nat) (ea : Bool) (ann off : Nat) : Prop where
  lt : w < 4294967296
  f26_6 : fld w 26 6 = op
  f21_5 : fld w 21 5 = v
  f15_6 : fld w 15 6 = a
  f12_2 : fld w 12 2 = ann / 4
  f10_2 : fld w 10 2 = ann % 4
  f10_3 : fld w 10 3 = ann % 8
  f13_1 : fld w 13 1 = ann / 8
  f0_10 : fld w 0 10 = off
  b14 : bitAt w 14 = ea

theorem encW_fields (op v a : Nat) (ea : Bool) (ann off : Nat)
    (h0 : op < 64) (h1 : v < 32) (h2 : a < 64) (h3 : ann < 16) (h4 : off < 1024) :
    WFields (encW op v a ea ann off) op v a ea ann off := by
  have hbea := b2n_lt ea
  constructor
  case lt => simp only [encW]; omega
  case b14 =>
    have : encW op v a ea ann off / 2 ^ 14 % 2 = b2n ea := by simp only [encW]; omega
    rw [bitAt, this, b2n_bit]
  all_goals (simp only [fld, encW]; omega)


/-- The fields of form A. -/
structure AFields (w : Nat) (op d a b aop ann : Nat) : Prop where
  lt : w < 4294967296
  f26_6 : fld w 26 6 = op
  f20_6 : fld w 20 6 = d
  f14_6 : fld w 14 6 = a
  f8_6 : fld w 8 6 = b
  f5_3 : fld w 5 3 = aop
  f3_2 : fld w 3 2 = ann / 8
  f0_3 : fld w 0 3 = ann % 8

theorem encA_fields (op d a b aop ann : Nat)
    (h0 : op < 64) (h1 : d < 64) (h2 : a < 64) (h3 : b < 64) (h4 : aop < 8) (h5 : ann < 32) :
    AFields (encA op d a b aop ann) op d a b aop ann := by
  constructor
  case lt => simp only [encA]; omega
  all_goals (simp only [fld, encA]; omega)


/-- The fields of form B. -/
structure BFields (w : Nat) (op p : Nat) (n : Bool) (disp : Nat) : Prop where
  lt : w < 4294967296
  f26_6 : fld w 26 6 = op
  f23_3 : fld w 23 3 = p
  f22_4 : fld w 22 4 = p * 2 + b2n n
  f0_22 : fld w 0 22 = disp
  b22 : bitAt w 22 = n

theorem encB_fields (op p : Nat) (n : Bool) (disp : Nat)
    (h0 : op < 64) (h1 : p < 8) (h2 : disp < 4194304) :
    BFields (encB op p n disp) op p n disp := by
  have hbn := b2n_lt n
  constructor
  case lt => simp only [encB]; omega
  case b22 =>
    have : encB op p n disp / 2 ^ 22 % 2 = b2n n := by simp only [encB]; omega
    rw [bitAt, this, b2n_bit]
  all_goals (simp only [fld, encB]; omega)


/-- The fields of form V. -/
structure VFields (w : Nat) (op fn d a b ty : Nat) : Prop where
  lt : w < 4294967296
  f26_6 : fld w 26 6 = op
  f21_5 : fld w 21 5 = d
  f16_5 : fld w 16 5 = a
  f11_5 : fld w 11 5 = b
  f7_4 : fld w 7 4 = ty
  f0_7 : fld w 0 7 = fn
  f3_4 : fld w 3 4 = fn / 8
  f0_3 : fld w 0 3 = fn % 8

theorem encV_fields (op fn d a b ty : Nat)
    (h0 : op < 64) (h1 : fn < 128) (h2 : d < 32) (h3 : a < 32) (h4 : b < 32) (h5 : ty < 16) :
    VFields (encV op fn d a b ty) op fn d a b ty := by
  constructor
  case lt => simp only [encV]; omega
  all_goals (simp only [fld, encV]; omega)


/-- The fields of form F. -/
structure FFields (w : Nat) (op fn d a b c ty : Nat) : Prop where
  lt : w < 4294967296
  f26_6 : fld w 26 6 = op
  f21_5 : fld w 21 5 = d
  f16_5 : fld w 16 5 = a
  f11_5 : fld w 11 5 = b
  f6_5 : fld w 6 5 = c
  f2_4 : fld w 2 4 = ty
  f0_2 : fld w 0 2 = fn

theorem encF_fields (op fn d a b c ty : Nat)
    (h0 : op < 64) (h1 : fn < 4) (h2 : d < 32) (h3 : a < 32) (h4 : b < 32) (h5 : c < 32) (h6 : ty < 16) :
    FFields (encF op fn d a b c ty) op fn d a b c ty := by
  constructor
  case lt => simp only [encF]; omega
  all_goals (simp only [fld, encF]; omega)


/-- The fields of form X. -/
structure XFields (w : Nat) (op fn d a b sel : Nat) : Prop where
  lt : w < 4294967296
  f26_6 : fld w 26 6 = op
  f20_6 : fld w 20 6 = d
  f14_6 : fld w 14 6 = a
  f8_6 : fld w 8 6 = b
  f5_3 : fld w 5 3 = sel
  f0_5 : fld w 0 5 = fn
  f2_3 : fld w 2 3 = fn / 4
  f0_2 : fld w 0 2 = fn % 4

theorem encX_fields (op fn d a b sel : Nat)
    (h0 : op < 64) (h1 : fn < 32) (h2 : d < 64) (h3 : a < 64) (h4 : b < 64) (h5 : sel < 8) :
    XFields (encX op fn d a b sel) op fn d a b sel := by
  constructor
  case lt => simp only [encX]; omega
  all_goals (simp only [fld, encX]; omega)


end Sys2Proof.Laws
end

