-- ==== Sys2Proof/Laws/Mem.lean ====
section
/-! SUPPORT. Laws of memory: the canonical form is kept by every memory operation, a read after a write gives the value
written, and a write leaves every other byte alone. -/

namespace Sys2Proof.Machine

/-! ### The canonical form -/

/-- The canonical form, its two halves apart. -/
theorem memWf_iff (m : List Host.Cell) : memWf m = true ↔ tblRising 0 m = true ∧ ∀ e ∈ m, e.2 ≠ unlistedByte := by
  simp [memWf]

theorem memWf_nil : memWf [] = true := rfl

theorem cellDel_rising (m : List Host.Cell) (k : Nat) : ∀ lo, tblRising lo m = true → tblRising lo (cellDel m k) = true := by
  induction m with
  | nil => intro lo h; exact h
  | cons e t ih =>
    intro lo h
    simp only [tblRising, Bool.and_eq_true, decide_eq_true_eq] at h
    simp only [cellDel]
    split
    · exact tblRising_mono _ (by omega) h.2
    · simp only [tblRising, Bool.and_eq_true, decide_eq_true_eq]
      exact ⟨h.1, ih _ h.2⟩

theorem cellDel_mem (m : List Host.Cell) (k : Nat) : ∀ e ∈ cellDel m k, e ∈ m := by
  induction m with
  | nil => intro e h; exact h
  | cons e t ih =>
    intro f h
    simp only [cellDel] at h
    split at h
    · exact List.mem_cons_of_mem _ h
    · rcases List.mem_cons.mp h with h | h
      · rw [h]; exact List.mem_cons_self
      · exact List.mem_cons_of_mem _ (ih f h)

theorem tblSet_mem {α : Type} (t : List (Nat × α)) (k : Nat) (v : α) : ∀ e ∈ tblSet t k v, e = (k, v) ∨ e ∈ t := by
  induction t with
  | nil => intro e h; simpa [tblSet] using h
  | cons e t ih =>
    intro f h
    simp only [tblSet] at h
    split at h
    · rcases List.mem_cons.mp h with h | h
      · exact .inl h
      · exact .inr (List.mem_cons_of_mem _ h)
    · split at h
      · rcases List.mem_cons.mp h with h | h
        · exact .inl h
        · exact .inr h
      · rcases List.mem_cons.mp h with h | h
        · exact .inr (by rw [h]; exact List.mem_cons_self)
        · rcases ih f h with h | h
          · exact .inl h
          · exact .inr (List.mem_cons_of_mem _ h)

/-- One byte written keeps the canonical form. -/
theorem memPut_wf {m : List Host.Cell} (k : Nat) (b : Byte) (h : memWf m = true) : memWf (memPut m k b) = true := by
  rw [memWf_iff] at h ⊢
  unfold memPut
  split
  · exact ⟨cellDel_rising m k 0 h.1, fun e he => h.2 e (cellDel_mem m k e he)⟩
  · rename_i hb
    refine ⟨tblRising_set m k b 0 h.1 (Nat.zero_le k), fun e he => ?_⟩
    rcases tblSet_mem m k b e he with he | he
    · rw [he]; exact hb
    · exact h.2 e he

/-- Bytes written keep the canonical form. -/
theorem memPutAll_wf (bs : List Byte) : ∀ {m : List Host.Cell} (k : Nat), memWf m = true → memWf (memPutAll m k bs) = true := by
  induction bs with
  | nil => intro m k h; exact h
  | cons b bs ih => intro m k h; exact ih (k + 1) (memPut_wf k b h)

/-- Cells dropped keep the canonical form. -/
theorem filter_wf (p : Host.Cell → Bool) {m : List Host.Cell} (h : memWf m = true) : memWf (m.filter p) = true := by
  rw [memWf_iff] at h ⊢
  exact ⟨tblRising_filter p m 0 h.1, fun e he => h.2 e (List.mem_filter.mp he).1⟩

/-- Cells put back keep the canonical form. -/
theorem foldPut_wf (l : List Host.Cell) : ∀ {m : List Host.Cell}, memWf m = true →
    memWf (l.foldl (fun m c => memPut m c.1 c.2) m) = true := by
  induction l with
  | nil => intro m h; exact h
  | cons e t ih => intro m h; exact ih (memPut_wf e.1 e.2 h)

/-! ### Reads and writes -/

theorem memGet_del (m : List Host.Cell) (k j : Nat) : ∀ lo, tblRising lo m = true →
    memGet (cellDel m k) j = if j = k then unlistedByte else memGet m j := by
  induction m with
  | nil => intro lo _; simp [cellDel, memGet, tblGet]
  | cons e t ih =>
    obtain ⟨i, x⟩ := e
    intro lo h
    simp only [tblRising, Bool.and_eq_true, decide_eq_true_eq] at h
    simp only [cellDel]
    by_cases hk : k = i
    · subst hk
      simp only [if_true]
      by_cases hj : j = k
      · subst hj; simp only [if_true]; exact tblGet_below _ _ h.2 (by omega)
      · simp only [if_neg hj, memGet, tblGet]
        split
        · exact tblGet_below _ _ h.2 (by omega)
        · rfl
    · rw [if_neg hk]
      have ih' := ih _ h.2
      simp only [memGet, tblGet] at ih' ⊢
      by_cases hji : j = i
      · have : j ≠ k := by omega
        simp [hji, Ne.symm hk]
      · simp only [if_neg hji]
        split
        · simp
        · exact ih'

/-- A read after a write of one byte. -/
theorem memGet_put {m : List Host.Cell} (h : memWf m = true) (k j : Nat) (b : Byte) :
    memGet (memPut m k b) j = if j = k then b else memGet m j := by
  rw [memWf_iff] at h
  unfold memPut
  split
  · rename_i hb; rw [memGet_del m k j 0 h.1, hb]
  · exact tblGet_set_if _ _ _ _ _

/-- Every byte that a write does not cover is unchanged, and a covered one is the byte written. -/
theorem memGet_putAll (bs : List Byte) : ∀ {m : List Host.Cell} (k j : Nat), memWf m = true →
    memGet (memPutAll m k bs) j = if k ≤ j ∧ j < k + bs.length then bs.getD (j - k) 0 else memGet m j := by
  induction bs with
  | nil => intro m k j _; simp [memPutAll] <;> omega
  | cons b bs ih =>
    intro m k j h
    rw [memPutAll, ih (k + 1) j (memPut_wf k b h), memGet_put h]
    simp only [List.length_cons]
    by_cases h1 : j = k
    · subst h1; simp <;> omega
    · by_cases h2 : k + 1 ≤ j ∧ j < k + 1 + bs.length
      · have h3 : k ≤ j ∧ j < k + (bs.length + 1) := by omega
        have h4 : j - k = (j - (k + 1)) + 1 := by omega
        rw [if_pos h2, if_pos h3, h4]; simp
      · have h3 : ¬(k ≤ j ∧ j < k + (bs.length + 1)) := by omega
        rw [if_neg h2, if_neg h3, if_neg h1]

/-- Reading back the bytes just written. -/
theorem memGetAll_putAll (m : List Host.Cell) (h : memWf m = true) (k : Nat) (bs : List Byte) :
    memGetAll (memPutAll m k bs) k bs.length = bs := by
  have key : ∀ n i, i + n = bs.length → memGetAll (memPutAll m k bs) (k + i) n = bs.drop i := by
    intro n
    induction n with
    | zero => intro i hi; simp [memGetAll]; omega
    | succ n ih =>
      intro i hi
      rw [memGetAll, memGet_putAll bs k (k + i) h, Nat.add_assoc, ih (i + 1) (by omega)]
      have h1 : k ≤ k + i ∧ k + i < k + bs.length := by omega
      rw [if_pos h1]
      have h2 : i < bs.length := by omega
      rw [List.drop_eq_getElem_cons h2]
      simp [List.getD, h2]
  simpa using key bs.length 0 (by omega)

@[simp] theorem bytesOf_length (n x : Nat) : (bytesOf n x).length = n := by
  induction n generalizing x with
  | zero => rfl
  | succ n ih => simp [bytesOf, ih]

/-- The number that the bytes of a number hold. -/
theorem ofBytes_bytesOf (n x : Nat) : ofBytes (bytesOf n x) = x % 2 ^ (8 * n) := by
  induction n generalizing x with
  | zero => simp [bytesOf, ofBytes, Nat.mod_one]
  | succ n ih =>
    have h8 : 2 ^ (8 * (n + 1)) = 256 * 2 ^ (8 * n) := by rw [Nat.mul_add, Nat.pow_add]; omega
    simp only [bytesOf, ofBytes, ih, BitVec.toNat_ofNat, h8]
    rw [Nat.mod_mul]

/-- Distinct places have distinct cells. -/
theorem State.byteAt_write (s : State) (hw : memWf s.mem = true) (l k : Loc) (bs : List Byte) :
    (s.write l bs).byteAt k = if l.key ≤ k.key ∧ k.key < l.key + bs.length then bs.getD (k.key - l.key) 0 else s.byteAt k :=
  memGet_putAll bs l.key k.key hw

/-- A number read back after it was written. -/
theorem State.readNat_writeNat (s : State) (hw : memWf s.mem = true) (l : Loc) (n x : Nat) :
    (s.writeNat l n x).readNat l n = x % 2 ^ (8 * n) := by
  have h := memGetAll_putAll s.mem hw l.key (bytesOf n x)
  rw [bytesOf_length] at h
  simp only [State.writeNat, State.write, State.readNat, State.read, h, ofBytes_bytesOf]

theorem State.write_wf {s : State} (hw : memWf s.mem = true) (l : Loc) (bs : List Byte) : memWf (s.write l bs).mem = true :=
  memPutAll_wf bs l.key hw
theorem State.writeNat_wf {s : State} (hw : memWf s.mem = true) (l : Loc) (n x : Nat) : memWf (s.writeNat l n x).mem = true :=
  memPutAll_wf _ l.key hw
theorem State.writeQuiet_wf {s : State} (hw : memWf s.mem = true) (l : Loc) (bs : List Byte) : memWf (s.writeQuiet l bs).mem = true :=
  memPutAll_wf bs l.key hw
theorem State.zero_wf {s : State} (hw : memWf s.mem = true) (l : Loc) (n : Nat) : memWf (s.zero l n).mem = true :=
  memPutAll_wf _ l.key hw

end Sys2Proof.Machine
end

