-- ==== Sys2Proof/Laws/Legal.lean ====
section
/-! SUPPORT. What every step keeps (`Safety.Legal`): one lemma for each operation that gives a state; the shared operations, the scalar and vector meanings and the control group. -/

namespace Sys2Proof.Machine

open Sys2Proof.Safety

/-! ### What "legal" says of each kind of result -/

theorem legal_mem {s : State} (h : Legal s) : memWf s.mem = true := h.1

/-- Another memory in legal form in the place of the old one. -/
theorem legal_withMem {s : State} {m : List Host.Cell} (h : Legal s) (hm : memWf m = true) : Legal { s with mem := m } := ⟨hm, h.2⟩

/-- An outcome whose next state, if it has one, keeps the ranges. -/
def LegalOut (o : Host.Outcome State Fault Refusal) : Prop := ∀ t, o = .next t → Legal t

theorem legalOut_next {t : State} (h : Legal t) : LegalOut (.next t) := fun _ e => by cases e; exact h

theorem legalOut_fault (f : Fault) : LegalOut (.fault f) := fun _ e => by cases e

theorem legalOut_refused (f : Refusal) : LegalOut (.refused f) := fun _ e => by cases e

/-- A fold whose every step keeps the form keeps it. -/
theorem foldl_legal {α : Type} {f : State → α → State} (l : List α) (hf : ∀ t e, Legal t → Legal (f t e)) :
    ∀ {s : State}, Legal s → Legal (l.foldl f s) := by
  induction l with
  | nil => intro s h; exact h
  | cons a l ih => intro s h; exact ih (hf s a h)

/-- An optional state is legal when there. -/
def LegalOpt (o : Option State) : Prop := ∀ t, o = some t → Legal t
/-- Both states of a check: that to go on with, and the one to stop at. -/
def LegalPair (x : State × Option State) : Prop := Legal x.1 ∧ LegalOpt x.2

def Found.Keeps : Found → Prop | .stop t => Legal t | .page _ => True
def Block.Keeps : Block → Prop | .stop t => Legal t | .data _ t => Legal t
def Blocks.Keeps : Blocks → Prop | .stop t => Legal t | .ok _ => True
def Image.Keeps : Image → Prop | .stop t => Legal t | .ok _ t => Legal t
def Save.Keeps : Save → Prop | .stop t => Legal t | .at_ _ => True
def Walked.Keeps : Walked → Prop | .entry t => Legal t | .refused => True | .absent => True
def CrWrite.Keeps : CrWrite → Prop | .ok t => Legal t | .bad _ => True
def UnitRes.Keeps : UnitRes → Prop | .done t => Legal t | .miss _ => True | .bad _ _ => True | .lost _ _ _ _ => True
def CRead.Keeps : CRead → Prop | .ok _ t => Legal t | .miss _ => True | .bad _ _ => True | .lost _ _ _ _ => True
def Done.Keeps : Done → Prop | .ok t _ => Legal t | .singular _ => True
def GmuEnd.Keeps : GmuEnd → Prop | .ok t _ => Legal t | .lost => True | .trap _ _ _ => True
def Issue.Keeps : Issue → Prop | .exec _ t => Legal t | .done t => Legal t

theorem legalOpt_none : LegalOpt none := fun _ e => by cases e
theorem legalOpt_some {t : State} (h : Legal t) : LegalOpt (some t) := fun _ e => by cases e; exact h
theorem legalPair_mk {s : State} {o : Option State} (h : Legal s) (ho : LegalOpt o) : LegalPair (s, o) := ⟨h, ho⟩

theorem LegalOpt.out {o : Option State} {t : State} (h : LegalOpt o) (e : o = some t) : Legal t := h t e
theorem LegalOut.out {o : Host.Outcome State Fault Refusal} {t : State} (h : LegalOut o) (e : o = .next t) : Legal t := h t e
theorem LegalPair.go {x : State × Option State} {s : State} {o : Option State} (h : LegalPair x) (e : x = (s, o)) : Legal s := by
  subst e; exact h.1
theorem LegalPair.stop {x : State × Option State} {s t : State} (h : LegalPair x) (e : x = (s, some t)) : Legal t := by
  subst e; exact h.2 t rfl
theorem fst_legal {α : Type} {x : State × α} {s : State} {a : α} (h : Legal x.1) (e : x = (s, a)) : Legal s := by
  subst e; exact h
theorem snd_legal {α : Type} {x : α × State} {s : State} {a : α} (h : Legal x.2) (e : x = (a, s)) : Legal s := by
  subst e; exact h
theorem Found.Keeps.stop {x : Found} {t : State} (h : x.Keeps) (e : x = .stop t) : Legal t := by subst e; exact h
theorem Block.Keeps.stop {x : Block} {t : State} (h : x.Keeps) (e : x = .stop t) : Legal t := by subst e; exact h
theorem Block.Keeps.data {x : Block} {d : Nat} {t : State} (h : x.Keeps) (e : x = .data d t) : Legal t := by subst e; exact h
theorem Blocks.Keeps.stop {x : Blocks} {t : State} (h : x.Keeps) (e : x = .stop t) : Legal t := by subst e; exact h
theorem Image.Keeps.stop {x : Image} {t : State} (h : x.Keeps) (e : x = .stop t) : Legal t := by subst e; exact h
theorem Image.Keeps.ok {x : Image} {bs : List Byte} {t : State} (h : x.Keeps) (e : x = .ok bs t) : Legal t := by subst e; exact h
theorem Save.Keeps.stop {x : Save} {t : State} (h : x.Keeps) (e : x = .stop t) : Legal t := by subst e; exact h
theorem Walked.Keeps.entry {x : Walked} {t : State} (h : x.Keeps) (e : x = .entry t) : Legal t := by subst e; exact h
theorem CrWrite.Keeps.ok {x : CrWrite} {t : State} (h : x.Keeps) (e : x = .ok t) : Legal t := by subst e; exact h
theorem UnitRes.Keeps.done {x : UnitRes} {t : State} (h : x.Keeps) (e : x = .done t) : Legal t := by subst e; exact h
theorem CRead.Keeps.ok {x : CRead} {bs : List Byte} {t : State} (h : x.Keeps) (e : x = .ok bs t) : Legal t := by subst e; exact h
theorem Done.Keeps.ok {x : Done} {t : State} {v : Word} (h : x.Keeps) (e : x = .ok t v) : Legal t := by subst e; exact h
theorem GmuEnd.Keeps.ok {x : GmuEnd} {t : State} {v : Word} (h : x.Keeps) (e : x = .ok t v) : Legal t := by subst e; exact h
theorem Issue.Keeps.exec {x : Issue} {i : Instr} {t : State} (h : x.Keeps) (e : x = .exec i t) : Legal t := by subst e; exact h
theorem Issue.Keeps.done {x : Issue} {t : State} (h : x.Keeps) (e : x = .done t) : Legal t := by subst e; exact h

theorem getD_legal {o : Option State} {s : State} (hw : Legal s) (ho : LegalOpt o) : Legal (o.getD s) := by
  cases o with
  | none => exact hw
  | some t => exact ho t rfl

theorem findSome_legal {α : Type} {f : α → Option State} (l : List α) (hf : ∀ a, LegalOpt (f a)) : LegalOpt (l.findSome? f) := by
  intro t e
  obtain ⟨a, _, ha⟩ := List.exists_of_findSome?_eq_some e
  exact hf a t ha

theorem ite_legal {c : Prop} [Decidable c] {a b : State} (ha : Legal a) (hb : Legal b) :
    Legal (if c then a else b) := by
  split
  · exact ha
  · exact hb

theorem dropRanges_wf {m : List Host.Cell} (rs : List (Nat × Nat)) (h : memWf m = true) : memWf (dropRanges m rs) = true := filter_wf _ h
theorem restoreCells_wf {m : List Host.Cell} (l : List Host.Cell) (h : memWf m = true) : memWf (restoreCells m l) = true := foldPut_wf l h

/-! ### Mem -/

theorem State.writeQuiet_legal {s : State} (hw : Legal s) (l : Loc) (bs : List Byte) : Legal (s.writeQuiet l bs) :=
  legal_withMem hw (memPutAll_wf bs l.key (legal_mem hw))

theorem State.upset_legal {s : State} (w : Nat) (hw : Legal s) :
    Legal (State.upset s w) := by
  unfold State.upset
  repeat' (first
    | with_reducible assumption | with_reducible refine ite_legal ?_ ?_ | split | dsimp only)

theorem State.write_legal {s : State} (hw : Legal s) (l : Loc) (bs : List Byte) : Legal (s.write l bs) :=
  legal_withMem hw (memPutAll_wf bs l.key (legal_mem hw))

theorem State.writeNat_legal {s : State} (hw : Legal s) (l : Loc) (n x : Nat) : Legal (s.writeNat l n x) := State.write_legal hw l _

theorem State.clearValid_legal {s : State} (l : Loc) (n : Nat) (hw : Legal s) : Legal (State.clearValid s l n) := hw

theorem State.zero_legal {s : State} (hw : Legal s) (l : Loc) (n : Nat) : Legal (s.zero l n) :=
  legal_withMem hw (memPutAll_wf _ l.key (legal_mem hw))

theorem State.setRow_legal {s : State} (c : Nat) (b : Nat) (r : Nat) (p : Option Nat) (hw : Legal s) :
    Legal (State.setRow s c b r p) :=
  hw

/-! ### Ops -/

theorem State.setCore_legal {s : State} (c : Nat) (k : Core) (hw : Legal s) : Legal (State.setCore s c k) := hw

theorem State.modCore_legal {s : State} (c : Nat) (f : Core → Core) (hw : Legal s) : Legal (State.modCore s c f) := hw

theorem State.modSlot_legal {s : State} (c : Nat) (n : Nat) (f : Slot → Slot) (hw : Legal s) : Legal (State.modSlot s c n f) :=
  hw

theorem State.modWork_legal {s : State} (c : Nat) (n : Nat) (f : Work → Work) (hw : Legal s) : Legal (State.modWork s c n f) :=
  hw

theorem State.modCluster_legal {s : State} (n : Nat) (f : Cluster → Cluster) (hw : Legal s) : Legal (State.modCluster s n f) :=
  hw

theorem State.setEngine_legal {s : State} (e : Nat) (x : Engine) (hw : Legal s) : Legal (State.setEngine s e x) := hw

theorem State.setQueue_legal {s : State} (q : Nat) (x : HostQ) (hw : Legal s) : Legal (State.setQueue s q x) := hw

theorem State.modRegs_legal {s : State} (f : Regs → Regs) (hw : Legal s) : Legal (State.modRegs s f) := hw

theorem State.modCtl_legal {s : State} (f : Ctl → Ctl) (hw : Legal s) : Legal (State.modCtl s f) := hw

theorem State.retireTo_legal {s : State} (pc : Word) (hw : Legal s) : Legal (State.retireTo s pc) := hw

theorem State.retire_legal {s : State} (hw : Legal s) : Legal (State.retire s) := hw

theorem State.stallFor_legal {s : State} (y : Why) (hw : Legal s) : Legal (State.stallFor s y) := hw

theorem State.retireG_legal {s : State} (d : GReg) (v : Word) (hw : Legal s) : Legal (State.retireG s d v) := hw

theorem State.retireV_legal {s : State} (d : VReg) (v : Vec) (hw : Legal s) : Legal (State.retireV s d v) := hw

theorem State.retireP_legal {s : State} (d : PReg) (b : Bool) (hw : Legal s) : Legal (State.retireP s d b) := hw

theorem State.bump_legal {s : State} (hw : Legal s) : Legal (State.bump s) := hw

theorem State.postCompletion_legal {s : State} (cq : Nat) (r : Words4) (hw : Legal s) : Legal (State.postCompletion s cq r) :=
  ite_legal (State.setQueue_legal _ _ (State.writeNat_legal hw _ _ _)) hw

theorem State.complete_legal {s : State} (q : Nat) (status : Nat) (kind : Nat) (ctx : Nat) (reason : Nat) (tag : Word)
    (core : Nat) (hw : Legal s) :
    Legal (State.complete s q status kind ctx reason tag core) :=
  State.postCompletion_legal _ _ hw

theorem legal_faults {s : State} (hw : Legal s) (x : FaultRing) (c : Nat) (g : Core → Core) :
    Legal (({ s with faults := x } : State).modCore c g) := State.modCore_legal _ _ hw

theorem State.putFault_legal {s : State} (c : Nat) (r : Words4) (hw : Legal s) : Legal (State.putFault s c r) :=
  legal_faults (State.writeNat_legal hw _ _ _) _ _ _

theorem State.faultRecord_legal {s : State} (c : Nat) (fw : Bool) (ctx : Nat) (va : Word) (cause : Nat) (kind : Nat)
    (token : Bool) (hw : Legal s) :
    Legal (State.faultRecord s c fw ctx va cause kind token) := by
  unfold State.faultRecord
  repeat' (first
    | with_reducible assumption | with_reducible refine ite_legal ?_ ?_ | with_reducible apply State.putFault_legal | split
    | dsimp only)

theorem State.retireCmd_legal {s : State} (cl : Nat) (id : Nat) (hw : Legal s) : Legal (State.retireCmd s cl id) := hw

theorem State.dropEngines_legal {s : State} (ctx : Nat) (hw : Legal s) : Legal (State.dropEngines s ctx) := by
  unfold State.dropEngines
  repeat' (first
    | with_reducible assumption | with_reducible refine ite_legal ?_ ?_ | with_reducible apply State.retireCmd_legal | split
    | with_reducible refine foldl_legal _ (fun t e hw => ?_) ?_ | dsimp only)

theorem State.abortLaunches_legal {s : State} (fw : Bool) (ctx : Nat) (reason : Nat) (core : Nat) (hw : Legal s) :
    Legal (State.abortLaunches s fw ctx reason core) := by
  unfold State.abortLaunches
  repeat' (first
    | with_reducible assumption | with_reducible refine ite_legal ?_ ?_ | with_reducible apply State.complete_legal | split
    | with_reducible refine foldl_legal _ (fun t e hw => ?_) ?_ | dsimp only)

theorem State.barRelease_legal {s : State} (launch : Nat) (c : Nat) (sc : Scope) (hw : Legal s) :
    Legal (State.barRelease s launch c sc) := by
  unfold State.barRelease
  repeat' (first | with_reducible assumption | with_reducible refine ite_legal ?_ ?_ | split | dsimp only)

theorem State.barSettle_legal {s : State} (hw : Legal s) : Legal (State.barSettle s) := by
  unfold State.barSettle
  repeat' (first
    | with_reducible assumption | with_reducible refine ite_legal ?_ ?_ | with_reducible apply State.barRelease_legal | split
    | with_reducible refine foldl_legal _ (fun t e hw => ?_) ?_ | dsimp only)

theorem State.unwatch_legal {s : State} (c : Nat) (id : Nat) (hw : Legal s) : Legal (State.unwatch s c id) := hw

theorem State.unstop_legal {s : State} (hw : Legal s) : Legal (State.unstop s) := hw

theorem State.abortContext_legal {s : State} (fw : Bool) (ctx : Nat) (reason : Nat) (core : Nat) (hw : Legal s) :
    Legal (State.abortContext s fw ctx reason core) := by
  unfold State.abortContext
  repeat' (first
    | with_reducible assumption | with_reducible refine ite_legal ?_ ?_ | with_reducible apply State.dropEngines_legal
    | with_reducible apply State.abortLaunches_legal | with_reducible apply State.unwatch_legal
    | with_reducible apply State.unstop_legal | with_reducible apply State.barSettle_legal | split
    | with_reducible refine foldl_legal _ (fun t e hw => ?_) ?_ | dsimp only)

theorem State.abortOwner_legal {s : State} (c : Nat) (reason : Nat) (hw : Legal s) : Legal (State.abortOwner s c reason) := by
  unfold State.abortOwner
  repeat' (first
    | with_reducible assumption | with_reducible refine ite_legal ?_ ?_ | with_reducible apply State.abortContext_legal
    | split | dsimp only)

theorem State.dropEntries_legal {s : State} (ctx : Nat) (hw : Legal s) : Legal (State.dropEntries s ctx) := hw

theorem State.narrow_legal {s : State} (ctx : Nat) (hw : Legal s) :
    Legal (State.narrow s ctx) := by
  unfold State.narrow
  repeat' (first
    | with_reducible assumption | with_reducible refine ite_legal ?_ ?_ | with_reducible apply State.dropEntries_legal
    | split | dsimp only)

theorem State.loseFrame_legal {s : State} (own : Option Nat) (f : Nat) (hw : Legal s) :
    Legal (State.loseFrame s own f) := by
  unfold State.loseFrame
  repeat' (first
    | with_reducible assumption | with_reducible refine ite_legal ?_ ?_ | with_reducible apply State.abortContext_legal
    | with_reducible apply State.narrow_legal | split | with_reducible refine foldl_legal _ (fun t e hw => ?_) ?_
    | dsimp only)

theorem State.retireFrame_legal {s : State} (fw : Bool) (ctx : Nat) (c : Nat) (f : Nat) (hw : Legal s) :
    Legal (State.retireFrame s fw ctx c f) := by
  unfold State.retireFrame
  repeat' (first
    | with_reducible assumption | with_reducible refine ite_legal ?_ ?_ | with_reducible apply State.abortContext_legal
    | with_reducible apply State.loseFrame_legal | split | dsimp only)

theorem State.outerError_legal {s : State} (l : Loc) (n : Nat) (store : Bool) (hw : Legal s) :
    Legal (State.outerError s l n store) := by
  unfold State.outerError
  repeat' (first
    | with_reducible assumption | with_reducible refine ite_legal ?_ ?_ | with_reducible apply State.loseFrame_legal
    | split | with_reducible refine foldl_legal _ (fun t e hw => ?_) ?_ | dsimp only)

theorem State.eccAbort_legal {s : State} (l : Loc) (n : Nat) (store : Bool) (fw : Bool) (ctx : Nat) (c : Nat) (hw :
    Legal s) :
    Legal (State.eccAbort s l n store fw ctx c) := by
  unfold State.eccAbort
  repeat' (first
    | with_reducible assumption | with_reducible refine ite_legal ?_ ?_ | with_reducible apply State.abortOwner_legal
    | with_reducible apply State.retireFrame_legal | split | with_reducible refine foldl_legal _ (fun t e hw => ?_) ?_
    | dsimp only)

theorem State.putWords_legal {s : State} (c : Nat) (deque : Bool) (va : Word) (x : Nat) (hw : Legal s) :
    Legal (State.putWords s c deque va x) := by
  unfold State.putWords
  repeat' (first
    | with_reducible assumption | with_reducible refine ite_legal ?_ ?_ | with_reducible apply State.writeNat_legal
    | with_reducible apply State.modCore_legal | with_reducible apply State.abortOwner_legal | split | dsimp only)

theorem State.payOwed_legal {s : State} (c : Nat) (hw : Legal s) : Legal (State.payOwed s c) := by
  unfold State.payOwed
  repeat' (first
    | with_reducible assumption | with_reducible apply State.writeNat_legal | with_reducible apply State.modCore_legal | split
    | with_reducible refine foldl_legal _ (fun t e hw => ?_) ?_ | dsimp only)

theorem State.storeEntry_legal {s : State} (c : Nat) (deque : Bool) (va : Word) (e : Entry) (hw : Legal s) :
    Legal (State.storeEntry s c deque va e) :=
  ite_legal (State.putWords_legal c deque va _ hw) hw

theorem State.loadEntry_legal {s : State} (c : Nat) (va : Word) (e : Entry) (hw : Legal s) :
    Legal (State.loadEntry s c va e).1 := by
  unfold State.loadEntry
  repeat' (first
    | with_reducible assumption | with_reducible refine ite_legal ?_ ?_ | with_reducible apply State.eccAbort_legal
    | with_reducible apply State.writeNat_legal | with_reducible apply State.modCore_legal | split | dsimp only)

theorem State.loadEntries_legal (c : Nat) (base : Word) (n : Nat) (l : List Entry) :
    ∀ (i : Nat) {s : State}, Legal s → Legal (State.loadEntries c base n i l s).1 := by
  induction l with
  | nil => intro i s hw; exact hw
  | cons e t ih => intro i s hw; exact ih (i + 1) (State.loadEntry_legal c _ e hw)

theorem State.storeEntries_legal (c : Nat) (deque : Bool) (base : Word) (n : Nat) (l : List Entry) :
    ∀ (i : Nat) {s : State}, Legal s → Legal (State.storeEntries c deque base n i l s) := by
  induction l with
  | nil => intro i s hw; exact hw
  | cons e t ih => intro i s hw; exact ih (i + 1) (State.storeEntry_legal c deque _ e hw)

theorem State.refill_legal {s : State} (c : Nat) (lvl : Nat) (hw : Legal s) :
    Legal (State.refill s c lvl) := by
  unfold State.refill
  repeat' (first
    | with_reducible assumption | with_reducible refine ite_legal ?_ ?_ | with_reducible apply State.loadEntries_legal
    | with_reducible apply State.modCore_legal
    | with_reducible exact fst_legal (by with_reducible apply State.loadEntries_legal <;> assumption) (by assumption)
    | split | dsimp only)

theorem State.pushEntry_legal {s : State} (c : Nat) (lvl : Nat) (e : Entry) (hw : Legal s) :
    Legal (State.pushEntry s c lvl e) := by
  unfold State.pushEntry
  repeat' (first
    | with_reducible assumption | with_reducible refine ite_legal ?_ ?_ | with_reducible apply State.refill_legal
    | with_reducible apply State.modCore_legal | with_reducible apply State.storeEntry_legal | split | dsimp only)

theorem State.pushReady_legal {s : State} (c : Nat) (lvl : Nat) (e : Entry) (hw : Legal s) :
    Legal (State.pushReady s c lvl e) := by
  unfold State.pushReady
  repeat' (first
    | with_reducible assumption | with_reducible refine ite_legal ?_ ?_ | with_reducible apply State.pushEntry_legal
    | with_reducible apply State.abortOwner_legal | split | dsimp only)

theorem State.pushAll_legal (c lvl : Nat) (l : List Entry) : ∀ {s : State}, Legal s → Legal (State.pushAll c lvl l s) := by
  induction l with
  | nil => intro s hw; exact hw
  | cons e t ih =>
    intro s hw
    have h1 := State.pushReady_legal c lvl e hw
    exact ite_legal h1 (ih h1)

theorem State.atDeque_legal {s : State} (c : Nat) (j : Nat) {go : State} (hw : Legal s) (hgo : Legal go) :
    Legal (State.atDeque s c j go) := by
  unfold State.atDeque
  repeat' (first
    | with_reducible assumption | with_reducible refine ite_legal ?_ ?_ | with_reducible apply State.modCore_legal
    | with_reducible apply State.abortOwner_legal | split | dsimp only)

theorem State.pushDeque_legal {s : State} (c : Nat) (es : List Entry) (hw : Legal s) :
    Legal (State.pushDeque s c es) := by
  unfold State.pushDeque
  repeat' (first
    | with_reducible assumption | with_reducible refine ite_legal ?_ ?_ | with_reducible apply State.storeEntries_legal
    | with_reducible apply State.setCore_legal | split | dsimp only)

theorem State.keepEntries_legal {s : State} (c : Nat) (keep : Entry → Bool) (hw : Legal s) :
    Legal (State.keepEntries s c keep) := by
  unfold State.keepEntries
  repeat' (first
    | with_reducible assumption | with_reducible refine ite_legal ?_ ?_ | with_reducible apply State.setCore_legal
    | with_reducible apply State.storeEntries_legal | split | dsimp only)

theorem State.refillEvents_legal (c n : Nat) : ∀ {s : State}, Legal s → Legal (State.refillEvents c n s) := by
  induction n with
  | zero => intro s hw; exact hw
  | succ n ih =>
    intro s hw
    unfold State.refillEvents
    repeat' (first
      | with_reducible assumption | with_reducible refine ite_legal ?_ ?_ | with_reducible apply ih
      | with_reducible apply State.setCore_legal | with_reducible apply State.modCore_legal
      | with_reducible apply State.writeNat_legal | with_reducible apply State.eccAbort_legal | split | dsimp only)

theorem State.putEvent_legal {s : State} (c : Nat) (e : Event) (hw : Legal s) :
    Legal (State.putEvent s c e) := by
  unfold State.putEvent
  repeat' (first
    | with_reducible assumption | with_reducible refine ite_legal ?_ ?_ | with_reducible apply State.setCore_legal
    | with_reducible apply State.putWords_legal | split | dsimp only)

theorem State.pushEvent_legal {s : State} (c : Nat) (e : Event) (hw : Legal s) : Legal (State.pushEvent s c e) := by
  unfold State.pushEvent
  repeat' (first
    | with_reducible assumption | with_reducible refine ite_legal ?_ ?_ | with_reducible apply State.refillEvents_legal
    | with_reducible apply State.putEvent_legal | with_reducible apply State.abortOwner_legal | split | dsimp only)

theorem State.event_legal {s : State} (c : Nat) (cause : Nat) (eslot : Nat) (eaddr : Word) (einfo : Word) (hw : Legal s) :
    Legal (State.event s c cause eslot eaddr einfo) :=
  State.pushEvent_legal _ _ hw

theorem State.takeTrap_legal {s : State} (c : Nat) (n : Nat) (kind : Nat) (cause : Nat) (len : Nat) (epc : Word)
    (eaddr : Word) (einfo : Word) (hw : Legal s) :
    Legal (State.takeTrap s c n kind cause len epc eaddr einfo) := by
  unfold State.takeTrap
  repeat' (first
    | with_reducible assumption | with_reducible refine ite_legal ?_ ?_ | with_reducible apply State.modCore_legal
    | with_reducible apply State.abortOwner_legal | with_reducible apply State.pushEvent_legal | split | dsimp only)

theorem State.trap_legal {s : State} (cause : Nat) (eaddr : Word) (einfo : Word) (hw : Legal s) :
    Legal (State.trap s cause eaddr einfo) := by
  unfold State.trap
  repeat' (first
    | with_reducible assumption | with_reducible refine ite_legal ?_ ?_ | with_reducible apply State.takeTrap_legal
    | with_reducible apply State.stallFor_legal | split | dsimp only)

theorem State.illegal_legal {s : State} (einfo : Nat) (hw : Legal s) : Legal (State.illegal s einfo) :=
  State.trap_legal _ _ _ hw

theorem State.deferTo_legal {s : State} (c : Nat) (n : Nat) (work : Nat) (cause : Nat) (eaddr : Word) (einfo : Word)
    (acc : Nat) (hw : Legal s) :
    Legal (State.deferTo s c n work cause eaddr einfo acc) := by
  unfold State.deferTo
  repeat' (first
    | with_reducible assumption | with_reducible refine ite_legal ?_ ?_ | with_reducible apply State.modWork_legal
    | with_reducible apply State.event_legal | split | dsimp only)

theorem State.wake_legal {s : State} (id : Nat) (hw : Legal s) : Legal (State.wake s id) := by
  unfold State.wake
  repeat' (first
    | with_reducible assumption | with_reducible refine ite_legal ?_ ?_ | with_reducible apply State.pushReady_legal | split
    | dsimp only)

theorem State.dropWatch_legal {s : State} (c : Nat) (line : Nat) (hw : Legal s) : Legal (State.dropWatch s c line) := hw

theorem State.setWsum_legal {s : State} (l : Loc) (n : Nat) (hw : Legal s) : Legal (State.setWsum s l n) :=
  State.writeQuiet_legal hw _ _

theorem State.wakeParked_legal {s : State} (id : Nat) (hw : Legal s) : Legal (State.wakeParked s id) := by
  unfold State.wakeParked
  repeat' (first
    | with_reducible assumption | with_reducible refine ite_legal ?_ ?_ | with_reducible apply State.wake_legal
    | with_reducible apply State.setWsum_legal | with_reducible apply State.eccAbort_legal | split | dsimp only)

theorem State.wakeLine_legal {s : State} (c : Nat) (line : Nat) (hw : Legal s) : Legal (State.wakeLine s c line) := by
  unfold State.wakeLine
  repeat' (first
    | with_reducible assumption | with_reducible refine ite_legal ?_ ?_ | with_reducible apply State.wakeParked_legal
    | with_reducible apply State.dropWatch_legal | split | with_reducible refine foldl_legal _ (fun t e hw => ?_) ?_
    | dsimp only)


theorem State.addWatch_legal {s : State} (c : Nat) (line : Nat) (id : Nat) (fw : Bool) (ctx : Nat) (hw : Legal s) :
    Legal (State.addWatch s c line id fw ctx) := by
  unfold State.addWatch
  repeat' (first
    | with_reducible assumption | with_reducible refine ite_legal ?_ ?_ | with_reducible apply State.setCore_legal
    | with_reducible apply State.wakeLine_legal | with_reducible apply State.modCore_legal | split | dsimp only)

theorem State.parkSlot_legal {s : State} (c : Nat) (n : Nat) (pc : Word) (wt : Wait) (until_ : Option Nat) (hw : Legal s) :
    Legal (State.parkSlot s c n pc wt until_) := by
  unfold State.parkSlot
  repeat' (first
    | with_reducible assumption | with_reducible refine ite_legal ?_ ?_ | with_reducible apply State.modSlot_legal
    | with_reducible apply State.bump_legal | with_reducible apply State.addWatch_legal | split | dsimp only)

theorem State.freeCell_legal {s : State} (c : Nat) (x2 : Option (Nat × Nat)) (hw : Legal s) : Legal (State.freeCell s c x2) := by
  unfold State.freeCell
  repeat' (first
    | with_reducible assumption | with_reducible refine ite_legal ?_ ?_ | with_reducible apply State.modCore_legal | split
    | dsimp only)

theorem State.unbindAll_legal {s : State} (c : Nat) (work : Nat) (hw : Legal s) : Legal (State.unbindAll s c work) := hw

theorem State.endWork_legal {s : State} (c : Nat) (n : Nat) (hw : Legal s) : Legal (State.endWork s c n) := by
  unfold State.endWork
  repeat' (first
    | with_reducible assumption | with_reducible refine ite_legal ?_ ?_ | with_reducible apply State.freeCell_legal
    | with_reducible apply State.unbindAll_legal | with_reducible apply State.modCore_legal
    | with_reducible apply State.modSlot_legal | with_reducible apply State.barSettle_legal | split | dsimp only)

theorem State.resumeSlot_legal {s : State} (c : Nat) (n : Nat) (pc : Word) (hw : Legal s) :
    Legal (State.resumeSlot s c n pc) :=
  hw

theorem State.parkToken_legal {s : State} (c : Nat) (n : Nat) (tok : Nat) (pc : Word) (hw : Legal s) :
    Legal (State.parkToken s c n tok pc) :=
  ite_legal (State.wake_legal _ (State.parkSlot_legal c n pc (.token tok) none hw)) (State.parkSlot_legal c n pc (.token tok) none hw)

theorem State.endTrapped_legal (k : Nat) : ∀ (c n : Nat) {s : State}, Legal s → Legal (State.endTrapped k c n s) := by
  induction k with
  | zero => intro c n s hw; exact State.endWork_legal c n hw
  | succ k ih =>
    intro c n s hw
    exact ite_legal (ih c _ (State.endWork_legal c n hw)) (State.endWork_legal c n hw)

theorem State.returnFrom_legal {s : State} (c : Nat) (t0 : Nat) (kind : Nat) (act : Nat) (tok : Nat) (epc : Word) (hw : Legal s) :
    Legal (State.returnFrom s c t0 kind act tok epc) := by
  unfold State.returnFrom
  repeat' (first
    | with_reducible assumption | with_reducible refine ite_legal ?_ ?_ | with_reducible apply State.abortOwner_legal
    | with_reducible apply State.resumeSlot_legal | with_reducible apply State.parkToken_legal
    | with_reducible apply State.endTrapped_legal | split | dsimp only)

/-! ### Operands -/

theorem enter_legal (i : Instr) {s : State} (hw : Legal s) : LegalOpt (enter i s) := by
  unfold enter
  dsimp only
  repeat' (first
    | exact legalOpt_none
    | with_reducible apply legalOpt_some
    | with_reducible assumption
    | with_reducible apply State.trap_legal
    | with_reducible apply State.stallFor_legal
    | split)

theorem entered_legal (i : Instr) {s : State} {k : State → State} (hw : Legal s)
    (hk : Legal (k s)) : LegalOut (entered i s k) := by
  unfold entered
  split
  · exact legalOut_next ((enter_legal i hw).out (by assumption))
  · exact legalOut_next hk

/-! ### Flags -/

theorem State.retireF_legal {s : State} (d : VReg) (v : Vec) (f : Flags) (hw : Legal s) : Legal (State.retireF s d v f) := by
  unfold State.retireF
  repeat' (first
    | with_reducible assumption | with_reducible refine ite_legal ?_ ?_ | with_reducible apply State.trap_legal
    | with_reducible apply State.retireV_legal | with_reducible apply State.modCtl_legal | split | dsimp only)

/-! ### Vector -/

theorem State.retireLanes_legal {s : State} (d : VReg) (w : Nat) (l : List (Nat × Flags)) (hw : Legal s) :
    Legal (State.retireLanes s d w l) :=
  State.retireF_legal _ _ _ hw

theorem State.fused_legal {s : State} (np : Bool) (nc : Bool) (d : VReg) (a : VReg) (b : VReg) (c : VReg) (ty : Ty)
    (hw : Legal s) :
    Legal (State.fused s np nc d a b c ty) :=
  State.retireLanes_legal _ _ _ hw

theorem State.reduce_legal {s : State} (ty : Ty) (d : VReg) (a : VReg) (op : Env → Nat → Nat → Nat × Flags)
    (root : Env → Nat → Nat → Nat × Flags) (hw : Legal s) :
    Legal (State.reduce s ty d a op root) :=
  State.retireF_legal _ _ _ hw

theorem execVadd_legal (d : VReg) (a : VReg) (b : VReg) (ty : Ty) {s : State} (hw : Legal s) :
    LegalOut (execVadd d a b ty s) :=
  entered_legal _ hw (State.retireLanes_legal _ _ _ hw)

theorem execVsub_legal (d : VReg) (a : VReg) (b : VReg) (ty : Ty) {s : State} (hw : Legal s) :
    LegalOut (execVsub d a b ty s) :=
  entered_legal _ hw (State.retireLanes_legal _ _ _ hw)

theorem execVmul_legal (d : VReg) (a : VReg) (b : VReg) (ty : Ty) {s : State} (hw : Legal s) :
    LegalOut (execVmul d a b ty s) :=
  entered_legal _ hw (State.retireLanes_legal _ _ _ hw)

theorem execVmin_legal (d : VReg) (a : VReg) (b : VReg) (ty : Ty) {s : State} (hw : Legal s) :
    LegalOut (execVmin d a b ty s) :=
  entered_legal _ hw (State.retireLanes_legal _ _ _ hw)

theorem execVmax_legal (d : VReg) (a : VReg) (b : VReg) (ty : Ty) {s : State} (hw : Legal s) :
    LegalOut (execVmax d a b ty s) :=
  entered_legal _ hw (State.retireLanes_legal _ _ _ hw)

theorem execVand_legal (d : VReg) (a : VReg) (b : VReg) {s : State} (hw : Legal s) : LegalOut (execVand d a b s) :=
  entered_legal _ hw (State.retireV_legal _ _ hw)

theorem execVor_legal (d : VReg) (a : VReg) (b : VReg) {s : State} (hw : Legal s) : LegalOut (execVor d a b s) :=
  entered_legal _ hw (State.retireV_legal _ _ hw)

theorem execVxor_legal (d : VReg) (a : VReg) (b : VReg) {s : State} (hw : Legal s) : LegalOut (execVxor d a b s) :=
  entered_legal _ hw (State.retireV_legal _ _ hw)

theorem execVandn_legal (d : VReg) (a : VReg) (b : VReg) {s : State} (hw : Legal s) : LegalOut (execVandn d a b s) :=
  entered_legal _ hw (State.retireV_legal _ _ hw)

theorem execVshl_legal (d : VReg) (a : VReg) (b : VReg) (ty : Ty) {s : State} (hw : Legal s) :
    LegalOut (execVshl d a b ty s) :=
  entered_legal _ hw (State.retireLanes_legal _ _ _ hw)

theorem execVshr_legal (d : VReg) (a : VReg) (b : VReg) (ty : Ty) {s : State} (hw : Legal s) :
    LegalOut (execVshr d a b ty s) :=
  entered_legal _ hw (State.retireLanes_legal _ _ _ hw)

theorem execVsar_legal (d : VReg) (a : VReg) (b : VReg) (ty : Ty) {s : State} (hw : Legal s) :
    LegalOut (execVsar d a b ty s) :=
  entered_legal _ hw (State.retireLanes_legal _ _ _ hw)

theorem execVmov_legal (d : VReg) (a : VReg) {s : State} (hw : Legal s) : LegalOut (execVmov d a s) :=
  entered_legal _ hw (State.retireV_legal _ _ hw)

theorem execVfma_legal (d : VReg) (a : VReg) (b : VReg) (c : VReg) (ty : Ty) {s : State} (hw : Legal s) :
    LegalOut (execVfma d a b c ty s) :=
  entered_legal _ hw (State.fused_legal _ _ _ _ _ _ _ hw)

theorem execVfms_legal (d : VReg) (a : VReg) (b : VReg) (c : VReg) (ty : Ty) {s : State} (hw : Legal s) :
    LegalOut (execVfms d a b c ty s) :=
  entered_legal _ hw (State.fused_legal _ _ _ _ _ _ _ hw)

theorem execVfnma_legal (d : VReg) (a : VReg) (b : VReg) (c : VReg) (ty : Ty) {s : State} (hw : Legal s) :
    LegalOut (execVfnma d a b c ty s) :=
  entered_legal _ hw (State.fused_legal _ _ _ _ _ _ _ hw)

theorem execVfnms_legal (d : VReg) (a : VReg) (b : VReg) (c : VReg) (ty : Ty) {s : State} (hw : Legal s) :
    LegalOut (execVfnms d a b c ty s) :=
  entered_legal _ hw (State.fused_legal _ _ _ _ _ _ _ hw)

theorem execVcvt_legal (d : VReg) (a : VReg) (dt : Ty) (st : Ty) (rm : CvtRm) {s : State} (hw : Legal s) :
    LegalOut (execVcvt d a dt st rm s) :=
  entered_legal _ hw (State.retireLanes_legal _ _ _ hw)

theorem execVrcp_legal (d : VReg) (a : VReg) (ty : Ty) {s : State} (hw : Legal s) : LegalOut (execVrcp d a ty s) :=
  entered_legal _ hw (State.retireLanes_legal _ _ _ hw)

theorem execVrsqrt_legal (d : VReg) (a : VReg) (ty : Ty) {s : State} (hw : Legal s) : LegalOut (execVrsqrt d a ty s) :=
  entered_legal _ hw (State.retireLanes_legal _ _ _ hw)

theorem execVexp2_legal (d : VReg) (a : VReg) (ty : Ty) {s : State} (hw : Legal s) : LegalOut (execVexp2 d a ty s) :=
  entered_legal _ hw (State.retireLanes_legal _ _ _ hw)

theorem execVlog2_legal (d : VReg) (a : VReg) (ty : Ty) {s : State} (hw : Legal s) : LegalOut (execVlog2 d a ty s) :=
  entered_legal _ hw (State.retireLanes_legal _ _ _ hw)

theorem execVsqrt_legal (d : VReg) (a : VReg) (ty : Ty) {s : State} (hw : Legal s) : LegalOut (execVsqrt d a ty s) :=
  entered_legal _ hw (State.retireLanes_legal _ _ _ hw)

theorem execVdiv_legal (d : VReg) (a : VReg) (b : VReg) (ty : Ty) {s : State} (hw : Legal s) :
    LegalOut (execVdiv d a b ty s) :=
  entered_legal _ hw (State.retireLanes_legal _ _ _ hw)

theorem execVperm_legal (d : VReg) (a : VReg) (b : VReg) (ty : Ty) {s : State} (hw : Legal s) :
    LegalOut (execVperm d a b ty s) :=
  entered_legal _ hw (State.retireV_legal _ _ hw)

theorem execVbcast_legal (d : VReg) (a : VReg) (ty : Ty) {s : State} (hw : Legal s) : LegalOut (execVbcast d a ty s) :=
  entered_legal _ hw (State.retireV_legal _ _ hw)

theorem execVins_legal (d : VReg) (a : VReg) (idx : BitVec 5) (ty : Ty) {s : State} (hw : Legal s) :
    LegalOut (execVins d a idx ty s) := by
  unfold execVins
  repeat' (first
    | with_reducible assumption | with_reducible refine ite_legal ?_ ?_ | with_reducible apply entered_legal
    | with_reducible apply State.illegal_legal | with_reducible apply State.retireV_legal | with_reducible apply legalOut_next
    | split | dsimp only)

theorem execVext_legal (d : VReg) (a : VReg) (idx : BitVec 5) (ty : Ty) {s : State} (hw : Legal s) :
    LegalOut (execVext d a idx ty s) := by
  unfold execVext
  repeat' (first
    | with_reducible assumption | with_reducible refine ite_legal ?_ ?_ | with_reducible apply entered_legal
    | with_reducible apply State.illegal_legal | with_reducible apply State.retireG_legal | with_reducible apply legalOut_next
    | split | dsimp only)

theorem execVredAdd_legal (d : VReg) (a : VReg) (ty : Ty) {s : State} (hw : Legal s) : LegalOut (execVredAdd d a ty s) :=
  entered_legal _ hw (State.reduce_legal _ _ _ _ _ hw)

theorem execVredMin_legal (d : VReg) (a : VReg) (ty : Ty) {s : State} (hw : Legal s) : LegalOut (execVredMin d a ty s) :=
  entered_legal _ hw (State.reduce_legal _ _ _ _ _ hw)

theorem execVredMax_legal (d : VReg) (a : VReg) (ty : Ty) {s : State} (hw : Legal s) : LegalOut (execVredMax d a ty s) :=
  entered_legal _ hw (State.reduce_legal _ _ _ _ _ hw)

theorem execVpack_legal (d : VReg) (a : VReg) (b : VReg) (ty : Ty) {s : State} (hw : Legal s) :
    LegalOut (execVpack d a b ty s) :=
  entered_legal _ hw (State.retireV_legal _ _ hw)

theorem execVunpkLo_legal (d : VReg) (a : VReg) (ty : Ty) {s : State} (hw : Legal s) : LegalOut (execVunpkLo d a ty s) :=
  entered_legal _ hw (State.retireLanes_legal _ _ _ hw)

theorem execVunpkHi_legal (d : VReg) (a : VReg) (ty : Ty) {s : State} (hw : Legal s) : LegalOut (execVunpkHi d a ty s) :=
  entered_legal _ hw (State.retireLanes_legal _ _ _ hw)

theorem execVzip_legal (d : VReg) (a : VReg) (b : VReg) (ty : Ty) {s : State} (hw : Legal s) :
    LegalOut (execVzip d a b ty s) :=
  entered_legal _ hw (State.retireV_legal _ _ hw)

theorem execVunzip_legal (d : VReg) (a : VReg) (b : VReg) (ty : Ty) {s : State} (hw : Legal s) :
    LegalOut (execVunzip d a b ty s) :=
  entered_legal _ hw (State.retireV_legal _ _ hw)

theorem execVcmp_legal (d : VReg) (a : VReg) (b : VReg) (ty : Ty) (cc : VCond) {s : State} (hw : Legal s) :
    LegalOut (execVcmp d a b ty cc s) :=
  entered_legal _ hw (State.retireLanes_legal _ _ _ hw)

theorem execVclass_legal (d : VReg) (a : VReg) (ty : Ty) {s : State} (hw : Legal s) : LegalOut (execVclass d a ty s) :=
  entered_legal _ hw (State.retireV_legal _ _ hw)

theorem execVsel_legal (d : VReg) (a : VReg) (b : VReg) (c : VReg) {s : State} (hw : Legal s) :
    LegalOut (execVsel d a b c s) :=
  entered_legal _ hw (State.retireV_legal _ _ hw)

theorem execVdot_legal (d : VReg) (a : VReg) (b : VReg) (c : VReg) (ty : Ty) {s : State} (hw : Legal s) :
    LegalOut (execVdot d a b c ty s) :=
  entered_legal _ hw (State.retireLanes_legal _ _ _ hw)

theorem execVdotI_legal (d : VReg) (a : VReg) (b : VReg) (c : VReg) (ty : Ty) {s : State} (hw : Legal s) :
    LegalOut (execVdotI d a b c ty s) :=
  entered_legal _ hw (State.retireLanes_legal _ _ _ hw)

/-! ### Alu -/

theorem divide_legal (d : GReg) (b : Word) (r : Word) {s : State} (hw : Legal s) : Legal (divide d b r s) := by
  unfold divide
  repeat' (first
    | with_reducible assumption | with_reducible refine ite_legal ?_ ?_ | with_reducible apply State.trap_legal
    | with_reducible apply State.retireG_legal | split | dsimp only)

theorem execAdd_legal (d : GReg) (a : GReg) (b : GReg) (ea : Bool) (eb : Bool) {s : State} (hw : Legal s) :
    LegalOut (execAdd d a b ea eb s) :=
  entered_legal _ hw (State.retireG_legal _ _ hw)

theorem execSub_legal (d : GReg) (a : GReg) (b : GReg) (ea : Bool) (eb : Bool) {s : State} (hw : Legal s) :
    LegalOut (execSub d a b ea eb s) :=
  entered_legal _ hw (State.retireG_legal _ _ hw)

theorem execMul_legal (d : GReg) (a : GReg) (b : GReg) (ea : Bool) (eb : Bool) {s : State} (hw : Legal s) :
    LegalOut (execMul d a b ea eb s) :=
  entered_legal _ hw (State.retireG_legal _ _ hw)

theorem execMulhS_legal (d : GReg) (a : GReg) (b : GReg) (ea : Bool) (eb : Bool) {s : State} (hw : Legal s) :
    LegalOut (execMulhS d a b ea eb s) :=
  entered_legal _ hw (State.retireG_legal _ _ hw)

theorem execMulhZ_legal (d : GReg) (a : GReg) (b : GReg) (ea : Bool) (eb : Bool) {s : State} (hw : Legal s) :
    LegalOut (execMulhZ d a b ea eb s) :=
  entered_legal _ hw (State.retireG_legal _ _ hw)

theorem execDivS_legal (d : GReg) (a : GReg) (b : GReg) (ea : Bool) (eb : Bool) {s : State} (hw : Legal s) :
    LegalOut (execDivS d a b ea eb s) :=
  entered_legal _ hw (divide_legal _ _ _ hw)

theorem execDivZ_legal (d : GReg) (a : GReg) (b : GReg) (ea : Bool) (eb : Bool) {s : State} (hw : Legal s) :
    LegalOut (execDivZ d a b ea eb s) :=
  entered_legal _ hw (divide_legal _ _ _ hw)

theorem execRemS_legal (d : GReg) (a : GReg) (b : GReg) (ea : Bool) (eb : Bool) {s : State} (hw : Legal s) :
    LegalOut (execRemS d a b ea eb s) :=
  entered_legal _ hw (divide_legal _ _ _ hw)

theorem execRemZ_legal (d : GReg) (a : GReg) (b : GReg) (ea : Bool) (eb : Bool) {s : State} (hw : Legal s) :
    LegalOut (execRemZ d a b ea eb s) :=
  entered_legal _ hw (divide_legal _ _ _ hw)

theorem execAnd_legal (d : GReg) (a : GReg) (b : GReg) (ea : Bool) (eb : Bool) {s : State} (hw : Legal s) :
    LegalOut (execAnd d a b ea eb s) :=
  entered_legal _ hw (State.retireG_legal _ _ hw)

theorem execOr_legal (d : GReg) (a : GReg) (b : GReg) (ea : Bool) (eb : Bool) {s : State} (hw : Legal s) :
    LegalOut (execOr d a b ea eb s) :=
  entered_legal _ hw (State.retireG_legal _ _ hw)

theorem execXor_legal (d : GReg) (a : GReg) (b : GReg) (ea : Bool) (eb : Bool) {s : State} (hw : Legal s) :
    LegalOut (execXor d a b ea eb s) :=
  entered_legal _ hw (State.retireG_legal _ _ hw)

theorem execAndn_legal (d : GReg) (a : GReg) (b : GReg) (ea : Bool) (eb : Bool) {s : State} (hw : Legal s) :
    LegalOut (execAndn d a b ea eb s) :=
  entered_legal _ hw (State.retireG_legal _ _ hw)

theorem execOrn_legal (d : GReg) (a : GReg) (b : GReg) (ea : Bool) (eb : Bool) {s : State} (hw : Legal s) :
    LegalOut (execOrn d a b ea eb s) :=
  entered_legal _ hw (State.retireG_legal _ _ hw)

theorem execShl_legal (d : GReg) (a : GReg) (b : GReg) (ea : Bool) (eb : Bool) {s : State} (hw : Legal s) :
    LegalOut (execShl d a b ea eb s) :=
  entered_legal _ hw (State.retireG_legal _ _ hw)

theorem execShr_legal (d : GReg) (a : GReg) (b : GReg) (ea : Bool) (eb : Bool) {s : State} (hw : Legal s) :
    LegalOut (execShr d a b ea eb s) :=
  entered_legal _ hw (State.retireG_legal _ _ hw)

theorem execSar_legal (d : GReg) (a : GReg) (b : GReg) (ea : Bool) (eb : Bool) {s : State} (hw : Legal s) :
    LegalOut (execSar d a b ea eb s) :=
  entered_legal _ hw (State.retireG_legal _ _ hw)

theorem execRol_legal (d : GReg) (a : GReg) (b : GReg) (ea : Bool) (eb : Bool) {s : State} (hw : Legal s) :
    LegalOut (execRol d a b ea eb s) :=
  entered_legal _ hw (State.retireG_legal _ _ hw)

theorem execRor_legal (d : GReg) (a : GReg) (b : GReg) (ea : Bool) (eb : Bool) {s : State} (hw : Legal s) :
    LegalOut (execRor d a b ea eb s) :=
  entered_legal _ hw (State.retireG_legal _ _ hw)

theorem execMinS_legal (d : GReg) (a : GReg) (b : GReg) (ea : Bool) (eb : Bool) {s : State} (hw : Legal s) :
    LegalOut (execMinS d a b ea eb s) :=
  entered_legal _ hw (State.retireG_legal _ _ hw)

theorem execMinZ_legal (d : GReg) (a : GReg) (b : GReg) (ea : Bool) (eb : Bool) {s : State} (hw : Legal s) :
    LegalOut (execMinZ d a b ea eb s) :=
  entered_legal _ hw (State.retireG_legal _ _ hw)

theorem execMaxS_legal (d : GReg) (a : GReg) (b : GReg) (ea : Bool) (eb : Bool) {s : State} (hw : Legal s) :
    LegalOut (execMaxS d a b ea eb s) :=
  entered_legal _ hw (State.retireG_legal _ _ hw)

theorem execMaxZ_legal (d : GReg) (a : GReg) (b : GReg) (ea : Bool) (eb : Bool) {s : State} (hw : Legal s) :
    LegalOut (execMaxZ d a b ea eb s) :=
  entered_legal _ hw (State.retireG_legal _ _ hw)

theorem execClz_legal (d : GReg) (a : GReg) (ea : Bool) {s : State} (hw : Legal s) : LegalOut (execClz d a ea s) :=
  entered_legal _ hw (State.retireG_legal _ _ hw)

theorem execCtz_legal (d : GReg) (a : GReg) (ea : Bool) {s : State} (hw : Legal s) : LegalOut (execCtz d a ea s) :=
  entered_legal _ hw (State.retireG_legal _ _ hw)

theorem execPopc_legal (d : GReg) (a : GReg) (ea : Bool) {s : State} (hw : Legal s) : LegalOut (execPopc d a ea s) :=
  entered_legal _ hw (State.retireG_legal _ _ hw)

theorem execBswap_legal (d : GReg) (a : GReg) (ea : Bool) {s : State} (hw : Legal s) : LegalOut (execBswap d a ea s) :=
  entered_legal _ hw (State.retireG_legal _ _ hw)

theorem execLea1_legal (d : GReg) (a : GReg) (b : GReg) (ea : Bool) (eb : Bool) {s : State} (hw : Legal s) :
    LegalOut (execLea1 d a b ea eb s) :=
  entered_legal _ hw (State.retireG_legal _ _ hw)

theorem execLea2_legal (d : GReg) (a : GReg) (b : GReg) (ea : Bool) (eb : Bool) {s : State} (hw : Legal s) :
    LegalOut (execLea2 d a b ea eb s) :=
  entered_legal _ hw (State.retireG_legal _ _ hw)

theorem execLea3_legal (d : GReg) (a : GReg) (b : GReg) (ea : Bool) (eb : Bool) {s : State} (hw : Legal s) :
    LegalOut (execLea3 d a b ea eb s) :=
  entered_legal _ hw (State.retireG_legal _ _ hw)

theorem execCmp_legal (pd : PReg) (a : GReg) (b : GReg) (ea : Bool) (eb : Bool) (cc : Cond) {s : State} (hw : Legal s) :
    LegalOut (execCmp pd a b ea eb cc s) :=
  entered_legal _ hw (State.retireP_legal _ _ hw)

theorem execAddi_legal (d : GReg) (a : GReg) (ea : Bool) (imm : BitVec 13) {s : State} (hw : Legal s) :
    LegalOut (execAddi d a ea imm s) :=
  entered_legal _ hw (State.retireG_legal _ _ hw)

theorem execAndi_legal (d : GReg) (a : GReg) (ea : Bool) (imm : BitVec 13) {s : State} (hw : Legal s) :
    LegalOut (execAndi d a ea imm s) :=
  entered_legal _ hw (State.retireG_legal _ _ hw)

theorem execOri_legal (d : GReg) (a : GReg) (ea : Bool) (imm : BitVec 13) {s : State} (hw : Legal s) :
    LegalOut (execOri d a ea imm s) :=
  entered_legal _ hw (State.retireG_legal _ _ hw)

theorem execXori_legal (d : GReg) (a : GReg) (ea : Bool) (imm : BitVec 13) {s : State} (hw : Legal s) :
    LegalOut (execXori d a ea imm s) :=
  entered_legal _ hw (State.retireG_legal _ _ hw)

theorem execShli_legal (d : GReg) (a : GReg) (ea : Bool) (amount : BitVec 6) {s : State} (hw : Legal s) :
    LegalOut (execShli d a ea amount s) :=
  entered_legal _ hw (State.retireG_legal _ _ hw)

theorem execShri_legal (d : GReg) (a : GReg) (ea : Bool) (amount : BitVec 6) {s : State} (hw : Legal s) :
    LegalOut (execShri d a ea amount s) :=
  entered_legal _ hw (State.retireG_legal _ _ hw)

theorem execSari_legal (d : GReg) (a : GReg) (ea : Bool) (amount : BitVec 6) {s : State} (hw : Legal s) :
    LegalOut (execSari d a ea amount s) :=
  entered_legal _ hw (State.retireG_legal _ _ hw)

theorem execCmpi_legal (pd : PReg) (a : GReg) (ea : Bool) (cc : Cond) (imm : BitVec 9) {s : State} (hw : Legal s) :
    LegalOut (execCmpi pd a ea cc imm s) :=
  entered_legal _ hw (State.retireP_legal _ _ hw)

theorem execLiS_legal (d : GReg) (lit : IWord) {s : State} (hw : Legal s) : LegalOut (execLiS d lit s) :=
  entered_legal _ hw (State.retireG_legal _ _ hw)

theorem execLiZ_legal (d : GReg) (lit : IWord) {s : State} (hw : Legal s) : LegalOut (execLiZ d lit s) :=
  entered_legal _ hw (State.retireG_legal _ _ hw)

theorem execLih_legal (d : GReg) (lit : IWord) {s : State} (hw : Legal s) : LegalOut (execLih d lit s) :=
  entered_legal _ hw (State.retireG_legal _ _ hw)

theorem execBextS_legal (d : GReg) (a : GReg) (ea : Bool) (pos : BitVec 6) (wm1 : BitVec 5) {s : State} (hw : Legal s) :
    LegalOut (execBextS d a ea pos wm1 s) :=
  entered_legal _ hw (State.retireG_legal _ _ hw)

theorem execBextZ_legal (d : GReg) (a : GReg) (ea : Bool) (pos : BitVec 6) (wm1 : BitVec 5) {s : State} (hw : Legal s) :
    LegalOut (execBextZ d a ea pos wm1 s) :=
  entered_legal _ hw (State.retireG_legal _ _ hw)

theorem execBins_legal (d : GReg) (a : GReg) (ea : Bool) (pos : BitVec 6) (wm1 : BitVec 5) {s : State} (hw : Legal s) :
    LegalOut (execBins d a ea pos wm1 s) :=
  entered_legal _ hw (State.retireG_legal _ _ hw)

theorem execPand_legal (pd : PReg) (pa : PReg) (pb : PReg) {s : State} (hw : Legal s) : LegalOut (execPand pd pa pb s) :=
  legalOut_next hw

theorem execPor_legal (pd : PReg) (pa : PReg) (pb : PReg) {s : State} (hw : Legal s) : LegalOut (execPor pd pa pb s) :=
  legalOut_next hw

theorem execPxor_legal (pd : PReg) (pa : PReg) (pb : PReg) {s : State} (hw : Legal s) : LegalOut (execPxor pd pa pb s) :=
  legalOut_next hw

theorem execPandn_legal (pd : PReg) (pa : PReg) (pb : PReg) {s : State} (hw : Legal s) : LegalOut (execPandn pd pa pb s) :=
  legalOut_next hw

theorem execPnot_legal (pd : PReg) (pa : PReg) {s : State} (hw : Legal s) : LegalOut (execPnot pd pa s) := legalOut_next hw

theorem execPmov_legal (pd : PReg) (pa : PReg) {s : State} (hw : Legal s) : LegalOut (execPmov pd pa s) := legalOut_next hw

theorem execPget_legal (d : GReg) {s : State} (hw : Legal s) : LegalOut (execPget d s) :=
  entered_legal _ hw (State.retireG_legal _ _ hw)

theorem execPput_legal (a : GReg) (b : GReg) (ea : Bool) (eb : Bool) {s : State} (hw : Legal s) :
    LegalOut (execPput a b ea eb s) :=
  entered_legal _ hw (State.retire_legal (State.modRegs_legal _ hw))

/-! ### Control -/

theorem execBr_legal (p : PReg) (n : Bool) (disp : BitVec 22) {s : State} (hw : Legal s) : LegalOut (execBr p n disp s) := by
  unfold execBr
  repeat' (first
    | with_reducible assumption | with_reducible refine ite_legal ?_ ?_ | with_reducible apply entered_legal
    | with_reducible apply State.retireTo_legal | with_reducible apply State.retire_legal | with_reducible apply legalOut_next
    | split | dsimp only)

theorem execCall_legal (disp : BitVec 22) {s : State} (hw : Legal s) : LegalOut (execCall disp s) :=
  entered_legal _ hw (State.retireTo_legal _ (State.modRegs_legal _ hw))

theorem execJr_legal (a : GReg) (ea : Bool) {s : State} (hw : Legal s) : LegalOut (execJr a ea s) :=
  entered_legal _ hw (State.retireTo_legal _ hw)

theorem execJalr_legal (d : GReg) (a : GReg) (ea : Bool) {s : State} (hw : Legal s) : LegalOut (execJalr d a ea s) :=
  entered_legal _ hw (State.retireTo_legal _ (State.modRegs_legal _ hw))

theorem execNop_legal {s : State} (hw : Legal s) : LegalOut (execNop s) := legalOut_next hw

theorem State.endHandler_legal {s : State} (act : Nat) (tok : Nat) (hw : Legal s) : Legal (State.endHandler s act tok) := by
  unfold State.endHandler
  repeat' (first
    | with_reducible assumption | with_reducible refine ite_legal ?_ ?_ | with_reducible apply State.stallFor_legal
    | with_reducible apply State.returnFrom_legal | with_reducible apply State.endWork_legal
    | with_reducible apply State.retire_legal | split | dsimp only)

theorem execEndTask_legal {s : State} (hw : Legal s) : LegalOut (execEndTask s) := by
  unfold execEndTask
  repeat' (first
    | with_reducible assumption | with_reducible refine ite_legal ?_ ?_ | with_reducible apply entered_legal
    | with_reducible apply State.stallFor_legal | with_reducible apply State.endHandler_legal
    | with_reducible apply State.endWork_legal | with_reducible apply State.retire_legal | with_reducible apply legalOut_next
    | split | dsimp only)

theorem execYield_legal {s : State} (hw : Legal s) : LegalOut (execYield s) :=
  entered_legal _ hw (State.modSlot_legal _ _ _ (State.retire_legal hw))

theorem execTrap_legal (code : BitVec 6) {s : State} (hw : Legal s) : LegalOut (execTrap code s) :=
  entered_legal _ hw (State.trap_legal _ _ _ hw)

theorem execEret_legal (a : GReg) (ea : Bool) {s : State} (hw : Legal s) : LegalOut (execEret a ea s) := by
  unfold execEret
  repeat' (first
    | with_reducible assumption | with_reducible refine ite_legal ?_ ?_ | with_reducible apply entered_legal
    | with_reducible apply State.illegal_legal | with_reducible apply State.stallFor_legal
    | with_reducible apply State.endHandler_legal | with_reducible apply legalOut_next | split | dsimp only)

theorem execHalt_legal {s : State} (hw : Legal s) : LegalOut (execHalt s) := by
  unfold execHalt
  repeat' (first
    | with_reducible assumption | with_reducible refine ite_legal ?_ ?_ | with_reducible apply entered_legal
    | with_reducible apply State.stallFor_legal | with_reducible apply State.modCore_legal
    | with_reducible apply State.endWork_legal | with_reducible apply State.retire_legal | with_reducible apply legalOut_next
    | split | dsimp only)

theorem execBrk_legal {s : State} (hw : Legal s) : LegalOut (execBrk s) := entered_legal _ hw (State.trap_legal _ _ _ hw)

end Sys2Proof.Machine
end

