-- ==== Sys2Proof/Laws/LegalMemory.lean ====
section
/-! SUPPORT. What every step keeps (`Safety.Legal`): one lemma for each operation that gives a state; homes, accesses, memory meanings, objects and tasks. -/

namespace Sys2Proof.Machine

open Sys2Proof.Safety

/-! ### Home -/

theorem State.requestState_legal {s : State} (v : Nat) (hw : Legal s) : Legal (State.requestState s v) := by
  obtain ⟨h1, h2, h3, h4, h5, h6⟩ := hw
  have hv : ∀ r, some (v % 8) = some r → r ≤ 7 := by intro r h; cases h; omega
  unfold State.requestState
  split
  · exact ⟨h1, h2, h3, h4, hv, h6⟩
  · split
    · exact ⟨h1, h2, h3, h3, (by intro r h; cases h), h6⟩
    · exact ⟨h1, h2, h3, h4, hv, h6⟩

theorem State.stageStore_legal {s : State} (n : Nat) (i : Nat) (w : Nat) (v : Word) (hw : Legal s) :
    Legal (State.stageStore s n i w v) :=
  hw

theorem State.ctlWrite_legal {s : State} (fw : Bool) (ctx : Nat) (off : Nat) (v : Word) (hw : Legal s) :
    LegalOpt (State.ctlWrite s fw ctx off v) := by
  unfold State.ctlWrite
  repeat' (first
    | with_reducible assumption | with_reducible refine ite_legal ?_ ?_ | exact legalOpt_none
    | with_reducible apply State.stageStore_legal | with_reducible apply State.requestState_legal
    | with_reducible apply legalOpt_some | split | dsimp only)

theorem State.dispatch_legal {s : State} (c : Nat) (b : Nat) (off : Nat) (lvl : Nat) (hw : Legal s) :
    Legal (State.dispatch s c b off lvl) :=
  State.pushReady_legal _ _ _ hw

theorem State.decrement_legal {s : State} (c : Nat) (b : Nat) (off : Nat) (hw : Legal s) :
    Legal ((State.decrement s c b off).2) :=
  ite_legal (State.event_legal _ _ _ _ _ (ite_legal (State.dispatch_legal _ _ _ _ (State.writeNat_legal hw _ _ _)) (State.writeNat_legal hw _ _ _)))
    (ite_legal (State.dispatch_legal _ _ _ _ (State.writeNat_legal hw _ _ _)) (State.writeNat_legal hw _ _ _))

theorem State.warnUninit_legal {s : State} (l : Loc) (va : Word) (hw : Legal s) : Legal (State.warnUninit s l va) := by
  unfold State.warnUninit
  repeat' (first
    | with_reducible assumption | with_reducible refine ite_legal ?_ ?_ | with_reducible apply State.faultRecord_legal | split
    | dsimp only)

theorem State.apply_legal {s : State} (f : Flight) (hw : Legal s) : Legal (State.apply s f).1 := by
  unfold State.apply
  repeat' (first
    | with_reducible assumption | with_reducible refine ite_legal ?_ ?_ | with_reducible apply State.ctlWrite_legal
    | with_reducible apply State.writeNat_legal | with_reducible apply State.decrement_legal | split
    | refine snd_legal ?_ (by assumption) | refine LegalOpt.out ?_ (by assumption) | dsimp only)

theorem State.performPart_legal {s : State} (f : Flight) (hw : Legal s) : Legal (State.performPart s f).1 := by
  unfold State.performPart
  repeat' (first
    | with_reducible assumption | with_reducible refine ite_legal ?_ ?_ | with_reducible apply State.apply_legal
    | with_reducible apply State.warnUninit_legal | split | refine fst_legal ?_ (by assumption) | dsimp only)

/-! ### Access -/

theorem State.sendBack_legal {s : State} (r : Ret) (hw : Legal s) : Legal (State.sendBack s r) := hw

theorem State.fill_legal {s : State} (r : Ret) (data : Nat) (hw : Legal s) : Legal (State.fill s r data) :=
  ite_legal (State.modSlot_legal _ _ _ hw) hw

theorem State.landPart_legal {s : State} (f : Flight) (r : PartRes) (hw : Legal s) : Legal (State.landPart s f r) := by
  unfold State.landPart
  repeat' (first
    | with_reducible assumption | with_reducible refine ite_legal ?_ ?_ | with_reducible apply State.sendBack_legal | split
    | dsimp only)

theorem State.checkedOnce_legal {s : State} (f : Flight) (hw : Legal s) :
    Legal (State.checkedOnce s f) := by
  unfold State.checkedOnce
  repeat' (first
    | with_reducible assumption | with_reducible refine ite_legal ?_ ?_ | split | dsimp only)

theorem State.dropFlight_legal {s : State} (f : Flight) (hw : Legal s) :
    Legal (State.dropFlight s f) := by
  unfold State.dropFlight
  repeat' (first
    | with_reducible assumption | with_reducible refine ite_legal ?_ ?_ | split | dsimp only)

theorem State.performFlight_legal {s : State} (f : Flight) (hw : Legal s) : Legal (State.performFlight s f) := by
  unfold State.performFlight
  repeat' (first
    | with_reducible assumption | with_reducible refine ite_legal ?_ ?_ | with_reducible apply State.eccAbort_legal
    | with_reducible apply State.dropFlight_legal | with_reducible apply State.landPart_legal
    | with_reducible apply State.checkedOnce_legal | with_reducible apply State.performPart_legal
    | with_reducible exact fst_legal (by with_reducible apply State.performPart_legal <;> assumption) (by assumption)
    | split | dsimp only)

theorem State.launchParts_legal {s : State} (q : Req) (ps : List Placed) (hw : Legal s) : Legal (State.launchParts s q ps) :=
  hw

theorem State.performHere_legal {s : State} (fs : List Flight) (hw : Legal s) :
    Legal ((State.performHere s fs).1) := by
  have key : ∀ (l : List Flight) (a : State × Nat), Legal a.1 → Legal ((l.foldl (fun (a : State × Nat) f =>
      match a.1.performPart f with
      | (t, .ok d) => (t, a.2 + d % 2 ^ (8 * (if f.kind = .decp then 8 else f.len)) * 2 ^ (8 * f.idx))
      | (t, .bad _) => (t, a.2)) a).1) := by
    intro l
    induction l with
    | nil => intro a h; exact h
    | cons f l ih =>
      intro a h
      refine ih _ ?_
      have h1 := State.performPart_legal f h
      dsimp only
      revert h1
      cases a.1.performPart f with
      | mk t r => intro h1; cases r <;> exact h1
  exact key fs (s, 0) hw

theorem State.eccSelf_legal {s : State} (q : Req) (hw : Legal s) : Legal (State.eccSelf s q) := by
  unfold State.eccSelf
  repeat' (first
    | with_reducible assumption | with_reducible refine ite_legal ?_ ?_ | with_reducible apply State.abortOwner_legal
    | with_reducible apply State.deferTo_legal | with_reducible apply State.event_legal | with_reducible apply State.retire_legal
    | with_reducible apply State.modRegs_legal | split | dsimp only)

theorem State.issueSelf_legal {s : State} (q : Req) (fs : List Flight) (hw : Legal s) : Legal (State.issueSelf s q fs) := by
  unfold State.issueSelf
  repeat' (first
    | with_reducible assumption | with_reducible refine ite_legal ?_ ?_ | with_reducible apply State.eccSelf_legal
    | with_reducible apply State.find_legal | with_reducible apply State.trap_legal
    | with_reducible apply State.performHere_legal | with_reducible apply State.modRegs_legal
    | with_reducible apply State.sendBack_legal | with_reducible apply State.retire_legal
    | with_reducible exact Found.Keeps.stop (by with_reducible apply State.find_legal <;> assumption) (by assumption)
    | with_reducible exact fst_legal (by with_reducible apply State.performHere_legal <;> assumption) (by assumption)
    | split | dsimp only)

theorem State.issuePlaced_legal {s : State} (q : Req) (ps : List Placed) (hw : Legal s) : Legal (State.issuePlaced s q ps) := by
  unfold State.issuePlaced
  repeat' (first
    | with_reducible assumption | with_reducible refine ite_legal ?_ ?_ | with_reducible apply State.issueSelf_legal
    | with_reducible apply State.stallFor_legal | with_reducible apply State.retire_legal
    | with_reducible apply State.modRegs_legal | with_reducible apply State.launchParts_legal | split | dsimp only)

theorem State.addWaiting_legal {s : State} (q : Req) (id : Nat) (sent : Bool) (hw : Legal s) :
    Legal (State.addWaiting s q id sent) :=
  hw

theorem State.issueStore_legal {s : State} (q : Req) (p : Plan) (hw : Legal s) : Legal (State.issueStore s q p) := by
  unfold State.issueStore
  repeat' (first
    | with_reducible assumption | with_reducible refine ite_legal ?_ ?_ | with_reducible apply State.trap_legal
    | with_reducible apply State.retire_legal | with_reducible apply State.bump_legal
    | with_reducible apply State.addWaiting_legal | with_reducible apply State.stallFor_legal
    | with_reducible apply State.issuePlaced_legal | with_reducible apply State.launchParts_legal | split | dsimp only)

theorem State.issueRead_legal {s : State} (q : Req) (p : Plan) (hw : Legal s) :
    Legal (State.issueRead s q p) := by
  unfold State.issueRead
  repeat' (first
    | with_reducible assumption | with_reducible refine ite_legal ?_ ?_ | with_reducible apply State.trap_legal
    | with_reducible apply State.addWaiting_legal | with_reducible apply State.bump_legal
    | with_reducible apply State.modRegs_legal | with_reducible apply State.retire_legal
    | with_reducible apply State.issuePlaced_legal | with_reducible apply State.stallFor_legal | split | dsimp only)

theorem State.access_legal {s : State} (q : Req) (hw : Legal s) : Legal (State.access s q) := by
  unfold State.access
  repeat' (first
    | with_reducible assumption | with_reducible refine ite_legal ?_ ?_ | with_reducible apply State.stallFor_legal
    | with_reducible apply State.issueStore_legal | with_reducible apply State.issueRead_legal | split | dsimp only)

theorem State.aligned_legal {s : State} (al : Nat) (q : Req) (hw : Legal s) : Legal (State.aligned s al q) := by
  unfold State.aligned
  repeat' (first
    | with_reducible assumption | with_reducible refine ite_legal ?_ ?_ | with_reducible apply State.trap_legal
    | with_reducible apply State.access_legal | split | dsimp only)

theorem State.releaseWaiting_legal {s : State} (c : Nat) (n : Nat) (e : Waiting) (ps : List Placed)
    (hw : Legal s) :
    Legal (State.releaseWaiting s c n e ps) := by
  unfold State.releaseWaiting
  repeat' (first
    | with_reducible assumption | with_reducible refine ite_legal ?_ ?_ | split | dsimp only)

theorem State.cancelAt_legal {s : State} (c : Nat) (n : Nat) (e : Waiting) (cause : Nat) (va : Word) (einfo : Word)
    (hw : Legal s) :
    Legal (State.cancelAt s c n e cause va einfo) :=
  State.takeTrap_legal _ _ _ _ _ _ _ _ (State.modSlot_legal _ _ _ hw)

theorem State.drainList_legal (c : Nat) (n : Nat) (l : List Waiting) : ∀ {s : State}, Legal s →
    Legal (State.drainList c n l s) := by
  induction l with
  | nil => intro s hw; exact State.modSlot_legal _ _ _ hw
  | cons e t ih =>
    intro s hw
    unfold State.drainList
    dsimp only
    split
    · exact ih hw
    · split
      · exact State.modSlot_legal _ _ _ hw
      · exact State.cancelAt_legal _ _ _ _ _ _ (State.modSlot_legal _ _ _ hw)
      · exact ih (State.releaseWaiting_legal _ _ _ _ hw)

theorem State.drainWaiting_legal {s : State} (c : Nat) (n : Nat) (hw : Legal s) : Legal (State.drainWaiting s c n) := by
  unfold State.drainWaiting
  repeat' (first
    | with_reducible assumption | with_reducible refine ite_legal ?_ ?_ | with_reducible apply State.drainList_legal | split
    | dsimp only)

/-! ### Memory -/

theorem State.modLink_legal {s : State} (l : Nat) (f : Link → Link) (hw : Legal s) : Legal (State.modLink s l f) := hw

theorem State.flitsOn_legal {s : State} (ls : Option (List Nat)) (hw : Legal s) : Legal (State.flitsOn s ls) :=
  foldl_legal _ (fun _ _ h => State.modLink_legal _ _ h) hw

theorem State.sendFlits_legal {s : State} (f : Flight) (hw : Legal s) : Legal (State.sendFlits s f) := State.flitsOn_legal _ hw

theorem State.cross_legal {s : State} (p : Page) (back : Bool) (hw : Legal s) : Legal (State.cross s p back) :=
  State.flitsOn_legal _ hw

/-- R408: a digest has 64 bytes. -/
theorem sha512_length (bs : List Byte) : (sha512 bs).length = 64 := by simp [sha512]

/-- What crosses no link, as every place of the issuing core's own die, sends no flit. -/
theorem State.cross_none {s : State} {p : Page} {back : Bool} (h : s.spans p back = some []) : s.cross p back = s := by
  simp [State.cross, State.flitsOn, h]

/-- Flits change links alone. -/
theorem State.flitsOn_links (s : State) (ls : Option (List Nat)) : { s.flitsOn ls with links := s.links } = s := by
  unfold State.flitsOn
  generalize ls.getD [] = l
  have h : ∀ (l : List Nat) (t : State), { t with links := s.links } = s → { l.foldl (fun t l => t.modLink l (fun k => k.send 1)) t with links := s.links } = s := by
    intro l
    induction l with
    | nil => intro t ht; exact ht
    | cons a l ih => intro t ht; exact ih _ ht
  exact h l s rfl

/-- An access of a slot that has no access under way is settled. -/
theorem State.settled_of_drained {s : State} (h : s.drained = true) : s.settled = true := by
  simp only [State.drained, State.settled, List.isEmpty_iff] at *
  simp [h]

theorem execLdZ_legal (d : GReg) (a : GReg) (ea : Bool) (sz : Size) (ann : Ann) (off : BitVec 7) {s : State} (hw : Legal s) :
    LegalOut (execLdZ d a ea sz ann off s) :=
  entered_legal _ hw (State.aligned_legal _ _ hw)

theorem execLdS_legal (d : GReg) (a : GReg) (ea : Bool) (sz : Size) (ann : Ann) (off : BitVec 7) {s : State} (hw : Legal s) :
    LegalOut (execLdS d a ea sz ann off s) :=
  entered_legal _ hw (State.aligned_legal _ _ hw)

theorem execSt_legal (d : GReg) (a : GReg) (ea : Bool) (sz : Size) (ann : Ann) (off : BitVec 7) {s : State} (hw : Legal s) :
    LegalOut (execSt d a ea sz ann off s) :=
  entered_legal _ hw (State.aligned_legal _ _ hw)

theorem execLdv_legal (v : VReg) (a : GReg) (ea : Bool) (ann : Ann) (off : BitVec 10) {s : State} (hw : Legal s) :
    LegalOut (execLdv v a ea ann off s) :=
  entered_legal _ hw (State.aligned_legal _ _ hw)

theorem execStv_legal (v : VReg) (a : GReg) (ea : Bool) (ann : Ann) (off : BitVec 10) {s : State} (hw : Legal s) :
    LegalOut (execStv v a ea ann off s) :=
  entered_legal _ hw (State.aligned_legal _ _ hw)

theorem execLdvt_legal (v : VReg) (a : GReg) (ea : Bool) (es : ESize) (off : BitVec 10) {s : State} (hw : Legal s) :
    LegalOut (execLdvt v a ea es off s) :=
  entered_legal _ hw (State.aligned_legal _ _ hw)

theorem execFence_legal (k : FenceKind) (sc : Scope) {s : State} (hw : Legal s) : LegalOut (execFence k sc s) := by
  unfold execFence
  repeat' (first
    | with_reducible assumption | with_reducible refine ite_legal ?_ ?_ | with_reducible apply entered_legal
    | with_reducible apply State.stallFor_legal | with_reducible apply State.retire_legal
    | with_reducible apply State.modWork_legal | with_reducible apply legalOut_next | split | dsimp only)

theorem State.prefetch_legal {s : State} (va : Word) (hw : Legal s) :
    Legal (State.prefetch s va) := by
  unfold State.prefetch
  repeat' (first
    | with_reducible assumption | with_reducible refine ite_legal ?_ ?_ | with_reducible apply State.modCore_legal
    | split | dsimp only)

theorem execPf_legal (a : GReg) {s : State} (hw : Legal s) : LegalOut (execPf a s) := by
  unfold execPf
  repeat' (first
    | with_reducible assumption | with_reducible refine ite_legal ?_ ?_ | with_reducible apply entered_legal
    | with_reducible apply State.prefetch_legal | with_reducible apply State.retire_legal
    | with_reducible apply legalOut_next | with_reducible apply legalOut_fault | with_reducible apply legalOut_refused
    | split | dsimp only)

theorem execSalloc_legal (a : GReg) (b : GReg) (ea : Bool) (eb : Bool) {s : State} (hw : Legal s) :
    LegalOut (execSalloc a b ea eb s) := by
  unfold execSalloc
  repeat' (first
    | with_reducible assumption | with_reducible refine ite_legal ?_ ?_ | with_reducible apply entered_legal
    | with_reducible apply State.trap_legal | with_reducible apply State.retire_legal
    | with_reducible apply State.stallFor_legal | with_reducible apply State.clearValid_legal
    | with_reducible apply legalOut_next | split | dsimp only)

theorem execQbind_legal (q : QReg) (a : GReg) (ea : Bool) {s : State} (hw : Legal s) : LegalOut (execQbind q a ea s) := by
  unfold execQbind
  repeat' (first
    | with_reducible assumption | with_reducible refine ite_legal ?_ ?_ | with_reducible apply entered_legal
    | with_reducible apply State.illegal_legal | with_reducible apply State.trap_legal
    | with_reducible apply State.retire_legal | with_reducible apply State.modWork_legal
    | with_reducible apply State.modCore_legal | with_reducible apply legalOut_next | split | dsimp only)

theorem execQfree_legal (q : QReg) {s : State} (hw : Legal s) : LegalOut (execQfree q s) := by
  unfold execQfree
  repeat' (first
    | with_reducible assumption | with_reducible refine ite_legal ?_ ?_ | with_reducible apply entered_legal
    | with_reducible apply State.retire_legal | with_reducible apply State.modWork_legal
    | with_reducible apply State.modCore_legal | with_reducible apply legalOut_next | split | dsimp only)

theorem execQstat_legal (d : GReg) (q : QReg) {s : State} (hw : Legal s) : LegalOut (execQstat d q s) := by
  unfold execQstat
  repeat' (first
    | with_reducible assumption | with_reducible refine ite_legal ?_ ?_ | with_reducible apply entered_legal
    | with_reducible apply State.retireG_legal | with_reducible apply legalOut_next | split | dsimp only)

theorem State.takeStream_legal {s : State} (r : Nat) (k : Nat) (kind : AccKind) (d : Dest) (hw : Legal s) :
    Legal (State.takeStream s r k kind d) := by
  unfold State.takeStream
  repeat' (first
    | with_reducible assumption | with_reducible refine ite_legal ?_ ?_ | with_reducible apply State.abortOwner_legal
    | with_reducible apply State.modCore_legal | with_reducible apply State.modRegs_legal
    | with_reducible apply State.sendBack_legal | with_reducible apply State.retire_legal | split | dsimp only)

theorem State.streamRead_legal {s : State} (q : QReg) (k : Nat) (kind : AccKind) (d : Dest) (hw : Legal s) :
    Legal (State.streamRead s q k kind d) := by
  unfold State.streamRead
  repeat' (first
    | with_reducible assumption | with_reducible refine ite_legal ?_ ?_ | with_reducible apply State.trap_legal
    | with_reducible apply State.stallFor_legal | with_reducible apply State.takeStream_legal | split | dsimp only)

theorem execQget_legal (d : GReg) (q : QReg) {s : State} (hw : Legal s) : LegalOut (execQget d q s) :=
  entered_legal _ hw (State.streamRead_legal _ _ _ _ hw)

theorem execQgetv_legal (v : VReg) (q : QReg) {s : State} (hw : Legal s) : LegalOut (execQgetv v q s) :=
  entered_legal _ hw (State.streamRead_legal _ _ _ _ hw)

theorem execAmo32_legal (d : GReg) (a : GReg) (b : GReg) (op : Aop) (ann : AAnn) {s : State} (hw : Legal s) :
    LegalOut (execAmo32 d a b op ann s) :=
  entered_legal _ hw (State.aligned_legal _ _ hw)

theorem execAmo64_legal (d : GReg) (a : GReg) (b : GReg) (op : Aop) (ann : AAnn) {s : State} (hw : Legal s) :
    LegalOut (execAmo64 d a b op ann s) :=
  entered_legal _ hw (State.aligned_legal _ _ hw)

theorem execFaddF32_legal (d : GReg) (a : GReg) (b : GReg) (ea : Bool) (eb : Bool) {s : State} (hw : Legal s) :
    LegalOut (execFaddF32 d a b ea eb s) :=
  entered_legal _ hw (State.aligned_legal _ _ hw)

theorem execFaddF16_legal (d : GReg) (a : GReg) (b : GReg) (ea : Bool) (eb : Bool) {s : State} (hw : Legal s) :
    LegalOut (execFaddF16 d a b ea eb s) :=
  entered_legal _ hw (State.aligned_legal _ _ hw)

theorem execFaddF64_legal (d : GReg) (a : GReg) (b : GReg) (ea : Bool) (eb : Bool) {s : State} (hw : Legal s) :
    LegalOut (execFaddF64 d a b ea eb s) :=
  entered_legal _ hw (State.aligned_legal _ _ hw)

theorem execFaddBf16_legal (d : GReg) (a : GReg) (b : GReg) (ea : Bool) (eb : Bool) {s : State} (hw : Legal s) :
    LegalOut (execFaddBf16 d a b ea eb s) :=
  entered_legal _ hw (State.aligned_legal _ _ hw)

theorem execDecp_legal (d : GReg) (a : GReg) (ea : Bool) {s : State} (hw : Legal s) : LegalOut (execDecp d a ea s) :=
  entered_legal _ hw (State.aligned_legal _ _ hw)

/-! ### Objects -/

theorem State.find_legal {s : State} (va : Word) (code : Nat) (einfo : Nat) (hw : Legal s) :
    (State.find s va code einfo).Keeps := by
  unfold State.find
  repeat' (first
    | with_reducible assumption | with_reducible refine ite_legal ?_ ?_ | with_reducible apply State.trap_legal
    | with_reducible apply State.stallFor_legal | with_reducible apply State.abortContext_legal | split | dsimp only [Found.Keeps])

theorem State.findAligned_legal {s : State} (va : Word) (al : Nat) (code : Nat) (einfo : Nat) (hw : Legal s) :
    (State.findAligned s va al code einfo).Keeps := by
  unfold State.findAligned
  repeat' (first
    | with_reducible assumption | with_reducible refine ite_legal ?_ ?_ | with_reducible apply State.trap_legal
    | with_reducible apply State.find_legal | split | with_reducible refine Found.Keeps.stop ?_ (by assumption)
    | dsimp only [Found.Keeps])

theorem State.refusedHere_legal {s : State} (va : Word) (hw : Legal s) : Legal (State.refusedHere s va) :=
  State.deferTo_legal _ _ _ _ _ _ _ (State.retire_legal hw)

theorem State.refusedStore_legal {s : State} (va : Word) (hw : Legal s) : Legal (State.refusedStore s va) :=
  State.event_legal _ _ _ _ _ (State.retire_legal hw)

theorem State.eccHere_legal {s : State} (va : Word) (l : Loc) (n : Nat) (hw : Legal s) :
    Legal (State.eccHere s va l n) := by
  unfold State.eccHere
  repeat' (first
    | with_reducible assumption | with_reducible refine ite_legal ?_ ?_ | with_reducible apply State.eccAbort_legal
    | with_reducible apply State.refusedHere_legal | split | dsimp only)

theorem State.awayFault_legal {s : State} (late : Bool) (cause : Nat) (va : Word) (einfo : Word) (hw : Legal s) :
    Legal (State.awayFault s late cause va einfo) :=
  ite_legal (State.deferTo_legal _ _ _ _ _ _ _ (State.retire_legal hw)) (State.trap_legal _ _ _ hw)

theorem State.readCheck_legal {s : State} (va : Word) (p : Page) (n : Nat) (einfo : Nat) (late : Bool) (hw : Legal s) :
    LegalPair (State.readCheck s va p n einfo late) := by
  unfold State.readCheck
  repeat' (first
    | with_reducible assumption | with_reducible refine ite_legal ?_ ?_ | with_reducible apply State.eccHere_legal
    | with_reducible apply State.warnUninit_legal | with_reducible apply State.trap_legal
    | with_reducible apply State.awayFault_legal
    | with_reducible refine legalPair_mk ?_ ?_ | with_reducible exact legalOpt_none | with_reducible apply legalOpt_some
    | split | dsimp only)

theorem State.readBlock_legal {s : State} (va : Word) (n : Nat) (al : Nat) (late : Bool) (hw : Legal s) :
    (State.readBlock s va n al late).Keeps := by
  unfold State.readBlock
  repeat' (first
    | with_reducible assumption | with_reducible refine ite_legal ?_ ?_ | with_reducible apply State.findAligned_legal
    | with_reducible apply State.trap_legal | with_reducible apply State.stallFor_legal
    | with_reducible apply State.awayFault_legal | with_reducible apply State.cross_legal
    | with_reducible apply State.readCheck_legal | split
    | with_reducible refine Found.Keeps.stop ?_ (by assumption) | refine LegalPair.go ?_ (by assumption)
    | refine LegalPair.stop ?_ (by assumption) | dsimp only [Block.Keeps])

theorem State.arrive_legal {s : State} (l : Loc) (n : Nat) (status : Option Nat) (wd : Bool) (hw : Legal s) :
    Legal (State.arrive s l n status wd) :=
  State.writeNat_legal hw _ _ _

theorem State.findObject_legal {s : State} (va : Word) (hw : Legal s) : (State.findObject s va).Keeps := by
  unfold State.findObject
  repeat' (first
    | with_reducible assumption | with_reducible refine ite_legal ?_ ?_ | with_reducible apply State.trap_legal
    | with_reducible apply State.find_legal | split | with_reducible refine Found.Keeps.stop ?_ (by assumption)
    | dsimp only [Found.Keeps])

theorem State.findCell_legal {s : State} (va : Word) (hw : Legal s) : (State.findCell s va).Keeps := by
  unfold State.findCell
  repeat' (first
    | with_reducible assumption | with_reducible refine ite_legal ?_ ?_ | with_reducible apply State.findAligned_legal
    | with_reducible apply State.trap_legal | split | with_reducible refine Found.Keeps.stop ?_ (by assumption)
    | dsimp only [Found.Keeps])

theorem State.endSelf_legal {s : State} (hw : Legal s) : Legal (State.endSelf s) := by
  unfold State.endSelf
  repeat' (first
    | with_reducible assumption | with_reducible refine ite_legal ?_ ?_ | with_reducible apply State.endHandler_legal
    | with_reducible apply State.endWork_legal | with_reducible apply State.retire_legal | split | dsimp only)

theorem State.parkAt_legal {s : State} (pc : Word) (wt : Wait) (until_ : Option Nat) (hw : Legal s) :
    Legal (State.parkAt s pc wt until_) :=
  State.parkSlot_legal _ _ _ _ _ (State.retire_legal hw)

theorem State.joinWait_legal {s : State} (l : Loc) (hw : Legal s) : Legal (State.joinWait s l) := by
  unfold State.joinWait
  repeat' (first
    | with_reducible assumption | with_reducible refine ite_legal ?_ ?_ | with_reducible apply State.parkAt_legal
    | with_reducible apply State.writeNat_legal | with_reducible apply State.endSelf_legal | split | dsimp only)

/-! ### Tasks -/

theorem State.threadOnly_legal {s : State} (va einfo : Word) {k : State → State} (hw : Legal s) (hk : Legal (k s)) :
    Legal (s.threadOnly va einfo k) := ite_legal hk (State.trap_legal _ _ _ hw)

theorem State.waitWord_legal {s : State} (va : Word) (p : Page) (b : Word) (us : Nat) (hw : Legal s) :
    Legal (State.waitWord s va p b us) := by
  have hc := State.cross_legal p true hw
  refine ite_legal (State.stallFor_legal _ hw) (ite_legal (State.refusedHere_legal _ hc) (ite_legal (State.stallFor_legal _ hw) ?_))
  have h := State.readCheck_legal va p 8 0 true hc
  generalize State.readCheck (s.cross p true) va p 8 0 true = x at h ⊢
  obtain ⟨s1, _ | t⟩ := x
  · exact ite_legal (State.parkAt_legal _ _ _ h.1) (State.retire_legal h.1)
  · exact h.2 t rfl

theorem execWaita_legal (d : GReg) (a : GReg) (b : GReg) (ea : Bool) (eb : Bool) {s : State} (hw : Legal s) :
    LegalOut (execWaita d a b ea eb s) := by
  unfold execWaita
  repeat' (first
    | with_reducible assumption | with_reducible refine ite_legal ?_ ?_ | with_reducible apply entered_legal
    | with_reducible apply State.threadOnly_legal | with_reducible apply State.illegal_legal
    | with_reducible apply State.findAligned_legal | with_reducible apply State.waitWord_legal
    | with_reducible apply State.trap_legal | with_reducible apply legalOut_next | with_reducible apply legalOut_fault
    | with_reducible apply legalOut_refused | with_reducible refine Found.Keeps.stop ?_ (by assumption) | split
    | dsimp only)

theorem State.barrier_legal {s : State} (sc : Scope) (hw : Legal s) : Legal (State.barrier s sc) := by
  unfold State.barrier
  repeat' (first
    | with_reducible assumption | with_reducible refine ite_legal ?_ ?_ | with_reducible apply State.threadOnly_legal
    | with_reducible apply State.find_legal | with_reducible apply State.stallFor_legal
    | with_reducible apply State.retire_legal | with_reducible apply State.barSettle_legal
    | with_reducible exact Found.Keeps.stop (by with_reducible apply State.find_legal <;> assumption) (by assumption)
    | split | dsimp only)

theorem execBarQuad_legal {s : State} (hw : Legal s) : LegalOut (execBarQuad s) :=
  entered_legal _ hw (State.barrier_legal _ hw)

theorem execBarClus_legal {s : State} (hw : Legal s) : LegalOut (execBarClus s) :=
  entered_legal _ hw (State.barrier_legal _ hw)

theorem execBarDie_legal {s : State} (hw : Legal s) : LegalOut (execBarDie s) :=
  entered_legal _ hw (State.barrier_legal _ hw)

theorem execBarMod_legal {s : State} (hw : Legal s) : LegalOut (execBarMod s) :=
  entered_legal _ hw (State.barrier_legal _ hw)

theorem execBarPod_legal {s : State} (hw : Legal s) : LegalOut (execBarPod s) :=
  entered_legal _ hw (State.barrier_legal _ hw)

theorem execPark_legal (a : GReg) (ea : Bool) {s : State} (hw : Legal s) : LegalOut (execPark a ea s) := by
  unfold execPark
  repeat' (first
    | with_reducible assumption | with_reducible refine ite_legal ?_ ?_ | with_reducible apply entered_legal
    | with_reducible apply State.threadOnly_legal | with_reducible apply State.illegal_legal
    | with_reducible apply State.stallFor_legal | with_reducible apply State.parkAt_legal
    | with_reducible apply State.wake_legal | with_reducible apply legalOut_next | with_reducible apply legalOut_fault
    | with_reducible apply legalOut_refused | split | dsimp only)

theorem execBoinit_legal (a : GReg) (b : GReg) (ea : Bool) (eb : Bool) {s : State} (hw : Legal s) :
    LegalOut (execBoinit a b ea eb s) := by
  unfold execBoinit
  repeat' (first
    | with_reducible assumption | with_reducible refine ite_legal ?_ ?_ | with_reducible apply entered_legal
    | with_reducible apply State.cross_legal | with_reducible apply State.eccHere_legal
    | with_reducible apply State.findObject_legal | with_reducible apply State.illegal_legal
    | with_reducible apply State.stallFor_legal | with_reducible apply State.refusedHere_legal
    | with_reducible apply State.retire_legal | with_reducible apply State.writeNat_legal | with_reducible apply legalOut_next
    | split | with_reducible refine Found.Keeps.stop ?_ (by assumption) | dsimp only)

theorem execBoarr_legal (a : GReg) (b : GReg) (ea : Bool) (eb : Bool) {s : State} (hw : Legal s) :
    LegalOut (execBoarr a b ea eb s) := by
  unfold execBoarr
  repeat' (first
    | with_reducible assumption | with_reducible refine ite_legal ?_ ?_ | with_reducible apply entered_legal
    | with_reducible apply State.cross_legal | with_reducible apply State.eccHere_legal
    | with_reducible apply State.findObject_legal | with_reducible apply State.stallFor_legal
    | with_reducible apply State.refusedHere_legal | with_reducible apply State.readCheck_legal
    | with_reducible apply State.retire_legal | with_reducible apply State.arrive_legal | with_reducible apply legalOut_next
    | split | with_reducible refine Found.Keeps.stop ?_ (by assumption) | refine LegalPair.go ?_ (by assumption)
    | refine LegalPair.stop ?_ (by assumption) | dsimp only)

theorem execBowait_legal (a : GReg) (b : GReg) (ea : Bool) (eb : Bool) {s : State} (hw : Legal s) :
    LegalOut (execBowait a b ea eb s) := by
  unfold execBowait
  repeat' (first
    | with_reducible assumption | with_reducible refine ite_legal ?_ ?_ | with_reducible apply entered_legal
    | with_reducible apply State.cross_legal | with_reducible apply State.eccHere_legal
    | with_reducible apply State.threadOnly_legal | with_reducible apply State.findObject_legal
    | with_reducible apply State.stallFor_legal | with_reducible apply State.refusedHere_legal
    | with_reducible apply State.readCheck_legal | with_reducible apply State.retire_legal
    | with_reducible apply State.setWsum_legal | with_reducible apply State.parkSlot_legal
    | with_reducible apply legalOut_next | with_reducible apply legalOut_fault | with_reducible apply legalOut_refused
    | with_reducible refine Found.Keeps.stop ?_ (by assumption) | with_reducible refine LegalPair.go ?_ (by assumption)
    | with_reducible refine LegalPair.stop ?_ (by assumption) | split | dsimp only)

theorem execFork_legal (d : GReg) (a : GReg) (b : GReg) (ea : Bool) (eb : Bool) {s : State} (hw : Legal s) :
    LegalOut (execFork d a b ea eb s) := by
  unfold execFork
  repeat' (first
    | with_reducible assumption | with_reducible refine ite_legal ?_ ?_ | with_reducible apply entered_legal
    | with_reducible apply State.illegal_legal | with_reducible apply State.stallFor_legal
    | with_reducible apply State.retireG_legal | with_reducible apply State.abortContext_legal
    | with_reducible apply State.pushDeque_legal | with_reducible apply legalOut_next
    | with_reducible apply legalOut_fault | with_reducible apply legalOut_refused | split | dsimp only)

theorem State.joinAt_legal {s : State} (va : Word) (l : Loc) (hw : Legal s) : Legal (State.joinAt s va l) :=
  ite_legal (State.endSelf_legal (State.event_legal _ _ _ _ _ hw))
    (ite_legal (ite_legal (State.endSelf_legal (State.writeNat_legal hw _ _ _)) (State.retireTo_legal _ (State.writeNat_legal hw _ _ _)))
      (State.joinWait_legal _ (State.writeNat_legal hw _ _ _)))

theorem execJoin_legal (a : GReg) (ea : Bool) {s : State} (hw : Legal s) : LegalOut (execJoin a ea s) := by
  unfold execJoin
  repeat' (first
    | with_reducible assumption | with_reducible refine ite_legal ?_ ?_ | with_reducible apply entered_legal
    | with_reducible apply State.cross_legal | with_reducible apply State.eccHere_legal
    | with_reducible apply State.findCell_legal | with_reducible apply State.stallFor_legal
    | with_reducible apply State.refusedHere_legal | with_reducible apply State.readCheck_legal
    | with_reducible apply State.joinAt_legal | with_reducible apply legalOut_next | split
    | with_reducible refine Found.Keeps.stop ?_ (by assumption) | refine LegalPair.go ?_ (by assumption)
    | refine LegalPair.stop ?_ (by assumption) | dsimp only)

theorem State.split_legal {s : State} (d : Nat) (n : Nat) (l : Loc) (hw : Legal s) : Legal (State.split s d n l) := by
  unfold State.split
  repeat' (first
    | with_reducible assumption | with_reducible refine ite_legal ?_ ?_ | with_reducible apply State.pushReady_legal
    | with_reducible apply State.joinWait_legal | with_reducible apply State.writeNat_legal | split
    | with_reducible refine foldl_legal _ (fun t e hw => ?_) ?_ | dsimp only)

theorem execRfork_legal (a : GReg) (b : GReg) (ea : Bool) (eb : Bool) {s : State} (hw : Legal s) :
    LegalOut (execRfork a b ea eb s) := by
  unfold execRfork
  repeat' (first
    | with_reducible assumption | with_reducible refine ite_legal ?_ ?_ | with_reducible apply entered_legal
    | with_reducible apply State.cross_legal | with_reducible apply State.eccHere_legal
    | with_reducible apply State.stallFor_legal | with_reducible apply State.readBlock_legal
    | with_reducible apply State.illegal_legal | with_reducible apply State.findCell_legal
    | with_reducible apply State.refusedHere_legal | with_reducible apply State.readCheck_legal
    | with_reducible apply State.retireTo_legal | with_reducible apply State.split_legal | with_reducible apply legalOut_next
    | split | with_reducible refine Found.Keeps.stop ?_ (by assumption)
    | with_reducible refine Block.Keeps.stop ?_ (by assumption) | with_reducible refine Block.Keeps.data ?_ (by assumption)
    | refine LegalPair.go ?_ (by assumption) | refine LegalPair.stop ?_ (by assumption) | dsimp only)

theorem execPost_legal (a : GReg) (b : GReg) (ea : Bool) (eb : Bool) {s : State} (hw : Legal s) :
    LegalOut (execPost a b ea eb s) := by
  unfold execPost
  repeat' (first
    | with_reducible assumption | with_reducible refine ite_legal ?_ ?_ | with_reducible apply entered_legal
    | with_reducible apply State.illegal_legal | with_reducible apply State.trap_legal
    | with_reducible apply State.stallFor_legal | with_reducible apply State.pushReady_legal
    | with_reducible apply State.retire_legal | with_reducible apply legalOut_next | split | dsimp only)

theorem State.findRecord_legal {s : State} (va : Word) (hw : Legal s) : (State.findRecord s va).Keeps := by
  unfold State.findRecord
  repeat' (first
    | with_reducible assumption | with_reducible refine ite_legal ?_ ?_ | with_reducible apply State.findAligned_legal
    | with_reducible apply State.trap_legal | split | with_reducible refine Found.Keeps.stop ?_ (by assumption)
    | dsimp only [Found.Keeps])

theorem State.writeRecord_legal {s : State} (l : Loc) (d : Nat) (hw : Legal s) : Legal (State.writeRecord s l d) := by
  unfold State.writeRecord
  repeat' (first
    | with_reducible assumption | with_reducible refine ite_legal ?_ ?_ | with_reducible apply State.retire_legal
    | with_reducible apply State.writeNat_legal | with_reducible apply State.dispatch_legal | split | dsimp only)

theorem execCdinit_legal (a : GReg) (b : GReg) (ea : Bool) (eb : Bool) {s : State} (hw : Legal s) :
    LegalOut (execCdinit a b ea eb s) := by
  unfold execCdinit
  repeat' (first
    | with_reducible assumption | with_reducible refine ite_legal ?_ ?_ | with_reducible apply entered_legal
    | with_reducible apply State.cross_legal | with_reducible apply State.eccHere_legal
    | with_reducible apply State.findRecord_legal | with_reducible apply State.stallFor_legal
    | with_reducible apply State.readBlock_legal | with_reducible apply State.illegal_legal
    | with_reducible apply State.trap_legal | with_reducible apply State.refusedStore_legal
    | with_reducible apply State.writeRecord_legal | with_reducible apply legalOut_next | split
    | with_reducible refine Block.Keeps.stop ?_ (by assumption) | with_reducible refine Block.Keeps.data ?_ (by assumption)
    | with_reducible refine Found.Keeps.stop ?_ (by assumption) | dsimp only)

theorem State.setAllot_legal {s : State} (n : Nat) (keep : Nat) (hw : Legal s) : Legal (State.setAllot s n keep) := hw

theorem execGrow_legal (d : GReg) (a : GReg) (ea : Bool) {s : State} (hw : Legal s) : LegalOut (execGrow d a ea s) := by
  unfold execGrow
  repeat' (first
    | with_reducible assumption | with_reducible refine ite_legal ?_ ?_ | with_reducible apply entered_legal
    | with_reducible apply State.illegal_legal | with_reducible apply State.retireG_legal
    | with_reducible apply State.setAllot_legal | with_reducible apply legalOut_next | split | dsimp only)

theorem execShrink_legal (d : GReg) (a : GReg) (ea : Bool) {s : State} (hw : Legal s) : LegalOut (execShrink d a ea s) := by
  unfold execShrink
  repeat' (first
    | with_reducible assumption | with_reducible refine ite_legal ?_ ?_ | with_reducible apply entered_legal
    | with_reducible apply State.illegal_legal | with_reducible apply State.trap_legal
    | with_reducible apply State.stallFor_legal | with_reducible apply State.retireG_legal
    | with_reducible apply State.setAllot_legal | with_reducible apply legalOut_next | split | dsimp only)

theorem execStgpush_legal (d : GReg) (a : GReg) (b : GReg) (ea : Bool) (eb : Bool) {s : State} (hw : Legal s) :
    LegalOut (execStgpush d a b ea eb s) := by
  unfold execStgpush
  repeat' (first
    | with_reducible assumption | with_reducible refine ite_legal ?_ ?_ | with_reducible apply entered_legal
    | with_reducible apply State.illegal_legal | with_reducible apply State.stallFor_legal
    | with_reducible apply State.retireG_legal | with_reducible apply State.modCluster_legal
    | with_reducible apply legalOut_next | split | dsimp only)

theorem execStgsub_legal (a : GReg) (ea : Bool) {s : State} (hw : Legal s) : LegalOut (execStgsub a ea s) := by
  unfold execStgsub
  repeat' (first
    | with_reducible assumption | with_reducible refine ite_legal ?_ ?_ | with_reducible apply entered_legal
    | with_reducible apply State.illegal_legal | with_reducible apply State.retire_legal
    | with_reducible apply State.modCore_legal | with_reducible apply legalOut_next | split | dsimp only)

end Sys2Proof.Machine
end

