-- ==== Sys2Proof/Laws/LegalEngines.lean ====
section
/-! SUPPORT. What every step keeps (`Safety.Legal`): one lemma for each operation that gives a state; messages, link engines, copy engines, tensors and the GMU. -/

namespace Sys2Proof.Machine

open Sys2Proof.Safety

/-! ### Messages -/

theorem occurs_legal (unit : Bool) {t : State} (hw : Legal t) : LegalOut (occurs unit t) := by
  unfold occurs
  split
  · exact legalOut_next hw
  · exact legalOut_fault _

theorem State.refusePacket_legal {s : State} (p : Packet) (cause : Nat) (hw : Legal s) :
    Legal (State.refusePacket s p cause) :=
  ite_legal hw (State.event_legal _ _ _ _ _ hw)

theorem State.writeWords_legal {s : State} (l : Loc) (ws : List Word) (hw : Legal s) : Legal (State.writeWords s l ws) :=
  State.write_legal hw _ _

theorem State.putMailbox_legal {s : State} (c : Nat) (p : Packet) (h0 : Words4) (hw : Legal s) :
    Legal (State.putMailbox s c p h0) := by
  unfold State.putMailbox
  repeat' (first
    | with_reducible assumption | with_reducible refine ite_legal ?_ ?_ | with_reducible apply State.abortOwner_legal
    | with_reducible apply State.write_legal | with_reducible apply State.writeNat_legal
    | with_reducible apply State.writeWords_legal | split | dsimp only)

theorem State.putRing_legal {s : State} (c : Nat) (r : Nat) (ws : List Word) (hw : Legal s) : Legal (State.putRing s c r ws) := by
  unfold State.putRing
  repeat' (first
    | with_reducible assumption | with_reducible refine ite_legal ?_ ?_ | with_reducible apply State.writeNat_legal
    | with_reducible apply State.modCore_legal | split | with_reducible refine foldl_legal _ (fun t e hw => ?_) ?_
    | dsimp only)

theorem State.startHandler_legal {s : State} (c : Nat) (cls : Nat) (slot : Option Nat) (e : Entry) (hw : Legal s) :
    Legal (State.startHandler s c cls slot e) := by
  unfold State.startHandler
  repeat' (first
    | with_reducible assumption | with_reducible refine ite_legal ?_ ?_ | with_reducible apply State.setCore_legal
    | with_reducible apply State.pushReady_legal | split | dsimp only)

theorem State.landPacket_legal {s : State} (c : Nat) (p : Packet) (h0 : Words4) (hw : Legal s) :
    Legal (State.landPacket s c p h0) := by
  unfold State.landPacket
  repeat' (first
    | with_reducible assumption | with_reducible refine ite_legal ?_ ?_ | with_reducible apply State.modCore_legal
    | with_reducible apply State.writeWords_legal | with_reducible apply State.startHandler_legal
    | with_reducible apply State.putMailbox_legal | with_reducible apply State.putRing_legal | split | dsimp only)

theorem State.settle_legal {s : State} (c : Nat) (p : Packet) (hw : Legal s) : Legal (State.settle s c p) := by
  unfold State.settle
  repeat' (first
    | with_reducible assumption | with_reducible refine ite_legal ?_ ?_ | with_reducible apply State.refusePacket_legal
    | with_reducible apply State.modCore_legal | with_reducible apply State.landPacket_legal | split | dsimp only)

theorem State.arriveAt_legal {s : State} (c : Nat) (p : Packet) (hw : Legal s) : Legal (State.arriveAt s c p) := by
  unfold State.arriveAt
  repeat' (first
    | with_reducible assumption | with_reducible refine ite_legal ?_ ?_ | with_reducible apply State.refusePacket_legal
    | with_reducible apply State.event_legal | with_reducible apply State.setCore_legal
    | with_reducible apply State.settle_legal | split | dsimp only)

theorem State.drainPending_legal {s : State} (c : Nat) (mask : Word) (hw : Legal s) : Legal (State.drainPending s c mask) := by
  unfold State.drainPending
  repeat' (first
    | with_reducible assumption | with_reducible refine ite_legal ?_ ?_ | with_reducible apply State.pushReady_legal
    | with_reducible apply State.setCore_legal | split | with_reducible refine foldl_legal _ (fun t e hw => ?_) ?_
    | dsimp only)

theorem State.drainHolding_legal {s : State} (c : Nat) (cls : Nat) (hw : Legal s) : Legal (State.drainHolding s c cls) := by
  unfold State.drainHolding
  repeat' (first
    | with_reducible assumption | with_reducible refine ite_legal ?_ ?_ | with_reducible apply State.landPacket_legal
    | with_reducible apply State.refusePacket_legal | with_reducible apply State.modCore_legal | split
    | with_reducible refine foldl_legal _ (fun t e hw => ?_) ?_ | dsimp only)

theorem State.refuseHolding_legal {s : State} (c : Nat) (cls : Nat) (hw : Legal s) : Legal (State.refuseHolding s c cls) := by
  unfold State.refuseHolding
  repeat' (first
    | with_reducible assumption | with_reducible refine ite_legal ?_ ?_ | with_reducible apply State.refusePacket_legal
    | with_reducible apply State.modCore_legal | split | with_reducible refine foldl_legal _ (fun t e hw => ?_) ?_
    | dsimp only)

theorem State.postAlert_legal {s : State} (n : Nat) (hw : Legal s) : Legal (State.postAlert s n) :=
  ite_legal hw (State.arriveAt_legal _ _ hw)

theorem execHeldAlertRetry_legal (n : Nat) {s : State} (hw : Legal s) : LegalOut (execHeldAlertRetry n s) := by
  unfold execHeldAlertRetry
  repeat' (first
    | with_reducible assumption | with_reducible refine ite_legal ?_ ?_ | with_reducible apply occurs_legal
    | with_reducible apply State.settle_legal | with_reducible apply legalOut_next | split | dsimp only)

theorem State.sendFrom_legal {s : State} (cls : Nat) (va : Word) (w : Word) (route : Option IWord) (hw : Legal s) :
    Legal (State.sendFrom s cls va w route) := by
  unfold State.sendFrom
  repeat' (first
    | with_reducible assumption | with_reducible refine ite_legal ?_ ?_ | with_reducible apply State.trap_legal
    | with_reducible apply State.stallFor_legal | with_reducible apply State.abortOwner_legal
    | with_reducible apply State.readCheck_legal | with_reducible apply State.bump_legal
    | with_reducible apply State.retire_legal | with_reducible refine LegalPair.go ?_ (by assumption)
    | with_reducible refine LegalPair.stop ?_ (by assumption) | split | dsimp only)

theorem execSend_legal (cls : BitVec 6) (a : GReg) (b : GReg) (ea : Bool) (eb : Bool) {s : State} (hw : Legal s) :
    LegalOut (execSend cls a b ea eb s) := by
  unfold execSend
  repeat' (first
    | with_reducible assumption | with_reducible refine ite_legal ?_ ?_ | with_reducible apply entered_legal
    | with_reducible apply State.illegal_legal | with_reducible apply State.trap_legal
    | with_reducible apply State.sendFrom_legal | with_reducible apply legalOut_next | split | dsimp only)

theorem execSendr_legal (cls : BitVec 6) (a : GReg) (b : GReg) (ea : Bool) (eb : Bool) (route : IWord) {s : State}
    (hw : Legal s) :
    LegalOut (execSendr cls a b ea eb route s) := by
  unfold execSendr
  repeat' (first
    | with_reducible assumption | with_reducible refine ite_legal ?_ ?_ | with_reducible apply entered_legal
    | with_reducible apply State.illegal_legal | with_reducible apply State.sendFrom_legal
    | with_reducible apply legalOut_next | split | dsimp only)

theorem State.dropPacket_legal {s : State} (id : Nat) (hw : Legal s) : Legal (State.dropPacket s id) := hw

theorem State.hopOn_legal {s : State} (p : Packet) (c : Nat) (h0 : Dir) (hw : Legal s) : Legal (State.hopOn s p c h0) := by
  unfold State.hopOn
  repeat' (first
    | with_reducible assumption | with_reducible refine ite_legal ?_ ?_ | with_reducible apply State.refusePacket_legal
    | with_reducible apply State.dropPacket_legal | with_reducible apply State.modLink_legal | split | dsimp only)

theorem execPacketHeadRouting_legal (id : Nat) {s : State} (hw : Legal s) : LegalOut (execPacketHeadRouting id s) := by
  unfold execPacketHeadRouting
  repeat' (first
    | with_reducible assumption | with_reducible refine ite_legal ?_ ?_
    | with_reducible apply State.abortContext_legal | with_reducible apply State.hopOn_legal
    | with_reducible apply State.refusePacket_legal | with_reducible apply State.dropPacket_legal
    | with_reducible apply legalOut_next | split | dsimp only)

theorem execMessageArrival_legal (id : Nat) {s : State} (hw : Legal s) : LegalOut (execMessageArrival id s) := by
  unfold execMessageArrival
  repeat' (first
    | with_reducible assumption | with_reducible refine ite_legal ?_ ?_ | with_reducible apply State.arriveAt_legal
    | with_reducible apply State.dropPacket_legal | with_reducible apply legalOut_next | split | dsimp only)

theorem execGmRecordArrival_legal (id : Nat) {s : State} (hw : Legal s) : LegalOut (execGmRecordArrival id s) := by
  unfold execGmRecordArrival
  repeat' (first
    | with_reducible assumption | with_reducible refine ite_legal ?_ ?_ | with_reducible apply State.arriveAt_legal
    | with_reducible apply State.dropPacket_legal | with_reducible apply legalOut_next | split | dsimp only)

theorem execCmask_legal (a : GReg) (ea : Bool) {s : State} (hw : Legal s) : LegalOut (execCmask a ea s) :=
  entered_legal _ hw (State.retire_legal (State.modCore_legal _ _ hw))

theorem State.setCmask_legal {s : State} (c : Nat) (v : Word) (hw : Legal s) : Legal (State.setCmask s c v) :=
  State.drainPending_legal _ _ (State.modCore_legal _ _ hw)

theorem execCunmask_legal (a : GReg) (ea : Bool) {s : State} (hw : Legal s) : LegalOut (execCunmask a ea s) :=
  entered_legal _ hw (State.setCmask_legal _ _ (State.retire_legal hw))

theorem State.discardPending_legal {s : State} (c : Nat) (mask : Word) (hw : Legal s) :
    Legal (State.discardPending s c mask) := by
  unfold State.discardPending
  repeat' (first
    | with_reducible assumption | with_reducible refine ite_legal ?_ ?_ | with_reducible apply State.freeCell_legal
    | with_reducible apply State.setCore_legal | split | with_reducible refine foldl_legal _ (fun t e hw => ?_) ?_
    | dsimp only)

theorem execCpend_legal (d : GReg) (a : GReg) (ea : Bool) {s : State} (hw : Legal s) : LegalOut (execCpend d a ea s) :=
  entered_legal _ hw (State.retireG_legal _ _ (State.discardPending_legal _ _ hw))

theorem State.fmthAdmitAt_legal {s : State} (c : Nat) (hw : Legal s) : Legal (State.fmthAdmitAt s c) := by
  unfold State.fmthAdmitAt
  repeat' (first
    | with_reducible assumption | with_reducible refine ite_legal ?_ ?_ | with_reducible apply State.settle_legal
    | with_reducible apply State.modCore_legal | split | dsimp only)

theorem State.fmthRefuseAt_legal {s : State} (c : Nat) (hw : Legal s) : Legal (State.fmthRefuseAt s c) := by
  unfold State.fmthRefuseAt
  repeat' (first
    | with_reducible assumption | with_reducible refine ite_legal ?_ ?_ | with_reducible apply State.refusePacket_legal
    | with_reducible apply State.modCore_legal | split | dsimp only)

theorem execFmthAdmit_legal (core : Nat) {s : State} (hw : Legal s) : LegalOut (execFmthAdmit core s) :=
  occurs_legal _ (State.fmthAdmitAt_legal _ hw)

theorem execFmthRefuse_legal (core : Nat) {s : State} (hw : Legal s) : LegalOut (execFmthRefuse core s) :=
  occurs_legal _ (State.fmthRefuseAt_legal _ hw)

theorem execCmaskWrite_legal (core : Nat) (value : Word) {s : State} (hw : Legal s) : LegalOut (execCmaskWrite core value s) :=
  occurs_legal _ (State.setCmask_legal _ _ hw)

theorem State.completeSlot_legal {s : State} (c : Nat) (n : Nat) (hw : Legal s) : Legal (State.completeSlot s c n) := hw

theorem State.exchange_legal {s : State} (c : Nat) (off : Nat) (m : Nat) (moff : Nat) (rows : Nat) (hw : Legal s) :
    Legal (State.exchange s c off m moff rows) := by
  unfold State.exchange
  repeat' (first
    | with_reducible assumption | with_reducible refine ite_legal ?_ ?_ | with_reducible apply State.write_legal | split
    | dsimp only)

theorem State.swapRows_legal {s : State} (va : Word) (off : Nat) (m : Nat) (n : Nat) (moff : Nat) (rows : Nat) (hw :
    Legal s) :
    Legal (State.swapRows s va off m n moff rows) := by
  unfold State.swapRows
  repeat' (first
    | with_reducible assumption | with_reducible refine ite_legal ?_ ?_ | with_reducible apply State.abortOwner_legal
    | with_reducible apply State.trap_legal | with_reducible apply State.takeTrap_legal
    | with_reducible apply State.stallFor_legal | with_reducible apply State.warnUninit_legal
    | with_reducible apply State.exchange_legal | with_reducible apply State.completeSlot_legal
    | with_reducible apply State.retire_legal | split | dsimp only)

theorem execSwapx_legal (a : GReg) (b : GReg) (ea : Bool) (eb : Bool) {s : State} (hw : Legal s) :
    LegalOut (execSwapx a b ea eb s) := by
  unfold execSwapx
  repeat' (first
    | with_reducible assumption | with_reducible refine ite_legal ?_ ?_ | with_reducible apply entered_legal
    | with_reducible apply State.threadOnly_legal | with_reducible apply State.trap_legal
    | with_reducible apply State.illegal_legal | with_reducible apply State.stallFor_legal
    | with_reducible apply State.retire_legal | with_reducible apply State.swapRows_legal
    | with_reducible apply State.takeTrap_legal | with_reducible apply legalOut_next
    | with_reducible apply legalOut_fault | with_reducible apply legalOut_refused | split | dsimp only)

theorem execSwapxTimeout_legal (core : Nat) (slot : Nat) {s : State} (hw : Legal s) :
    LegalOut (execSwapxTimeout core slot s) := by
  unfold execSwapxTimeout
  repeat' (first
    | with_reducible assumption | with_reducible refine ite_legal ?_ ?_ | with_reducible apply occurs_legal
    | with_reducible apply State.takeTrap_legal | with_reducible apply legalOut_next | split | dsimp only)

/-! ### Engines -/

theorem State.findBlocks_legal {s : State} (va : Word) (k : AccKind) (l : List Nat) (hw : Legal s) :
    (State.findBlocks s va k l).Keeps := by
  induction l with
  | nil => exact True.intro
  | cons i t ih =>
    unfold State.findBlocks
    split
    · exact Found.Keeps.stop (State.find_legal _ _ _ hw) (by assumption)
    · split
      · exact State.trap_legal _ _ _ hw
      · split
        · exact State.trap_legal _ _ _ hw
        · split
          · exact Blocks.Keeps.stop ih (by assumption)
          · exact True.intro

theorem State.findImage_legal {s : State} (va : Word) (n : Nat) (k : AccKind) (hw : Legal s) :
    (State.findImage s va n k).Keeps := by
  unfold State.findImage
  repeat' (first
    | with_reducible assumption | with_reducible refine ite_legal ?_ ?_ | with_reducible apply State.trap_legal
    | with_reducible apply State.findBlocks_legal | with_reducible apply State.stallFor_legal | split
    | with_reducible refine Blocks.Keeps.stop ?_ (by assumption) | dsimp only [Blocks.Keeps])

theorem State.writeBlock_legal {s0 s : State} (va : Word) (bs : List Byte) (e : Page × Nat) (hw : Legal s) :
    Legal (s0.writeBlock va bs s e) :=
  ite_legal (State.write_legal hw _ _) (State.event_legal _ _ _ _ _ hw)

theorem State.writeBlocks_legal {s : State} (va : Word) (ps : List Page) (bs : List Byte) (hw : Legal s) :
    Legal (State.writeBlocks s va ps bs) :=
  State.flitsOn_legal _ (foldl_legal _ (fun _ e h => State.writeBlock_legal va bs e h) hw)

theorem State.readBlocks_legal {s : State} (va : Word) (ps : List Page) (late : Bool) (hw : Legal s) :
    (State.readBlocks s va ps late).Keeps := by
  have hf := State.flitsOn_legal (s.spansAll ps true) hw
  unfold State.readBlocks
  dsimp only
  split
  · exact State.awayFault_legal _ _ _ _ hf
  · split
    · exact getD_legal hf (State.readCheck_legal va _ 64 0 late hf).2
    · exact foldl_legal _ (fun t e hw => (State.readCheck_legal _ _ _ _ true hw).1) hf

theorem State.modHalf_legal {s : State} (seq : Nat) (f : Half → Half) (hw : Legal s) : Legal (State.modHalf s seq f) := hw

theorem State.grantId_legal {s : State} (cl : Nat) (seq : Nat) (r : Ret) (hw : Legal s) : Legal (State.grantId s cl seq r) :=
  hw

theorem State.grantList_legal (cl : Nat) (l : List (Nat × Ret)) : ∀ {s : State}, Legal s →
    Legal (State.grantList cl l s) := by
  induction l with
  | nil => intro s hw; exact State.modCluster_legal _ _ hw
  | cons e t ih =>
    intro s hw
    unfold State.grantList
    split
    · exact State.modCluster_legal _ _ hw
    · exact ih (State.grantId_legal _ _ _ hw)

theorem State.retireId_legal {s : State} (cl : Nat) (id : Nat) (hw : Legal s) : Legal (State.retireId s cl id) := by
  unfold State.retireId
  repeat' (first
    | with_reducible assumption | with_reducible refine ite_legal ?_ ?_ | with_reducible apply State.retireCmd_legal
    | with_reducible apply State.grantList_legal | split | dsimp only)

theorem State.retireHalf_legal {s : State} (h0 : Half) (hw : Legal s) : Legal (State.retireHalf s h0) :=
  ite_legal (State.retireId_legal _ _ hw) hw

theorem State.issuerEvent_legal {s : State} (h0 : Half) (cause : Nat) (eaddr : Word) (einfo : Word) (hw : Legal s) :
    Legal (State.issuerEvent s h0 cause eaddr einfo) :=
  State.event_legal _ _ _ _ _ hw

theorem State.issuerTrap_legal {s : State} (h0 : Half) (cause : Nat) (eaddr : Word) (hw : Legal s) :
    Legal (State.issuerTrap s h0 cause eaddr) :=
  State.deferTo_legal _ _ _ _ _ _ _ hw

theorem State.partnerGone_legal {s : State} (h0 : Half) (hw : Legal s) : Legal (State.partnerGone s h0) :=
  State.issuerEvent_legal _ _ _ _ hw

theorem State.atTarget_legal {s : State} (h : Half) {act : Loc → State} (hw : Legal s) (hact : ∀ l, Legal (act l)) :
    LegalOpt (s.atTarget h act) := by
  unfold State.atTarget
  dsimp only
  split
  · exact legalOpt_none
  · split
    · exact legalOpt_some (State.abortOwner_legal _ _ hw)
    · exact legalOpt_some (hact _)

theorem State.halfArrives_legal {s : State} (h : Half) (hw : Legal s) : LegalOpt (s.halfArrives h) :=
  State.atTarget_legal _ hw (fun _ => State.arrive_legal _ _ _ _ hw)

theorem State.withdrawnArrival_legal {s : State} (h : Half) (hw : Legal s) : Legal (s.withdrawnArrival h) := by
  unfold State.withdrawnArrival
  split
  · exact hw
  · split
    · exact LegalOpt.out (State.atTarget_legal _ hw (fun _ => State.writeNat_legal hw _ _ _)) (by assumption)
    · exact hw

theorem State.withdrawJob_legal {s : State} (e : Nat) (j : Job) (hw : Legal s) : Legal (State.withdrawJob s e j) :=
  State.retireHalf_legal _ (State.withdrawnArrival_legal _ (State.setEngine_legal _ _ hw))

theorem State.dropHalf_legal {s : State} (h0 : Half) (hw : Legal s) : Legal (State.dropHalf s h0) :=
  ite_legal (State.retireHalf_legal _ (State.withdrawnArrival_legal _ hw)) hw

theorem State.issueHalf_legal {s : State} (moving : Bool) (d : Nat) (ga : Word) (gb : Word) (eg : Nat) (l : Dir) (hw : Legal s) :
    Legal (State.issueHalf s moving d ga gb eg l) := by
  unfold State.issueHalf
  repeat' (first
    | with_reducible assumption | with_reducible refine ite_legal ?_ ?_ | with_reducible trivial
    | with_reducible apply State.illegal_legal | with_reducible apply State.trap_legal
    | with_reducible apply State.stallFor_legal | with_reducible apply State.setEngine_legal
    | with_reducible apply State.bump_legal | with_reducible apply State.modCluster_legal
    | with_reducible apply State.retire_legal | with_reducible apply State.modRegs_legal
    | with_reducible apply State.grantList_legal | split | with_reducible refine foldl_legal _ (fun t e hw => ?_) ?_
    | dsimp only)

theorem execLks_legal (a : GReg) (eg : BitVec 3) (l : Dir) {s : State} (hw : Legal s) : LegalOut (execLks a eg l s) :=
  entered_legal _ hw (State.issueHalf_legal _ _ _ _ _ _ hw)

theorem execLkm_legal (d : GReg) (a : GReg) (b : GReg) (eg : BitVec 3) (l : Dir) {s : State} (hw : Legal s) :
    LegalOut (execLkm d a b eg l s) :=
  entered_legal _ hw (State.issueHalf_legal _ _ _ _ _ _ hw)

theorem State.withEngine_legal {s : State} (l : Dir) (fn : Nat) {k : Nat → State} (hw : Legal s)
    (hk : ∀ e, Legal (k e)) : Legal (s.withEngine l fn k) := by
  unfold State.withEngine
  split
  · exact hk _
  · exact State.illegal_legal _ hw

theorem execLkq_legal (d : GReg) (l : Dir) {s : State} (hw : Legal s) : LegalOut (execLkq d l s) := by
  unfold execLkq
  repeat' (first
    | with_reducible assumption | with_reducible refine ite_legal ?_ ?_ | with_reducible apply entered_legal
    | with_reducible apply State.withEngine_legal | with_reducible apply State.retireG_legal
    | with_reducible apply legalOut_next | split | intro e | dsimp only)

theorem execLkfrz_legal (l : Dir) {s : State} (hw : Legal s) : LegalOut (execLkfrz l s) := by
  unfold execLkfrz
  repeat' (first
    | with_reducible assumption | with_reducible refine ite_legal ?_ ?_ | with_reducible apply entered_legal
    | with_reducible apply State.withEngine_legal | with_reducible apply State.retire_legal
    | with_reducible apply State.setEngine_legal | with_reducible apply State.stallFor_legal
    | with_reducible apply legalOut_next | split | intro e | dsimp only)

theorem execLkthw_legal (l : Dir) {s : State} (hw : Legal s) : LegalOut (execLkthw l s) := by
  unfold execLkthw
  repeat' (first
    | with_reducible assumption | with_reducible refine ite_legal ?_ ?_ | with_reducible apply entered_legal
    | with_reducible apply State.withEngine_legal | with_reducible apply State.retire_legal
    | with_reducible apply State.setEngine_legal | with_reducible apply legalOut_next | split | intro e | dsimp only)

theorem execLkdrain_legal (a : GReg) (l : Dir) {s : State} (hw : Legal s) : LegalOut (execLkdrain a l s) := by
  unfold execLkdrain
  repeat' (first
    | with_reducible assumption | with_reducible refine ite_legal ?_ ?_ | with_reducible apply entered_legal
    | with_reducible apply State.withEngine_legal | with_reducible apply State.illegal_legal
    | with_reducible apply State.findImage_legal | with_reducible apply State.writeBlocks_legal
    | with_reducible apply State.retire_legal | with_reducible apply legalOut_next | split | intro e
    | with_reducible refine Blocks.Keeps.stop ?_ (by assumption) | dsimp only)

theorem execLkload_legal (a : GReg) (l : Dir) {s : State} (hw : Legal s) : LegalOut (execLkload a l s) := by
  unfold execLkload
  repeat' (first
    | with_reducible assumption | with_reducible refine ite_legal ?_ ?_ | with_reducible apply entered_legal
    | with_reducible apply State.withEngine_legal | with_reducible apply State.illegal_legal
    | with_reducible apply State.findImage_legal | with_reducible apply State.readBlocks_legal
    | with_reducible apply State.retire_legal | with_reducible apply State.setEngine_legal
    | with_reducible apply legalOut_next | split | intro e | with_reducible refine Image.Keeps.stop ?_ (by assumption)
    | with_reducible refine Image.Keeps.ok ?_ (by assumption) | with_reducible refine Blocks.Keeps.stop ?_ (by assumption)
    | dsimp only)

theorem State.clearEngine_legal {s : State} (e : Nat) (gone : Half → Bool) (tell : Half → Bool) (hw : Legal s) :
    Legal (State.clearEngine s e gone tell) := by
  unfold State.clearEngine
  repeat' (first
    | with_reducible assumption | with_reducible refine ite_legal ?_ ?_ | with_reducible apply State.dropHalf_legal
    | with_reducible apply State.partnerGone_legal | with_reducible apply State.setEngine_legal
    | with_reducible apply State.withdrawJob_legal | split | with_reducible refine foldl_legal _ (fun t e hw => ?_) ?_
    | dsimp only)

theorem execLkcan_legal (d : GReg) (a : GReg) (l : Dir) {s : State} (hw : Legal s) : LegalOut (execLkcan d a l s) := by
  unfold execLkcan
  repeat' (first
    | with_reducible assumption | with_reducible refine ite_legal ?_ ?_ | with_reducible apply entered_legal
    | with_reducible apply State.withEngine_legal | with_reducible apply State.illegal_legal
    | with_reducible apply State.trap_legal | with_reducible apply State.clearEngine_legal
    | with_reducible apply State.retireG_legal | with_reducible apply legalOut_next | split | intro e | dsimp only)

theorem engineStep_legal (e : Nat) {t0 : State} (hw : Legal t0) : LegalOut (engineStep e t0) := occurs_legal _ hw

theorem execEnginePairing_legal (e : Nat) {s : State} (hw : Legal s) : LegalOut (execEnginePairing e s) := by
  unfold execEnginePairing
  repeat' (first
    | with_reducible assumption | with_reducible refine ite_legal ?_ ?_ | with_reducible apply engineStep_legal
    | with_reducible apply State.setEngine_legal | with_reducible apply State.issuerEvent_legal
    | with_reducible apply State.retireHalf_legal | with_reducible apply legalOut_next | split | dsimp only)

theorem State.sourceUnwritten_legal {s : State} (h0 : Half) (es : List (Nat × Nat)) (hw : Legal s) :
    Legal (State.sourceUnwritten s h0 es).1 := by
  unfold State.sourceUnwritten
  repeat' (first
    | with_reducible assumption | with_reducible refine ite_legal ?_ ?_ | with_reducible apply State.warnUninit_legal | split
    | dsimp only)

theorem State.faultJob_legal {s : State} (e : Nat) (j : Job) (moving : Bool) (cause : Nat) (eaddr : Word) (hw : Legal s) :
    Legal (State.faultJob s e j moving cause eaddr) :=
  State.issuerTrap_legal _ _ _ (State.withdrawJob_legal _ _ hw)

theorem State.startJob_legal {s : State} (e : Nat) (j : Job) (hw : Legal s) : Legal (State.startJob s e j) := by
  unfold State.startJob
  repeat' (first
    | with_reducible assumption | with_reducible refine ite_legal ?_ ?_ | with_reducible apply State.abortOwner_legal
    | with_reducible apply State.sourceUnwritten_legal | with_reducible apply State.faultJob_legal
    | with_reducible apply State.setEngine_legal | with_reducible refine fst_legal ?_ (by assumption) | split
    | dsimp only)

theorem execJobStart_legal (e : Nat) {s : State} (hw : Legal s) : LegalOut (execJobStart e s) := by
  unfold execJobStart
  repeat' (first
    | with_reducible assumption | with_reducible refine ite_legal ?_ ?_ | with_reducible apply engineStep_legal
    | with_reducible apply State.faultJob_legal | with_reducible apply State.issuerTrap_legal
    | with_reducible apply State.retireHalf_legal | with_reducible apply State.setEngine_legal
    | with_reducible apply State.startJob_legal | with_reducible apply legalOut_next | split | dsimp only)

theorem State.chargeBeat_legal {s : State} (c : Nat) (n : Nat) (hw : Legal s) :
    Legal (State.chargeBeat s c n) := by
  unfold State.chargeBeat
  repeat' (first
    | with_reducible assumption | with_reducible refine ite_legal ?_ ?_ | with_reducible apply State.modCore_legal
    | split | dsimp only)

theorem State.pull_legal {s : State} (e : Nat) (x : Engine) (j : Job) (hw : Legal s) : Legal (State.pull s e x j) := by
  unfold State.pull
  repeat' (first
    | with_reducible assumption | with_reducible refine ite_legal ?_ ?_ | with_reducible apply State.find_legal
    | with_reducible apply State.chargeBeat_legal | with_reducible apply State.setEngine_legal
    | with_reducible apply State.abortOwner_legal | with_reducible apply State.sourceUnwritten_legal
    | with_reducible apply State.faultJob_legal | with_reducible refine Found.Keeps.stop ?_ (by assumption)
    | with_reducible refine fst_legal ?_ (by assumption) | split | dsimp only)

theorem execBeatPull_legal (e : Nat) {s : State} (hw : Legal s) : LegalOut (execBeatPull e s) := by
  unfold execBeatPull
  repeat' (first
    | with_reducible assumption | with_reducible refine ite_legal ?_ ?_ | with_reducible apply engineStep_legal
    | with_reducible apply State.pull_legal | with_reducible apply legalOut_next | split | dsimp only)

theorem State.sendRow_legal {s : State} (h : Half) (hw : Legal s) : Legal (State.sendRow s h) := State.flitsOn_legal _ hw

theorem execRowSend_legal (e : Nat) {s : State} (hw : Legal s) : LegalOut (execRowSend e s) := by
  unfold execRowSend
  repeat' (first
    | with_reducible assumption | with_reducible refine ite_legal ?_ ?_
    | with_reducible apply State.abortContext_legal | with_reducible apply engineStep_legal
    | with_reducible apply State.bump_legal | with_reducible apply State.sendRow_legal
    | with_reducible apply State.setEngine_legal | with_reducible apply legalOut_next
    | with_reducible apply legalOut_fault | with_reducible apply legalOut_refused | split | dsimp only)

theorem State.rowDone_legal {s : State} (e : Nat) (seq : Nat) (hw : Legal s) : Legal (State.rowDone s e seq) := by
  unfold State.rowDone
  repeat' (first
    | with_reducible assumption | with_reducible refine ite_legal ?_ ?_ | with_reducible apply State.setEngine_legal | split
    | dsimp only)

theorem State.performResult_legal {s : State} (r : ResultPkt) (hw : Legal s) : Legal (State.performResult s r) := by
  unfold State.performResult
  repeat' (first
    | with_reducible assumption | with_reducible refine ite_legal ?_ ?_ | with_reducible apply State.abortOwner_legal
    | with_reducible apply State.write_legal | with_reducible apply State.issuerEvent_legal | split | dsimp only)

theorem execResultPacketArrival_legal (id : Nat) {s : State} (hw : Legal s) : LegalOut (execResultPacketArrival id s) := by
  unfold execResultPacketArrival
  repeat' (first
    | with_reducible assumption | with_reducible refine ite_legal ?_ ?_ | with_reducible apply State.rowDone_legal
    | with_reducible apply State.performResult_legal | with_reducible apply legalOut_next | split | dsimp only)

theorem State.ringRow_legal {s : State} (h0 : Half) (ws : List Word) (hw : Legal s) : LegalOpt (State.ringRow s h0 ws) := by
  unfold State.ringRow
  repeat' (first
    | with_reducible assumption | with_reducible refine ite_legal ?_ ?_ | exact legalOpt_none
    | with_reducible apply State.issuerEvent_legal | with_reducible apply State.putRing_legal
    | with_reducible apply legalOpt_some | split | dsimp only)

theorem execStreamRowDelivery_legal (e : Nat) {s : State} (hw : Legal s) : LegalOut (execStreamRowDelivery e s) := by
  unfold execStreamRowDelivery
  repeat' (first
    | with_reducible assumption | with_reducible refine ite_legal ?_ ?_
    | with_reducible apply State.abortContext_legal | with_reducible apply engineStep_legal
    | with_reducible apply State.ringRow_legal | with_reducible apply State.sendRow_legal
    | with_reducible apply State.setEngine_legal | with_reducible apply legalOut_next
    | with_reducible apply legalOut_fault | with_reducible apply legalOut_refused
    | with_reducible refine LegalOpt.out ?_ (by assumption) | split | dsimp only)

theorem execTileEndArrival_legal (e : Nat) {s : State} (hw : Legal s) : LegalOut (execTileEndArrival e s) := by
  unfold execTileEndArrival
  repeat' (first
    | with_reducible assumption | with_reducible refine ite_legal ?_ ?_
    | with_reducible apply State.abortContext_legal
    | with_reducible apply State.flitsOn_legal | with_reducible apply engineStep_legal
    | with_reducible apply State.setEngine_legal | with_reducible apply State.halfArrives_legal
    | with_reducible apply State.issuerEvent_legal | with_reducible apply State.retireHalf_legal
    | with_reducible apply legalOut_next | with_reducible apply legalOut_fault | with_reducible apply legalOut_refused
    | with_reducible refine LegalOpt.out ?_ (by assumption) | split | dsimp only)

theorem execEngwaitTimeout_legal (core : Nat) (slot : Nat) {s : State} (hw : Legal s) :
    LegalOut (execEngwaitTimeout core slot s) := by
  unfold execEngwaitTimeout
  repeat' (first
    | with_reducible assumption | with_reducible refine ite_legal ?_ ?_ | with_reducible apply occurs_legal
    | with_reducible apply State.takeTrap_legal | with_reducible apply legalOut_next | split | dsimp only)

/-! ### Tlb -/

theorem State.installEntry_legal {s : State} (c : Nat) (e : TlbEntry) (l2only : Bool) (hw : Legal s) :
    Legal (State.installEntry s c e l2only) := by
  unfold State.installEntry
  repeat' (first
    | with_reducible assumption | with_reducible refine ite_legal ?_ ?_ | with_reducible apply State.modCluster_legal
    | with_reducible apply State.modCore_legal | with_reducible apply State.bump_legal | split | dsimp only)

theorem State.walked_legal {s : State} (c : Nat) (l2only : Bool) (a : WalkAnswer) (hw : Legal s) :
    (State.walked s c l2only a).Keeps := by
  unfold State.walked
  dsimp only
  split
  · split
    · exact State.installEntry_legal _ _ _ hw
    · exact True.intro
  · exact True.intro
  · exact True.intro

/-! ### CopyEngine -/

theorem State.queueCard_legal {s : State} (fn : Nat) (d : Nat) (jid : Nat) (card : List Word) (obj : Loc) (objVa : Word) (hw : Legal s) :
    Legal (State.queueCard s fn d jid card obj objVa) := by
  unfold State.queueCard
  repeat' (first
    | with_reducible assumption | with_reducible refine ite_legal ?_ ?_ | with_reducible apply State.modRegs_legal
    | with_reducible apply State.modCluster_legal | with_reducible apply State.bump_legal
    | with_reducible apply State.retire_legal | with_reducible apply State.sendBack_legal | split | dsimp only)

theorem State.copyCommand_legal {s : State} (fn : Nat) (d : Nat) (a : Word) (b : Word) (hw : Legal s) :
    Legal (State.copyCommand s fn d a b) := by
  unfold State.copyCommand
  repeat' (first
    | with_reducible assumption | with_reducible refine ite_legal ?_ ?_ | with_reducible apply State.illegal_legal
    | with_reducible apply State.stallFor_legal | with_reducible apply State.findImage_legal
    | with_reducible apply State.readBlocks_legal | with_reducible apply State.findObject_legal
    | with_reducible apply State.trap_legal | with_reducible apply State.queueCard_legal | split
    | with_reducible refine Image.Keeps.stop ?_ (by assumption) | with_reducible refine Image.Keeps.ok ?_ (by assumption)
    | with_reducible refine Blocks.Keeps.stop ?_ (by assumption) | with_reducible refine Found.Keeps.stop ?_ (by assumption)
    | dsimp only)

theorem execCpy_legal (d : GReg) (a : GReg) (b : GReg) {s : State} (hw : Legal s) : LegalOut (execCpy d a b s) :=
  entered_legal _ hw (State.copyCommand_legal _ _ _ _ hw)

theorem execGat_legal (d : GReg) (a : GReg) (b : GReg) {s : State} (hw : Legal s) : LegalOut (execGat d a b s) :=
  entered_legal _ hw (State.copyCommand_legal _ _ _ _ hw)

theorem execSca_legal (d : GReg) (a : GReg) (b : GReg) {s : State} (hw : Legal s) : LegalOut (execSca d a b s) :=
  entered_legal _ hw (State.copyCommand_legal _ _ _ _ hw)

theorem execRedc_legal (d : GReg) (a : GReg) (b : GReg) {s : State} (hw : Legal s) : LegalOut (execRedc d a b s) :=
  entered_legal _ hw (State.copyCommand_legal _ _ _ _ hw)

theorem execBct_legal (d : GReg) (a : GReg) (b : GReg) {s : State} (hw : Legal s) : LegalOut (execBct d a b s) :=
  entered_legal _ hw (State.copyCommand_legal _ _ _ _ hw)

theorem State.modJob_legal {s : State} (cl : Nat) (serial : Nat) (f : CopyJob → CopyJob) (hw : Legal s) :
    Legal (State.modJob s cl serial f) :=
  hw

theorem State.dropJob_legal {s : State} (cl : Nat) (serial : Nat) (hw : Legal s) : Legal (State.dropJob s cl serial) := hw

theorem State.cpyFault_legal {s : State} (j : CopyJob) (cause : Nat) (tok : Nat) (res : Bool) (va : Word) (hw : Legal s) :
    Legal (State.cpyFault s j cause tok res va) :=
  State.event_legal _ _ _ _ _ hw

theorem State.jobArrives_legal {s : State} (j : CopyJob) (n : Nat) (status : Nat) (hw : Legal s) :
    Legal (State.jobArrives s j n status) := by
  unfold State.jobArrives
  repeat' (first
    | with_reducible assumption | with_reducible refine ite_legal ?_ ?_
    | with_reducible apply State.eccAbort_legal | with_reducible apply State.arrive_legal
    | with_reducible apply State.event_legal | split | dsimp only)

theorem State.refuseJob_legal {s : State} (cl : Nat) (j : CopyJob) (cause : Nat) (va : Word) (hw : Legal s) :
    Legal (State.refuseJob s cl j cause va) :=
  State.jobArrives_legal _ _ _ (State.cpyFault_legal _ _ _ _ _ (State.dropJob_legal _ _ hw))

theorem State.loseJob_legal {s : State} (cl : Nat) (j : CopyJob) (l : Loc) (n : Nat) (store : Bool) (va : Word) (hw :
    Legal s) :
    Legal (State.loseJob s cl j l n store va) := by
  unfold State.loseJob
  repeat' (first
    | with_reducible assumption | with_reducible refine ite_legal ?_ ?_ | with_reducible apply State.eccAbort_legal
    | with_reducible apply State.refuseJob_legal | split | dsimp only)

theorem State.suspendJob_legal {s : State} (cl : Nat) (j : CopyJob) (va : Word) (hw : Legal s) :
    Legal (State.suspendJob s cl j va) := by
  unfold State.suspendJob
  repeat' (first
    | with_reducible assumption | with_reducible refine ite_legal ?_ ?_ | with_reducible apply State.jobArrives_legal
    | with_reducible apply State.cpyFault_legal | with_reducible apply State.modJob_legal
    | with_reducible apply State.faultRecord_legal | split | dsimp only)

theorem State.completeJob_legal {s : State} (cl : Nat) (j : CopyJob) (hw : Legal s) : Legal (State.completeJob s cl j) :=
  State.jobArrives_legal _ _ _ (State.dropJob_legal _ _ hw)

theorem State.warnPieces_legal {s : State} (e va n : Nat) (ls : List (Loc × Nat)) (hw : Legal s) :
    Legal (State.warnPieces s e va n ls) := by
  unfold State.warnPieces
  repeat' (first
    | with_reducible assumption | with_reducible refine ite_legal ?_ ?_ | with_reducible apply State.warnUninit_legal | split
    | with_reducible refine foldl_legal _ (fun t e hw => ?_) ?_ | dsimp only)

theorem State.cceRead_legal {s : State} (j : CopyJob) (e va n : Nat) (hw : Legal s) : (State.cceRead s j e va n).Keeps := by
  unfold State.cceRead
  repeat' (first
    | with_reducible assumption | with_reducible refine ite_legal ?_ ?_
    | with_reducible apply State.warnPieces_legal | with_reducible apply State.warnUninit_legal | split
    | with_reducible refine foldl_legal _ (fun t e hw => ?_) ?_ | dsimp only [CRead.Keeps])

theorem State.writePieces_legal (l : List (Loc × Nat)) : ∀ {s : State} (bs : List Byte), Legal s →
    Legal (State.writePieces s l bs) := by
  induction l with
  | nil => intro s bs hw; exact hw
  | cons e t ih => intro s bs hw; exact ih _ (State.write_legal hw _ _)

theorem State.cceWrite_legal {s : State} (j : CopyJob) (va : Nat) (right : Nat) (bs : List Byte) (hw : Legal s) :
    (State.cceWrite s j va right bs).Keeps := by
  unfold State.cceWrite
  repeat' (first
    | with_reducible assumption | with_reducible refine ite_legal ?_ ?_ | with_reducible apply State.writePieces_legal | split
    | dsimp only [UnitRes.Keeps])

theorem State.cpyUnit_legal {s : State} (j : CopyJob) (hw : Legal s) : (State.cpyUnit s j).Keeps := by
  unfold State.cpyUnit
  repeat' (first
    | with_reducible assumption | with_reducible refine ite_legal ?_ ?_ | with_reducible apply State.cceRead_legal
    | with_reducible apply State.cceWrite_legal | split | with_reducible refine UnitRes.Keeps.done ?_ (by assumption)
    | with_reducible refine CRead.Keeps.ok ?_ (by assumption) | dsimp only [UnitRes.Keeps])

theorem State.indexOf_legal {s : State} (j : CopyJob) (u : Nat) (len : Nat) (hw : Legal s) : (State.indexOf s j u len).Keeps := by
  unfold State.indexOf
  repeat' (first
    | with_reducible assumption | with_reducible refine ite_legal ?_ ?_ | with_reducible apply State.cceRead_legal | split
    | with_reducible refine CRead.Keeps.ok ?_ (by assumption) | dsimp only [CRead.Keeps])

theorem State.gatUnit_legal {s : State} (j : CopyJob) (hw : Legal s) : (State.gatUnit s j).Keeps := by
  unfold State.gatUnit
  repeat' (first
    | with_reducible assumption | with_reducible refine ite_legal ?_ ?_ | with_reducible apply State.indexOf_legal
    | with_reducible apply State.cceRead_legal | with_reducible apply State.cceWrite_legal | split
    | with_reducible refine UnitRes.Keeps.done ?_ (by assumption) | with_reducible refine CRead.Keeps.ok ?_ (by assumption)
    | dsimp only [UnitRes.Keeps])

theorem State.scaUnit_legal {s : State} (j : CopyJob) (hw : Legal s) : (State.scaUnit s j).Keeps := by
  unfold State.scaUnit
  repeat' (first
    | with_reducible assumption | with_reducible refine ite_legal ?_ ?_ | with_reducible apply State.indexOf_legal
    | with_reducible apply State.cceRead_legal | with_reducible apply State.cceWrite_legal | split
    | with_reducible refine UnitRes.Keeps.done ?_ (by assumption) | with_reducible refine CRead.Keeps.ok ?_ (by assumption)
    | dsimp only [UnitRes.Keeps])

theorem State.redcReads_legal (j : CopyJob) (lo : Nat) (n : Nat) (l : List Nat) : ∀ {s : State}, Legal s →
    (State.redcReads s j lo n l).Keeps := by
  induction l with
  | nil => intro s hw; exact hw
  | cons i t ih =>
    intro s hw
    unfold State.redcReads
    have h1 := State.cceRead_legal j (cardEsz j.card) (rdAddr j.card i + (lo - wrAddr j.card 0)) n hw
    split
    · rename_i bs s1 heq
      have h2 := ih (h1.ok heq)
      split
      · rename_i r s2 heq2
        exact h2.ok heq2
      · exact h2
    · exact h1

theorem State.redcUnit_legal {s : State} (j : CopyJob) (hw : Legal s) : (State.redcUnit s j).Keeps := by
  unfold State.redcUnit
  repeat' (first
    | with_reducible assumption | with_reducible refine ite_legal ?_ ?_
    | with_reducible apply State.warnPieces_legal | with_reducible apply State.redcReads_legal
    | with_reducible apply State.warnUninit_legal | with_reducible apply State.writePieces_legal
    | with_reducible refine CRead.Keeps.ok ?_ (by assumption) | split
    | with_reducible refine foldl_legal _ (fun t e hw => ?_) ?_ | with_reducible trivial | dsimp only [UnitRes.Keeps])

theorem State.bctUnit_legal {s : State} (cl : Nat) (j : CopyJob) (hw : Legal s) : (State.bctUnit s cl j).Keeps := by
  unfold State.bctUnit
  generalize blockOf (wrAddr j.card 0) (wrLen j.card 0) j.unit = x
  obtain ⟨lo, n⟩ := x
  dsimp only
  have h := State.cceRead_legal j (cardEsz j.card) (rdAddr j.card 0 + (lo - wrAddr j.card 0)) n hw
  generalize s.cceRead j (cardEsz j.card) (rdAddr j.card 0 + (lo - wrAddr j.card 0)) n = y at h
  cases y with
  | ok bs t => exact h
  | miss va => exact True.intro
  | bad c va => exact True.intro
  | lost l k w va => exact True.intro

theorem State.unitOf_legal {s : State} (cl : Nat) (j : CopyJob) (hw : Legal s) : (State.unitOf s cl j).Keeps := by
  unfold State.unitOf
  repeat' (first
    | with_reducible assumption | with_reducible refine ite_legal ?_ ?_ | with_reducible apply State.cpyUnit_legal
    | with_reducible apply State.gatUnit_legal | with_reducible apply State.scaUnit_legal
    | with_reducible apply State.redcUnit_legal | with_reducible apply State.bctUnit_legal | split
    | with_reducible refine UnitRes.Keeps.done ?_ (by assumption) | dsimp only [UnitRes.Keeps])

theorem State.unitDone_legal {s : State} (cl : Nat) (j : CopyJob) (hw : Legal s) : Legal (State.unitDone s cl j) := by
  unfold State.unitDone
  repeat' (first
    | with_reducible assumption | with_reducible refine ite_legal ?_ ?_ | with_reducible apply State.modJob_legal
    | with_reducible apply State.modCluster_legal | with_reducible apply State.completeJob_legal | split | dsimp only)

theorem execCopyUnit_legal (cluster : Nat) (job : Nat) (ans : WalkAnswer) {s : State} (hw : Legal s) :
    LegalOut (execCopyUnit cluster job ans s) := by
  unfold execCopyUnit
  repeat' (first
    | with_reducible assumption | with_reducible refine ite_legal ?_ ?_
    | with_reducible apply State.abortContext_legal
    | with_reducible apply State.flitsOn_legal | with_reducible apply occurs_legal
    | with_reducible apply State.modJob_legal | with_reducible apply State.unitOf_legal
    | with_reducible apply State.unitDone_legal | with_reducible apply State.refuseJob_legal
    | with_reducible apply State.loseJob_legal | with_reducible apply State.walked_legal
    | with_reducible apply State.suspendJob_legal | with_reducible apply legalOut_next
    | with_reducible apply legalOut_fault | with_reducible apply legalOut_refused
    | with_reducible refine UnitRes.Keeps.done ?_ (by assumption)
    | with_reducible refine Walked.Keeps.entry ?_ (by assumption) | split | dsimp only)

theorem State.jobTimeout_legal {s : State} (serial : Nat) (hw : Legal s) :
    Legal (State.jobTimeout s serial) := by
  unfold State.jobTimeout
  repeat' (first
    | with_reducible assumption | with_reducible refine ite_legal ?_ ?_ | with_reducible apply State.find_legal
    | with_reducible apply State.refuseJob_legal
    | with_reducible exact Found.Keeps.stop (by with_reducible apply State.find_legal <;> assumption) (by assumption)
    | split | dsimp only)

theorem execCopyJobStart_legal (cluster : Nat) {s : State} (hw : Legal s) : LegalOut (execCopyJobStart cluster s) := by
  unfold execCopyJobStart
  repeat' (first
    | with_reducible assumption | with_reducible refine ite_legal ?_ ?_ | with_reducible apply occurs_legal
    | with_reducible apply State.modJob_legal | with_reducible apply legalOut_next | split | dsimp only)

theorem execBctArrival_legal (id : Nat) {s : State} (hw : Legal s) : LegalOut (execBctArrival id s) := by
  unfold execBctArrival
  repeat' (first
    | with_reducible assumption | with_reducible refine ite_legal ?_ ?_ | with_reducible apply State.find_legal
    | with_reducible apply State.refuseJob_legal | with_reducible apply State.loseJob_legal
    | with_reducible apply State.eccAbort_legal | with_reducible apply State.write_legal
    | with_reducible apply State.completeJob_legal | with_reducible apply legalOut_next
    | with_reducible apply legalOut_fault | with_reducible apply legalOut_refused
    | with_reducible refine Found.Keeps.stop ?_ (by assumption) | split | dsimp only)

/-! ### Tensor -/

theorem execTdset_legal (a : GReg) (b : GReg) {s : State} (hw : Legal s) : LegalOut (execTdset a b s) := by
  unfold execTdset
  repeat' (first
    | with_reducible assumption | with_reducible refine ite_legal ?_ ?_ | with_reducible apply entered_legal
    | with_reducible apply State.illegal_legal | with_reducible apply State.readBlock_legal
    | with_reducible apply State.trap_legal | with_reducible apply State.retire_legal
    | with_reducible apply State.modCore_legal | with_reducible apply legalOut_next | split
    | with_reducible refine Block.Keeps.stop ?_ (by assumption) | with_reducible refine Block.Keeps.data ?_ (by assumption)
    | dsimp only)

theorem execTdget_legal (d : GReg) (a : GReg) (b : GReg) {s : State} (hw : Legal s) : LegalOut (execTdget d a b s) := by
  unfold execTdget
  repeat' (first
    | with_reducible assumption | with_reducible refine ite_legal ?_ ?_ | with_reducible apply entered_legal
    | with_reducible apply State.illegal_legal | with_reducible apply State.retireG_legal | with_reducible apply legalOut_next
    | split | dsimp only)

theorem execTdinv_legal (a : GReg) {s : State} (hw : Legal s) : LegalOut (execTdinv a s) := by
  unfold execTdinv
  repeat' (first
    | with_reducible assumption | with_reducible refine ite_legal ?_ ?_ | with_reducible apply entered_legal
    | with_reducible apply State.illegal_legal | with_reducible apply State.retire_legal
    | with_reducible apply State.modCore_legal | with_reducible apply legalOut_next | split | dsimp only)

/-! ### Gmu -/

theorem State.putRec_legal {s : State} (l : Loc) (w0 : Word) (w1 : Word) (es : Nat) (cs : List Nat) (hw : Legal s) :
    Legal (State.putRec s l w0 w1 es cs) :=
  State.write_legal hw _ _

theorem State.putStatus_legal {s : State} (r : Rec) (st : Nat) (hw : Legal s) : Legal (State.putStatus s r st) :=
  State.writeNat_legal hw _ _ _

theorem State.gmAcc_legal {s : State} (sub : Bool) (x : Rec) (d : Rec) (blk : Nat) (hw : Legal s) :
    Legal (State.gmAcc s sub x d blk) :=
  ite_legal hw (State.putRec_legal _ _ _ _ _ hw)

theorem State.gmDamp_legal {s : State} (x : Rec) (d : Rec) (hw : Legal s) : Legal (State.gmDamp s x d) :=
  ite_legal hw (State.putRec_legal _ _ _ _ _ hw)

theorem State.gmElim_legal {s : State} (mean : Bool) (x : Rec) (d : Rec) (gmc : Word) (hw : Legal s) :
    (State.gmElim s mean x d gmc).Keeps := by
  unfold State.gmElim
  split
  · exact State.putStatus_legal _ _ hw
  · dsimp only
    generalize factor x.fmt gmc _ = y
    cases y with
    | trap e => exact True.intro
    | skip => exact State.putStatus_legal _ _ hw
    | ok y reg => exact State.putRec_legal _ _ _ _ _ hw

theorem State.warnRec_legal {s : State} (l : Loc) (n : Nat) (hw : Legal s) :
    Legal (State.warnRec s l n) := by
  unfold State.warnRec
  repeat' (first
    | with_reducible assumption | with_reducible refine ite_legal ?_ ?_ | with_reducible apply State.find_legal
    | with_reducible apply State.warnUninit_legal
    | with_reducible exact Found.Keeps.stop (by with_reducible apply State.find_legal <;> assumption) (by assumption)
    | split | dsimp only)

theorem State.gmWarn_legal {s : State} (fn : Nat) (x d : Rec) (hw : Legal s) : Legal (s.gmWarn fn x d) :=
  ite_legal (State.warnRec_legal _ _ (ite_legal (State.warnRec_legal _ _ hw) hw)) (ite_legal (State.warnRec_legal _ _ hw) hw)

theorem State.gmApply_legal {s : State} (c : Nat) (q : GmuReq) (x : Rec) (d : Rec) (hw : Legal s) :
    (State.gmApply s c q x d).Keeps := by
  unfold State.gmApply
  repeat' (first
    | with_reducible assumption | with_reducible refine ite_legal ?_ ?_ | with_reducible apply State.gmAcc_legal
    | with_reducible apply State.gmDamp_legal | with_reducible apply State.bump_legal | with_reducible apply State.write_legal
    | with_reducible apply State.gmElim_legal | split | with_reducible refine Done.Keeps.ok ?_ (by assumption)
    | dsimp only [GmuEnd.Keeps])

theorem State.gmRun_legal {s : State} (c : Nat) (q : GmuReq) (hw : Legal s) : (State.gmRun s c q).Keeps := by
  unfold State.gmRun
  repeat' (first
    | with_reducible assumption | with_reducible refine ite_legal ?_ ?_ | with_reducible apply State.trap_legal
    | with_reducible apply State.gmWarn_legal | with_reducible apply State.gmApply_legal
    | with_reducible refine GmuEnd.Keeps.ok ?_ (by assumption) | split | with_reducible trivial
    | dsimp only [GmuEnd.Keeps])

theorem State.gmIssue_legal {s : State} (fn : Nat) (a : Word) (b : Word) (blk : Nat) (d : Nat) (hw : Legal s) :
    Legal (State.gmIssue s fn a b blk d) := by
  unfold State.gmIssue
  repeat' (first
    | with_reducible assumption | with_reducible refine ite_legal ?_ ?_ | with_reducible apply State.stallFor_legal
    | with_reducible apply State.modRegs_legal | with_reducible apply State.modCore_legal | split | dsimp only)

theorem execGmacc_legal (a : GReg) (b : GReg) (blk : BitVec 3) {s : State} (hw : Legal s) : LegalOut (execGmacc a b blk s) :=
  entered_legal _ hw (State.gmIssue_legal _ _ _ _ _ hw)

theorem execGmsub_legal (a : GReg) (b : GReg) (blk : BitVec 3) {s : State} (hw : Legal s) : LegalOut (execGmsub a b blk s) :=
  entered_legal _ hw (State.gmIssue_legal _ _ _ _ _ hw)

theorem execGmelim_legal (d : GReg) (a : GReg) (b : GReg) {s : State} (hw : Legal s) : LegalOut (execGmelim d a b s) :=
  entered_legal _ hw (State.gmIssue_legal _ _ _ _ _ hw)

theorem execGmdamp_legal (a : GReg) (b : GReg) {s : State} (hw : Legal s) : LegalOut (execGmdamp a b s) :=
  entered_legal _ hw (State.gmIssue_legal _ _ _ _ _ hw)

theorem execGmmean_legal (d : GReg) (a : GReg) (b : GReg) {s : State} (hw : Legal s) : LegalOut (execGmmean d a b s) :=
  entered_legal _ hw (State.gmIssue_legal _ _ _ _ _ hw)

theorem execGmres_legal (d : GReg) (a : GReg) (b : GReg) {s : State} (hw : Legal s) : LegalOut (execGmres d a b s) :=
  entered_legal _ hw (State.gmIssue_legal _ _ _ _ _ hw)

theorem execGmsend_legal (a : GReg) (b : GReg) {s : State} (hw : Legal s) : LegalOut (execGmsend a b s) := by
  unfold execGmsend
  repeat' (first
    | with_reducible assumption | with_reducible refine ite_legal ?_ ?_ | with_reducible apply entered_legal
    | with_reducible apply State.illegal_legal | with_reducible apply State.trap_legal
    | with_reducible apply State.gmIssue_legal | with_reducible apply legalOut_next | split | dsimp only)

theorem execGmcpy_legal (a : GReg) (b : GReg) {s : State} (hw : Legal s) : LegalOut (execGmcpy a b s) :=
  entered_legal _ hw (State.gmIssue_legal _ _ _ _ _ hw)

theorem State.gmRelease_legal {s : State} (c : Nat) (q : GmuReq) (hw : Legal s) : Legal (State.gmRelease s c q) := hw

theorem State.gmFinish_legal {s : State} (c : Nat) (q : GmuReq) (hw : Legal s) : Legal (State.gmFinish s c q) := by
  unfold State.gmFinish
  repeat' (first
    | with_reducible assumption | with_reducible refine ite_legal ?_ ?_ | with_reducible apply State.modCore_legal
    | with_reducible apply State.gmRun_legal | with_reducible apply State.modWork_legal
    | with_reducible apply State.completeSlot_legal | with_reducible apply State.abortOwner_legal
    | with_reducible apply State.trap_legal | with_reducible apply State.gmRelease_legal
    | with_reducible apply State.takeTrap_legal | with_reducible refine GmuEnd.Keeps.ok ?_ (by assumption) | split
    | dsimp only)

theorem execGmuRequestStart_legal (core : Nat) {s : State} (hw : Legal s) : LegalOut (execGmuRequestStart core s) := by
  unfold execGmuRequestStart
  repeat' (first
    | with_reducible assumption | with_reducible refine ite_legal ?_ ?_ | with_reducible apply occurs_legal
    | with_reducible apply State.modCore_legal | with_reducible apply legalOut_next | split | dsimp only)

theorem execGmuRequestComplete_legal (core : Nat) {s : State} (hw : Legal s) : LegalOut (execGmuRequestComplete core s) := by
  unfold execGmuRequestComplete
  repeat' (first
    | with_reducible assumption | with_reducible refine ite_legal ?_ ?_ | with_reducible apply occurs_legal
    | with_reducible apply State.gmFinish_legal | with_reducible apply legalOut_next | split | dsimp only)

end Sys2Proof.Machine
end

