-- ==== Sys2Proof/Laws/LegalSystem.lean ====
section
/-! SUPPORT. What every step keeps (`Safety.Legal`): one lemma for each operation that gives a state; registers, the system group, the dispatcher, power, the host, and `exec`. -/

namespace Sys2Proof.Machine

open Sys2Proof.Safety

/-! ### Registers -/

theorem execGetc_legal (d : GReg) (n : BitVec 13) {s : State} (hw : Legal s) : LegalOut (execGetc d n s) :=
  entered_legal _ hw (State.retireG_legal _ _ hw)

theorem State.reissue_legal {s : State} (c : Nat) (n : Nat) (v : Word) (hw : Legal s) : Legal (State.reissue s c n v) := by
  unfold State.reissue
  repeat' (first
    | with_reducible assumption | with_reducible refine ite_legal ?_ ?_ | with_reducible apply State.modSlot_legal | split
    | dsimp only)

theorem State.writeSlotCr_legal {s : State} (c : Nat) (k : Nat) (n : Nat) (v : Word) (hw : Legal s) :
    LegalOpt (State.writeSlotCr s c k n v) := by
  unfold State.writeSlotCr
  repeat' (first
    | with_reducible assumption | with_reducible refine ite_legal ?_ ?_ | exact legalOpt_none
    | with_reducible apply State.reissue_legal | with_reducible apply State.modWork_legal | with_reducible apply legalOpt_some
    | split | dsimp only)

theorem State.writeFmth_legal {s : State} (c : Nat) (v : Word) (hw : Legal s) : LegalOpt (State.writeFmth s c v) := by
  unfold State.writeFmth
  repeat' (first
    | split
    | exact legalOpt_none
    | exact legalOpt_some (State.fmthAdmitAt_legal _ hw)
    | exact legalOpt_some (State.fmthRefuseAt_legal _ hw))

theorem CrWrite.ofOption_legal {o : Option State} (h : LegalOpt o) : (CrWrite.ofOption o).Keeps := by
  cases o with
  | none => exact True.intro
  | some t => exact h t rfl

theorem State.writeCoreCr_legal {s : State} (c : Nat) (n : Nat) (v : Word) (hw : Legal s) :
    (State.writeCoreCr s c n v).Keeps := by
  unfold State.writeCoreCr
  repeat' (first
    | with_reducible assumption | with_reducible refine ite_legal ?_ ?_ | with_reducible apply CrWrite.ofOption_legal
    | with_reducible apply State.writeFmth_legal | with_reducible apply State.setCmask_legal
    | with_reducible apply State.modCore_legal | split | with_reducible refine CrWrite.Keeps.ok ?_ (by assumption)
    | refine LegalOpt.out ?_ (by assumption) | dsimp only [CrWrite.Keeps])

theorem State.writeTprd_legal {s : State} (n : Nat) (v : BitVec 16) (hw : Legal s) : Legal (State.writeTprd s n v) := by
  unfold State.writeTprd
  repeat' (first
    | with_reducible assumption | with_reducible refine ite_legal ?_ ?_ | with_reducible apply State.postAlert_legal | split
    | dsimp only)

theorem State.clearAlst_legal {s : State} (v : Word) (hw : Legal s) : Legal (State.clearAlst s v) := hw

theorem State.writeIcl_legal {s : State} (n : Nat) (v : Nat) (hw : Legal s) : Legal (State.writeIcl s n v) := hw

theorem hyst_legal {s : State} (v : BitVec 16) (h : v.toNat ≤ 0x7FFF) (hw : Legal s) : Legal { s with hyst := v } := by
  obtain ⟨h1, h2, h3, h4, h5, h6, h7, h8, h9, _⟩ := hw
  exact ⟨h1, h2, h3, h4, h5, h6, h7, h8, h9, h⟩

theorem low16 (v : Word) : (v.setWidth 16).toNat = bits v 15 0 := by simp [bits, fld]

theorem pceil_legal {s : State} (v : Nat) (h : pceilOk v = true) (hw : Legal s) : Legal { s with pceil := v } := by
  obtain ⟨h1, h2, h3, h4, h5, h6, h7, _, _, h8⟩ := hw
  simp only [pceilOk, Bool.and_eq_true, decide_eq_true_eq] at h
  exact ⟨h1, h2, h3, h4, h5, h6, h7, h.1, h.2, h8⟩

theorem State.writeMgmtCr_legal {s : State} (n : Nat) (v : Word) (hw : Legal s) : (State.writeMgmtCr s n v).Keeps := by
  unfold State.writeMgmtCr
  split
  · exact State.writeTprd_legal _ _ hw
  · split
    · split
      · exact State.writeIcl_legal _ _ hw
      · exact True.intro
    · split
      · split
        · exact pceil_legal _ (by assumption) hw
        · exact True.intro
      · exact hw
      · split
        · exact hyst_legal _ (by rw [low16]; assumption) hw
        · exact True.intro
      · exact State.clearAlst_legal _ hw
      · exact hw

theorem State.writeCr_legal {s : State} (c : Nat) (k : Nat) (n : Nat) (v : Word) (hw : Legal s) :
    (State.writeCr s c k n v).Keeps := by
  unfold State.writeCr
  repeat' (first
    | with_reducible assumption | with_reducible refine ite_legal ?_ ?_ | with_reducible apply CrWrite.ofOption_legal
    | with_reducible apply State.writeSlotCr_legal | with_reducible apply State.writeCoreCr_legal
    | with_reducible apply State.writeMgmtCr_legal | split | with_reducible refine CrWrite.Keeps.ok ?_ (by assumption)
    | refine LegalOpt.out ?_ (by assumption) | dsimp only [CrWrite.Keeps])

theorem execSetc_legal (a : GReg) (ea : Bool) (n : BitVec 13) {s : State} (hw : Legal s) : LegalOut (execSetc a ea n s) := by
  unfold execSetc
  repeat' (first
    | with_reducible assumption | with_reducible refine ite_legal ?_ ?_ | with_reducible apply entered_legal
    | with_reducible apply State.writeCr_legal | with_reducible apply State.trap_legal
    | with_reducible apply State.retire_legal | with_reducible apply legalOut_next | split
    | with_reducible refine CrWrite.Keeps.ok ?_ (by assumption) | dsimp only)

theorem execSmrReissue_legal (core : Nat) (slot : Nat) (value : Word) {s : State} (hw : Legal s) :
    LegalOut (execSmrReissue core slot value s) := by
  unfold execSmrReissue
  repeat' (first
    | with_reducible assumption | with_reducible refine ite_legal ?_ ?_ | with_reducible apply occurs_legal
    | with_reducible apply State.reissue_legal | with_reducible apply legalOut_next | split | dsimp only)

theorem execTprdWrite_legal (n : Nat) (value : BitVec 16) {s : State} (hw : Legal s) : LegalOut (execTprdWrite n value s) :=
  occurs_legal _ (State.writeTprd_legal _ _ hw)

theorem execAlstClear_legal (value : Word) {s : State} (hw : Legal s) : LegalOut (execAlstClear value s) := legalOut_next hw

theorem execIclWrite_legal (n : Nat) (value : Nat) {s : State} (hw : Legal s) : LegalOut (execIclWrite n value s) := by
  unfold execIclWrite
  repeat' (first
    | with_reducible assumption | with_reducible refine ite_legal ?_ ?_ | with_reducible apply occurs_legal
    | with_reducible apply State.writeIcl_legal | with_reducible apply legalOut_next | split | dsimp only)

theorem execPceilWrite_legal (value : Nat) {s : State} (hw : Legal s) : LegalOut (execPceilWrite value s) := by
  unfold execPceilWrite
  refine legalOut_next ?_
  split
  · exact pceil_legal _ (by assumption) hw
  · exact hw

theorem execCounterWrite_legal (core : Nat) (n : Nat) (value : Word) {s : State} (hw : Legal s) :
    LegalOut (execCounterWrite core n value s) :=
  occurs_legal _ (State.modCore_legal _ _ hw)

/-! ### System -/

theorem execTlbw_legal (d : GReg) (a : GReg) (b : GReg) (ea : Bool) (eb : Bool) {s : State} (hw : Legal s) :
    LegalOut (execTlbw d a b ea eb s) := by
  unfold execTlbw
  repeat' (first
    | with_reducible assumption | with_reducible refine ite_legal ?_ ?_ | with_reducible apply entered_legal
    | with_reducible apply State.illegal_legal | with_reducible apply State.trap_legal
    | with_reducible apply State.retire_legal | with_reducible apply State.installEntry_legal
    | with_reducible apply legalOut_next | split | dsimp only)

theorem State.invalidate_legal {s : State} (c : Nat) (sc : Scope) (a : Word) (b : Word) (hw : Legal s) :
    Legal (State.invalidate s c sc a b) :=
  hw

theorem execTlbi_legal (a : GReg) (b : GReg) (ea : Bool) (eb : Bool) {s : State} (hw : Legal s) :
    LegalOut (execTlbi a b ea eb s) := by
  unfold execTlbi
  repeat' (first
    | with_reducible assumption | with_reducible refine ite_legal ?_ ?_ | with_reducible apply entered_legal
    | with_reducible apply State.illegal_legal | with_reducible apply State.invalidate_legal
    | with_reducible apply State.stallFor_legal | with_reducible apply State.retire_legal | with_reducible apply legalOut_next
    | split | dsimp only)

theorem State.resolveCore_legal {s : State} (c : Nat) (sq : Nat) (hw : Legal s) : Legal (State.resolveCore s c sq) := by
  unfold State.resolveCore
  repeat' (first
    | with_reducible assumption | with_reducible refine ite_legal ?_ ?_ | with_reducible apply State.modCore_legal
    | with_reducible apply State.wake_legal | split | with_reducible refine foldl_legal _ (fun t e hw => ?_) ?_ | dsimp only)

theorem State.resolveJobs_legal {s : State} (cl : Nat) (sq : Nat) (hw : Legal s) : Legal (State.resolveJobs s cl sq) := by
  unfold State.resolveJobs
  repeat' (first
    | with_reducible assumption | with_reducible refine ite_legal ?_ ?_ | with_reducible apply State.jobArrives_legal
    | with_reducible apply State.event_legal | with_reducible apply State.modJob_legal | split
    | with_reducible refine foldl_legal _ (fun t e hw => ?_) ?_ | dsimp only)

theorem State.resolve_legal {s : State} (ctx : Nat) (sq : Nat) (hw : Legal s) : Legal (State.resolve s ctx sq) := by
  unfold State.resolve
  repeat' (first
    | with_reducible assumption | with_reducible refine ite_legal ?_ ?_ | with_reducible apply State.resolveJobs_legal
    | with_reducible apply State.resolveCore_legal | split | with_reducible refine foldl_legal _ (fun t e hw => ?_) ?_
    | dsimp only)

theorem execFres_legal (a : GReg) (b : GReg) (ea : Bool) (eb : Bool) {s : State} (hw : Legal s) :
    LegalOut (execFres a b ea eb s) := by
  unfold execFres
  repeat' (first
    | with_reducible assumption | with_reducible refine ite_legal ?_ ?_ | with_reducible apply entered_legal
    | with_reducible apply State.illegal_legal | with_reducible apply State.resolve_legal
    | with_reducible apply State.retire_legal | with_reducible apply legalOut_next | split | dsimp only)

theorem State.findTable_legal {s : State} (htb : Word) (k : AccKind) (hw : Legal s) : (State.findTable s htb k).Keeps := by
  unfold State.findTable
  repeat' (first
    | with_reducible assumption | with_reducible refine ite_legal ?_ ?_ | with_reducible apply State.findImage_legal | split
    | with_reducible refine Blocks.Keeps.stop ?_ (by assumption) | dsimp only [Blocks.Keeps])

theorem execCtxs_legal (a : GReg) (ea : Bool) {s : State} (hw : Legal s) : LegalOut (execCtxs a ea s) := by
  unfold execCtxs
  repeat' (first
    | with_reducible assumption | with_reducible refine ite_legal ?_ ?_
    | with_reducible apply State.stallFor_legal | with_reducible apply entered_legal
    | with_reducible apply State.findImage_legal | with_reducible apply State.findTable_legal
    | with_reducible apply State.retire_legal | with_reducible apply State.writeBlocks_legal
    | with_reducible apply legalOut_next | split | with_reducible refine Blocks.Keeps.stop ?_ (by assumption) | dsimp only)

theorem State.setCoreCtx_legal {s : State} (c : Nat) (x : Option Nat) (hw : Legal s) :
    Legal (State.setCoreCtx s c x) := by
  unfold State.setCoreCtx
  repeat' (first
    | with_reducible assumption | with_reducible refine ite_legal ?_ ?_ | split | dsimp only)

theorem State.entryChanged_legal {s : State} (c : Nat) (cls : Nat) (was : Nat) (now_ : Nat) (hw : Legal s) :
    Legal (State.entryChanged s c cls was now_) := by
  unfold State.entryChanged
  repeat' (first
    | with_reducible assumption | with_reducible refine ite_legal ?_ ?_ | with_reducible apply State.drainHolding_legal
    | with_reducible apply State.refuseHolding_legal | split | dsimp only)

theorem State.tableChanged_legal {s : State} (c : Nat) (was : Core) (hw : Legal s) : Legal (State.tableChanged s c was) :=
  foldl_legal _ (fun _ _ h => State.entryChanged_legal _ _ _ _ h) hw

theorem State.loadFrom_legal {s : State} (va : Word) (hw : Legal s) : Legal (State.loadFrom s va) := by
  unfold State.loadFrom
  repeat' (first
    | with_reducible assumption | with_reducible refine ite_legal ?_ ?_
    | with_reducible apply State.tableChanged_legal | with_reducible apply State.findImage_legal
    | with_reducible apply State.readBlocks_legal | with_reducible apply State.illegal_legal
    | with_reducible apply State.findTable_legal | with_reducible apply State.modCore_legal
    | with_reducible apply State.setCoreCtx_legal | with_reducible apply State.retire_legal
    | with_reducible refine Blocks.Keeps.stop ?_ (by assumption)
    | with_reducible refine Image.Keeps.stop ?_ (by assumption)
    | with_reducible refine Image.Keeps.ok ?_ (by assumption) | split | dsimp only)

theorem execCtxl_legal (a : GReg) (ea : Bool) {s : State} (hw : Legal s) : LegalOut (execCtxl a ea s) := by
  unfold execCtxl
  repeat' (first
    | with_reducible assumption | with_reducible refine ite_legal ?_ ?_
    | with_reducible apply State.tableChanged_legal | with_reducible apply entered_legal
    | with_reducible apply State.illegal_legal | with_reducible apply State.readBlock_legal
    | with_reducible apply State.loadFrom_legal | with_reducible apply State.modCore_legal
    | with_reducible apply State.setCoreCtx_legal | with_reducible apply State.retire_legal
    | with_reducible apply legalOut_next | with_reducible apply legalOut_fault | with_reducible apply legalOut_refused
    | with_reducible refine Block.Keeps.stop ?_ (by assumption)
    | with_reducible refine Block.Keeps.data ?_ (by assumption) | split | dsimp only)

theorem State.savePlace_legal {s : State} (cls : Nat) (hw : Legal s) : (State.savePlace s cls).Keeps := by
  unfold State.savePlace
  try dsimp only
  repeat' (first
    | with_reducible assumption | with_reducible refine ite_legal ?_ ?_ | with_reducible apply State.find_legal
    | with_reducible apply State.trap_legal | with_reducible apply State.stallFor_legal
    | with_reducible refine Found.Keeps.stop ?_ (by assumption) | split | with_reducible trivial | dsimp only
    | dsimp only [Save.Keeps])

theorem State.putEntry_legal {s : State} (cls : Nat) (e : Words4) (p : Page) (hw : Legal s) :
    Legal (State.putEntry s cls e p) := by
  unfold State.putEntry
  repeat' (first
    | with_reducible assumption | with_reducible refine ite_legal ?_ ?_ | with_reducible apply State.write_legal
    | with_reducible apply State.cross_legal | with_reducible apply State.retire_legal | with_reducible apply State.modCore_legal
    | with_reducible apply State.entryChanged_legal | split | dsimp only)

theorem execWtab_legal (a : GReg) (b : GReg) (ea : Bool) (eb : Bool) {s : State} (hw : Legal s) :
    LegalOut (execWtab a b ea eb s) := by
  unfold execWtab
  repeat' (first
    | with_reducible assumption | with_reducible refine ite_legal ?_ ?_ | with_reducible apply entered_legal
    | with_reducible apply State.illegal_legal | with_reducible apply State.readBlock_legal
    | with_reducible apply State.trap_legal | with_reducible apply State.stallFor_legal
    | with_reducible apply State.savePlace_legal | with_reducible apply State.putEntry_legal
    | with_reducible apply legalOut_next | with_reducible apply legalOut_fault | with_reducible apply legalOut_refused
    | with_reducible refine Block.Keeps.stop ?_ (by assumption)
    | with_reducible refine Block.Keeps.data ?_ (by assumption)
    | with_reducible refine Save.Keeps.stop ?_ (by assumption) | split | dsimp only)

theorem State.setState_legal {s : State} (w : Word) (st : Nat) (hw : Legal s) : Legal (State.setState s w st) := by
  unfold State.setState
  repeat' (first
    | with_reducible assumption | with_reducible refine ite_legal ?_ ?_ | with_reducible apply State.illegal_legal
    | with_reducible apply State.savePlace_legal | with_reducible apply State.putEntry_legal
    | with_reducible refine Save.Keeps.stop ?_ (by assumption) | split | dsimp only)

theorem execWclose_legal (a : GReg) (ea : Bool) {s : State} (hw : Legal s) : LegalOut (execWclose a ea s) :=
  entered_legal _ hw (State.setState_legal _ _ hw)

theorem execWopen_legal (a : GReg) (ea : Bool) {s : State} (hw : Legal s) : LegalOut (execWopen a ea s) :=
  entered_legal _ hw (State.setState_legal _ _ hw)

theorem State.zeroRow_legal {s : State} (c : Nat) (b : Nat) (r : Nat) (hw : Legal s) : Legal (State.zeroRow s c b r) :=
  State.zero_legal hw _ _

theorem execRmap_legal (a : GReg) (b : GReg) (ea : Bool) (eb : Bool) {s : State} (hw : Legal s) :
    LegalOut (execRmap a b ea eb s) := by
  unfold execRmap
  repeat' (first
    | with_reducible assumption | with_reducible refine ite_legal ?_ ?_ | with_reducible apply entered_legal
    | with_reducible apply State.illegal_legal | with_reducible apply State.trap_legal
    | with_reducible apply State.retire_legal | with_reducible apply State.zeroRow_legal
    | with_reducible apply State.setRow_legal | with_reducible apply legalOut_next | split | dsimp only)

theorem execEvac_legal (a : GReg) (b : GReg) (ea : Bool) (eb : Bool) {s : State} (hw : Legal s) :
    LegalOut (execEvac a b ea eb s) := by
  unfold execEvac
  repeat' (first
    | with_reducible assumption | with_reducible refine ite_legal ?_ ?_ | with_reducible apply entered_legal
    | with_reducible apply State.illegal_legal | with_reducible apply State.trap_legal
    | with_reducible apply State.retire_legal | with_reducible apply State.setRow_legal | with_reducible apply legalOut_next
    | split | dsimp only)

/-! ### Fetch -/

theorem execAntiStarvationTurn_legal (core : Nat) {s : State} (hw : Legal s) : LegalOut (execAntiStarvationTurn core s) := by
  unfold execAntiStarvationTurn
  repeat' (first
    | with_reducible assumption | with_reducible refine ite_legal ?_ ?_ | with_reducible apply occurs_legal
    | with_reducible apply State.modCore_legal | with_reducible apply legalOut_next
    | with_reducible apply legalOut_fault | with_reducible apply legalOut_refused | split | dsimp only)

theorem execFetchDutyWindow_legal (core : Nat) {s : State} (hw : Legal s) : LegalOut (execFetchDutyWindow core s) :=
  occurs_legal _ (State.modCore_legal _ _ hw)

theorem State.setCur_legal {s : State} (c : Nat) (n : Nat) (len : Nat) (m : Option Modifier) (hw : Legal s) :
    Legal (State.setCur s c n len m) :=
  hw

theorem State.issueAt_legal {s : State} (c : Nat) (n : Nat) (hw : Legal s) : (State.issueAt s c n).Keeps := by
  unfold State.issueAt
  try dsimp only
  repeat' (first
    | with_reducible assumption | with_reducible refine ite_legal ?_ ?_ | with_reducible apply exec_legal
    | with_reducible apply State.setCur_legal | with_reducible apply State.stallFor_legal
    | with_reducible apply State.trap_legal | with_reducible apply State.eccAbort_legal
    | with_reducible apply State.modWork_legal | with_reducible apply State.retire_legal | split
    | with_reducible trivial | dsimp only | dsimp only [Issue.Keeps])

theorem execEncodingError_legal (reason : Nat) (addr : Word) (word : IWord) {s : State} (hw : Legal s) :
    LegalOut (execEncodingError reason addr word s) :=
  legalOut_next (State.trap_legal _ _ _ hw)

/-! ### Dispatcher -/

theorem State.startIn_legal {s : State} (c : Nat) (n : Nat) (w : Work) (hw : Legal s) : Legal (State.startIn s c n w) := hw

theorem State.dropHead_legal {s : State} (c : Nat) (lvl : Nat) (deque : Bool) (hw : Legal s) :
    Legal (State.dropHead s c lvl deque) :=
  hw

theorem State.parkAgain_legal {s : State} (p : Parked) (l : Loc) (hw : Legal s) : Legal (State.parkAgain s p l) :=
  State.addWatch_legal _ _ _ _ _ hw

theorem State.resume_legal {s : State} (c : Nat) (n : Nat) (p : Parked) (hw : Legal s) : Legal (State.resume s c n p) := hw

theorem State.startCodelet_legal {s : State} (c : Nat) (lvl : Nat) (e : Entry) (dq : Bool) (hw : Legal s) :
    Legal (State.startCodelet s c lvl e dq) := by
  unfold State.startCodelet
  repeat' (first
    | with_reducible assumption | with_reducible refine ite_legal ?_ ?_ | with_reducible apply State.abortOwner_legal
    | with_reducible apply State.dropHead_legal | with_reducible apply State.event_legal
    | with_reducible apply State.pushReady_legal | with_reducible apply State.startIn_legal | split | dsimp only)

theorem State.cellLost_legal {s : State} (c : Nat) (p : Parked) (l : Loc) (hw : Legal s) : Legal (State.cellLost s c p l) :=
  State.eccAbort_legal _ _ _ _ _ _ hw

theorem State.startHead_legal {s : State} (c : Nat) (lvl : Nat) (e : Entry) (dq : Bool) (hw : Legal s) :
    Legal (State.startHead s c lvl e dq) := by
  unfold State.startHead
  repeat' (first
    | with_reducible assumption | with_reducible refine ite_legal ?_ ?_
    | with_reducible apply State.cellLost_legal | with_reducible apply State.startCodelet_legal
    | with_reducible apply State.dropHead_legal | with_reducible apply State.parkAgain_legal
    | with_reducible apply State.resume_legal | with_reducible apply State.startIn_legal | split | dsimp only)

theorem State.popDeque_legal {s : State} (c : Nat) (e : Entry) (hw : Legal s) :
    Legal (State.popDeque s c e) := by
  unfold State.popDeque
  repeat' (first
    | with_reducible assumption | with_reducible refine ite_legal ?_ ?_ | with_reducible apply State.loadEntry_legal
    | with_reducible apply State.atDeque_legal | with_reducible apply State.startHead_legal
    | with_reducible exact fst_legal (by with_reducible apply State.loadEntry_legal <;> assumption) (by assumption)
    | split | dsimp only)

theorem execTaskStart_legal (core : Nat) (lvl : Nat) {s : State} (hw : Legal s) : LegalOut (execTaskStart core lvl s) := by
  unfold execTaskStart
  repeat' (first
    | with_reducible assumption | with_reducible refine ite_legal ?_ ?_ | with_reducible apply occurs_legal
    | with_reducible apply State.startHead_legal | with_reducible apply State.popDeque_legal
    | with_reducible apply State.event_legal | with_reducible apply legalOut_next | with_reducible apply legalOut_fault
    | with_reducible apply legalOut_refused | split | dsimp only)

theorem State.defaultHandler_legal {s : State} (c : Nat) (e : Event) (hw : Legal s) : Legal (State.defaultHandler s c e) := by
  unfold State.defaultHandler
  repeat' (first
    | with_reducible assumption | with_reducible refine ite_legal ?_ ?_ | with_reducible apply State.returnFrom_legal
    | with_reducible apply State.reissue_legal | with_reducible apply State.fmthRefuseAt_legal
    | with_reducible apply State.abortOwner_legal | split | dsimp only)

theorem State.dropEvent_legal {s : State} (c : Nat) (i : Nat) (hw : Legal s) : Legal (State.dropEvent s c i) := hw

theorem execL0HandlerStart_legal (core : Nat) {s : State} (hw : Legal s) : LegalOut (execL0HandlerStart core s) := by
  unfold execL0HandlerStart
  repeat' (first
    | with_reducible assumption | with_reducible refine ite_legal ?_ ?_ | with_reducible apply occurs_legal
    | with_reducible apply State.defaultHandler_legal | with_reducible apply State.dropEvent_legal
    | with_reducible apply State.startIn_legal | with_reducible apply legalOut_next | split | dsimp only)

theorem execDeferredTrapDelivery_legal (core : Nat) (slot : Nat) {s : State} (hw : Legal s) :
    LegalOut (execDeferredTrapDelivery core slot s) := by
  unfold execDeferredTrapDelivery
  repeat' (first
    | with_reducible assumption | with_reducible refine ite_legal ?_ ?_ | with_reducible apply occurs_legal
    | with_reducible apply State.takeTrap_legal | with_reducible apply State.modWork_legal
    | with_reducible apply legalOut_next | split | dsimp only)

theorem execSpillRefill_legal (core : Nat) (lvl : Nat) {s : State} (hw : Legal s) : LegalOut (execSpillRefill core lvl s) := by
  unfold execSpillRefill
  repeat' (first
    | with_reducible assumption | with_reducible refine ite_legal ?_ ?_
    | with_reducible apply State.payOwed_legal | with_reducible apply occurs_legal
    | with_reducible apply State.refill_legal | with_reducible apply State.refillEvents_legal
    | with_reducible apply legalOut_next | with_reducible apply legalOut_fault | with_reducible apply legalOut_refused
    | split | dsimp only)

theorem State.steal_legal {s : State} (thief : Nat) (victim : Nat) (hw : Legal s) : Legal (State.steal s thief victim) := by
  unfold State.steal
  repeat' (first
    | with_reducible assumption | with_reducible refine ite_legal ?_ ?_ | with_reducible apply State.loadEntry_legal
    | with_reducible apply State.atDeque_legal | with_reducible apply State.modCore_legal
    | with_reducible apply State.pushReady_legal | with_reducible refine fst_legal ?_ (by assumption) | split
    | dsimp only)

theorem execStealRequest_legal (thief : Nat) (victim : Nat) {s : State} (hw : Legal s) :
    LegalOut (execStealRequest thief victim s) := by
  unfold execStealRequest
  repeat' (first
    | with_reducible assumption | with_reducible refine ite_legal ?_ ?_ | with_reducible apply occurs_legal
    | with_reducible apply State.steal_legal | with_reducible apply legalOut_next | split | dsimp only)

theorem execStealRound_legal (core : Nat) {s : State} (hw : Legal s) : LegalOut (execStealRound core s) := by
  unfold execStealRound
  repeat' (first
    | with_reducible assumption | with_reducible refine ite_legal ?_ ?_ | with_reducible apply occurs_legal
    | with_reducible apply State.steal_legal | with_reducible apply State.modCore_legal | with_reducible apply legalOut_next
    | split | dsimp only)

theorem execStagePop_legal (core : Nat) {s : State} (hw : Legal s) : LegalOut (execStagePop core s) := by
  unfold execStagePop
  repeat' (first
    | with_reducible assumption | with_reducible refine ite_legal ?_ ?_ | with_reducible apply occurs_legal
    | with_reducible apply State.startIn_legal | with_reducible apply State.modCluster_legal
    | with_reducible apply legalOut_next | split | dsimp only)

theorem State.moveSubscriber_legal {s : State} (n : Nat) (lo : Nat) (hi : Nat) (hw : Legal s) :
    Legal (State.moveSubscriber s n lo hi) := by
  unfold State.moveSubscriber
  repeat' (first
    | with_reducible assumption | with_reducible refine ite_legal ?_ ?_ | with_reducible apply State.modCore_legal
    | with_reducible apply State.modCluster_legal | split | dsimp only)

theorem execGovernorWindow_legal (cluster : Nat) {s : State} (hw : Legal s) : LegalOut (execGovernorWindow cluster s) := by
  unfold execGovernorWindow
  repeat' (first
    | with_reducible assumption | with_reducible refine ite_legal ?_ ?_ | with_reducible apply occurs_legal
    | with_reducible apply State.modCluster_legal | with_reducible apply State.moveSubscriber_legal
    | with_reducible apply legalOut_next | split | with_reducible refine foldl_legal _ (fun t e hw => ?_) ?_ | dsimp only)

theorem execWatchWake_legal (core : Nat) (line : Nat) {s : State} (hw : Legal s) : LegalOut (execWatchWake core line s) := by
  unfold execWatchWake
  repeat' (first
    | with_reducible assumption | with_reducible refine ite_legal ?_ ?_ | with_reducible apply occurs_legal
    | with_reducible apply State.wakeLine_legal | with_reducible apply legalOut_next | split | dsimp only)

theorem execWaitaTimeout_legal (id : Nat) {s : State} (hw : Legal s) : LegalOut (execWaitaTimeout id s) := by
  unfold execWaitaTimeout
  repeat' (first
    | with_reducible assumption | with_reducible refine ite_legal ?_ ?_ | with_reducible apply State.wake_legal
    | with_reducible apply State.unwatch_legal | with_reducible apply legalOut_next | split | dsimp only)

theorem execParkTimeout_legal (id : Nat) {s : State} (hw : Legal s) : LegalOut (execParkTimeout id s) := by
  unfold execParkTimeout
  repeat' (first
    | with_reducible assumption | with_reducible refine ite_legal ?_ ?_ | with_reducible apply State.wake_legal
    | with_reducible apply legalOut_next | split | dsimp only)

theorem State.placeOn_legal {s : State} (t : Team) (n : Nat) (hw : Legal s) : LegalOpt (State.placeOn s t n) := by
  unfold State.placeOn
  repeat' (first
    | with_reducible assumption | with_reducible refine ite_legal ?_ ?_ | with_reducible apply State.bump_legal
    | with_reducible apply State.pushReady_legal | with_reducible apply State.barSettle_legal
    | with_reducible exact legalOpt_none | with_reducible apply legalOpt_some | split
    | with_reducible refine foldl_legal _ (fun t e hw => ?_) ?_ | dsimp only)

theorem State.deal_legal {s : State} (t : Team) (hw : Legal s) : Legal (State.deal s t) := by
  unfold State.deal
  dsimp only
  exact getD_legal hw (findSome_legal _ (fun n => State.placeOn_legal t n hw))

theorem State.modTeam_legal {s : State} (id : Nat) (f : Team → Team) (hw : Legal s) : Legal (State.modTeam s id f) := hw

theorem execSwapQuantum_legal (cluster : Nat) {s : State} (hw : Legal s) : LegalOut (execSwapQuantum cluster s) := by
  unfold execSwapQuantum
  repeat' (first
    | with_reducible assumption | with_reducible refine ite_legal ?_ ?_ | with_reducible apply occurs_legal
    | with_reducible apply State.modCluster_legal | with_reducible apply State.setEngine_legal
    | with_reducible apply State.modTeam_legal | with_reducible apply legalOut_next | split
    | with_reducible refine foldl_legal _ (fun t e hw => ?_) ?_ | dsimp only)

theorem State.wakeTeam_legal {s : State} (t0 : Team) (hw : Legal s) : Legal (State.wakeTeam s t0) := by
  unfold State.wakeTeam
  repeat' (first
    | with_reducible assumption | with_reducible refine ite_legal ?_ ?_ | with_reducible apply State.wakeParked_legal
    | with_reducible apply State.unwatch_legal | split | with_reducible refine foldl_legal _ (fun t e hw => ?_) ?_
    | dsimp only)

theorem State.clearTeamEngines_legal {s : State} (t0 : Team) (hw : Legal s) : Legal (State.clearTeamEngines s t0) := by
  unfold State.clearTeamEngines
  repeat' (first
    | with_reducible assumption | with_reducible refine ite_legal ?_ ?_ | with_reducible apply State.clearEngine_legal | split
    | with_reducible refine foldl_legal _ (fun t e hw => ?_) ?_ | dsimp only)

theorem State.stopJobs_legal {s : State} (t0 : Team) (stopped : Bool) (hw : Legal s) : Legal (State.stopJobs s t0 stopped) :=
  hw

theorem State.withdrawGmu_legal {s : State} (t0 : Team) (hw : Legal s) : Legal (State.withdrawGmu s t0) := by
  unfold State.withdrawGmu
  repeat' (first
    | with_reducible assumption | with_reducible refine ite_legal ?_ ?_ | with_reducible apply State.modCore_legal
    | with_reducible apply State.gmRelease_legal | split | with_reducible refine foldl_legal _ (fun t e hw => ?_) ?_
    | dsimp only)

theorem State.takeEntries_legal {s : State} (t0 : Team) (hw : Legal s) : Legal (State.takeEntries s t0) := by
  unfold State.takeEntries
  repeat' (first
    | with_reducible assumption | with_reducible refine ite_legal ?_ ?_ | with_reducible apply State.modTeam_legal
    | with_reducible apply State.keepEntries_legal | split | with_reducible refine foldl_legal _ (fun t e hw => ?_) ?_
    | dsimp only)

theorem State.saveTeam_legal {s : State} (t0 : Team) (hw : Legal s) : Legal (State.saveTeam s t0) := by
  unfold State.saveTeam
  repeat' (first
    | with_reducible assumption | with_reducible refine ite_legal ?_ ?_ | with_reducible apply State.takeEntries_legal
    | with_reducible apply State.stopJobs_legal | with_reducible apply State.clearTeamEngines_legal
    | with_reducible apply State.wakeTeam_legal | with_reducible apply State.withdrawGmu_legal
    | with_reducible apply State.modTeam_legal | with_reducible apply State.setEngine_legal
    | with_reducible apply State.bump_legal | with_reducible apply State.modSlot_legal | split
    | with_reducible refine foldl_legal _ (fun t e hw => ?_) ?_ | dsimp only)

theorem execTeamSwapOut_legal (team : Nat) {s : State} (hw : Legal s) : LegalOut (execTeamSwapOut team s) := by
  unfold execTeamSwapOut
  repeat' (first
    | with_reducible assumption | with_reducible refine ite_legal ?_ ?_
    | with_reducible apply State.unstop_legal
    | with_reducible apply State.modTeam_legal | with_reducible apply State.find_legal
    | with_reducible apply State.abortOwner_legal | with_reducible apply State.saveTeam_legal
    | with_reducible apply legalOut_next | with_reducible apply legalOut_fault | with_reducible apply legalOut_refused
    | with_reducible refine Found.Keeps.stop ?_ (by assumption) | split | dsimp only)

theorem State.requeue_legal {s : State} (e : Nat × Nat × Work) (hw : Legal s) : Legal (State.requeue s e) :=
  State.pushReady_legal _ _ _ (State.bump_legal hw)

theorem State.restoreEngine_legal (t : Team) {s : State} (e : Nat × Engine) (hw : Legal s) :
    Legal (State.restoreEngine t s e) := by
  unfold State.restoreEngine
  repeat' (first
    | with_reducible assumption | with_reducible refine ite_legal ?_ ?_ | with_reducible apply State.modTeam_legal
    | with_reducible apply State.setEngine_legal | split | dsimp only)

theorem State.restoreTeam_legal {s : State} (t : Team) (hw : Legal s) : Legal (State.restoreTeam s t) := by
  unfold State.restoreTeam
  dsimp only
  refine State.resolveJobs_legal _ _ (State.stopJobs_legal _ _ (foldl_legal _ (fun u e hu => State.pushAll_legal _ _ _ hu) ?_))
  refine foldl_legal _ (fun u e hu => State.requeue_legal _ hu) (foldl_legal _ (fun u e hu => State.pushDeque_legal _ _ hu) ?_)
  refine foldl_legal _ (fun u e hu => State.restoreEngine_legal _ _ hu) (State.bump_legal (State.modTeam_legal _ _ ?_))
  exact legal_withMem (m := restoreCells (dropRanges s.mem t.ranges) t.savedMem) hw (restoreCells_wf _ (dropRanges_wf _ (legal_mem hw)))

theorem execTeamSwapIn_legal (team : Nat) {s : State} (hw : Legal s) : LegalOut (execTeamSwapIn team s) := by
  unfold execTeamSwapIn
  refine legalOut_next ?_
  split
  · exact hw
  · dsimp only
    split
    · exact hw
    · split
      · split
        · exact State.restoreTeam_legal _ hw
        · exact hw
      · exact getD_legal hw (findSome_legal _ (fun n => State.placeOn_legal _ n hw))

/-! ### Flights -/

theorem State.dropRet_legal {s : State} (id : Nat) (hw : Legal s) : Legal (State.dropRet s id) := hw

theorem State.setFlight_legal {s : State} (id : Nat) (st : FState) (hw : Legal s) : Legal (State.setFlight s id st) := hw

theorem execRegisterFill_legal (id : Nat) {s : State} (hw : Legal s) : LegalOut (execRegisterFill id s) := by
  unfold execRegisterFill
  repeat' (first
    | with_reducible assumption | with_reducible refine ite_legal ?_ ?_ | with_reducible apply State.fill_legal
    | with_reducible apply State.dropRet_legal | with_reducible apply legalOut_next | split | dsimp only)

theorem execRefusalReturn_legal (id : Nat) {s : State} (hw : Legal s) : LegalOut (execRefusalReturn id s) := by
  unfold execRefusalReturn
  repeat' (first
    | with_reducible assumption | with_reducible refine ite_legal ?_ ?_ | with_reducible apply State.deferTo_legal
    | with_reducible apply State.fill_legal | with_reducible apply State.dropRet_legal
    | with_reducible apply State.event_legal | with_reducible apply legalOut_next | split | dsimp only)

theorem State.abortFlight_legal {s : State} (f : Flight) (reason : Nat) (hw : Legal s) : Legal (State.abortFlight s f reason) :=
  ite_legal (State.abortContext_legal _ _ _ _ hw) (State.abortOwner_legal _ _ hw)

theorem execRemoteAccessAtHome_legal (id : Nat) {s : State} (hw : Legal s) : LegalOut (execRemoteAccessAtHome id s) := by
  unfold execRemoteAccessAtHome
  repeat' (first
    | with_reducible assumption | with_reducible refine ite_legal ?_ ?_
    | with_reducible apply State.abortFlight_legal | with_reducible apply State.setFlight_legal
    | with_reducible apply State.modCore_legal | with_reducible apply State.sendFlits_legal
    | with_reducible apply State.performFlight_legal | with_reducible apply legalOut_next
    | with_reducible apply legalOut_fault | with_reducible apply legalOut_refused | split | dsimp only)

theorem execReleaseRetry_legal (id : Nat) {s : State} (hw : Legal s) : LegalOut (execReleaseRetry id s) := by
  unfold execReleaseRetry
  repeat' (first
    | with_reducible assumption | with_reducible refine ite_legal ?_ ?_ | with_reducible apply State.setFlight_legal
    | with_reducible apply legalOut_next | split | dsimp only)

theorem execCommitToken_legal (id : Nat) {s : State} (hw : Legal s) : LegalOut (execCommitToken id s) := by
  unfold execCommitToken
  repeat' (first
    | with_reducible assumption | with_reducible refine ite_legal ?_ ?_ | with_reducible apply State.setFlight_legal
    | with_reducible apply State.sendFlits_legal | with_reducible apply State.performFlight_legal
    | with_reducible apply legalOut_next | with_reducible apply legalOut_fault | with_reducible apply legalOut_refused
    | split | dsimp only)

theorem execReleaseWithdraw_legal (id : Nat) {s : State} (hw : Legal s) : LegalOut (execReleaseWithdraw id s) := by
  unfold execReleaseWithdraw
  repeat' (first
    | with_reducible assumption | with_reducible refine ite_legal ?_ ?_ | with_reducible apply legalOut_next | split
    | dsimp only)

theorem execScopeMissReturn_legal (id : Nat) {s : State} (hw : Legal s) : LegalOut (execScopeMissReturn id s) := by
  unfold execScopeMissReturn
  repeat' (first
    | with_reducible assumption | with_reducible refine ite_legal ?_ ?_ | with_reducible apply State.modSlot_legal
    | with_reducible apply State.modCore_legal | with_reducible apply State.event_legal | with_reducible apply legalOut_next
    | split | dsimp only)

theorem State.dropWanted_legal {s : State} (c : Nat) (hw : Legal s) :
    Legal (State.dropWanted s c) := by
  unfold State.dropWanted
  repeat' (first
    | with_reducible assumption | with_reducible refine ite_legal ?_ ?_ | with_reducible apply State.modCore_legal
    | split | dsimp only)

theorem State.walkRecord_legal {s : State} (c : Nat) (n : Nat) (va : Word) (kind : Nat) (hw : Legal s) :
    Legal (State.walkRecord s c n va kind) :=
  State.faultRecord_legal _ _ _ _ _ _ _ hw

theorem State.giveUp_legal {s : State} (c : Nat) (w : Wanted) (record : Bool) (hw : Legal s) :
    Legal (State.giveUp s c w record) := by
  unfold State.giveUp
  repeat' (first
    | with_reducible assumption | with_reducible refine ite_legal ?_ ?_ | with_reducible apply State.modCore_legal
    | with_reducible apply State.faultRecord_legal | with_reducible apply State.abortOwner_legal | split | dsimp only)

theorem State.walkAbsent_legal {s : State} (c : Nat) (n : Nat) (x3 : Missing) (hw : Legal s) :
    Legal (State.walkAbsent s c n x3) := by
  unfold State.walkAbsent
  repeat' (first
    | with_reducible assumption | with_reducible refine ite_legal ?_ ?_ | with_reducible apply State.walkRecord_legal
    | with_reducible apply State.cancelAt_legal | with_reducible apply State.takeTrap_legal
    | with_reducible apply State.abortOwner_legal | with_reducible apply State.giveUp_legal | split | dsimp only)

theorem State.walkRefused_legal {s : State} (c : Nat) (n : Nat) (x3 : Missing) (hw : Legal s) :
    Legal (State.walkRefused s c n x3) := by
  unfold State.walkRefused
  repeat' (first
    | with_reducible assumption | with_reducible refine ite_legal ?_ ?_ | with_reducible apply State.cancelAt_legal
    | with_reducible apply State.takeTrap_legal | with_reducible apply State.abortOwner_legal
    | with_reducible apply State.giveUp_legal | split | dsimp only)

theorem State.walkDone_legal {s : State} (c : Nat) (n : Nat) (x3 : Missing) (hw : Legal s) : Legal (State.walkDone s c n x3) := by
  unfold State.walkDone
  repeat' (first
    | with_reducible assumption | with_reducible refine ite_legal ?_ ?_ | with_reducible apply State.drainWaiting_legal
    | with_reducible apply State.dropWanted_legal | with_reducible apply State.modSlot_legal | split | dsimp only)

theorem execTlbMissMessage_legal (core : Nat) (slot : Nat) (ans : WalkAnswer) {s : State} (hw : Legal s) :
    LegalOut (execTlbMissMessage core slot ans s) := by
  unfold execTlbMissMessage
  repeat' (first
    | with_reducible assumption | with_reducible refine ite_legal ?_ ?_ | with_reducible apply occurs_legal
    | with_reducible apply State.dropWanted_legal | with_reducible apply State.drainWaiting_legal
    | with_reducible apply State.walked_legal | with_reducible apply State.walkDone_legal
    | with_reducible apply State.walkAbsent_legal | with_reducible apply State.walkRefused_legal
    | with_reducible apply legalOut_next | with_reducible apply legalOut_fault | with_reducible apply legalOut_refused
    | with_reducible refine Walked.Keeps.entry ?_ (by assumption) | split | dsimp only)

theorem execRemoteAccessTimeout_legal (id : Nat) {s : State} (hw : Legal s) : LegalOut (execRemoteAccessTimeout id s) := by
  unfold execRemoteAccessTimeout
  repeat' (first
    | with_reducible assumption | with_reducible refine ite_legal ?_ ?_ | with_reducible apply State.dropFlight_legal
    | with_reducible apply State.landPart_legal | with_reducible apply State.jobTimeout_legal
    | with_reducible apply legalOut_next | with_reducible apply legalOut_fault | with_reducible apply legalOut_refused
    | split | dsimp only)

/-! ### Power -/

theorem State.newPeriod_legal {s : State} (hw : Legal s) :
    Legal (State.newPeriod s) := by
  unfold State.newPeriod
  repeat' (first
    | with_reducible assumption | with_reducible refine ite_legal ?_ ?_ | split | dsimp only)

theorem State.takeDuties_legal {s : State} (duty : Nat) (hw : Legal s) : Legal (State.takeDuties s duty) := by
  unfold State.takeDuties
  repeat' (first
    | with_reducible assumption | with_reducible refine ite_legal ?_ ?_ | with_reducible apply State.modCore_legal
    | with_reducible apply State.modCluster_legal | split | with_reducible refine foldl_legal _ (fun t e hw => ?_) ?_
    | dsimp only)

theorem State.releaseClamp_legal {s : State} (hw : Legal s) : Legal (State.releaseClamp s) := by
  unfold State.releaseClamp
  repeat' (first | with_reducible assumption | with_reducible refine ite_legal ?_ ?_ | split | dsimp only)

theorem execBudgetPeriod_legal (nonCore : Nat) (energy : List (Nat × Nat)) {s : State} (hw : Legal s) :
    LegalOut (execBudgetPeriod nonCore energy s) :=
  legalOut_next (State.releaseClamp_legal (State.takeDuties_legal _ hw))

theorem execMonitorSample_legal (power : BitVec 16) (current : BitVec 16) {s : State} (hw : Legal s) :
    LegalOut (execMonitorSample power current s) := by
  unfold execMonitorSample
  repeat' (first
    | with_reducible assumption | with_reducible refine ite_legal ?_ ?_ | with_reducible apply State.event_legal
    | with_reducible apply legalOut_next | split | with_reducible refine foldl_legal _ (fun t e hw => ?_) ?_ | dsimp only)

theorem execSensorSample_legal (temps : List (BitVec 16)) {s : State} (hw : Legal s) : LegalOut (execSensorSample temps s) :=
  legalOut_next hw

theorem execPsTableWrite_legal (state : Nat) (mask : BitVec 8) {s : State} (hw : Legal s) : LegalOut (execPsTableWrite state mask s) := by
  unfold execPsTableWrite
  refine legalOut_next ?_
  obtain ⟨h1, h2, h3, h4, h5, h6, h7, h8⟩ := hw
  split
  · exact ⟨h1, h2, h3, h4, h5, h6, h7, h8⟩
  · split
    · rename_i h; exact ⟨h1, h2, h3, h4, h5, h.2, h7, h8⟩
    · split
      · rename_i h; exact ⟨h1, h2, h3, h4, h5, h6, h.2, h8⟩
      · exact ⟨h1, h2, h3, h4, h5, h6, h7, h8⟩

theorem execStateRequest_legal (value : Word) {s : State} (hw : Legal s) : LegalOut (execStateRequest value s) := by
  unfold execStateRequest
  repeat' (first
    | with_reducible assumption | with_reducible refine ite_legal ?_ ?_ | with_reducible apply State.requestState_legal
    | with_reducible apply legalOut_next | split | dsimp only)

theorem State.regainRow_legal (k : Nat) (c : Nat) (b : Nat) {s : State} (r : Nat) (hw : Legal s) :
    Legal (State.regainRow k c b s r) := by
  unfold State.regainRow
  repeat' (first
    | with_reducible assumption | with_reducible refine ite_legal ?_ ?_ | with_reducible apply State.zeroRow_legal
    | with_reducible apply State.setRow_legal | split | dsimp only)

theorem State.regainCore_legal {s : State} (c : Nat) (old : Nat) (k : Nat) (hw : Legal s) :
    Legal (State.regainCore s c old k) := by
  unfold State.regainCore
  repeat' (first
    | with_reducible assumption | with_reducible refine ite_legal ?_ ?_ | with_reducible apply State.regainRow_legal | split
    | with_reducible refine foldl_legal _ (fun t e hw => ?_) ?_ | dsimp only)

theorem State.raiseIsland_legal {s : State} (i : Nat) (hw : Legal s) : Legal (State.raiseIsland s i) := by
  unfold State.raiseIsland
  repeat' (first
    | with_reducible assumption | with_reducible refine ite_legal ?_ ?_ | with_reducible apply State.regainCore_legal | split
    | with_reducible refine foldl_legal _ (fun t e hw => ?_) ?_ | dsimp only)

theorem State.evacRow_legal (k : Nat) (c : Nat) (b : Nat) {s : State} (r : Nat) (hw : Legal s) :
    Legal (State.evacRow k c b s r) := by
  unfold State.evacRow
  repeat' (first
    | with_reducible assumption | with_reducible refine ite_legal ?_ ?_ | with_reducible apply State.setRow_legal | split
    | dsimp only)

theorem State.lowerBuffer_legal (k : Nat) (c : Nat) {s : State} (b : Nat) (hw : Legal s) : Legal (State.lowerBuffer k c s b) := by
  unfold State.lowerBuffer
  repeat' (first
    | with_reducible assumption | with_reducible refine ite_legal ?_ ?_ | with_reducible apply State.zeroRow_legal
    | with_reducible apply State.setRow_legal | with_reducible apply State.evacRow_legal | split
    | with_reducible refine foldl_legal _ (fun t e hw => ?_) ?_ | dsimp only)

theorem State.dropTensors_legal {s : State} (c : Nat) (hw : Legal s) : Legal (State.dropTensors s c) := hw

theorem State.dropLostJob_legal {s : State} (e : Nat) (hw : Legal s) : Legal (State.dropLostJob s e) := by
  unfold State.dropLostJob
  repeat' (first
    | with_reducible assumption | with_reducible refine ite_legal ?_ ?_ | with_reducible apply State.faultJob_legal | split
    | dsimp only)

theorem State.suspendLost_legal {s : State} (cl : Nat) (j : CopyJob) (hw : Legal s) : Legal (State.suspendLost s cl j) := by
  unfold State.suspendLost
  repeat' (first
    | with_reducible assumption | with_reducible refine ite_legal ?_ ?_ | with_reducible apply State.faultRecord_legal
    | with_reducible apply State.modJob_legal | with_reducible apply State.cpyFault_legal
    | with_reducible apply State.jobArrives_legal | split | dsimp only)

theorem State.suspendLostJobs_legal {s : State} (cs : List Nat) (cl : Nat) (hw : Legal s) :
    Legal (State.suspendLostJobs s cs cl) := by
  unfold State.suspendLostJobs
  repeat' (first
    | with_reducible assumption | with_reducible refine ite_legal ?_ ?_ | with_reducible apply State.suspendLost_legal
    | split | with_reducible refine foldl_legal _ (fun t e hw => ?_) ?_ | dsimp only)

theorem State.beginLeave_legal {s : State} (t0 : Team) (hw : Legal s) : Legal (State.beginLeave s t0) := by
  unfold State.beginLeave
  repeat' (first
    | with_reducible assumption | with_reducible refine ite_legal ?_ ?_ | with_reducible apply State.setEngine_legal
    | with_reducible apply State.modTeam_legal | split | with_reducible refine foldl_legal _ (fun t e hw => ?_) ?_
    | dsimp only)

theorem State.lowerIsland_legal {s : State} (i : Nat) (hw : Legal s) : Legal (State.lowerIsland s i) := by
  unfold State.lowerIsland
  repeat' (first
    | with_reducible assumption | with_reducible refine ite_legal ?_ ?_ | with_reducible apply State.lowerBuffer_legal
    | with_reducible apply State.dropTensors_legal | with_reducible apply State.dropLostJob_legal
    | with_reducible apply State.suspendLostJobs_legal | with_reducible apply State.modCore_legal | split
    | with_reducible refine foldl_legal _ (fun t e hw => ?_) ?_ | dsimp only)

theorem execIslandStepDown_legal (island : Nat) {s : State} (hw : Legal s) : LegalOut (execIslandStepDown island s) := by
  unfold execIslandStepDown
  repeat' (first
    | with_reducible assumption | with_reducible refine ite_legal ?_ ?_ | with_reducible apply occurs_legal
    | with_reducible apply State.modCore_legal | with_reducible apply State.lowerIsland_legal
    | with_reducible apply State.beginLeave_legal | with_reducible apply legalOut_next | split
    | with_reducible refine foldl_legal _ (fun t e hw => ?_) ?_ | dsimp only)

theorem State.setEntryState_legal {s : State} (c : Nat) (cls : Nat) (st : Nat) (hw : Legal s) :
    Legal (State.setEntryState s c cls st) := by
  unfold State.setEntryState
  repeat' (first
    | with_reducible assumption | with_reducible refine ite_legal ?_ ?_ | with_reducible apply State.setCore_legal
    | with_reducible apply State.write_legal | split | dsimp only)

theorem State.beginPark_legal {s : State} (d : Nat) (hw : Legal s) : Legal (State.beginPark s d) := by
  unfold State.beginPark
  repeat' (first
    | with_reducible assumption | with_reducible refine ite_legal ?_ ?_ | with_reducible apply State.setEntryState_legal
    | with_reducible apply State.beginLeave_legal | split | with_reducible refine foldl_legal _ (fun t e hw => ?_) ?_
    | dsimp only)

theorem State.closeDie_legal {s : State} (d : Nat) (hw : Legal s) :
    Legal (State.closeDie s d) := by
  unfold State.closeDie
  repeat' (first
    | with_reducible assumption | with_reducible refine ite_legal ?_ ?_ | with_reducible apply State.setEntryState_legal
    | split | with_reducible refine foldl_legal _ (fun t e hw => ?_) ?_ | dsimp only)

theorem State.refuseHeld_legal {s : State} (c : Nat) (hw : Legal s) : Legal (State.refuseHeld s c) := by
  unfold State.refuseHeld
  repeat' (first
    | with_reducible assumption | with_reducible refine ite_legal ?_ ?_ | with_reducible apply State.refusePacket_legal
    | with_reducible apply State.modCore_legal | split | with_reducible refine foldl_legal _ (fun t e hw => ?_) ?_
    | dsimp only)

theorem State.finishPark_legal {s : State} (d : Nat) (hw : Legal s) : Legal (State.finishPark s d) := by
  unfold State.finishPark
  refine foldl_legal _ (fun t e hw => State.refuseHeld_legal _ (State.modCore_legal _ _ hw)) ?_
  exact legal_withMem hw (dropRanges_wf _ (legal_mem hw))

theorem execDiePark_legal (d : Nat) {s : State} (hw : Legal s) : LegalOut (execDiePark d s) := by
  unfold execDiePark
  repeat' (first
    | with_reducible assumption | with_reducible refine ite_legal ?_ ?_ | with_reducible apply occurs_legal
    | with_reducible apply State.beginPark_legal | with_reducible apply State.closeDie_legal
    | with_reducible apply State.finishPark_legal | with_reducible apply legalOut_next
    | with_reducible apply legalOut_fault | with_reducible apply legalOut_refused | split | dsimp only)

theorem State.rebuildMap_legal (k : Nat) {s : State} (cb : Nat × Nat) (hw : Legal s) : Legal (State.rebuildMap k s cb) := by
  unfold State.rebuildMap
  repeat' (first
    | with_reducible assumption | with_reducible refine ite_legal ?_ ?_ | with_reducible apply State.setRow_legal | split
    | with_reducible refine foldl_legal _ (fun t e hw => ?_) ?_ | dsimp only)

theorem State.unparkDie_legal {s : State} (d : Nat) (hw : Legal s) : Legal (State.unparkDie s d) := by
  unfold State.unparkDie
  dsimp only
  refine foldl_legal _ (fun t e hw => State.modCore_legal _ _ hw) (foldl_legal _ (fun t e hw => ?_) ?_)
  · split
    · exact State.drainHolding_legal _ _ (State.setEntryState_legal _ _ _ hw)
    · exact hw
  · refine legal_withMem ?_ (restoreCells_wf _ (dropRanges_wf _ (legal_mem ?_)))
    · exact foldl_legal _ (fun t e hw => State.rebuildMap_legal _ _ hw) hw
    · exact foldl_legal _ (fun t e hw => State.rebuildMap_legal _ _ hw) hw

theorem execDieUnpark_legal (d : Nat) {s : State} (hw : Legal s) : LegalOut (execDieUnpark d s) := by
  unfold execDieUnpark
  repeat' (first
    | with_reducible assumption | with_reducible refine ite_legal ?_ ?_ | with_reducible apply occurs_legal
    | with_reducible apply State.unparkDie_legal | with_reducible apply legalOut_next | split | dsimp only)

theorem State.beginTransition_legal {s : State} (t : Nat) (ht : t ≤ 7) (hw : Legal s) : Legal (State.beginTransition s t) :=
  ⟨hw.1, hw.2.1, hw.2.2.1, ht, (fun _ h => by cases h), hw.2.2.2.2.2⟩

theorem State.actOnRequest_legal {s : State} (t : Nat) (ht : t ≤ 7) (hw : Legal s) : Legal (State.actOnRequest s t) := by
  unfold State.actOnRequest
  split
  · exact ⟨hw.1, hw.2.1, hw.2.2.1, ht, (fun _ h => by cases h), hw.2.2.2.2.2⟩
  · split
    · exact ⟨hw.1, hw.2.1, hw.2.2.1, hw.2.2.1, (fun _ h => by cases h), hw.2.2.2.2.2⟩
    · split
      · exact ⟨hw.1, hw.2.1, hw.2.2.1, (by decide : 6 ≤ 7), (fun _ h => by cases h; exact ht), hw.2.2.2.2.2⟩
      · exact State.beginTransition_legal t ht hw

theorem State.advance_legal {s : State} (hw : Legal s) : Legal (State.advance s) := by
  unfold State.advance
  split
  · exact hw
  · split
    · exact foldl_legal _ (fun t e hw => State.raiseIsland_legal _ hw) hw
    · split
      · exact hw
      · exact ⟨hw.1, hw.2.1, hw.2.2.2.1, hw.2.2.2.1, hw.2.2.2.2⟩

theorem execTransitionStart_legal {s : State} (hw : Legal s) : LegalOut (execTransitionStart s) := by
  unfold execTransitionStart
  refine legalOut_next ?_
  split
  · exact State.advance_legal hw
  · split
    · exact State.actOnRequest_legal _ (hw.2.2.2.2.1 _ (by assumption)) hw
    · exact hw

/-! ### HostIo -/

theorem State.taken_legal {s : State} (q : Nat) (hw : Legal s) : Legal (State.taken s q) := hw

theorem State.answer_legal {s : State} (q : Nat) (status : Nat) (r : List Word) (hw : Legal s) :
    Legal (State.answer s q status r) :=
  State.complete_legal _ _ _ _ _ _ _ (State.taken_legal _ hw)

theorem State.setTail_legal {s : State} (q : Nat) (tail : Nat) (hw : Legal s) :
    Legal (State.setTail s q tail) := by
  unfold State.setTail
  repeat' (first
    | with_reducible assumption | with_reducible refine ite_legal ?_ ?_ | with_reducible apply State.setQueue_legal
    | split | dsimp only)

theorem execSqDoorbell_legal (q : Nat) (tail : Nat) {s : State} (hw : Legal s) : LegalOut (execSqDoorbell q tail s) :=
  occurs_legal _ (State.setQueue_legal _ _ hw)

theorem State.setCqHead_legal {s : State} (q : Nat) (head : Nat) (hw : Legal s) :
    Legal (State.setCqHead s q head) := by
  unfold State.setCqHead
  repeat' (first
    | with_reducible assumption | with_reducible refine ite_legal ?_ ?_
    | with_reducible apply State.postCompletion_legal | with_reducible apply State.setQueue_legal | split
    | with_reducible refine foldl_legal _ (fun t e hw => ?_) ?_ | dsimp only)

theorem execCqHeadWrite_legal (q : Nat) (head : Nat) {s : State} (hw : Legal s) : LegalOut (execCqHeadWrite q head s) := by
  unfold execCqHeadWrite
  repeat' (first
    | with_reducible assumption | with_reducible refine ite_legal ?_ ?_ | with_reducible apply occurs_legal
    | with_reducible apply State.setCqHead_legal | with_reducible apply legalOut_next
    | with_reducible apply legalOut_fault | with_reducible apply legalOut_refused | split | dsimp only)

theorem State.configure_legal {s : State} (q : Nat) (word : Nat) (value : Word) (hw : Legal s) :
    Legal (State.configure s q word value) := by
  unfold State.configure
  repeat' (first
    | with_reducible assumption | with_reducible refine ite_legal ?_ ?_ | with_reducible apply State.setQueue_legal
    | split | dsimp only)

theorem execQueueConfigurationWrite_legal (q : Nat) (word : Nat) (value : Word) {s : State} (hw : Legal s) :
    LegalOut (execQueueConfigurationWrite q word value s) := by
  unfold execQueueConfigurationWrite
  repeat' (first
    | with_reducible assumption | with_reducible refine ite_legal ?_ ?_ | with_reducible apply occurs_legal
    | with_reducible apply State.configure_legal | with_reducible apply legalOut_next
    | with_reducible apply legalOut_fault | with_reducible apply legalOut_refused | split | dsimp only)

theorem State.placeTeams_legal {s : State} (launch : Nat) (r : List Word) (hw : Legal s) :
    Legal (State.placeTeams s launch r) := by
  unfold State.placeTeams
  repeat' (first
    | with_reducible assumption | with_reducible refine ite_legal ?_ ?_ | with_reducible apply State.deal_legal
    | with_reducible apply State.bump_legal | split | with_reducible refine foldl_legal _ (fun t e hw => ?_) ?_ | dsimp only)

theorem State.launch_legal {s : State} (q : Nat) (r : List Word) (hw : Legal s) : Legal (State.launch s q r) :=
  State.placeTeams_legal _ _ (State.taken_legal _ (State.bump_legal hw))

theorem execLaunchRecord_legal (q : Nat) {s : State} (hw : Legal s) : LegalOut (execLaunchRecord q s) := by
  unfold execLaunchRecord
  repeat' (first
    | with_reducible assumption | with_reducible refine ite_legal ?_ ?_ | with_reducible apply occurs_legal
    | with_reducible apply State.answer_legal | with_reducible apply State.launch_legal | with_reducible apply legalOut_next
    | split | dsimp only)

theorem State.install_legal {s : State} (q : Nat) (r : List Word) (hw : Legal s) :
    Legal (State.install s q r) := by
  unfold State.install
  repeat' (first
    | with_reducible assumption | with_reducible refine ite_legal ?_ ?_ | with_reducible apply State.modCluster_legal
    | with_reducible apply State.modCore_legal | split | with_reducible refine foldl_legal _ (fun t e hw => ?_) ?_
    | dsimp only)

theorem State.loadedWith_legal {s : State} (c : Nat) (ws : List Word) (bs : List Byte) (hw : Legal s) :
    Legal (State.loadedWith s c ws bs) :=
  State.tableChanged_legal _ _ (State.modCore_legal _ _ hw)

theorem State.loadTable_legal {s : State} (c ctx : Nat) (ws : List Word) (hw : Legal s) : Legal (State.loadTable s c ctx ws) := by
  unfold State.loadTable
  repeat' (first
    | with_reducible assumption | with_reducible apply State.eccAbort_legal | with_reducible apply State.loadedWith_legal | split
    | dsimp only)

theorem State.loadCore_legal {s : State} (ctx : Nat) (ws : List Word) (ans : Option WalkAnswer) (c : Nat) (hw : Legal s) :
    Legal (State.loadCore s ctx ws ans c) := by
  unfold State.loadCore
  repeat' (first
    | with_reducible assumption | with_reducible refine ite_legal ?_ ?_ | with_reducible apply State.tableChanged_legal
    | with_reducible apply State.loadedWith_legal | with_reducible apply State.loadTable_legal
    | with_reducible apply State.modCore_legal | with_reducible apply State.walked_legal
    | with_reducible refine Walked.Keeps.entry ?_ (by assumption) | split | dsimp only)

theorem State.loadCores_legal {s : State} (q : Nat) (r : List Word) (ans : Option WalkAnswer) (hw : Legal s) :
    Legal (State.loadCores s q r ans) := by
  unfold State.loadCores
  repeat' (first
    | with_reducible assumption | with_reducible refine ite_legal ?_ ?_ | with_reducible apply State.loadCore_legal
    | with_reducible apply State.answer_legal | split | with_reducible refine foldl_legal _ (fun t e hw => ?_) ?_
    | dsimp only)

theorem State.loseRec_legal {s : State} (r : List Word) (hw : Legal s) : Legal (State.loseRec s r) :=
  State.outerError_legal _ _ _ (State.outerError_legal _ _ _ hw)

theorem execCreateContextRecord_legal (rec : TakenRecord) {s : State} (hw : Legal s) :
    LegalOut (execCreateContextRecord rec s) := by
  unfold execCreateContextRecord
  repeat' (first
    | with_reducible assumption | with_reducible refine ite_legal ?_ ?_
    | with_reducible apply State.loseRec_legal | with_reducible apply occurs_legal
    | with_reducible apply State.loadCores_legal | with_reducible apply State.answer_legal
    | with_reducible apply State.install_legal | with_reducible apply legalOut_next
    | with_reducible apply legalOut_fault | with_reducible apply legalOut_refused | split | dsimp only)

theorem State.destroy_legal {s : State} (ctx : Nat) (hw : Legal s) : Legal (State.destroy s ctx) := by
  unfold State.destroy
  repeat' (first
    | with_reducible assumption | with_reducible refine ite_legal ?_ ?_
    | with_reducible apply State.tableChanged_legal | with_reducible apply State.modCluster_legal
    | with_reducible apply State.modCore_legal | split | with_reducible refine foldl_legal _ (fun t e hw => ?_) ?_
    | dsimp only)

theorem execDestroyContextRecord_legal (q : Nat) {s : State} (hw : Legal s) : LegalOut (execDestroyContextRecord q s) := by
  unfold execDestroyContextRecord
  repeat' (first
    | with_reducible assumption | with_reducible refine ite_legal ?_ ?_ | with_reducible apply occurs_legal
    | with_reducible apply State.answer_legal | with_reducible apply State.destroy_legal | with_reducible apply legalOut_next
    | split | dsimp only)

theorem State.endLaunches_legal {s : State} (fw : Bool) (ctx : Nat) (hw : Legal s) : Legal (State.endLaunches s fw ctx) := by
  unfold State.endLaunches
  repeat' (first
    | with_reducible assumption | with_reducible refine ite_legal ?_ ?_ | with_reducible apply State.complete_legal | split
    | with_reducible refine foldl_legal _ (fun t e hw => ?_) ?_ | dsimp only)

theorem execLaunchCompletion_legal (ctx : Nat) {s : State} (hw : Legal s) : LegalOut (execLaunchCompletion ctx s) := by
  unfold execLaunchCompletion
  repeat' (first
    | with_reducible assumption | with_reducible refine ite_legal ?_ ?_ | with_reducible apply occurs_legal
    | with_reducible apply State.endLaunches_legal | with_reducible apply legalOut_next | split | dsimp only)

theorem execWatchdogExpiry_legal (launch : Nat) {s : State} (hw : Legal s) : LegalOut (execWatchdogExpiry launch s) := by
  unfold execWatchdogExpiry
  repeat' (first
    | with_reducible assumption | with_reducible refine ite_legal ?_ ?_ | with_reducible apply State.abortContext_legal
    | with_reducible apply legalOut_next | split | dsimp only)

theorem execDarkroomAbortRequest_legal (core : Nat) (slot : Nat) {s : State} (hw : Legal s) :
    LegalOut (execDarkroomAbortRequest core slot s) := by
  unfold execDarkroomAbortRequest
  repeat' (first
    | with_reducible assumption | with_reducible refine ite_legal ?_ ?_ | with_reducible apply occurs_legal
    | with_reducible apply State.abortOwner_legal | with_reducible apply legalOut_next | split | dsimp only)

theorem execContextAbortEnd_legal (ctx : Nat) {s : State} (hw : Legal s) : LegalOut (execContextAbortEnd ctx s) := by
  unfold execContextAbortEnd
  repeat' (first
    | with_reducible assumption | with_reducible refine ite_legal ?_ ?_ | with_reducible apply occurs_legal
    | with_reducible apply legalOut_next | split | dsimp only)

theorem State.beginStream_legal {s : State} (k : Checkpoint) (hw : Legal s) : Legal (s.beginStream k) :=
  legal_withMem (m := streamHbm s.mem k.dest) hw (restoreCells_wf _ (dropRanges_wf _ (legal_mem hw)))

theorem execCheckpointRecord_legal (q : Nat) {s : State} (hw : Legal s) : LegalOut (execCheckpointRecord q s) := by
  unfold execCheckpointRecord
  repeat' (first
    | with_reducible assumption | with_reducible refine ite_legal ?_ ?_ | with_reducible apply occurs_legal
    | with_reducible apply State.beginStream_legal | with_reducible apply State.answer_legal
    | with_reducible apply legalOut_next | with_reducible apply legalOut_fault | with_reducible apply legalOut_refused
    | split | dsimp only)

theorem execCheckpointStream_legal {s : State} (hw : Legal s) : LegalOut (execCheckpointStream s) := by
  unfold execCheckpointStream
  repeat' (first
    | with_reducible assumption | with_reducible refine ite_legal ?_ ?_ | with_reducible apply State.taken_legal
    | with_reducible apply State.complete_legal | with_reducible apply State.barSettle_legal
    | with_reducible apply legalOut_next | with_reducible apply legalOut_fault | with_reducible apply legalOut_refused
    | split | with_reducible refine foldl_legal _ (fun t e hw => ?_) ?_ | dsimp only)

theorem State.setConsumer_legal {s : State} (index : Nat) (hw : Legal s) :
    Legal (State.setConsumer s index) := by
  unfold State.setConsumer
  repeat' (first
    | with_reducible assumption | with_reducible refine ite_legal ?_ ?_ | with_reducible apply State.putFault_legal
    | split | with_reducible refine foldl_legal _ (fun t e hw => ?_) ?_ | dsimp only)

theorem execFaultConsumerIndex_legal (index : Nat) {s : State} (hw : Legal s) : LegalOut (execFaultConsumerIndex index s) := by
  unfold execFaultConsumerIndex
  repeat' (first
    | with_reducible assumption | with_reducible refine ite_legal ?_ ?_ | with_reducible apply State.setConsumer_legal
    | with_reducible apply legalOut_next | with_reducible apply legalOut_fault | with_reducible apply legalOut_refused
    | split | dsimp only)

theorem State.resolveAll_legal {s : State} (seq : Nat) (hw : Legal s) :
    Legal (State.resolveAll s seq) := by
  unfold State.resolveAll
  repeat' (first
    | with_reducible assumption | with_reducible refine ite_legal ?_ ?_ | with_reducible apply State.resolve_legal
    | with_reducible apply State.resolveCore_legal | split | with_reducible refine foldl_legal _ (fun t e hw => ?_) ?_
    | dsimp only)

theorem execResolutionWord_legal (seq : BitVec 32) {s : State} (hw : Legal s) : LegalOut (execResolutionWord seq s) := by
  unfold execResolutionWord
  repeat' (first
    | with_reducible assumption | with_reducible refine ite_legal ?_ ?_ | with_reducible apply State.resolveAll_legal
    | with_reducible apply legalOut_next | with_reducible apply legalOut_fault | with_reducible apply legalOut_refused
    | split | dsimp only)

theorem State.attestWord_legal {s : State} (word : Nat) (value : Word) (hw : Legal s) :
    Legal (State.attestWord s word value) := by
  unfold State.attestWord
  repeat' (first
    | with_reducible assumption | with_reducible refine ite_legal ?_ ?_ | with_reducible apply State.write_legal | split
    | dsimp only)

theorem execAttestationRequest_legal (word : Nat) (value : Word) {s : State} (hw : Legal s) :
    LegalOut (execAttestationRequest word value s) := by
  unfold execAttestationRequest
  repeat' (first
    | with_reducible assumption | with_reducible refine ite_legal ?_ ?_ | with_reducible apply occurs_legal
    | with_reducible apply State.attestWord_legal | with_reducible apply legalOut_next
    | with_reducible apply legalOut_fault | with_reducible apply legalOut_refused | split | dsimp only)

theorem State.barWrite_legal {s : State} (off : Nat) (v : Word) (hw : Legal s) :
    Legal (State.barWrite s off v) := by
  unfold State.barWrite
  repeat' (first
    | with_reducible assumption | with_reducible refine ite_legal ?_ ?_ | with_reducible apply State.setTail_legal
    | with_reducible apply State.setCqHead_legal | with_reducible apply State.configure_legal
    | with_reducible apply State.setConsumer_legal | with_reducible apply State.resolveAll_legal
    | with_reducible apply State.attestWord_legal | split | dsimp only)

theorem execHostMemoryAccess_legal (pa : Nat) (n : Nat) (acc : HostAccess) {s : State} (hw : Legal s) :
    LegalOut (execHostMemoryAccess pa n acc s) := by
  unfold execHostMemoryAccess
  repeat' (first
    | with_reducible assumption | with_reducible refine ite_legal ?_ ?_ | with_reducible apply State.outerError_legal
    | with_reducible apply State.write_legal | with_reducible apply State.writeNat_legal
    | with_reducible apply State.barWrite_legal | with_reducible apply legalOut_next
    | with_reducible apply legalOut_fault | with_reducible apply legalOut_refused | split | dsimp only)

theorem State.moduleReset_legal {s : State} (mode : Nat) (keep : Host.Cell → Bool) (hm : mode ≤ 3) (hw : Legal s) :
    Legal (State.moduleReset s mode keep) :=
  ⟨filter_wf keep (legal_mem hw), hm, Nat.zero_le _, Nat.zero_le _, (fun _ h => by cases h), (by decide : popCount 8 0xF0 = 4),
    (by decide : popCount 8 0xFC = 6), (by decide : 150 ≤ 1000), Nat.le_refl _, (by decide : (30 : BitVec 16).toNat ≤ 0x7FFF)⟩

theorem execRecoveryRequest_legal (image : Word) (verified : Bool) {s : State} (hw : Legal s) :
    LegalOut (execRecoveryRequest image verified s) := by
  unfold execRecoveryRequest
  repeat' (first
    | with_reducible assumption | with_reducible refine ite_legal ?_ ?_ | with_reducible trivial
    | with_reducible apply State.moduleReset_legal | with_reducible apply legalOut_next | split
    | with_reducible refine foldl_legal _ (fun t e hw => ?_) ?_ | dsimp only)

theorem execPowerOn_legal (verified : Bool) (modnum : BitVec 14) {s : State} (hw : Legal s) :
    LegalOut (execPowerOn verified modnum s) := by
  unfold execPowerOn
  refine legalOut_next (State.moduleReset_legal (s := { s with modnum := _ }) _ _ ?_ hw)
  split <;> decide

theorem State.clearSpmode_legal {s : State} (hw : Legal s) : Legal (State.clearSpmode s) := hw

theorem mode_legal {s : State} (m : Nat) (u : Bool) (hm : m ≤ 3) (hw : Legal s) : Legal { s with mode := m, routesUp := u } :=
  ⟨hw.1, hm, hw.2.2⟩

theorem execModeChange_legal (m : Nat) {s : State} (hw : Legal s) : LegalOut (execModeChange m s) := by
  unfold execModeChange
  refine legalOut_next ?_
  split
  · exact State.clearSpmode_legal (mode_legal 1 true (by decide) hw)
  · exact State.clearSpmode_legal (mode_legal 1 s.routesUp (by decide) hw)
  · split
    · exact hw
    · exact mode_legal 2 s.routesUp (by decide) hw
  · exact mode_legal 3 s.routesUp (by decide) hw
  · exact hw

theorem execPodBarrierArrival_legal (job : Nat) (_module : Nat) {s : State} (hw : Legal s) :
    LegalOut (execPodBarrierArrival job _module s) := by
  unfold execPodBarrierArrival
  repeat' (first
    | with_reducible assumption | with_reducible refine ite_legal ?_ ?_ | with_reducible apply State.barSettle_legal
    | with_reducible apply legalOut_next | split | dsimp only)

theorem State.podAccess_legal {s : State} (pa : Nat) (n : Nat) (k : AccKind) (data : Nat) (cmp : Nat) (hw : Legal s) :
    Legal (State.podAccess s pa n k data cmp) := by
  unfold State.podAccess
  dsimp only
  split
  · exact hw
  · split
    · exact State.outerError_legal _ _ _ hw
    · split
      · exact (fst_legal (State.apply_legal _ hw) ‹_› : Legal _)
      · exact (fst_legal (State.apply_legal _ hw) ‹_› : Legal _)

theorem State.podWrite_legal {s : State} (m : Nat) (off : Nat) (n : Nat) (data : Nat) (hw : Legal s) :
    Legal (State.podWrite s m off n data) := by
  unfold State.podWrite
  repeat' (first
    | with_reducible assumption | with_reducible refine ite_legal ?_ ?_ | with_reducible apply State.writeNat_legal
    | split | dsimp only)

theorem execFlitArrival_legal (link : Nat) (seq : Nat) (crcOk : Bool) {s : State} (hw : Legal s) :
    LegalOut (execFlitArrival link seq crcOk s) :=
  occurs_legal _ (State.modLink_legal _ _ hw)

theorem execFlitAck_legal (link : Nat) (seq : Nat) {s : State} (hw : Legal s) : LegalOut (execFlitAck link seq s) :=
  occurs_legal _ (State.modLink_legal _ _ hw)

theorem execFlitNak_legal (link : Nat) (seq : Nat) (windowError : Bool) {s : State} (hw : Legal s) :
    LegalOut (execFlitNak link seq windowError s) :=
  occurs_legal _ (State.modLink_legal _ _ hw)

theorem State.abortLost_legal {s : State} (xs : List Nat) (hw : Legal s) : Legal (State.abortLost s xs) := by
  unfold State.abortLost
  repeat' (first
    | with_reducible assumption | with_reducible refine ite_legal ?_ ?_ | with_reducible apply State.abortContext_legal
    | split | with_reducible refine foldl_legal _ (fun t e hw => ?_) ?_ | dsimp only)

theorem execReplayRequest_legal (link : Nat) (pkt : Nat) (routeLeft : Bool) {s : State} (hw : Legal s) :
    LegalOut (execReplayRequest link pkt routeLeft s) := by
  unfold execReplayRequest
  repeat' (first
    | with_reducible assumption | with_reducible refine ite_legal ?_ ?_ | with_reducible apply State.modLink_legal
    | with_reducible apply State.abortLost_legal | with_reducible apply legalOut_next | split | dsimp only)

theorem State.badFlit_legal {s : State} (id : Nat) (hw : Legal s) :
    Legal (State.badFlit s id) := by
  unfold State.badFlit
  repeat' (first
    | with_reducible assumption | with_reducible refine ite_legal ?_ ?_ | with_reducible apply State.find_legal
    | with_reducible apply State.abortContext_legal
    | with_reducible exact Found.Keeps.stop (by with_reducible apply State.find_legal <;> assumption) (by assumption)
    | split | dsimp only)

theorem State.engineUpset_legal {s : State} (e half : Nat) (hw : Legal s) :
    Legal (State.engineUpset s e half) := by
  unfold State.engineUpset
  repeat' (first
    | with_reducible assumption | with_reducible refine ite_legal ?_ ?_ | with_reducible apply State.abortContext_legal
    | split | dsimp only)

theorem execEndToEndAck_legal (link : Nat) (seq : Nat) {s : State} (hw : Legal s) : LegalOut (execEndToEndAck link seq s) :=
  legalOut_next hw

theorem execControlSpaceTaskStart_legal (core : Nat) (pc : Word) (frame : Word) (allot : Nat) {s : State} (hw : Legal s) :
    LegalOut (execControlSpaceTaskStart core pc frame allot s) := by
  unfold execControlSpaceTaskStart
  repeat' (first
    | with_reducible assumption | with_reducible refine ite_legal ?_ ?_ | with_reducible apply occurs_legal
    | with_reducible apply State.startIn_legal | with_reducible apply legalOut_next | split | dsimp only)

theorem execCoreRestart_legal (core : Nat) {s : State} (hw : Legal s) : LegalOut (execCoreRestart core s) := by
  unfold execCoreRestart
  repeat' (first
    | with_reducible assumption | with_reducible refine ite_legal ?_ ?_ | with_reducible apply occurs_legal
    | with_reducible apply State.modCore_legal | with_reducible apply legalOut_next | split | dsimp only)

theorem execStageConfigStore_legal (core : Nat) (slot : Nat) (cluster : Nat) (off : Nat) (value : Word) {s : State}
    (hw : Legal s) :
    LegalOut (execStageConfigStore core slot cluster off value s) := by
  unfold execStageConfigStore
  repeat' (first
    | with_reducible assumption | with_reducible refine ite_legal ?_ ?_ | with_reducible apply occurs_legal
    | with_reducible apply State.ctlWrite_legal | with_reducible apply State.event_legal | with_reducible apply legalOut_next
    | split | refine LegalOpt.out ?_ (by assumption) | dsimp only)

theorem execRouteTableWrite_legal (router : Nat) (cls : Nat) (value : BitVec 16) {s : State} (hw : Legal s) :
    LegalOut (execRouteTableWrite router cls value s) := by
  unfold execRouteTableWrite
  repeat' (first
    | with_reducible assumption | with_reducible refine ite_legal ?_ ?_ | with_reducible apply occurs_legal
    | with_reducible apply legalOut_next | split | dsimp only)

theorem execPermissionTableWrite_legal (ctx : Nat) (idx : Nat) (w0 : Word) (w1 : Word) {s : State} (hw : Legal s) :
    LegalOut (execPermissionTableWrite ctx idx w0 w1 s) := by
  unfold execPermissionTableWrite
  repeat' (first
    | with_reducible assumption | with_reducible refine ite_legal ?_ ?_ | with_reducible apply occurs_legal
    | with_reducible apply State.narrow_legal | with_reducible apply legalOut_next | with_reducible apply legalOut_fault
    | with_reducible apply legalOut_refused | split | dsimp only)

theorem execFloorWrite_legal (core : Nat) (w : Nat) (a : Nat) (c : Nat) {s : State} (hw : Legal s) :
    LegalOut (execFloorWrite core w a c s) := by
  unfold execFloorWrite
  repeat' (first
    | with_reducible assumption | with_reducible refine ite_legal ?_ ?_ | with_reducible apply occurs_legal
    | with_reducible apply legalOut_next | split | dsimp only)

theorem execFirmwareGridStart_legal (entry : Word) (args : Word) (allot : Nat) (grid : GridShape) {s : State}
    (hw : Legal s) :
    LegalOut (execFirmwareGridStart entry args allot grid s) := by
  unfold execFirmwareGridStart
  repeat' (first
    | with_reducible assumption | with_reducible refine ite_legal ?_ ?_ | with_reducible apply occurs_legal
    | with_reducible apply State.pushReady_legal | with_reducible apply State.bump_legal
    | with_reducible apply legalOut_next | with_reducible apply legalOut_fault | with_reducible apply legalOut_refused
    | split | with_reducible refine foldl_legal _ (fun t e hw => ?_) ?_ | dsimp only)

/-! ### Dispatch -/

theorem exec_legal (i : Instr) {s : State} (hw : Legal s) : LegalOut (exec i s) := by
  cases i
  · exact execAdd_legal _ _ _ _ _ hw
  · exact execSub_legal _ _ _ _ _ hw
  · exact execMul_legal _ _ _ _ _ hw
  · exact execMulhS_legal _ _ _ _ _ hw
  · exact execMulhZ_legal _ _ _ _ _ hw
  · exact execDivS_legal _ _ _ _ _ hw
  · exact execDivZ_legal _ _ _ _ _ hw
  · exact execRemS_legal _ _ _ _ _ hw
  · exact execRemZ_legal _ _ _ _ _ hw
  · exact execAnd_legal _ _ _ _ _ hw
  · exact execOr_legal _ _ _ _ _ hw
  · exact execXor_legal _ _ _ _ _ hw
  · exact execAndn_legal _ _ _ _ _ hw
  · exact execOrn_legal _ _ _ _ _ hw
  · exact execShl_legal _ _ _ _ _ hw
  · exact execShr_legal _ _ _ _ _ hw
  · exact execSar_legal _ _ _ _ _ hw
  · exact execRol_legal _ _ _ _ _ hw
  · exact execRor_legal _ _ _ _ _ hw
  · exact execMinS_legal _ _ _ _ _ hw
  · exact execMinZ_legal _ _ _ _ _ hw
  · exact execMaxS_legal _ _ _ _ _ hw
  · exact execMaxZ_legal _ _ _ _ _ hw
  · exact execClz_legal _ _ _ hw
  · exact execCtz_legal _ _ _ hw
  · exact execPopc_legal _ _ _ hw
  · exact execBswap_legal _ _ _ hw
  · exact execLea1_legal _ _ _ _ _ hw
  · exact execLea2_legal _ _ _ _ _ hw
  · exact execLea3_legal _ _ _ _ _ hw
  · exact execCmp_legal _ _ _ _ _ _ hw
  · exact execAddi_legal _ _ _ _ hw
  · exact execAndi_legal _ _ _ _ hw
  · exact execOri_legal _ _ _ _ hw
  · exact execXori_legal _ _ _ _ hw
  · exact execShli_legal _ _ _ _ hw
  · exact execShri_legal _ _ _ _ hw
  · exact execSari_legal _ _ _ _ hw
  · exact execCmpi_legal _ _ _ _ _ hw
  · exact execLiS_legal _ _ hw
  · exact execLiZ_legal _ _ hw
  · exact execLih_legal _ _ hw
  · exact execBextS_legal _ _ _ _ _ hw
  · exact execBextZ_legal _ _ _ _ _ hw
  · exact execBins_legal _ _ _ _ _ hw
  · exact execPand_legal _ _ _ hw
  · exact execPor_legal _ _ _ hw
  · exact execPxor_legal _ _ _ hw
  · exact execPandn_legal _ _ _ hw
  · exact execPnot_legal _ _ hw
  · exact execPmov_legal _ _ hw
  · exact execPget_legal _ hw
  · exact execPput_legal _ _ _ _ hw
  · exact execBr_legal _ _ _ hw
  · exact execCall_legal _ hw
  · exact execJr_legal _ _ hw
  · exact execJalr_legal _ _ _ hw
  · exact execNop_legal hw
  · exact execEndTask_legal hw
  · exact execYield_legal hw
  · exact execTrap_legal _ hw
  · exact execEret_legal _ _ hw
  · exact execHalt_legal hw
  · exact execBrk_legal hw
  · exact execLdZ_legal _ _ _ _ _ _ hw
  · exact execLdS_legal _ _ _ _ _ _ hw
  · exact execSt_legal _ _ _ _ _ _ hw
  · exact execLdv_legal _ _ _ _ _ hw
  · exact execStv_legal _ _ _ _ _ hw
  · exact execLdvt_legal _ _ _ _ _ hw
  · exact execFence_legal _ _ hw
  · exact execPf_legal _ hw
  · exact execQbind_legal _ _ _ hw
  · exact execQfree_legal _ hw
  · exact execSalloc_legal _ _ _ _ hw
  · exact execQstat_legal _ _ hw
  · exact execQget_legal _ _ hw
  · exact execQgetv_legal _ _ hw
  · exact execAmo32_legal _ _ _ _ _ hw
  · exact execAmo64_legal _ _ _ _ _ hw
  · exact execFaddF32_legal _ _ _ _ _ hw
  · exact execFaddF16_legal _ _ _ _ _ hw
  · exact execFaddF64_legal _ _ _ _ _ hw
  · exact execFaddBf16_legal _ _ _ _ _ hw
  · exact execDecp_legal _ _ _ hw
  · exact execWaita_legal _ _ _ _ _ hw
  · exact execBarQuad_legal hw
  · exact execBarClus_legal hw
  · exact execBarDie_legal hw
  · exact execBarMod_legal hw
  · exact execBarPod_legal hw
  · exact execBoinit_legal _ _ _ _ hw
  · exact execBoarr_legal _ _ _ _ hw
  · exact execBowait_legal _ _ _ _ hw
  · exact execFork_legal _ _ _ _ _ hw
  · exact execJoin_legal _ _ hw
  · exact execRfork_legal _ _ _ _ hw
  · exact execPost_legal _ _ _ _ hw
  · exact execCdinit_legal _ _ _ _ hw
  · exact execGrow_legal _ _ _ hw
  · exact execShrink_legal _ _ _ hw
  · exact execStgpush_legal _ _ _ _ _ hw
  · exact execStgsub_legal _ _ hw
  · exact execPark_legal _ _ hw
  · exact execSend_legal _ _ _ _ _ hw
  · exact execCmask_legal _ _ hw
  · exact execCunmask_legal _ _ hw
  · exact execCpend_legal _ _ _ hw
  · exact execSwapx_legal _ _ _ _ hw
  · exact execSendr_legal _ _ _ _ _ _ hw
  · exact execVadd_legal _ _ _ _ hw
  · exact execVsub_legal _ _ _ _ hw
  · exact execVmul_legal _ _ _ _ hw
  · exact execVmin_legal _ _ _ _ hw
  · exact execVmax_legal _ _ _ _ hw
  · exact execVand_legal _ _ _ hw
  · exact execVor_legal _ _ _ hw
  · exact execVxor_legal _ _ _ hw
  · exact execVandn_legal _ _ _ hw
  · exact execVshl_legal _ _ _ _ hw
  · exact execVshr_legal _ _ _ _ hw
  · exact execVsar_legal _ _ _ _ hw
  · exact execVmov_legal _ _ hw
  · exact execVfma_legal _ _ _ _ _ hw
  · exact execVfms_legal _ _ _ _ _ hw
  · exact execVfnma_legal _ _ _ _ _ hw
  · exact execVfnms_legal _ _ _ _ _ hw
  · exact execVcvt_legal _ _ _ _ _ hw
  · exact execVrcp_legal _ _ _ hw
  · exact execVrsqrt_legal _ _ _ hw
  · exact execVsqrt_legal _ _ _ hw
  · exact execVexp2_legal _ _ _ hw
  · exact execVlog2_legal _ _ _ hw
  · exact execVdiv_legal _ _ _ _ hw
  · exact execVperm_legal _ _ _ _ hw
  · exact execVbcast_legal _ _ _ hw
  · exact execVins_legal _ _ _ _ hw
  · exact execVext_legal _ _ _ _ hw
  · exact execVredAdd_legal _ _ _ hw
  · exact execVredMin_legal _ _ _ hw
  · exact execVredMax_legal _ _ _ hw
  · exact execVpack_legal _ _ _ _ hw
  · exact execVunpkLo_legal _ _ _ hw
  · exact execVunpkHi_legal _ _ _ hw
  · exact execVzip_legal _ _ _ _ hw
  · exact execVunzip_legal _ _ _ _ hw
  · exact execVcmp_legal _ _ _ _ _ hw
  · exact execVclass_legal _ _ _ hw
  · exact execVsel_legal _ _ _ _ hw
  · exact execVdot_legal _ _ _ _ _ hw
  · exact execVdotI_legal _ _ _ _ _ hw
  · exact execLks_legal _ _ _ hw
  · exact execLkm_legal _ _ _ _ _ hw
  · exact execLkq_legal _ _ hw
  · exact execLkdrain_legal _ _ hw
  · exact execLkload_legal _ _ hw
  · exact execLkfrz_legal _ hw
  · exact execLkthw_legal _ hw
  · exact execLkcan_legal _ _ _ hw
  · exact execCpy_legal _ _ _ hw
  · exact execGat_legal _ _ _ hw
  · exact execSca_legal _ _ _ hw
  · exact execRedc_legal _ _ _ hw
  · exact execBct_legal _ _ _ hw
  · exact execTdset_legal _ _ hw
  · exact execTdget_legal _ _ _ hw
  · exact execTdinv_legal _ hw
  · exact execGmacc_legal _ _ _ hw
  · exact execGmsub_legal _ _ _ hw
  · exact execGmelim_legal _ _ _ hw
  · exact execGmdamp_legal _ _ hw
  · exact execGmmean_legal _ _ _ hw
  · exact execGmres_legal _ _ _ hw
  · exact execGmsend_legal _ _ hw
  · exact execGmcpy_legal _ _ hw
  · exact execTlbw_legal _ _ _ _ _ hw
  · exact execTlbi_legal _ _ _ _ hw
  · exact execFres_legal _ _ _ _ hw
  · exact execCtxs_legal _ _ hw
  · exact execCtxl_legal _ _ hw
  · exact execWtab_legal _ _ _ _ hw
  · exact execWclose_legal _ _ hw
  · exact execWopen_legal _ _ hw
  · exact execRmap_legal _ _ _ _ hw
  · exact execEvac_legal _ _ _ _ hw
  · exact execGetc_legal _ _ hw
  · exact execSetc_legal _ _ _ hw
  · exact execEncodingError_legal _ _ _ hw
  · exact execDeferredTrapDelivery_legal _ _ hw
  · exact execTaskStart_legal _ _ hw
  · exact execL0HandlerStart_legal _ hw
  · exact execSpillRefill_legal _ _ hw
  · exact execFetchDutyWindow_legal _ hw
  · exact execStealRound_legal _ hw
  · exact execStagePop_legal _ hw
  · exact execGovernorWindow_legal _ hw
  · exact execSwapQuantum_legal _ hw
  · exact execTeamSwapOut_legal _ hw
  · exact execTeamSwapIn_legal _ hw
  · exact execWatchWake_legal _ _ hw
  · exact execWaitaTimeout_legal _ hw
  · exact execParkTimeout_legal _ hw
  · exact execRegisterFill_legal _ hw
  · exact execRemoteAccessAtHome_legal _ hw
  · exact execReleaseRetry_legal _ hw
  · exact execCommitToken_legal _ hw
  · exact execReleaseWithdraw_legal _ hw
  · exact execScopeMissReturn_legal _ hw
  · exact execRefusalReturn_legal _ hw
  · exact execTlbMissMessage_legal _ _ _ hw
  · exact execPacketHeadRouting_legal _ hw
  · exact execMessageArrival_legal _ hw
  · exact execGmRecordArrival_legal _ hw
  · exact execHeldAlertRetry_legal _ hw
  · exact execEnginePairing_legal _ hw
  · exact execJobStart_legal _ hw
  · exact execBeatPull_legal _ hw
  · exact execRowSend_legal _ hw
  · exact execResultPacketArrival_legal _ hw
  · exact execStreamRowDelivery_legal _ hw
  · exact execTileEndArrival_legal _ hw
  · exact execEngwaitTimeout_legal _ _ hw
  · exact execSwapxTimeout_legal _ _ hw
  · exact execCopyJobStart_legal _ hw
  · exact execCopyUnit_legal _ _ _ hw
  · exact execBctArrival_legal _ hw
  · exact execGmuRequestStart_legal _ hw
  · exact execGmuRequestComplete_legal _ hw
  · exact execTransitionStart_legal hw
  · exact execIslandStepDown_legal _ hw
  · exact execLaunchRecord_legal _ hw
  · exact execCreateContextRecord_legal _ hw
  · exact execDestroyContextRecord_legal _ hw
  · exact execCheckpointRecord_legal _ hw
  · exact execCheckpointStream_legal hw
  · exact execLaunchCompletion_legal _ hw
  · exact execWatchdogExpiry_legal _ hw
  · exact execContextAbortEnd_legal _ hw
  · exact execRemoteAccessTimeout_legal _ hw
  · exact execDiePark_legal _ hw
  · exact execDieUnpark_legal _ hw
  · exact execFlitArrival_legal _ _ _ hw
  · exact execFlitAck_legal _ _ hw
  · exact execSmrReissue_legal _ _ _ hw
  · exact execFmthAdmit_legal _ hw
  · exact execFmthRefuse_legal _ hw
  · exact execTprdWrite_legal _ _ hw
  · exact execAlstClear_legal _ hw
  · exact execCmaskWrite_legal _ _ hw
  · exact execIclWrite_legal _ _ hw
  · exact execPceilWrite_legal _ hw
  · exact execCounterWrite_legal _ _ _ hw
  · exact execAntiStarvationTurn_legal _ hw
  · exact execStealRequest_legal _ _ hw
  · exact execBudgetPeriod_legal _ _ hw
  · exact execMonitorSample_legal _ _ hw
  · exact execSensorSample_legal _ hw
  · exact execStateRequest_legal _ hw
  · exact execSqDoorbell_legal _ _ hw
  · exact execCqHeadWrite_legal _ _ hw
  · exact execFaultConsumerIndex_legal _ hw
  · exact execResolutionWord_legal _ hw
  · exact execAttestationRequest_legal _ _ hw
  · exact execRecoveryRequest_legal _ _ hw
  · exact execHostMemoryAccess_legal _ _ _ hw
  · exact execPowerOn_legal _ _ hw
  · exact execFlitNak_legal _ _ _ hw
  · exact execReplayRequest_legal _ _ _ hw
  · exact execEndToEndAck_legal _ _ hw
  · exact execControlSpaceTaskStart_legal _ _ _ _ hw
  · exact execCoreRestart_legal _ hw
  · exact execStageConfigStore_legal _ _ _ _ _ hw
  · exact execRouteTableWrite_legal _ _ _ hw
  · exact execPsTableWrite_legal _ _ hw
  · exact execPermissionTableWrite_legal _ _ _ _ hw
  · exact execFloorWrite_legal _ _ _ _ hw
  · exact execQueueConfigurationWrite_legal _ _ _ hw
  · exact execModeChange_legal _ hw
  · exact execPodBarrierArrival_legal _ 0 hw
  · exact execFirmwareGridStart_legal _ _ _ _ hw
  · exact execDarkroomAbortRequest_legal _ _ hw

/-! ### Schedule -/

theorem State.advanceTime_legal {s : State} (n : Nat) (hw : Legal s) : Legal (s.advanceTime n) := hw

theorem State.after_legal {s : State} {o : Host.Outcome State Fault Refusal} (hw : Legal s) (ho : LegalOut o) :
    Legal (State.after s o) := by
  unfold State.after
  split
  · exact ho _ rfl
  · exact hw

theorem State.micro_legal {s : State} (hw : Legal s) : Legal (State.micro s) := by
  unfold State.micro
  repeat' (first
    | with_reducible assumption | with_reducible refine ite_legal ?_ ?_ | with_reducible apply State.after_legal
    | with_reducible apply execGovernorWindow_legal | split | with_reducible refine foldl_legal _ (fun t e hw => ?_) ?_
    | dsimp only)

theorem State.charge_legal {s : State} (ps : List (Nat × Nat)) (hw : Legal s) : Legal (s.charge ps) :=
  foldl_legal _ (fun _ _ h => State.modCore_legal _ _ h) hw

theorem State.planEvent_legal {s : State} (i : Instr) (hw : Legal s) : Legal (s.planEvent i) := State.charge_legal _ hw

theorem State.planCore_legal {s : State} (c : Nat) (ready : List (Nat × Nat)) (stalling : List Nat) (hw : Legal s) :
    Legal (s.planCore c ready stalling) :=
  State.charge_legal (s := s.modCore c _) _ (State.modCore_legal _ _ hw)

theorem State.takePicks_legal {s : State} (c : Nat) (hw : Legal s) : Legal (s.takePicks c) := State.planCore_legal _ _ _ hw

theorem State.pass_legal {s : State} (hw : Legal s) : Legal s.pass := by
  refine foldl_legal _ (fun t e ht => ite_legal (State.planCore_legal _ _ _ ht) ht) ?_
  exact ite_legal (State.micro_legal (State.advanceTime_legal _ hw)) (State.advanceTime_legal _ hw)

theorem State.schedule_legal {s : State} (hw : Legal s) : Legal s.schedule := by
  unfold State.schedule
  split
  · exact State.planEvent_legal _ hw
  · exact State.pass_legal hw

end Sys2Proof.Machine
end

