-- ==== Sys2Proof/Laws/PerInstr.lean ====
section
/-! SUPPORT. Statements made once for each constructor of `Instr`. -/

namespace Sys2Proof.Laws.RoundTrip

open Sys2Proof

set_option Elab.async false

/-- The encoder's word of a well-formed instruction is a word of one major opcode and no prefix, asks for as many extension words as the
instruction has, and is read as that instruction with its zero fields zero and its values defined. -/
def Statement (i : Instr) : Prop :=
  i.isWord = true → i.wellFormed = true →
    encodeWord i < 4294967296 ∧ fld (encodeWord i) 26 6 < 0x3E ∧ takesExt (encodeWord i) = !(extOf i).isEmpty ∧
    decodeMember (encodeWord i) ((extOf i).headD 0) = .row true true i

theorem op_01 {w : Nat} (h : fld w 26 6 = 0x01) (x : IWord) : decodeMember w x = decodeAlu w := by
  unfold decodeMember; simp only [h]
theorem op_02 {w : Nat} (h : fld w 26 6 = 0x02) (x : IWord) : decodeMember w x = decodeCmp w := by
  unfold decodeMember; simp only [h]
theorem op_03 {w : Nat} (h : fld w 26 6 = 0x03) (x : IWord) : decodeMember w x = decodeAddi w := by
  unfold decodeMember; simp only [h]
theorem op_04 {w : Nat} (h : fld w 26 6 = 0x04) (x : IWord) : decodeMember w x = decodeAndi w := by
  unfold decodeMember; simp only [h]
theorem op_05 {w : Nat} (h : fld w 26 6 = 0x05) (x : IWord) : decodeMember w x = decodeOri w := by
  unfold decodeMember; simp only [h]
theorem op_06 {w : Nat} (h : fld w 26 6 = 0x06) (x : IWord) : decodeMember w x = decodeXori w := by
  unfold decodeMember; simp only [h]
theorem op_07 {w : Nat} (h : fld w 26 6 = 0x07) (x : IWord) : decodeMember w x = decodeShiftImm w := by
  unfold decodeMember; simp only [h]
theorem op_08 {w : Nat} (h : fld w 26 6 = 0x08) (x : IWord) : decodeMember w x = decodeCmpi w := by
  unfold decodeMember; simp only [h]
theorem op_09 {w : Nat} (h : fld w 26 6 = 0x09) (x : IWord) : decodeMember w x = decodeLi w x := by
  unfold decodeMember; simp only [h]
theorem op_0A {w : Nat} (h : fld w 26 6 = 0x0A) (x : IWord) : decodeMember w x = decodeBitField w := by
  unfold decodeMember; simp only [h]
theorem op_0B {w : Nat} (h : fld w 26 6 = 0x0B) (x : IWord) : decodeMember w x = decodePred w := by
  unfold decodeMember; simp only [h]
theorem op_0C {w : Nat} (h : fld w 26 6 = 0x0C) (x : IWord) : decodeMember w x = decodeBr w := by
  unfold decodeMember; simp only [h]
theorem op_0D {w : Nat} (h : fld w 26 6 = 0x0D) (x : IWord) : decodeMember w x = decodeCall w := by
  unfold decodeMember; simp only [h]
theorem op_0E {w : Nat} (h : fld w 26 6 = 0x0E) (x : IWord) : decodeMember w x = decodeJump w := by
  unfold decodeMember; simp only [h]
theorem op_0F {w : Nat} (h : fld w 26 6 = 0x0F) (x : IWord) : decodeMember w x = decodeControl w := by
  unfold decodeMember; simp only [h]
theorem op_10 {w : Nat} (h : fld w 26 6 = 0x10) (x : IWord) : decodeMember w x = decodeLdZ w := by
  unfold decodeMember; simp only [h]
theorem op_11 {w : Nat} (h : fld w 26 6 = 0x11) (x : IWord) : decodeMember w x = decodeLdS w := by
  unfold decodeMember; simp only [h]
theorem op_12 {w : Nat} (h : fld w 26 6 = 0x12) (x : IWord) : decodeMember w x = decodeSt w := by
  unfold decodeMember; simp only [h]
theorem op_13 {w : Nat} (h : fld w 26 6 = 0x13) (x : IWord) : decodeMember w x = decodeLdv w := by
  unfold decodeMember; simp only [h]
theorem op_14 {w : Nat} (h : fld w 26 6 = 0x14) (x : IWord) : decodeMember w x = decodeStv w := by
  unfold decodeMember; simp only [h]
theorem op_15 {w : Nat} (h : fld w 26 6 = 0x15) (x : IWord) : decodeMember w x = decodeLdvt w := by
  unfold decodeMember; simp only [h]
theorem op_16 {w : Nat} (h : fld w 26 6 = 0x16) (x : IWord) : decodeMember w x = decodeFence w := by
  unfold decodeMember; simp only [h]
theorem op_17 {w : Nat} (h : fld w 26 6 = 0x17) (x : IWord) : decodeMember w x = decodeAmo32 w := by
  unfold decodeMember; simp only [h]
theorem op_18 {w : Nat} (h : fld w 26 6 = 0x18) (x : IWord) : decodeMember w x = decodeAmo64 w := by
  unfold decodeMember; simp only [h]
theorem op_19 {w : Nat} (h : fld w 26 6 = 0x19) (x : IWord) : decodeMember w x = decodeFadd w := by
  unfold decodeMember; simp only [h]
theorem op_1A {w : Nat} (h : fld w 26 6 = 0x1A) (x : IWord) : decodeMember w x = decodeWait w := by
  unfold decodeMember; simp only [h]
theorem op_1B {w : Nat} (h : fld w 26 6 = 0x1B) (x : IWord) : decodeMember w x = decodeTask w := by
  unfold decodeMember; simp only [h]
theorem op_1C {w : Nat} (h : fld w 26 6 = 0x1C) (x : IWord) : decodeMember w x = decodeMessage w := by
  unfold decodeMember; simp only [h]
theorem op_1D {w : Nat} (h : fld w 26 6 = 0x1D) (x : IWord) : decodeMember w x = decodeSendr w x := by
  unfold decodeMember; simp only [h]
theorem op_20 {w : Nat} (h : fld w 26 6 = 0x20) (x : IWord) : decodeMember w x = decodeVArith w := by
  unfold decodeMember; simp only [h]
theorem op_21 {w : Nat} (h : fld w 26 6 = 0x21) (x : IWord) : decodeMember w x = decodeVFma w := by
  unfold decodeMember; simp only [h]
theorem op_22 {w : Nat} (h : fld w 26 6 = 0x22) (x : IWord) : decodeMember w x = decodeVCvt w := by
  unfold decodeMember; simp only [h]
theorem op_23 {w : Nat} (h : fld w 26 6 = 0x23) (x : IWord) : decodeMember w x = decodeVFunc w := by
  unfold decodeMember; simp only [h]
theorem op_24 {w : Nat} (h : fld w 26 6 = 0x24) (x : IWord) : decodeMember w x = decodeVMove w := by
  unfold decodeMember; simp only [h]
theorem op_25 {w : Nat} (h : fld w 26 6 = 0x25) (x : IWord) : decodeMember w x = decodeVCmp w := by
  unfold decodeMember; simp only [h]
theorem op_26 {w : Nat} (h : fld w 26 6 = 0x26) (x : IWord) : decodeMember w x = decodeVSel w := by
  unfold decodeMember; simp only [h]
theorem op_28 {w : Nat} (h : fld w 26 6 = 0x28) (x : IWord) : decodeMember w x = decodeLink w := by
  unfold decodeMember; simp only [h]
theorem op_29 {w : Nat} (h : fld w 26 6 = 0x29) (x : IWord) : decodeMember w x = decodeCopy w := by
  unfold decodeMember; simp only [h]
theorem op_2A {w : Nat} (h : fld w 26 6 = 0x2A) (x : IWord) : decodeMember w x = decodeTensor w := by
  unfold decodeMember; simp only [h]
theorem op_2B {w : Nat} (h : fld w 26 6 = 0x2B) (x : IWord) : decodeMember w x = decodeGmu w := by
  unfold decodeMember; simp only [h]
theorem op_2C {w : Nat} (h : fld w 26 6 = 0x2C) (x : IWord) : decodeMember w x = decodeSystem w := by
  unfold decodeMember; simp only [h]
theorem op_2D {w : Nat} (h : fld w 26 6 = 0x2D) (x : IWord) : decodeMember w x = decodeGetc w := by
  unfold decodeMember; simp only [h]
theorem op_2E {w : Nat} (h : fld w 26 6 = 0x2E) (x : IWord) : decodeMember w x = decodeSetc w := by
  unfold decodeMember; simp only [h]

/-- No other major opcode takes an extension word. -/
theorem noExt {w k : Nat} (h : fld w 26 6 = k) (h1 : k ≠ 0x09) (h2 : k ≠ 0x1D) : takesExt w = false := by
  simp [takesExt, h, h1, h2]
theorem ext_09 {w : Nat} (h : fld w 26 6 = 0x09) (h0 : fld w 0 13 < 3) : takesExt w = true := by simp [takesExt, h, h0]
theorem ext_1D {w : Nat} (h : fld w 26 6 = 0x1D) (h0 : fld w 0 6 = 0) : takesExt w = true := by simp [takesExt, h, h0]

theorem decodeCmp_some {w : Nat} {cc : Cond} (h : condOf (fld w 0 6) = some cc) :
    decodeCmp w = .row (z w 20 3) true (.cmp (.ofNat 3 (fld w 23 3)) (gr w 14) (gr w 8) (bitAt w 7) (bitAt w 6) cc) := by
  simp only [decodeCmp, h]
theorem decodeCmpi_some {w : Nat} {cc : Cond} (h : condOf (fld w 9 4) = some cc) :
    decodeCmpi w = .row (z w 20 3) true (.cmpi (.ofNat 3 (fld w 23 3)) (gr w 14) (bitAt w 13) cc (.ofNat 9 (fld w 0 9))) := by
  simp only [decodeCmpi, h]
theorem decodeLdvt_some {w : Nat} {es : ESize} (h : esizeOf (fld w 12 2) = some es) :
    decodeLdvt w = .row (z w 10 2) (fld w 21 5 + esizeCount es ≤ 32)
      (.ldvt (vr w 21) (gr w 15) (bitAt w 14) es (.ofNat 10 (fld w 0 10))) := by
  simp only [decodeLdvt, h]

theorem add (d : GReg) (a : GReg) (b : GReg) (ea : Bool) (eb : Bool) : Statement (.add d a b ea eb) := by
  intro _ hwf
  have h_d := d.isLt
  have h_a := a.isLt
  have h_b := b.isLt
  have H : TFields (encodeWord (.add d a b ea eb)) _ _ _ _ _ _ _ :=
    encT_fields 0x1 0 d.toNat a.toNat b.toNat ea eb (by omega) (by omega) (by omega) (by omega) (by omega)
  revert H; generalize encodeWord (.add d a b ea eb) = w; intro H
  refine ⟨H.lt, lt_eq H.f26_6 (by decide), noExt H.f26_6 (by decide) (by decide), (op_01 H.f26_6 _).trans ?_⟩
  unfold decodeAlu
  rw [show fld w 0 6 = 0 from H.f0_6.trans (by omega)]
  exact row_eq (rfl)
    (rfl)
    (by rw [gr_eq d H.f20_6 (by first | omega | rfl), gr_eq a H.f14_6 (by first | omega | rfl), gr_eq b H.f8_6 (by first | omega | rfl), H.b7, H.b6])

theorem sub (d : GReg) (a : GReg) (b : GReg) (ea : Bool) (eb : Bool) : Statement (.sub d a b ea eb) := by
  intro _ hwf
  have h_d := d.isLt
  have h_a := a.isLt
  have h_b := b.isLt
  have H : TFields (encodeWord (.sub d a b ea eb)) _ _ _ _ _ _ _ :=
    encT_fields 0x1 1 d.toNat a.toNat b.toNat ea eb (by omega) (by omega) (by omega) (by omega) (by omega)
  revert H; generalize encodeWord (.sub d a b ea eb) = w; intro H
  refine ⟨H.lt, lt_eq H.f26_6 (by decide), noExt H.f26_6 (by decide) (by decide), (op_01 H.f26_6 _).trans ?_⟩
  unfold decodeAlu
  rw [show fld w 0 6 = 1 from H.f0_6.trans (by omega)]
  exact row_eq (rfl)
    (rfl)
    (by rw [gr_eq d H.f20_6 (by first | omega | rfl), gr_eq a H.f14_6 (by first | omega | rfl), gr_eq b H.f8_6 (by first | omega | rfl), H.b7, H.b6])

theorem mul (d : GReg) (a : GReg) (b : GReg) (ea : Bool) (eb : Bool) : Statement (.mul d a b ea eb) := by
  intro _ hwf
  have h_d := d.isLt
  have h_a := a.isLt
  have h_b := b.isLt
  have H : TFields (encodeWord (.mul d a b ea eb)) _ _ _ _ _ _ _ :=
    encT_fields 0x1 2 d.toNat a.toNat b.toNat ea eb (by omega) (by omega) (by omega) (by omega) (by omega)
  revert H; generalize encodeWord (.mul d a b ea eb) = w; intro H
  refine ⟨H.lt, lt_eq H.f26_6 (by decide), noExt H.f26_6 (by decide) (by decide), (op_01 H.f26_6 _).trans ?_⟩
  unfold decodeAlu
  rw [show fld w 0 6 = 2 from H.f0_6.trans (by omega)]
  exact row_eq (rfl)
    (rfl)
    (by rw [gr_eq d H.f20_6 (by first | omega | rfl), gr_eq a H.f14_6 (by first | omega | rfl), gr_eq b H.f8_6 (by first | omega | rfl), H.b7, H.b6])

theorem mulhS (d : GReg) (a : GReg) (b : GReg) (ea : Bool) (eb : Bool) : Statement (.mulhS d a b ea eb) := by
  intro _ hwf
  have h_d := d.isLt
  have h_a := a.isLt
  have h_b := b.isLt
  have H : TFields (encodeWord (.mulhS d a b ea eb)) _ _ _ _ _ _ _ :=
    encT_fields 0x1 3 d.toNat a.toNat b.toNat ea eb (by omega) (by omega) (by omega) (by omega) (by omega)
  revert H; generalize encodeWord (.mulhS d a b ea eb) = w; intro H
  refine ⟨H.lt, lt_eq H.f26_6 (by decide), noExt H.f26_6 (by decide) (by decide), (op_01 H.f26_6 _).trans ?_⟩
  unfold decodeAlu
  rw [show fld w 0 6 = 3 from H.f0_6.trans (by omega)]
  exact row_eq (rfl)
    (rfl)
    (by rw [gr_eq d H.f20_6 (by first | omega | rfl), gr_eq a H.f14_6 (by first | omega | rfl), gr_eq b H.f8_6 (by first | omega | rfl), H.b7, H.b6])

theorem mulhZ (d : GReg) (a : GReg) (b : GReg) (ea : Bool) (eb : Bool) : Statement (.mulhZ d a b ea eb) := by
  intro _ hwf
  have h_d := d.isLt
  have h_a := a.isLt
  have h_b := b.isLt
  have H : TFields (encodeWord (.mulhZ d a b ea eb)) _ _ _ _ _ _ _ :=
    encT_fields 0x1 4 d.toNat a.toNat b.toNat ea eb (by omega) (by omega) (by omega) (by omega) (by omega)
  revert H; generalize encodeWord (.mulhZ d a b ea eb) = w; intro H
  refine ⟨H.lt, lt_eq H.f26_6 (by decide), noExt H.f26_6 (by decide) (by decide), (op_01 H.f26_6 _).trans ?_⟩
  unfold decodeAlu
  rw [show fld w 0 6 = 4 from H.f0_6.trans (by omega)]
  exact row_eq (rfl)
    (rfl)
    (by rw [gr_eq d H.f20_6 (by first | omega | rfl), gr_eq a H.f14_6 (by first | omega | rfl), gr_eq b H.f8_6 (by first | omega | rfl), H.b7, H.b6])

theorem divS (d : GReg) (a : GReg) (b : GReg) (ea : Bool) (eb : Bool) : Statement (.divS d a b ea eb) := by
  intro _ hwf
  have h_d := d.isLt
  have h_a := a.isLt
  have h_b := b.isLt
  have H : TFields (encodeWord (.divS d a b ea eb)) _ _ _ _ _ _ _ :=
    encT_fields 0x1 5 d.toNat a.toNat b.toNat ea eb (by omega) (by omega) (by omega) (by omega) (by omega)
  revert H; generalize encodeWord (.divS d a b ea eb) = w; intro H
  refine ⟨H.lt, lt_eq H.f26_6 (by decide), noExt H.f26_6 (by decide) (by decide), (op_01 H.f26_6 _).trans ?_⟩
  unfold decodeAlu
  rw [show fld w 0 6 = 5 from H.f0_6.trans (by omega)]
  exact row_eq (rfl)
    (rfl)
    (by rw [gr_eq d H.f20_6 (by first | omega | rfl), gr_eq a H.f14_6 (by first | omega | rfl), gr_eq b H.f8_6 (by first | omega | rfl), H.b7, H.b6])

theorem divZ (d : GReg) (a : GReg) (b : GReg) (ea : Bool) (eb : Bool) : Statement (.divZ d a b ea eb) := by
  intro _ hwf
  have h_d := d.isLt
  have h_a := a.isLt
  have h_b := b.isLt
  have H : TFields (encodeWord (.divZ d a b ea eb)) _ _ _ _ _ _ _ :=
    encT_fields 0x1 6 d.toNat a.toNat b.toNat ea eb (by omega) (by omega) (by omega) (by omega) (by omega)
  revert H; generalize encodeWord (.divZ d a b ea eb) = w; intro H
  refine ⟨H.lt, lt_eq H.f26_6 (by decide), noExt H.f26_6 (by decide) (by decide), (op_01 H.f26_6 _).trans ?_⟩
  unfold decodeAlu
  rw [show fld w 0 6 = 6 from H.f0_6.trans (by omega)]
  exact row_eq (rfl)
    (rfl)
    (by rw [gr_eq d H.f20_6 (by first | omega | rfl), gr_eq a H.f14_6 (by first | omega | rfl), gr_eq b H.f8_6 (by first | omega | rfl), H.b7, H.b6])

theorem remS (d : GReg) (a : GReg) (b : GReg) (ea : Bool) (eb : Bool) : Statement (.remS d a b ea eb) := by
  intro _ hwf
  have h_d := d.isLt
  have h_a := a.isLt
  have h_b := b.isLt
  have H : TFields (encodeWord (.remS d a b ea eb)) _ _ _ _ _ _ _ :=
    encT_fields 0x1 7 d.toNat a.toNat b.toNat ea eb (by omega) (by omega) (by omega) (by omega) (by omega)
  revert H; generalize encodeWord (.remS d a b ea eb) = w; intro H
  refine ⟨H.lt, lt_eq H.f26_6 (by decide), noExt H.f26_6 (by decide) (by decide), (op_01 H.f26_6 _).trans ?_⟩
  unfold decodeAlu
  rw [show fld w 0 6 = 7 from H.f0_6.trans (by omega)]
  exact row_eq (rfl)
    (rfl)
    (by rw [gr_eq d H.f20_6 (by first | omega | rfl), gr_eq a H.f14_6 (by first | omega | rfl), gr_eq b H.f8_6 (by first | omega | rfl), H.b7, H.b6])

theorem remZ (d : GReg) (a : GReg) (b : GReg) (ea : Bool) (eb : Bool) : Statement (.remZ d a b ea eb) := by
  intro _ hwf
  have h_d := d.isLt
  have h_a := a.isLt
  have h_b := b.isLt
  have H : TFields (encodeWord (.remZ d a b ea eb)) _ _ _ _ _ _ _ :=
    encT_fields 0x1 8 d.toNat a.toNat b.toNat ea eb (by omega) (by omega) (by omega) (by omega) (by omega)
  revert H; generalize encodeWord (.remZ d a b ea eb) = w; intro H
  refine ⟨H.lt, lt_eq H.f26_6 (by decide), noExt H.f26_6 (by decide) (by decide), (op_01 H.f26_6 _).trans ?_⟩
  unfold decodeAlu
  rw [show fld w 0 6 = 8 from H.f0_6.trans (by omega)]
  exact row_eq (rfl)
    (rfl)
    (by rw [gr_eq d H.f20_6 (by first | omega | rfl), gr_eq a H.f14_6 (by first | omega | rfl), gr_eq b H.f8_6 (by first | omega | rfl), H.b7, H.b6])

theorem and (d : GReg) (a : GReg) (b : GReg) (ea : Bool) (eb : Bool) : Statement (.and d a b ea eb) := by
  intro _ hwf
  have h_d := d.isLt
  have h_a := a.isLt
  have h_b := b.isLt
  have H : TFields (encodeWord (.and d a b ea eb)) _ _ _ _ _ _ _ :=
    encT_fields 0x1 9 d.toNat a.toNat b.toNat ea eb (by omega) (by omega) (by omega) (by omega) (by omega)
  revert H; generalize encodeWord (.and d a b ea eb) = w; intro H
  refine ⟨H.lt, lt_eq H.f26_6 (by decide), noExt H.f26_6 (by decide) (by decide), (op_01 H.f26_6 _).trans ?_⟩
  unfold decodeAlu
  rw [show fld w 0 6 = 9 from H.f0_6.trans (by omega)]
  exact row_eq (rfl)
    (rfl)
    (by rw [gr_eq d H.f20_6 (by first | omega | rfl), gr_eq a H.f14_6 (by first | omega | rfl), gr_eq b H.f8_6 (by first | omega | rfl), H.b7, H.b6])

theorem or (d : GReg) (a : GReg) (b : GReg) (ea : Bool) (eb : Bool) : Statement (.or d a b ea eb) := by
  intro _ hwf
  have h_d := d.isLt
  have h_a := a.isLt
  have h_b := b.isLt
  have H : TFields (encodeWord (.or d a b ea eb)) _ _ _ _ _ _ _ :=
    encT_fields 0x1 10 d.toNat a.toNat b.toNat ea eb (by omega) (by omega) (by omega) (by omega) (by omega)
  revert H; generalize encodeWord (.or d a b ea eb) = w; intro H
  refine ⟨H.lt, lt_eq H.f26_6 (by decide), noExt H.f26_6 (by decide) (by decide), (op_01 H.f26_6 _).trans ?_⟩
  unfold decodeAlu
  rw [show fld w 0 6 = 10 from H.f0_6.trans (by omega)]
  exact row_eq (rfl)
    (rfl)
    (by rw [gr_eq d H.f20_6 (by first | omega | rfl), gr_eq a H.f14_6 (by first | omega | rfl), gr_eq b H.f8_6 (by first | omega | rfl), H.b7, H.b6])

theorem xor (d : GReg) (a : GReg) (b : GReg) (ea : Bool) (eb : Bool) : Statement (.xor d a b ea eb) := by
  intro _ hwf
  have h_d := d.isLt
  have h_a := a.isLt
  have h_b := b.isLt
  have H : TFields (encodeWord (.xor d a b ea eb)) _ _ _ _ _ _ _ :=
    encT_fields 0x1 11 d.toNat a.toNat b.toNat ea eb (by omega) (by omega) (by omega) (by omega) (by omega)
  revert H; generalize encodeWord (.xor d a b ea eb) = w; intro H
  refine ⟨H.lt, lt_eq H.f26_6 (by decide), noExt H.f26_6 (by decide) (by decide), (op_01 H.f26_6 _).trans ?_⟩
  unfold decodeAlu
  rw [show fld w 0 6 = 11 from H.f0_6.trans (by omega)]
  exact row_eq (rfl)
    (rfl)
    (by rw [gr_eq d H.f20_6 (by first | omega | rfl), gr_eq a H.f14_6 (by first | omega | rfl), gr_eq b H.f8_6 (by first | omega | rfl), H.b7, H.b6])

theorem andn (d : GReg) (a : GReg) (b : GReg) (ea : Bool) (eb : Bool) : Statement (.andn d a b ea eb) := by
  intro _ hwf
  have h_d := d.isLt
  have h_a := a.isLt
  have h_b := b.isLt
  have H : TFields (encodeWord (.andn d a b ea eb)) _ _ _ _ _ _ _ :=
    encT_fields 0x1 12 d.toNat a.toNat b.toNat ea eb (by omega) (by omega) (by omega) (by omega) (by omega)
  revert H; generalize encodeWord (.andn d a b ea eb) = w; intro H
  refine ⟨H.lt, lt_eq H.f26_6 (by decide), noExt H.f26_6 (by decide) (by decide), (op_01 H.f26_6 _).trans ?_⟩
  unfold decodeAlu
  rw [show fld w 0 6 = 12 from H.f0_6.trans (by omega)]
  exact row_eq (rfl)
    (rfl)
    (by rw [gr_eq d H.f20_6 (by first | omega | rfl), gr_eq a H.f14_6 (by first | omega | rfl), gr_eq b H.f8_6 (by first | omega | rfl), H.b7, H.b6])

theorem orn (d : GReg) (a : GReg) (b : GReg) (ea : Bool) (eb : Bool) : Statement (.orn d a b ea eb) := by
  intro _ hwf
  have h_d := d.isLt
  have h_a := a.isLt
  have h_b := b.isLt
  have H : TFields (encodeWord (.orn d a b ea eb)) _ _ _ _ _ _ _ :=
    encT_fields 0x1 13 d.toNat a.toNat b.toNat ea eb (by omega) (by omega) (by omega) (by omega) (by omega)
  revert H; generalize encodeWord (.orn d a b ea eb) = w; intro H
  refine ⟨H.lt, lt_eq H.f26_6 (by decide), noExt H.f26_6 (by decide) (by decide), (op_01 H.f26_6 _).trans ?_⟩
  unfold decodeAlu
  rw [show fld w 0 6 = 13 from H.f0_6.trans (by omega)]
  exact row_eq (rfl)
    (rfl)
    (by rw [gr_eq d H.f20_6 (by first | omega | rfl), gr_eq a H.f14_6 (by first | omega | rfl), gr_eq b H.f8_6 (by first | omega | rfl), H.b7, H.b6])

theorem shl (d : GReg) (a : GReg) (b : GReg) (ea : Bool) (eb : Bool) : Statement (.shl d a b ea eb) := by
  intro _ hwf
  have h_d := d.isLt
  have h_a := a.isLt
  have h_b := b.isLt
  have H : TFields (encodeWord (.shl d a b ea eb)) _ _ _ _ _ _ _ :=
    encT_fields 0x1 14 d.toNat a.toNat b.toNat ea eb (by omega) (by omega) (by omega) (by omega) (by omega)
  revert H; generalize encodeWord (.shl d a b ea eb) = w; intro H
  refine ⟨H.lt, lt_eq H.f26_6 (by decide), noExt H.f26_6 (by decide) (by decide), (op_01 H.f26_6 _).trans ?_⟩
  unfold decodeAlu
  rw [show fld w 0 6 = 14 from H.f0_6.trans (by omega)]
  exact row_eq (rfl)
    (rfl)
    (by rw [gr_eq d H.f20_6 (by first | omega | rfl), gr_eq a H.f14_6 (by first | omega | rfl), gr_eq b H.f8_6 (by first | omega | rfl), H.b7, H.b6])

theorem shr (d : GReg) (a : GReg) (b : GReg) (ea : Bool) (eb : Bool) : Statement (.shr d a b ea eb) := by
  intro _ hwf
  have h_d := d.isLt
  have h_a := a.isLt
  have h_b := b.isLt
  have H : TFields (encodeWord (.shr d a b ea eb)) _ _ _ _ _ _ _ :=
    encT_fields 0x1 15 d.toNat a.toNat b.toNat ea eb (by omega) (by omega) (by omega) (by omega) (by omega)
  revert H; generalize encodeWord (.shr d a b ea eb) = w; intro H
  refine ⟨H.lt, lt_eq H.f26_6 (by decide), noExt H.f26_6 (by decide) (by decide), (op_01 H.f26_6 _).trans ?_⟩
  unfold decodeAlu
  rw [show fld w 0 6 = 15 from H.f0_6.trans (by omega)]
  exact row_eq (rfl)
    (rfl)
    (by rw [gr_eq d H.f20_6 (by first | omega | rfl), gr_eq a H.f14_6 (by first | omega | rfl), gr_eq b H.f8_6 (by first | omega | rfl), H.b7, H.b6])

theorem sar (d : GReg) (a : GReg) (b : GReg) (ea : Bool) (eb : Bool) : Statement (.sar d a b ea eb) := by
  intro _ hwf
  have h_d := d.isLt
  have h_a := a.isLt
  have h_b := b.isLt
  have H : TFields (encodeWord (.sar d a b ea eb)) _ _ _ _ _ _ _ :=
    encT_fields 0x1 16 d.toNat a.toNat b.toNat ea eb (by omega) (by omega) (by omega) (by omega) (by omega)
  revert H; generalize encodeWord (.sar d a b ea eb) = w; intro H
  refine ⟨H.lt, lt_eq H.f26_6 (by decide), noExt H.f26_6 (by decide) (by decide), (op_01 H.f26_6 _).trans ?_⟩
  unfold decodeAlu
  rw [show fld w 0 6 = 16 from H.f0_6.trans (by omega)]
  exact row_eq (rfl)
    (rfl)
    (by rw [gr_eq d H.f20_6 (by first | omega | rfl), gr_eq a H.f14_6 (by first | omega | rfl), gr_eq b H.f8_6 (by first | omega | rfl), H.b7, H.b6])

theorem rol (d : GReg) (a : GReg) (b : GReg) (ea : Bool) (eb : Bool) : Statement (.rol d a b ea eb) := by
  intro _ hwf
  have h_d := d.isLt
  have h_a := a.isLt
  have h_b := b.isLt
  have H : TFields (encodeWord (.rol d a b ea eb)) _ _ _ _ _ _ _ :=
    encT_fields 0x1 17 d.toNat a.toNat b.toNat ea eb (by omega) (by omega) (by omega) (by omega) (by omega)
  revert H; generalize encodeWord (.rol d a b ea eb) = w; intro H
  refine ⟨H.lt, lt_eq H.f26_6 (by decide), noExt H.f26_6 (by decide) (by decide), (op_01 H.f26_6 _).trans ?_⟩
  unfold decodeAlu
  rw [show fld w 0 6 = 17 from H.f0_6.trans (by omega)]
  exact row_eq (rfl)
    (rfl)
    (by rw [gr_eq d H.f20_6 (by first | omega | rfl), gr_eq a H.f14_6 (by first | omega | rfl), gr_eq b H.f8_6 (by first | omega | rfl), H.b7, H.b6])

theorem ror (d : GReg) (a : GReg) (b : GReg) (ea : Bool) (eb : Bool) : Statement (.ror d a b ea eb) := by
  intro _ hwf
  have h_d := d.isLt
  have h_a := a.isLt
  have h_b := b.isLt
  have H : TFields (encodeWord (.ror d a b ea eb)) _ _ _ _ _ _ _ :=
    encT_fields 0x1 18 d.toNat a.toNat b.toNat ea eb (by omega) (by omega) (by omega) (by omega) (by omega)
  revert H; generalize encodeWord (.ror d a b ea eb) = w; intro H
  refine ⟨H.lt, lt_eq H.f26_6 (by decide), noExt H.f26_6 (by decide) (by decide), (op_01 H.f26_6 _).trans ?_⟩
  unfold decodeAlu
  rw [show fld w 0 6 = 18 from H.f0_6.trans (by omega)]
  exact row_eq (rfl)
    (rfl)
    (by rw [gr_eq d H.f20_6 (by first | omega | rfl), gr_eq a H.f14_6 (by first | omega | rfl), gr_eq b H.f8_6 (by first | omega | rfl), H.b7, H.b6])

theorem minS (d : GReg) (a : GReg) (b : GReg) (ea : Bool) (eb : Bool) : Statement (.minS d a b ea eb) := by
  intro _ hwf
  have h_d := d.isLt
  have h_a := a.isLt
  have h_b := b.isLt
  have H : TFields (encodeWord (.minS d a b ea eb)) _ _ _ _ _ _ _ :=
    encT_fields 0x1 19 d.toNat a.toNat b.toNat ea eb (by omega) (by omega) (by omega) (by omega) (by omega)
  revert H; generalize encodeWord (.minS d a b ea eb) = w; intro H
  refine ⟨H.lt, lt_eq H.f26_6 (by decide), noExt H.f26_6 (by decide) (by decide), (op_01 H.f26_6 _).trans ?_⟩
  unfold decodeAlu
  rw [show fld w 0 6 = 19 from H.f0_6.trans (by omega)]
  exact row_eq (rfl)
    (rfl)
    (by rw [gr_eq d H.f20_6 (by first | omega | rfl), gr_eq a H.f14_6 (by first | omega | rfl), gr_eq b H.f8_6 (by first | omega | rfl), H.b7, H.b6])

theorem minZ (d : GReg) (a : GReg) (b : GReg) (ea : Bool) (eb : Bool) : Statement (.minZ d a b ea eb) := by
  intro _ hwf
  have h_d := d.isLt
  have h_a := a.isLt
  have h_b := b.isLt
  have H : TFields (encodeWord (.minZ d a b ea eb)) _ _ _ _ _ _ _ :=
    encT_fields 0x1 20 d.toNat a.toNat b.toNat ea eb (by omega) (by omega) (by omega) (by omega) (by omega)
  revert H; generalize encodeWord (.minZ d a b ea eb) = w; intro H
  refine ⟨H.lt, lt_eq H.f26_6 (by decide), noExt H.f26_6 (by decide) (by decide), (op_01 H.f26_6 _).trans ?_⟩
  unfold decodeAlu
  rw [show fld w 0 6 = 20 from H.f0_6.trans (by omega)]
  exact row_eq (rfl)
    (rfl)
    (by rw [gr_eq d H.f20_6 (by first | omega | rfl), gr_eq a H.f14_6 (by first | omega | rfl), gr_eq b H.f8_6 (by first | omega | rfl), H.b7, H.b6])

theorem maxS (d : GReg) (a : GReg) (b : GReg) (ea : Bool) (eb : Bool) : Statement (.maxS d a b ea eb) := by
  intro _ hwf
  have h_d := d.isLt
  have h_a := a.isLt
  have h_b := b.isLt
  have H : TFields (encodeWord (.maxS d a b ea eb)) _ _ _ _ _ _ _ :=
    encT_fields 0x1 21 d.toNat a.toNat b.toNat ea eb (by omega) (by omega) (by omega) (by omega) (by omega)
  revert H; generalize encodeWord (.maxS d a b ea eb) = w; intro H
  refine ⟨H.lt, lt_eq H.f26_6 (by decide), noExt H.f26_6 (by decide) (by decide), (op_01 H.f26_6 _).trans ?_⟩
  unfold decodeAlu
  rw [show fld w 0 6 = 21 from H.f0_6.trans (by omega)]
  exact row_eq (rfl)
    (rfl)
    (by rw [gr_eq d H.f20_6 (by first | omega | rfl), gr_eq a H.f14_6 (by first | omega | rfl), gr_eq b H.f8_6 (by first | omega | rfl), H.b7, H.b6])

theorem maxZ (d : GReg) (a : GReg) (b : GReg) (ea : Bool) (eb : Bool) : Statement (.maxZ d a b ea eb) := by
  intro _ hwf
  have h_d := d.isLt
  have h_a := a.isLt
  have h_b := b.isLt
  have H : TFields (encodeWord (.maxZ d a b ea eb)) _ _ _ _ _ _ _ :=
    encT_fields 0x1 22 d.toNat a.toNat b.toNat ea eb (by omega) (by omega) (by omega) (by omega) (by omega)
  revert H; generalize encodeWord (.maxZ d a b ea eb) = w; intro H
  refine ⟨H.lt, lt_eq H.f26_6 (by decide), noExt H.f26_6 (by decide) (by decide), (op_01 H.f26_6 _).trans ?_⟩
  unfold decodeAlu
  rw [show fld w 0 6 = 22 from H.f0_6.trans (by omega)]
  exact row_eq (rfl)
    (rfl)
    (by rw [gr_eq d H.f20_6 (by first | omega | rfl), gr_eq a H.f14_6 (by first | omega | rfl), gr_eq b H.f8_6 (by first | omega | rfl), H.b7, H.b6])

theorem clz (d : GReg) (a : GReg) (ea : Bool) : Statement (.clz d a ea) := by
  intro _ hwf
  have h_d := d.isLt
  have h_a := a.isLt
  have H : TFields (encodeWord (.clz d a ea)) _ _ _ _ _ _ _ :=
    encT_fields 0x1 23 d.toNat a.toNat 0 ea false (by omega) (by omega) (by omega) (by omega) (by omega)
  revert H; generalize encodeWord (.clz d a ea) = w; intro H
  refine ⟨H.lt, lt_eq H.f26_6 (by decide), noExt H.f26_6 (by decide) (by decide), (op_01 H.f26_6 _).trans ?_⟩
  unfold decodeAlu
  rw [show fld w 0 6 = 23 from H.f0_6.trans (by omega)]
  exact row_eq (and_eq (z_eq H.f8_6 (by first | omega | rfl)) (z_eq H.f6_1 (by first | omega | rfl)))
    (rfl)
    (by rw [gr_eq d H.f20_6 (by first | omega | rfl), gr_eq a H.f14_6 (by first | omega | rfl), H.b7])

theorem ctz (d : GReg) (a : GReg) (ea : Bool) : Statement (.ctz d a ea) := by
  intro _ hwf
  have h_d := d.isLt
  have h_a := a.isLt
  have H : TFields (encodeWord (.ctz d a ea)) _ _ _ _ _ _ _ :=
    encT_fields 0x1 24 d.toNat a.toNat 0 ea false (by omega) (by omega) (by omega) (by omega) (by omega)
  revert H; generalize encodeWord (.ctz d a ea) = w; intro H
  refine ⟨H.lt, lt_eq H.f26_6 (by decide), noExt H.f26_6 (by decide) (by decide), (op_01 H.f26_6 _).trans ?_⟩
  unfold decodeAlu
  rw [show fld w 0 6 = 24 from H.f0_6.trans (by omega)]
  exact row_eq (and_eq (z_eq H.f8_6 (by first | omega | rfl)) (z_eq H.f6_1 (by first | omega | rfl)))
    (rfl)
    (by rw [gr_eq d H.f20_6 (by first | omega | rfl), gr_eq a H.f14_6 (by first | omega | rfl), H.b7])

theorem popc (d : GReg) (a : GReg) (ea : Bool) : Statement (.popc d a ea) := by
  intro _ hwf
  have h_d := d.isLt
  have h_a := a.isLt
  have H : TFields (encodeWord (.popc d a ea)) _ _ _ _ _ _ _ :=
    encT_fields 0x1 25 d.toNat a.toNat 0 ea false (by omega) (by omega) (by omega) (by omega) (by omega)
  revert H; generalize encodeWord (.popc d a ea) = w; intro H
  refine ⟨H.lt, lt_eq H.f26_6 (by decide), noExt H.f26_6 (by decide) (by decide), (op_01 H.f26_6 _).trans ?_⟩
  unfold decodeAlu
  rw [show fld w 0 6 = 25 from H.f0_6.trans (by omega)]
  exact row_eq (and_eq (z_eq H.f8_6 (by first | omega | rfl)) (z_eq H.f6_1 (by first | omega | rfl)))
    (rfl)
    (by rw [gr_eq d H.f20_6 (by first | omega | rfl), gr_eq a H.f14_6 (by first | omega | rfl), H.b7])

theorem bswap (d : GReg) (a : GReg) (ea : Bool) : Statement (.bswap d a ea) := by
  intro _ hwf
  have h_d := d.isLt
  have h_a := a.isLt
  have H : TFields (encodeWord (.bswap d a ea)) _ _ _ _ _ _ _ :=
    encT_fields 0x1 26 d.toNat a.toNat 0 ea false (by omega) (by omega) (by omega) (by omega) (by omega)
  revert H; generalize encodeWord (.bswap d a ea) = w; intro H
  refine ⟨H.lt, lt_eq H.f26_6 (by decide), noExt H.f26_6 (by decide) (by decide), (op_01 H.f26_6 _).trans ?_⟩
  unfold decodeAlu
  rw [show fld w 0 6 = 26 from H.f0_6.trans (by omega)]
  exact row_eq (and_eq (z_eq H.f8_6 (by first | omega | rfl)) (z_eq H.f6_1 (by first | omega | rfl)))
    (rfl)
    (by rw [gr_eq d H.f20_6 (by first | omega | rfl), gr_eq a H.f14_6 (by first | omega | rfl), H.b7])

theorem lea1 (d : GReg) (a : GReg) (b : GReg) (ea : Bool) (eb : Bool) : Statement (.lea1 d a b ea eb) := by
  intro _ hwf
  have h_d := d.isLt
  have h_a := a.isLt
  have h_b := b.isLt
  have H : TFields (encodeWord (.lea1 d a b ea eb)) _ _ _ _ _ _ _ :=
    encT_fields 0x1 27 d.toNat a.toNat b.toNat ea eb (by omega) (by omega) (by omega) (by omega) (by omega)
  revert H; generalize encodeWord (.lea1 d a b ea eb) = w; intro H
  refine ⟨H.lt, lt_eq H.f26_6 (by decide), noExt H.f26_6 (by decide) (by decide), (op_01 H.f26_6 _).trans ?_⟩
  unfold decodeAlu
  rw [show fld w 0 6 = 27 from H.f0_6.trans (by omega)]
  exact row_eq (rfl)
    (rfl)
    (by rw [gr_eq d H.f20_6 (by first | omega | rfl), gr_eq a H.f14_6 (by first | omega | rfl), gr_eq b H.f8_6 (by first | omega | rfl), H.b7, H.b6])

theorem lea2 (d : GReg) (a : GReg) (b : GReg) (ea : Bool) (eb : Bool) : Statement (.lea2 d a b ea eb) := by
  intro _ hwf
  have h_d := d.isLt
  have h_a := a.isLt
  have h_b := b.isLt
  have H : TFields (encodeWord (.lea2 d a b ea eb)) _ _ _ _ _ _ _ :=
    encT_fields 0x1 28 d.toNat a.toNat b.toNat ea eb (by omega) (by omega) (by omega) (by omega) (by omega)
  revert H; generalize encodeWord (.lea2 d a b ea eb) = w; intro H
  refine ⟨H.lt, lt_eq H.f26_6 (by decide), noExt H.f26_6 (by decide) (by decide), (op_01 H.f26_6 _).trans ?_⟩
  unfold decodeAlu
  rw [show fld w 0 6 = 28 from H.f0_6.trans (by omega)]
  exact row_eq (rfl)
    (rfl)
    (by rw [gr_eq d H.f20_6 (by first | omega | rfl), gr_eq a H.f14_6 (by first | omega | rfl), gr_eq b H.f8_6 (by first | omega | rfl), H.b7, H.b6])

theorem lea3 (d : GReg) (a : GReg) (b : GReg) (ea : Bool) (eb : Bool) : Statement (.lea3 d a b ea eb) := by
  intro _ hwf
  have h_d := d.isLt
  have h_a := a.isLt
  have h_b := b.isLt
  have H : TFields (encodeWord (.lea3 d a b ea eb)) _ _ _ _ _ _ _ :=
    encT_fields 0x1 29 d.toNat a.toNat b.toNat ea eb (by omega) (by omega) (by omega) (by omega) (by omega)
  revert H; generalize encodeWord (.lea3 d a b ea eb) = w; intro H
  refine ⟨H.lt, lt_eq H.f26_6 (by decide), noExt H.f26_6 (by decide) (by decide), (op_01 H.f26_6 _).trans ?_⟩
  unfold decodeAlu
  rw [show fld w 0 6 = 29 from H.f0_6.trans (by omega)]
  exact row_eq (rfl)
    (rfl)
    (by rw [gr_eq d H.f20_6 (by first | omega | rfl), gr_eq a H.f14_6 (by first | omega | rfl), gr_eq b H.f8_6 (by first | omega | rfl), H.b7, H.b6])

theorem cmp (pd : PReg) (a : GReg) (b : GReg) (ea : Bool) (eb : Bool) (cc : Cond) : Statement (.cmp pd a b ea eb cc) := by
  intro _ hwf
  have h_pd := pd.isLt
  have h_a := a.isLt
  have h_b := b.isLt
  have h_cc := condCode_lt cc
  have H : TFields (encodeWord (.cmp pd a b ea eb cc)) _ _ _ _ _ _ _ :=
    encT_fields 0x2 (condCode cc) (pd.toNat * 8) a.toNat b.toNat ea eb (by omega) (by omega) (by omega) (by omega) (by omega)
  revert H; generalize encodeWord (.cmp pd a b ea eb cc) = w; intro H
  refine ⟨H.lt, lt_eq H.f26_6 (by decide), noExt H.f26_6 (by decide) (by decide), (op_02 H.f26_6 _).trans ?_⟩
  rw [decodeCmp_some (code_eq H.f0_6 ((congrArg condOf (by omega)).trans (condOf_code cc)))]
  exact row_eq (z_eq H.f20_3 (by first | omega | rfl))
    (rfl)
    (by rw [ofNat_eq pd H.f23_3 (by first | omega | rfl), gr_eq a H.f14_6 (by first | omega | rfl), gr_eq b H.f8_6 (by first | omega | rfl), H.b7, H.b6])

theorem addi (d : GReg) (a : GReg) (ea : Bool) (imm : BitVec 13) : Statement (.addi d a ea imm) := by
  intro _ hwf
  have h_d := d.isLt
  have h_a := a.isLt
  have h_imm := imm.isLt
  have H : IFields (encodeWord (.addi d a ea imm)) _ _ _ _ _ :=
    encI_fields 0x3 d.toNat a.toNat ea imm.toNat (by omega) (by omega) (by omega) (by omega)
  revert H; generalize encodeWord (.addi d a ea imm) = w; intro H
  refine ⟨H.lt, lt_eq H.f26_6 (by decide), noExt H.f26_6 (by decide) (by decide), (op_03 H.f26_6 _).trans ?_⟩
  unfold decodeAddi
  exact row_eq (rfl)
    (rfl)
    (by rw [gr_eq d H.f20_6 (by first | omega | rfl), gr_eq a H.f14_6 (by first | omega | rfl), H.b13, ofNat_eq imm H.f0_13 (by first | omega | rfl)])

theorem andi (d : GReg) (a : GReg) (ea : Bool) (imm : BitVec 13) : Statement (.andi d a ea imm) := by
  intro _ hwf
  have h_d := d.isLt
  have h_a := a.isLt
  have h_imm := imm.isLt
  have H : IFields (encodeWord (.andi d a ea imm)) _ _ _ _ _ :=
    encI_fields 0x4 d.toNat a.toNat ea imm.toNat (by omega) (by omega) (by omega) (by omega)
  revert H; generalize encodeWord (.andi d a ea imm) = w; intro H
  refine ⟨H.lt, lt_eq H.f26_6 (by decide), noExt H.f26_6 (by decide) (by decide), (op_04 H.f26_6 _).trans ?_⟩
  unfold decodeAndi
  exact row_eq (rfl)
    (rfl)
    (by rw [gr_eq d H.f20_6 (by first | omega | rfl), gr_eq a H.f14_6 (by first | omega | rfl), H.b13, ofNat_eq imm H.f0_13 (by first | omega | rfl)])

theorem ori (d : GReg) (a : GReg) (ea : Bool) (imm : BitVec 13) : Statement (.ori d a ea imm) := by
  intro _ hwf
  have h_d := d.isLt
  have h_a := a.isLt
  have h_imm := imm.isLt
  have H : IFields (encodeWord (.ori d a ea imm)) _ _ _ _ _ :=
    encI_fields 0x5 d.toNat a.toNat ea imm.toNat (by omega) (by omega) (by omega) (by omega)
  revert H; generalize encodeWord (.ori d a ea imm) = w; intro H
  refine ⟨H.lt, lt_eq H.f26_6 (by decide), noExt H.f26_6 (by decide) (by decide), (op_05 H.f26_6 _).trans ?_⟩
  unfold decodeOri
  exact row_eq (rfl)
    (rfl)
    (by rw [gr_eq d H.f20_6 (by first | omega | rfl), gr_eq a H.f14_6 (by first | omega | rfl), H.b13, ofNat_eq imm H.f0_13 (by first | omega | rfl)])

theorem xori (d : GReg) (a : GReg) (ea : Bool) (imm : BitVec 13) : Statement (.xori d a ea imm) := by
  intro _ hwf
  have h_d := d.isLt
  have h_a := a.isLt
  have h_imm := imm.isLt
  have H : IFields (encodeWord (.xori d a ea imm)) _ _ _ _ _ :=
    encI_fields 0x6 d.toNat a.toNat ea imm.toNat (by omega) (by omega) (by omega) (by omega)
  revert H; generalize encodeWord (.xori d a ea imm) = w; intro H
  refine ⟨H.lt, lt_eq H.f26_6 (by decide), noExt H.f26_6 (by decide) (by decide), (op_06 H.f26_6 _).trans ?_⟩
  unfold decodeXori
  exact row_eq (rfl)
    (rfl)
    (by rw [gr_eq d H.f20_6 (by first | omega | rfl), gr_eq a H.f14_6 (by first | omega | rfl), H.b13, ofNat_eq imm H.f0_13 (by first | omega | rfl)])

theorem shli (d : GReg) (a : GReg) (ea : Bool) (amount : BitVec 6) : Statement (.shli d a ea amount) := by
  intro _ hwf
  have h_d := d.isLt
  have h_a := a.isLt
  have h_amount := amount.isLt
  have H : IFields (encodeWord (.shli d a ea amount)) _ _ _ _ _ :=
    encI_fields 0x7 d.toNat a.toNat ea (0 * 2 ^ 11 + amount.toNat) (by omega) (by omega) (by omega) (by omega)
  revert H; generalize encodeWord (.shli d a ea amount) = w; intro H
  refine ⟨H.lt, lt_eq H.f26_6 (by decide), noExt H.f26_6 (by decide) (by decide), (op_07 H.f26_6 _).trans ?_⟩
  unfold decodeShiftImm
  rw [show fld w 11 2 = 0 from H.f11_2.trans (by omega)]
  exact row_eq (z_eq H.f6_5 (by first | omega | rfl))
    (rfl)
    (by rw [gr_eq d H.f20_6 (by first | omega | rfl), gr_eq a H.f14_6 (by first | omega | rfl), H.b13, ofNat_eq amount H.f0_6 (by first | omega | rfl)])

theorem shri (d : GReg) (a : GReg) (ea : Bool) (amount : BitVec 6) : Statement (.shri d a ea amount) := by
  intro _ hwf
  have h_d := d.isLt
  have h_a := a.isLt
  have h_amount := amount.isLt
  have H : IFields (encodeWord (.shri d a ea amount)) _ _ _ _ _ :=
    encI_fields 0x7 d.toNat a.toNat ea (1 * 2 ^ 11 + amount.toNat) (by omega) (by omega) (by omega) (by omega)
  revert H; generalize encodeWord (.shri d a ea amount) = w; intro H
  refine ⟨H.lt, lt_eq H.f26_6 (by decide), noExt H.f26_6 (by decide) (by decide), (op_07 H.f26_6 _).trans ?_⟩
  unfold decodeShiftImm
  rw [show fld w 11 2 = 1 from H.f11_2.trans (by omega)]
  exact row_eq (z_eq H.f6_5 (by first | omega | rfl))
    (rfl)
    (by rw [gr_eq d H.f20_6 (by first | omega | rfl), gr_eq a H.f14_6 (by first | omega | rfl), H.b13, ofNat_eq amount H.f0_6 (by first | omega | rfl)])

theorem sari (d : GReg) (a : GReg) (ea : Bool) (amount : BitVec 6) : Statement (.sari d a ea amount) := by
  intro _ hwf
  have h_d := d.isLt
  have h_a := a.isLt
  have h_amount := amount.isLt
  have H : IFields (encodeWord (.sari d a ea amount)) _ _ _ _ _ :=
    encI_fields 0x7 d.toNat a.toNat ea (2 * 2 ^ 11 + amount.toNat) (by omega) (by omega) (by omega) (by omega)
  revert H; generalize encodeWord (.sari d a ea amount) = w; intro H
  refine ⟨H.lt, lt_eq H.f26_6 (by decide), noExt H.f26_6 (by decide) (by decide), (op_07 H.f26_6 _).trans ?_⟩
  unfold decodeShiftImm
  rw [show fld w 11 2 = 2 from H.f11_2.trans (by omega)]
  exact row_eq (z_eq H.f6_5 (by first | omega | rfl))
    (rfl)
    (by rw [gr_eq d H.f20_6 (by first | omega | rfl), gr_eq a H.f14_6 (by first | omega | rfl), H.b13, ofNat_eq amount H.f0_6 (by first | omega | rfl)])

theorem cmpi (pd : PReg) (a : GReg) (ea : Bool) (cc : Cond) (imm : BitVec 9) : Statement (.cmpi pd a ea cc imm) := by
  intro _ hwf
  have h_pd := pd.isLt
  have h_a := a.isLt
  have h_cc := condCode_lt cc
  have h_imm := imm.isLt
  have H : IFields (encodeWord (.cmpi pd a ea cc imm)) _ _ _ _ _ :=
    encI_fields 0x8 (pd.toNat * 8) a.toNat ea (condCode cc * 2 ^ 9 + imm.toNat) (by omega) (by omega) (by omega) (by omega)
  revert H; generalize encodeWord (.cmpi pd a ea cc imm) = w; intro H
  refine ⟨H.lt, lt_eq H.f26_6 (by decide), noExt H.f26_6 (by decide) (by decide), (op_08 H.f26_6 _).trans ?_⟩
  rw [decodeCmpi_some (code_eq H.f9_4 ((congrArg condOf (by omega)).trans (condOf_code cc)))]
  exact row_eq (z_eq H.f20_3 (by first | omega | rfl))
    (rfl)
    (by rw [ofNat_eq pd H.f23_3 (by first | omega | rfl), gr_eq a H.f14_6 (by first | omega | rfl), H.b13, ofNat_eq imm H.f0_9 (by first | omega | rfl)])

theorem liS (d : GReg) (lit : IWord) : Statement (.liS d lit) := by
  intro _ hwf
  have h_d := d.isLt
  have h_lit := lit.isLt
  have H : IFields (encodeWord (.liS d lit)) _ _ _ _ _ :=
    encI_fields 0x9 d.toNat 0 false 0 (by omega) (by omega) (by omega) (by omega)
  revert H; generalize encodeWord (.liS d lit) = w; intro H
  refine ⟨H.lt, lt_eq H.f26_6 (by decide), ext_09 H.f26_6 (lt_eq H.f0_13 (by decide)), (op_09 H.f26_6 _).trans ?_⟩
  unfold decodeLi
  rw [show fld w 0 13 = 0 from H.f0_13.trans (by omega)]
  exact row_eq (and_eq (z_eq H.f14_6 (by first | omega | rfl)) (z_eq H.f13_1 (by first | omega | rfl)))
    (rfl)
    (by rw [gr_eq d H.f20_6 (by first | omega | rfl)]; rfl)

theorem liZ (d : GReg) (lit : IWord) : Statement (.liZ d lit) := by
  intro _ hwf
  have h_d := d.isLt
  have h_lit := lit.isLt
  have H : IFields (encodeWord (.liZ d lit)) _ _ _ _ _ :=
    encI_fields 0x9 d.toNat 0 false 1 (by omega) (by omega) (by omega) (by omega)
  revert H; generalize encodeWord (.liZ d lit) = w; intro H
  refine ⟨H.lt, lt_eq H.f26_6 (by decide), ext_09 H.f26_6 (lt_eq H.f0_13 (by decide)), (op_09 H.f26_6 _).trans ?_⟩
  unfold decodeLi
  rw [show fld w 0 13 = 1 from H.f0_13.trans (by omega)]
  exact row_eq (and_eq (z_eq H.f14_6 (by first | omega | rfl)) (z_eq H.f13_1 (by first | omega | rfl)))
    (rfl)
    (by rw [gr_eq d H.f20_6 (by first | omega | rfl)]; rfl)

theorem lih (d : GReg) (lit : IWord) : Statement (.lih d lit) := by
  intro _ hwf
  have h_d := d.isLt
  have h_lit := lit.isLt
  have H : IFields (encodeWord (.lih d lit)) _ _ _ _ _ :=
    encI_fields 0x9 d.toNat 0 false 2 (by omega) (by omega) (by omega) (by omega)
  revert H; generalize encodeWord (.lih d lit) = w; intro H
  refine ⟨H.lt, lt_eq H.f26_6 (by decide), ext_09 H.f26_6 (lt_eq H.f0_13 (by decide)), (op_09 H.f26_6 _).trans ?_⟩
  unfold decodeLi
  rw [show fld w 0 13 = 2 from H.f0_13.trans (by omega)]
  exact row_eq (and_eq (z_eq H.f14_6 (by first | omega | rfl)) (z_eq H.f13_1 (by first | omega | rfl)))
    (rfl)
    (by rw [gr_eq d H.f20_6 (by first | omega | rfl)]; rfl)

theorem bextS (d : GReg) (a : GReg) (ea : Bool) (pos : BitVec 6) (wm1 : BitVec 5) : Statement (.bextS d a ea pos wm1) := by
  intro _ hwf
  have h_d := d.isLt
  have h_a := a.isLt
  have h_pos := pos.isLt
  have h_wm1 := wm1.isLt
  have H : IFields (encodeWord (.bextS d a ea pos wm1)) _ _ _ _ _ :=
    encI_fields 0xA d.toNat a.toNat ea (0 * 2 ^ 11 + pos.toNat * 2 ^ 5 + wm1.toNat) (by omega) (by omega) (by omega) (by omega)
  revert H; generalize encodeWord (.bextS d a ea pos wm1) = w; intro H
  refine ⟨H.lt, lt_eq H.f26_6 (by decide), noExt H.f26_6 (by decide) (by decide), (op_0A H.f26_6 _).trans ?_⟩
  unfold decodeBitField
  rw [show fld w 11 2 = 0 from H.f11_2.trans (by omega)]
  exact row_eq (rfl)
    (by rw [H.f5_6, H.f0_5]; have := of_decide_eq_true hwf; exact decide_eq_true (by omega))
    (by rw [gr_eq d H.f20_6 (by first | omega | rfl), gr_eq a H.f14_6 (by first | omega | rfl), H.b13, ofNat_eq pos H.f5_6 (by first | omega | rfl), ofNat_eq wm1 H.f0_5 (by first | omega | rfl)])

theorem bextZ (d : GReg) (a : GReg) (ea : Bool) (pos : BitVec 6) (wm1 : BitVec 5) : Statement (.bextZ d a ea pos wm1) := by
  intro _ hwf
  have h_d := d.isLt
  have h_a := a.isLt
  have h_pos := pos.isLt
  have h_wm1 := wm1.isLt
  have H : IFields (encodeWord (.bextZ d a ea pos wm1)) _ _ _ _ _ :=
    encI_fields 0xA d.toNat a.toNat ea (1 * 2 ^ 11 + pos.toNat * 2 ^ 5 + wm1.toNat) (by omega) (by omega) (by omega) (by omega)
  revert H; generalize encodeWord (.bextZ d a ea pos wm1) = w; intro H
  refine ⟨H.lt, lt_eq H.f26_6 (by decide), noExt H.f26_6 (by decide) (by decide), (op_0A H.f26_6 _).trans ?_⟩
  unfold decodeBitField
  rw [show fld w 11 2 = 1 from H.f11_2.trans (by omega)]
  exact row_eq (rfl)
    (by rw [H.f5_6, H.f0_5]; have := of_decide_eq_true hwf; exact decide_eq_true (by omega))
    (by rw [gr_eq d H.f20_6 (by first | omega | rfl), gr_eq a H.f14_6 (by first | omega | rfl), H.b13, ofNat_eq pos H.f5_6 (by first | omega | rfl), ofNat_eq wm1 H.f0_5 (by first | omega | rfl)])

theorem bins (d : GReg) (a : GReg) (ea : Bool) (pos : BitVec 6) (wm1 : BitVec 5) : Statement (.bins d a ea pos wm1) := by
  intro _ hwf
  have h_d := d.isLt
  have h_a := a.isLt
  have h_pos := pos.isLt
  have h_wm1 := wm1.isLt
  have H : IFields (encodeWord (.bins d a ea pos wm1)) _ _ _ _ _ :=
    encI_fields 0xA d.toNat a.toNat ea (2 * 2 ^ 11 + pos.toNat * 2 ^ 5 + wm1.toNat) (by omega) (by omega) (by omega) (by omega)
  revert H; generalize encodeWord (.bins d a ea pos wm1) = w; intro H
  refine ⟨H.lt, lt_eq H.f26_6 (by decide), noExt H.f26_6 (by decide) (by decide), (op_0A H.f26_6 _).trans ?_⟩
  unfold decodeBitField
  rw [show fld w 11 2 = 2 from H.f11_2.trans (by omega)]
  exact row_eq (rfl)
    (by rw [H.f5_6, H.f0_5]; have := of_decide_eq_true hwf; exact decide_eq_true (by omega))
    (by rw [gr_eq d H.f20_6 (by first | omega | rfl), gr_eq a H.f14_6 (by first | omega | rfl), H.b13, ofNat_eq pos H.f5_6 (by first | omega | rfl), ofNat_eq wm1 H.f0_5 (by first | omega | rfl)])

theorem pand (pd : PReg) (pa : PReg) (pb : PReg) : Statement (.pand pd pa pb) := by
  intro _ hwf
  have h_pd := pd.isLt
  have h_pa := pa.isLt
  have h_pb := pb.isLt
  have H : TFields (encodeWord (.pand pd pa pb)) _ _ _ _ _ _ _ :=
    encT_fields 0xB 0 pd.toNat pa.toNat pb.toNat false false (by omega) (by omega) (by omega) (by omega) (by omega)
  revert H; generalize encodeWord (.pand pd pa pb) = w; intro H
  refine ⟨H.lt, lt_eq H.f26_6 (by decide), noExt H.f26_6 (by decide) (by decide), (op_0B H.f26_6 _).trans ?_⟩
  unfold decodePred
  rw [show fld w 0 6 = 0 from H.f0_6.trans (by omega)]
  exact row_eq (and_eq (and_eq (and_eq (and_eq (z_eq H.f23_3 (by first | omega | rfl)) (z_eq H.f17_3 (by first | omega | rfl))) (z_eq H.f11_3 (by first | omega | rfl))) (z_eq H.f7_1 (by first | omega | rfl))) (z_eq H.f6_1 (by first | omega | rfl)))
    (rfl)
    (by rw [pr_eq pd H.f20_3 (by first | omega | rfl), pr_eq pa H.f14_3 (by first | omega | rfl), pr_eq pb H.f8_3 (by first | omega | rfl)])

theorem por (pd : PReg) (pa : PReg) (pb : PReg) : Statement (.por pd pa pb) := by
  intro _ hwf
  have h_pd := pd.isLt
  have h_pa := pa.isLt
  have h_pb := pb.isLt
  have H : TFields (encodeWord (.por pd pa pb)) _ _ _ _ _ _ _ :=
    encT_fields 0xB 1 pd.toNat pa.toNat pb.toNat false false (by omega) (by omega) (by omega) (by omega) (by omega)
  revert H; generalize encodeWord (.por pd pa pb) = w; intro H
  refine ⟨H.lt, lt_eq H.f26_6 (by decide), noExt H.f26_6 (by decide) (by decide), (op_0B H.f26_6 _).trans ?_⟩
  unfold decodePred
  rw [show fld w 0 6 = 1 from H.f0_6.trans (by omega)]
  exact row_eq (and_eq (and_eq (and_eq (and_eq (z_eq H.f23_3 (by first | omega | rfl)) (z_eq H.f17_3 (by first | omega | rfl))) (z_eq H.f11_3 (by first | omega | rfl))) (z_eq H.f7_1 (by first | omega | rfl))) (z_eq H.f6_1 (by first | omega | rfl)))
    (rfl)
    (by rw [pr_eq pd H.f20_3 (by first | omega | rfl), pr_eq pa H.f14_3 (by first | omega | rfl), pr_eq pb H.f8_3 (by first | omega | rfl)])

theorem pxor (pd : PReg) (pa : PReg) (pb : PReg) : Statement (.pxor pd pa pb) := by
  intro _ hwf
  have h_pd := pd.isLt
  have h_pa := pa.isLt
  have h_pb := pb.isLt
  have H : TFields (encodeWord (.pxor pd pa pb)) _ _ _ _ _ _ _ :=
    encT_fields 0xB 2 pd.toNat pa.toNat pb.toNat false false (by omega) (by omega) (by omega) (by omega) (by omega)
  revert H; generalize encodeWord (.pxor pd pa pb) = w; intro H
  refine ⟨H.lt, lt_eq H.f26_6 (by decide), noExt H.f26_6 (by decide) (by decide), (op_0B H.f26_6 _).trans ?_⟩
  unfold decodePred
  rw [show fld w 0 6 = 2 from H.f0_6.trans (by omega)]
  exact row_eq (and_eq (and_eq (and_eq (and_eq (z_eq H.f23_3 (by first | omega | rfl)) (z_eq H.f17_3 (by first | omega | rfl))) (z_eq H.f11_3 (by first | omega | rfl))) (z_eq H.f7_1 (by first | omega | rfl))) (z_eq H.f6_1 (by first | omega | rfl)))
    (rfl)
    (by rw [pr_eq pd H.f20_3 (by first | omega | rfl), pr_eq pa H.f14_3 (by first | omega | rfl), pr_eq pb H.f8_3 (by first | omega | rfl)])

theorem pandn (pd : PReg) (pa : PReg) (pb : PReg) : Statement (.pandn pd pa pb) := by
  intro _ hwf
  have h_pd := pd.isLt
  have h_pa := pa.isLt
  have h_pb := pb.isLt
  have H : TFields (encodeWord (.pandn pd pa pb)) _ _ _ _ _ _ _ :=
    encT_fields 0xB 3 pd.toNat pa.toNat pb.toNat false false (by omega) (by omega) (by omega) (by omega) (by omega)
  revert H; generalize encodeWord (.pandn pd pa pb) = w; intro H
  refine ⟨H.lt, lt_eq H.f26_6 (by decide), noExt H.f26_6 (by decide) (by decide), (op_0B H.f26_6 _).trans ?_⟩
  unfold decodePred
  rw [show fld w 0 6 = 3 from H.f0_6.trans (by omega)]
  exact row_eq (and_eq (and_eq (and_eq (and_eq (z_eq H.f23_3 (by first | omega | rfl)) (z_eq H.f17_3 (by first | omega | rfl))) (z_eq H.f11_3 (by first | omega | rfl))) (z_eq H.f7_1 (by first | omega | rfl))) (z_eq H.f6_1 (by first | omega | rfl)))
    (rfl)
    (by rw [pr_eq pd H.f20_3 (by first | omega | rfl), pr_eq pa H.f14_3 (by first | omega | rfl), pr_eq pb H.f8_3 (by first | omega | rfl)])

theorem pnot (pd : PReg) (pa : PReg) : Statement (.pnot pd pa) := by
  intro _ hwf
  have h_pd := pd.isLt
  have h_pa := pa.isLt
  have H : TFields (encodeWord (.pnot pd pa)) _ _ _ _ _ _ _ :=
    encT_fields 0xB 4 pd.toNat pa.toNat 0 false false (by omega) (by omega) (by omega) (by omega) (by omega)
  revert H; generalize encodeWord (.pnot pd pa) = w; intro H
  refine ⟨H.lt, lt_eq H.f26_6 (by decide), noExt H.f26_6 (by decide) (by decide), (op_0B H.f26_6 _).trans ?_⟩
  unfold decodePred
  rw [show fld w 0 6 = 4 from H.f0_6.trans (by omega)]
  exact row_eq (and_eq (and_eq (and_eq (and_eq (z_eq H.f23_3 (by first | omega | rfl)) (z_eq H.f17_3 (by first | omega | rfl))) (z_eq H.f8_6 (by first | omega | rfl))) (z_eq H.f7_1 (by first | omega | rfl))) (z_eq H.f6_1 (by first | omega | rfl)))
    (rfl)
    (by rw [pr_eq pd H.f20_3 (by first | omega | rfl), pr_eq pa H.f14_3 (by first | omega | rfl)])

theorem pmov (pd : PReg) (pa : PReg) : Statement (.pmov pd pa) := by
  intro _ hwf
  have h_pd := pd.isLt
  have h_pa := pa.isLt
  have H : TFields (encodeWord (.pmov pd pa)) _ _ _ _ _ _ _ :=
    encT_fields 0xB 5 pd.toNat pa.toNat 0 false false (by omega) (by omega) (by omega) (by omega) (by omega)
  revert H; generalize encodeWord (.pmov pd pa) = w; intro H
  refine ⟨H.lt, lt_eq H.f26_6 (by decide), noExt H.f26_6 (by decide) (by decide), (op_0B H.f26_6 _).trans ?_⟩
  unfold decodePred
  rw [show fld w 0 6 = 5 from H.f0_6.trans (by omega)]
  exact row_eq (and_eq (and_eq (and_eq (and_eq (z_eq H.f23_3 (by first | omega | rfl)) (z_eq H.f17_3 (by first | omega | rfl))) (z_eq H.f8_6 (by first | omega | rfl))) (z_eq H.f7_1 (by first | omega | rfl))) (z_eq H.f6_1 (by first | omega | rfl)))
    (rfl)
    (by rw [pr_eq pd H.f20_3 (by first | omega | rfl), pr_eq pa H.f14_3 (by first | omega | rfl)])

theorem pget (d : GReg) : Statement (.pget d) := by
  intro _ hwf
  have h_d := d.isLt
  have H : TFields (encodeWord (.pget d)) _ _ _ _ _ _ _ :=
    encT_fields 0xB 6 d.toNat 0 0 false false (by omega) (by omega) (by omega) (by omega) (by omega)
  revert H; generalize encodeWord (.pget d) = w; intro H
  refine ⟨H.lt, lt_eq H.f26_6 (by decide), noExt H.f26_6 (by decide) (by decide), (op_0B H.f26_6 _).trans ?_⟩
  unfold decodePred
  rw [show fld w 0 6 = 6 from H.f0_6.trans (by omega)]
  exact row_eq (and_eq (and_eq (and_eq (z_eq H.f14_6 (by first | omega | rfl)) (z_eq H.f8_6 (by first | omega | rfl))) (z_eq H.f7_1 (by first | omega | rfl))) (z_eq H.f6_1 (by first | omega | rfl)))
    (rfl)
    (by rw [gr_eq d H.f20_6 (by first | omega | rfl)])

theorem pput (a : GReg) (b : GReg) (ea : Bool) (eb : Bool) : Statement (.pput a b ea eb) := by
  intro _ hwf
  have h_a := a.isLt
  have h_b := b.isLt
  have H : TFields (encodeWord (.pput a b ea eb)) _ _ _ _ _ _ _ :=
    encT_fields 0xB 7 0 a.toNat b.toNat ea eb (by omega) (by omega) (by omega) (by omega) (by omega)
  revert H; generalize encodeWord (.pput a b ea eb) = w; intro H
  refine ⟨H.lt, lt_eq H.f26_6 (by decide), noExt H.f26_6 (by decide) (by decide), (op_0B H.f26_6 _).trans ?_⟩
  unfold decodePred
  rw [show fld w 0 6 = 7 from H.f0_6.trans (by omega)]
  exact row_eq (z_eq H.f20_6 (by first | omega | rfl))
    (rfl)
    (by rw [gr_eq a H.f14_6 (by first | omega | rfl), gr_eq b H.f8_6 (by first | omega | rfl), H.b7, H.b6])

theorem br (p : PReg) (n : Bool) (disp : BitVec 22) : Statement (.br p n disp) := by
  intro _ hwf
  have h_p := p.isLt
  have h_disp := disp.isLt
  have H : BFields (encodeWord (.br p n disp)) _ _ _ _ :=
    encB_fields 0xC p.toNat n disp.toNat (by omega) (by omega) (by omega)
  revert H; generalize encodeWord (.br p n disp) = w; intro H
  refine ⟨H.lt, lt_eq H.f26_6 (by decide), noExt H.f26_6 (by decide) (by decide), (op_0C H.f26_6 _).trans ?_⟩
  unfold decodeBr
  exact row_eq (rfl) (rfl) (by rw [ofNat_eq p H.f23_3 (by first | omega | rfl), H.b22, ofNat_eq disp H.f0_22 (by first | omega | rfl)])

theorem call (disp : BitVec 22) : Statement (.call disp) := by
  intro _ hwf
  have h_disp := disp.isLt
  have H : BFields (encodeWord (.call disp)) _ _ _ _ :=
    encB_fields 0xD 0 false disp.toNat (by omega) (by omega) (by omega)
  revert H; generalize encodeWord (.call disp) = w; intro H
  refine ⟨H.lt, lt_eq H.f26_6 (by decide), noExt H.f26_6 (by decide) (by decide), (op_0D H.f26_6 _).trans ?_⟩
  unfold decodeCall
  exact row_eq (z_eq H.f22_4 (by first | omega | rfl)) (rfl) (by rw [ofNat_eq disp H.f0_22 (by first | omega | rfl)])

theorem jr (a : GReg) (ea : Bool) : Statement (.jr a ea) := by
  intro _ hwf
  have h_a := a.isLt
  have H : TFields (encodeWord (.jr a ea)) _ _ _ _ _ _ _ :=
    encT_fields 0xE 0 0 a.toNat 0 ea false (by omega) (by omega) (by omega) (by omega) (by omega)
  revert H; generalize encodeWord (.jr a ea) = w; intro H
  refine ⟨H.lt, lt_eq H.f26_6 (by decide), noExt H.f26_6 (by decide) (by decide), (op_0E H.f26_6 _).trans ?_⟩
  unfold decodeJump
  rw [show fld w 0 6 = 0 from H.f0_6.trans (by omega)]
  exact row_eq (and_eq (and_eq (z_eq H.f20_6 (by first | omega | rfl)) (z_eq H.f8_6 (by first | omega | rfl))) (z_eq H.f6_1 (by first | omega | rfl)))
    (rfl)
    (by rw [gr_eq a H.f14_6 (by first | omega | rfl), H.b7])

theorem jalr (d : GReg) (a : GReg) (ea : Bool) : Statement (.jalr d a ea) := by
  intro _ hwf
  have h_d := d.isLt
  have h_a := a.isLt
  have H : TFields (encodeWord (.jalr d a ea)) _ _ _ _ _ _ _ :=
    encT_fields 0xE 1 d.toNat a.toNat 0 ea false (by omega) (by omega) (by omega) (by omega) (by omega)
  revert H; generalize encodeWord (.jalr d a ea) = w; intro H
  refine ⟨H.lt, lt_eq H.f26_6 (by decide), noExt H.f26_6 (by decide) (by decide), (op_0E H.f26_6 _).trans ?_⟩
  unfold decodeJump
  rw [show fld w 0 6 = 1 from H.f0_6.trans (by omega)]
  exact row_eq (and_eq (z_eq H.f8_6 (by first | omega | rfl)) (z_eq H.f6_1 (by first | omega | rfl)))
    (rfl)
    (by rw [gr_eq d H.f20_6 (by first | omega | rfl), gr_eq a H.f14_6 (by first | omega | rfl), H.b7])

theorem nop : Statement .nop := by
  intro _ hwf
  have H : TFields (encodeWord (.nop)) _ _ _ _ _ _ _ :=
    encT_fields 0xF 0 0 0 0 false false (by omega) (by omega) (by omega) (by omega) (by omega)
  revert H; generalize encodeWord (.nop) = w; intro H
  refine ⟨H.lt, lt_eq H.f26_6 (by decide), noExt H.f26_6 (by decide) (by decide), (op_0F H.f26_6 _).trans ?_⟩
  unfold decodeControl
  rw [show fld w 0 6 = 0 from H.f0_6.trans (by omega)]
  exact row_eq (and_eq (and_eq (and_eq (and_eq (z_eq H.f20_6 (by first | omega | rfl)) (z_eq H.f14_6 (by first | omega | rfl))) (z_eq H.f8_6 (by first | omega | rfl))) (z_eq H.f7_1 (by first | omega | rfl))) (z_eq H.f6_1 (by first | omega | rfl)))
    (rfl)
    (rfl)

theorem endTask : Statement .endTask := by
  intro _ hwf
  have H : TFields (encodeWord (.endTask)) _ _ _ _ _ _ _ :=
    encT_fields 0xF 1 0 0 0 false false (by omega) (by omega) (by omega) (by omega) (by omega)
  revert H; generalize encodeWord (.endTask) = w; intro H
  refine ⟨H.lt, lt_eq H.f26_6 (by decide), noExt H.f26_6 (by decide) (by decide), (op_0F H.f26_6 _).trans ?_⟩
  unfold decodeControl
  rw [show fld w 0 6 = 1 from H.f0_6.trans (by omega)]
  exact row_eq (and_eq (and_eq (and_eq (and_eq (z_eq H.f20_6 (by first | omega | rfl)) (z_eq H.f14_6 (by first | omega | rfl))) (z_eq H.f8_6 (by first | omega | rfl))) (z_eq H.f7_1 (by first | omega | rfl))) (z_eq H.f6_1 (by first | omega | rfl)))
    (rfl)
    (rfl)

theorem yield : Statement .yield := by
  intro _ hwf
  have H : TFields (encodeWord (.yield)) _ _ _ _ _ _ _ :=
    encT_fields 0xF 2 0 0 0 false false (by omega) (by omega) (by omega) (by omega) (by omega)
  revert H; generalize encodeWord (.yield) = w; intro H
  refine ⟨H.lt, lt_eq H.f26_6 (by decide), noExt H.f26_6 (by decide) (by decide), (op_0F H.f26_6 _).trans ?_⟩
  unfold decodeControl
  rw [show fld w 0 6 = 2 from H.f0_6.trans (by omega)]
  exact row_eq (and_eq (and_eq (and_eq (and_eq (z_eq H.f20_6 (by first | omega | rfl)) (z_eq H.f14_6 (by first | omega | rfl))) (z_eq H.f8_6 (by first | omega | rfl))) (z_eq H.f7_1 (by first | omega | rfl))) (z_eq H.f6_1 (by first | omega | rfl)))
    (rfl)
    (rfl)

theorem trap (code : BitVec 6) : Statement (.trap code) := by
  intro _ hwf
  have h_code := code.isLt
  have H : TFields (encodeWord (.trap code)) _ _ _ _ _ _ _ :=
    encT_fields 0xF 3 0 0 code.toNat false false (by omega) (by omega) (by omega) (by omega) (by omega)
  revert H; generalize encodeWord (.trap code) = w; intro H
  refine ⟨H.lt, lt_eq H.f26_6 (by decide), noExt H.f26_6 (by decide) (by decide), (op_0F H.f26_6 _).trans ?_⟩
  unfold decodeControl
  rw [show fld w 0 6 = 3 from H.f0_6.trans (by omega)]
  exact row_eq (and_eq (and_eq (and_eq (z_eq H.f20_6 (by first | omega | rfl)) (z_eq H.f14_6 (by first | omega | rfl))) (z_eq H.f7_1 (by first | omega | rfl))) (z_eq H.f6_1 (by first | omega | rfl)))
    (rfl)
    (by rw [ofNat_eq code H.f8_6 (by first | omega | rfl)])

theorem eret (a : GReg) (ea : Bool) : Statement (.eret a ea) := by
  intro _ hwf
  have h_a := a.isLt
  have H : TFields (encodeWord (.eret a ea)) _ _ _ _ _ _ _ :=
    encT_fields 0xF 4 0 a.toNat 0 ea false (by omega) (by omega) (by omega) (by omega) (by omega)
  revert H; generalize encodeWord (.eret a ea) = w; intro H
  refine ⟨H.lt, lt_eq H.f26_6 (by decide), noExt H.f26_6 (by decide) (by decide), (op_0F H.f26_6 _).trans ?_⟩
  unfold decodeControl
  rw [show fld w 0 6 = 4 from H.f0_6.trans (by omega)]
  exact row_eq (and_eq (and_eq (z_eq H.f20_6 (by first | omega | rfl)) (z_eq H.f8_6 (by first | omega | rfl))) (z_eq H.f6_1 (by first | omega | rfl)))
    (rfl)
    (by rw [gr_eq a H.f14_6 (by first | omega | rfl), H.b7])

theorem halt : Statement .halt := by
  intro _ hwf
  have H : TFields (encodeWord (.halt)) _ _ _ _ _ _ _ :=
    encT_fields 0xF 5 0 0 0 false false (by omega) (by omega) (by omega) (by omega) (by omega)
  revert H; generalize encodeWord (.halt) = w; intro H
  refine ⟨H.lt, lt_eq H.f26_6 (by decide), noExt H.f26_6 (by decide) (by decide), (op_0F H.f26_6 _).trans ?_⟩
  unfold decodeControl
  rw [show fld w 0 6 = 5 from H.f0_6.trans (by omega)]
  exact row_eq (and_eq (and_eq (and_eq (and_eq (z_eq H.f20_6 (by first | omega | rfl)) (z_eq H.f14_6 (by first | omega | rfl))) (z_eq H.f8_6 (by first | omega | rfl))) (z_eq H.f7_1 (by first | omega | rfl))) (z_eq H.f6_1 (by first | omega | rfl)))
    (rfl)
    (rfl)

theorem brk : Statement .brk := by
  intro _ hwf
  have H : TFields (encodeWord (.brk)) _ _ _ _ _ _ _ :=
    encT_fields 0xF 6 0 0 0 false false (by omega) (by omega) (by omega) (by omega) (by omega)
  revert H; generalize encodeWord (.brk) = w; intro H
  refine ⟨H.lt, lt_eq H.f26_6 (by decide), noExt H.f26_6 (by decide) (by decide), (op_0F H.f26_6 _).trans ?_⟩
  unfold decodeControl
  rw [show fld w 0 6 = 6 from H.f0_6.trans (by omega)]
  exact row_eq (and_eq (and_eq (and_eq (and_eq (z_eq H.f20_6 (by first | omega | rfl)) (z_eq H.f14_6 (by first | omega | rfl))) (z_eq H.f8_6 (by first | omega | rfl))) (z_eq H.f7_1 (by first | omega | rfl))) (z_eq H.f6_1 (by first | omega | rfl)))
    (rfl)
    (rfl)

theorem ldZ (d : GReg) (a : GReg) (ea : Bool) (sz : Size) (ann : Ann) (off : BitVec 7) : Statement (.ldZ d a ea sz ann off) := by
  intro _ hwf
  have h_d := d.isLt
  have h_a := a.isLt
  have h_sz := sizeCode_lt sz
  have h_ann := annCode_lt ann
  have h_off := off.isLt
  have H : MFields (encodeWord (.ldZ d a ea sz ann off)) _ _ _ _ _ _ _ :=
    encM_fields 0x10 d.toNat a.toNat ea (sizeCode sz) (annCode ann) off.toNat (by omega) (by omega) (by omega) (by omega) (by omega) (by omega)
  revert H; generalize encodeWord (.ldZ d a ea sz ann off) = w; intro H
  refine ⟨H.lt, lt_eq H.f26_6 (by decide), noExt H.f26_6 (by decide) (by decide), (op_10 H.f26_6 _).trans ?_⟩
  unfold decodeLdZ
  exact row_eq (annZ_eq ann H.f10_1 H.f7_3)
    (annOk_eq ann H.f10_1 H.f7_3)
    (by rw [gr_eq d H.f20_6 (by first | omega | rfl), gr_eq a H.f14_6 (by first | omega | rfl), H.b13, (code_eq H.f11_2 (sizeOf_code sz) : sizeOf _ = _), annOf_eq ann H.f10_1 H.f7_3, ofNat_eq off H.f0_7 (by first | omega | rfl)])

theorem ldS (d : GReg) (a : GReg) (ea : Bool) (sz : Size) (ann : Ann) (off : BitVec 7) : Statement (.ldS d a ea sz ann off) := by
  intro _ hwf
  have h_d := d.isLt
  have h_a := a.isLt
  have h_sz := sizeCode_lt sz
  have h_ann := annCode_lt ann
  have h_off := off.isLt
  have H : MFields (encodeWord (.ldS d a ea sz ann off)) _ _ _ _ _ _ _ :=
    encM_fields 0x11 d.toNat a.toNat ea (sizeCode sz) (annCode ann) off.toNat (by omega) (by omega) (by omega) (by omega) (by omega) (by omega)
  revert H; generalize encodeWord (.ldS d a ea sz ann off) = w; intro H
  refine ⟨H.lt, lt_eq H.f26_6 (by decide), noExt H.f26_6 (by decide) (by decide), (op_11 H.f26_6 _).trans ?_⟩
  unfold decodeLdS
  exact row_eq (annZ_eq ann H.f10_1 H.f7_3)
    (annOk_eq ann H.f10_1 H.f7_3)
    (by rw [gr_eq d H.f20_6 (by first | omega | rfl), gr_eq a H.f14_6 (by first | omega | rfl), H.b13, (code_eq H.f11_2 (sizeOf_code sz) : sizeOf _ = _), annOf_eq ann H.f10_1 H.f7_3, ofNat_eq off H.f0_7 (by first | omega | rfl)])

theorem st (d : GReg) (a : GReg) (ea : Bool) (sz : Size) (ann : Ann) (off : BitVec 7) : Statement (.st d a ea sz ann off) := by
  intro _ hwf
  have h_d := d.isLt
  have h_a := a.isLt
  have h_sz := sizeCode_lt sz
  have h_ann := annCode_lt ann
  have h_off := off.isLt
  have H : MFields (encodeWord (.st d a ea sz ann off)) _ _ _ _ _ _ _ :=
    encM_fields 0x12 d.toNat a.toNat ea (sizeCode sz) (annCode ann) off.toNat (by omega) (by omega) (by omega) (by omega) (by omega) (by omega)
  revert H; generalize encodeWord (.st d a ea sz ann off) = w; intro H
  refine ⟨H.lt, lt_eq H.f26_6 (by decide), noExt H.f26_6 (by decide) (by decide), (op_12 H.f26_6 _).trans ?_⟩
  unfold decodeSt
  exact row_eq (annZ_eq ann H.f10_1 H.f7_3)
    (annOk_eq ann H.f10_1 H.f7_3)
    (by rw [gr_eq d H.f20_6 (by first | omega | rfl), gr_eq a H.f14_6 (by first | omega | rfl), H.b13, (code_eq H.f11_2 (sizeOf_code sz) : sizeOf _ = _), annOf_eq ann H.f10_1 H.f7_3, ofNat_eq off H.f0_7 (by first | omega | rfl)])

theorem ldv (v : VReg) (a : GReg) (ea : Bool) (ann : Ann) (off : BitVec 10) : Statement (.ldv v a ea ann off) := by
  intro _ hwf
  have h_v := v.isLt
  have h_a := a.isLt
  have h_ann := annCode_lt ann
  have h_off := off.isLt
  have H : WFields (encodeWord (.ldv v a ea ann off)) _ _ _ _ _ _ :=
    encW_fields 0x13 v.toNat a.toNat ea (annCode ann) off.toNat (by omega) (by omega) (by omega) (by omega) (by omega)
  revert H; generalize encodeWord (.ldv v a ea ann off) = w; intro H
  refine ⟨H.lt, lt_eq H.f26_6 (by decide), noExt H.f26_6 (by decide) (by decide), (op_13 H.f26_6 _).trans ?_⟩
  unfold decodeLdv
  exact row_eq (annZ_eq ann H.f13_1 H.f10_3)
    (annOk_eq ann H.f13_1 H.f10_3)
    (by rw [vr_eq v H.f21_5 (by first | omega | rfl), gr_eq a H.f15_6 (by first | omega | rfl), H.b14, annOf_eq ann H.f13_1 H.f10_3, ofNat_eq off H.f0_10 (by first | omega | rfl)])

theorem stv (v : VReg) (a : GReg) (ea : Bool) (ann : Ann) (off : BitVec 10) : Statement (.stv v a ea ann off) := by
  intro _ hwf
  have h_v := v.isLt
  have h_a := a.isLt
  have h_ann := annCode_lt ann
  have h_off := off.isLt
  have H : WFields (encodeWord (.stv v a ea ann off)) _ _ _ _ _ _ :=
    encW_fields 0x14 v.toNat a.toNat ea (annCode ann) off.toNat (by omega) (by omega) (by omega) (by omega) (by omega)
  revert H; generalize encodeWord (.stv v a ea ann off) = w; intro H
  refine ⟨H.lt, lt_eq H.f26_6 (by decide), noExt H.f26_6 (by decide) (by decide), (op_14 H.f26_6 _).trans ?_⟩
  unfold decodeStv
  exact row_eq (annZ_eq ann H.f13_1 H.f10_3)
    (annOk_eq ann H.f13_1 H.f10_3)
    (by rw [vr_eq v H.f21_5 (by first | omega | rfl), gr_eq a H.f15_6 (by first | omega | rfl), H.b14, annOf_eq ann H.f13_1 H.f10_3, ofNat_eq off H.f0_10 (by first | omega | rfl)])

theorem ldvt (v : VReg) (a : GReg) (ea : Bool) (es : ESize) (off : BitVec 10) : Statement (.ldvt v a ea es off) := by
  intro _ hwf
  have h_v := v.isLt
  have h_a := a.isLt
  have h_es := esizeCode_lt es
  have h_off := off.isLt
  have H : WFields (encodeWord (.ldvt v a ea es off)) _ _ _ _ _ _ :=
    encW_fields 0x15 v.toNat a.toNat ea (esizeCode es * 4) off.toNat (by omega) (by omega) (by omega) (by omega) (by omega)
  revert H; generalize encodeWord (.ldvt v a ea es off) = w; intro H
  refine ⟨H.lt, lt_eq H.f26_6 (by decide), noExt H.f26_6 (by decide) (by decide), (op_15 H.f26_6 _).trans ?_⟩
  rw [decodeLdvt_some (code_eq H.f12_2 ((congrArg esizeOf (by omega)).trans (esizeOf_code es)))]
  exact row_eq (z_eq H.f10_2 (by first | omega | rfl))
    (by rw [H.f21_5]; exact hwf)
    (by rw [vr_eq v H.f21_5 (by first | omega | rfl), gr_eq a H.f15_6 (by first | omega | rfl), H.b14, ofNat_eq off H.f0_10 (by first | omega | rfl)])

theorem fence (k : FenceKind) (s : Scope) : Statement (.fence k s) := by
  intro _ hwf
  have h_k := kindCode_lt k
  have h_s := scopeCode_lt s
  have H : TFields (encodeWord (.fence k s)) _ _ _ _ _ _ _ :=
    encT_fields 0x16 0 0 0 (scopeCode s * 8 + kindCode k * 2) false false (by omega) (by omega) (by omega) (by omega) (by omega)
  revert H; generalize encodeWord (.fence k s) = w; intro H
  refine ⟨H.lt, lt_eq H.f26_6 (by decide), noExt H.f26_6 (by decide) (by decide), (op_16 H.f26_6 _).trans ?_⟩
  unfold decodeFence
  rw [show fld w 0 6 = 0 from H.f0_6.trans (by omega)]
  exact row_eq (and_eq (and_eq (and_eq (and_eq (z_eq H.f20_6 (by first | omega | rfl)) (z_eq H.f14_6 (by first | omega | rfl))) (z_eq H.f8_1 (by first | omega | rfl))) (z_eq H.f7_1 (by first | omega | rfl))) (z_eq H.f6_1 (by first | omega | rfl)))
    (by rw [(code_eq H.f9_2 ((congrArg kindOf (by omega)).trans (kindOf_code k)) : kindOf _ = _), (code_eq H.f11_3 ((congrArg scopeOf (by omega)).trans (scopeOf_code s)) : scopeOf _ = _)]; rfl)
    (by rw [(code_eq H.f9_2 ((congrArg kindOf (by omega)).trans (kindOf_code k)) : kindOf _ = _), (code_eq H.f11_3 ((congrArg scopeOf (by omega)).trans (scopeOf_code s)) : scopeOf _ = _)]; rfl)

theorem pf (a : GReg) : Statement (.pf a) := by
  intro _ hwf
  have h_a := a.isLt
  have H : TFields (encodeWord (.pf a)) _ _ _ _ _ _ _ :=
    encT_fields 0x16 1 0 a.toNat 0 false false (by omega) (by omega) (by omega) (by omega) (by omega)
  revert H; generalize encodeWord (.pf a) = w; intro H
  refine ⟨H.lt, lt_eq H.f26_6 (by decide), noExt H.f26_6 (by decide) (by decide), (op_16 H.f26_6 _).trans ?_⟩
  unfold decodeFence
  rw [show fld w 0 6 = 1 from H.f0_6.trans (by omega)]
  exact row_eq (and_eq (and_eq (and_eq (z_eq H.f20_6 (by first | omega | rfl)) (z_eq H.f8_6 (by first | omega | rfl))) (z_eq H.f7_1 (by first | omega | rfl))) (z_eq H.f6_1 (by first | omega | rfl)))
    (rfl)
    (by rw [gr_eq a H.f14_6 (by first | omega | rfl)])

theorem qbind (q : QReg) (a : GReg) (ea : Bool) : Statement (.qbind q a ea) := by
  intro _ hwf
  have h_q := q.isLt
  have h_a := a.isLt
  have H : TFields (encodeWord (.qbind q a ea)) _ _ _ _ _ _ _ :=
    encT_fields 0x16 2 q.toNat a.toNat 0 ea false (by omega) (by omega) (by omega) (by omega) (by omega)
  revert H; generalize encodeWord (.qbind q a ea) = w; intro H
  refine ⟨H.lt, lt_eq H.f26_6 (by decide), noExt H.f26_6 (by decide) (by decide), (op_16 H.f26_6 _).trans ?_⟩
  unfold decodeFence
  rw [show fld w 0 6 = 2 from H.f0_6.trans (by omega)]
  exact row_eq (and_eq (and_eq (z_eq H.f24_2 (by first | omega | rfl)) (z_eq H.f8_6 (by first | omega | rfl))) (z_eq H.f6_1 (by first | omega | rfl)))
    (rfl)
    (by rw [qr_eq q H.f20_4 (by first | omega | rfl), gr_eq a H.f14_6 (by first | omega | rfl), H.b7])

theorem qfree (q : QReg) : Statement (.qfree q) := by
  intro _ hwf
  have h_q := q.isLt
  have H : TFields (encodeWord (.qfree q)) _ _ _ _ _ _ _ :=
    encT_fields 0x16 3 0 q.toNat 0 false false (by omega) (by omega) (by omega) (by omega) (by omega)
  revert H; generalize encodeWord (.qfree q) = w; intro H
  refine ⟨H.lt, lt_eq H.f26_6 (by decide), noExt H.f26_6 (by decide) (by decide), (op_16 H.f26_6 _).trans ?_⟩
  unfold decodeFence
  rw [show fld w 0 6 = 3 from H.f0_6.trans (by omega)]
  exact row_eq (and_eq (and_eq (and_eq (and_eq (z_eq H.f20_6 (by first | omega | rfl)) (z_eq H.f18_2 (by first | omega | rfl))) (z_eq H.f8_6 (by first | omega | rfl))) (z_eq H.f7_1 (by first | omega | rfl))) (z_eq H.f6_1 (by first | omega | rfl)))
    (rfl)
    (by rw [qr_eq q H.f14_4 (by first | omega | rfl)])

theorem salloc (a : GReg) (b : GReg) (ea : Bool) (eb : Bool) : Statement (.salloc a b ea eb) := by
  intro _ hwf
  have h_a := a.isLt
  have h_b := b.isLt
  have H : TFields (encodeWord (.salloc a b ea eb)) _ _ _ _ _ _ _ :=
    encT_fields 0x16 4 0 a.toNat b.toNat ea eb (by omega) (by omega) (by omega) (by omega) (by omega)
  revert H; generalize encodeWord (.salloc a b ea eb) = w; intro H
  refine ⟨H.lt, lt_eq H.f26_6 (by decide), noExt H.f26_6 (by decide) (by decide), (op_16 H.f26_6 _).trans ?_⟩
  unfold decodeFence
  rw [show fld w 0 6 = 4 from H.f0_6.trans (by omega)]
  exact row_eq (z_eq H.f20_6 (by first | omega | rfl))
    (rfl)
    (by rw [gr_eq a H.f14_6 (by first | omega | rfl), gr_eq b H.f8_6 (by first | omega | rfl), H.b7, H.b6])

theorem qstat (d : GReg) (q : QReg) : Statement (.qstat d q) := by
  intro _ hwf
  have h_d := d.isLt
  have h_q := q.isLt
  have H : TFields (encodeWord (.qstat d q)) _ _ _ _ _ _ _ :=
    encT_fields 0x16 5 d.toNat q.toNat 0 false false (by omega) (by omega) (by omega) (by omega) (by omega)
  revert H; generalize encodeWord (.qstat d q) = w; intro H
  refine ⟨H.lt, lt_eq H.f26_6 (by decide), noExt H.f26_6 (by decide) (by decide), (op_16 H.f26_6 _).trans ?_⟩
  unfold decodeFence
  rw [show fld w 0 6 = 5 from H.f0_6.trans (by omega)]
  exact row_eq (and_eq (and_eq (and_eq (z_eq H.f18_2 (by first | omega | rfl)) (z_eq H.f8_6 (by first | omega | rfl))) (z_eq H.f7_1 (by first | omega | rfl))) (z_eq H.f6_1 (by first | omega | rfl)))
    (rfl)
    (by rw [gr_eq d H.f20_6 (by first | omega | rfl), qr_eq q H.f14_4 (by first | omega | rfl)])

theorem qget (d : GReg) (q : QReg) : Statement (.qget d q) := by
  intro _ hwf
  have h_d := d.isLt
  have h_q := q.isLt
  have H : TFields (encodeWord (.qget d q)) _ _ _ _ _ _ _ :=
    encT_fields 0x16 6 d.toNat q.toNat 0 false false (by omega) (by omega) (by omega) (by omega) (by omega)
  revert H; generalize encodeWord (.qget d q) = w; intro H
  refine ⟨H.lt, lt_eq H.f26_6 (by decide), noExt H.f26_6 (by decide) (by decide), (op_16 H.f26_6 _).trans ?_⟩
  unfold decodeFence
  rw [show fld w 0 6 = 6 from H.f0_6.trans (by omega)]
  exact row_eq (and_eq (and_eq (and_eq (z_eq H.f18_2 (by first | omega | rfl)) (z_eq H.f8_6 (by first | omega | rfl))) (z_eq H.f7_1 (by first | omega | rfl))) (z_eq H.f6_1 (by first | omega | rfl)))
    (rfl)
    (by rw [gr_eq d H.f20_6 (by first | omega | rfl), qr_eq q H.f14_4 (by first | omega | rfl)])

theorem qgetv (v : VReg) (q : QReg) : Statement (.qgetv v q) := by
  intro _ hwf
  have h_v := v.isLt
  have h_q := q.isLt
  have H : TFields (encodeWord (.qgetv v q)) _ _ _ _ _ _ _ :=
    encT_fields 0x16 7 v.toNat q.toNat 0 false false (by omega) (by omega) (by omega) (by omega) (by omega)
  revert H; generalize encodeWord (.qgetv v q) = w; intro H
  refine ⟨H.lt, lt_eq H.f26_6 (by decide), noExt H.f26_6 (by decide) (by decide), (op_16 H.f26_6 _).trans ?_⟩
  unfold decodeFence
  rw [show fld w 0 6 = 7 from H.f0_6.trans (by omega)]
  exact row_eq (and_eq (and_eq (and_eq (and_eq (z_eq H.f25_1 (by first | omega | rfl)) (z_eq H.f18_2 (by first | omega | rfl))) (z_eq H.f8_6 (by first | omega | rfl))) (z_eq H.f7_1 (by first | omega | rfl))) (z_eq H.f6_1 (by first | omega | rfl)))
    (rfl)
    (by rw [vr_eq v H.f20_5 (by first | omega | rfl), qr_eq q H.f14_4 (by first | omega | rfl)])

theorem amo32 (d : GReg) (a : GReg) (b : GReg) (op : Aop) (ann : AAnn) : Statement (.amo32 d a b op ann) := by
  intro _ hwf
  have h_d := d.isLt
  have h_a := a.isLt
  have h_b := b.isLt
  have h_op := aopCode_lt op
  have h_ann := aannCode_lt ann
  have H : AFields (encodeWord (.amo32 d a b op ann)) _ _ _ _ _ _ :=
    encA_fields 0x17 d.toNat a.toNat b.toNat (aopCode op) (aannCode ann) (by omega) (by omega) (by omega) (by omega) (by omega) (by omega)
  revert H; generalize encodeWord (.amo32 d a b op ann) = w; intro H
  refine ⟨H.lt, lt_eq H.f26_6 (by decide), noExt H.f26_6 (by decide) (by decide), (op_17 H.f26_6 _).trans ?_⟩
  unfold decodeAmo32
  exact row_eq (aannZ_eq ann H.f3_2 H.f0_3)
    (aannOk_eq ann H.f3_2 H.f0_3)
    (by rw [gr_eq d H.f20_6 (by first | omega | rfl), gr_eq a H.f14_6 (by first | omega | rfl), gr_eq b H.f8_6 (by first | omega | rfl), (code_eq H.f5_3 (aopOf_code op) : aopOf _ = _), aannOf_eq ann H.f3_2 H.f0_3])

theorem amo64 (d : GReg) (a : GReg) (b : GReg) (op : Aop) (ann : AAnn) : Statement (.amo64 d a b op ann) := by
  intro _ hwf
  have h_d := d.isLt
  have h_a := a.isLt
  have h_b := b.isLt
  have h_op := aopCode_lt op
  have h_ann := aannCode_lt ann
  have H : AFields (encodeWord (.amo64 d a b op ann)) _ _ _ _ _ _ :=
    encA_fields 0x18 d.toNat a.toNat b.toNat (aopCode op) (aannCode ann) (by omega) (by omega) (by omega) (by omega) (by omega) (by omega)
  revert H; generalize encodeWord (.amo64 d a b op ann) = w; intro H
  refine ⟨H.lt, lt_eq H.f26_6 (by decide), noExt H.f26_6 (by decide) (by decide), (op_18 H.f26_6 _).trans ?_⟩
  unfold decodeAmo64
  exact row_eq (aannZ_eq ann H.f3_2 H.f0_3)
    (aannOk_eq ann H.f3_2 H.f0_3)
    (by rw [gr_eq d H.f20_6 (by first | omega | rfl), gr_eq a H.f14_6 (by first | omega | rfl), gr_eq b H.f8_6 (by first | omega | rfl), (code_eq H.f5_3 (aopOf_code op) : aopOf _ = _), aannOf_eq ann H.f3_2 H.f0_3])

theorem faddF32 (d : GReg) (a : GReg) (b : GReg) (ea : Bool) (eb : Bool) : Statement (.faddF32 d a b ea eb) := by
  intro _ hwf
  have h_d := d.isLt
  have h_a := a.isLt
  have h_b := b.isLt
  have H : TFields (encodeWord (.faddF32 d a b ea eb)) _ _ _ _ _ _ _ :=
    encT_fields 0x19 0 d.toNat a.toNat b.toNat ea eb (by omega) (by omega) (by omega) (by omega) (by omega)
  revert H; generalize encodeWord (.faddF32 d a b ea eb) = w; intro H
  refine ⟨H.lt, lt_eq H.f26_6 (by decide), noExt H.f26_6 (by decide) (by decide), (op_19 H.f26_6 _).trans ?_⟩
  unfold decodeFadd
  rw [show fld w 0 6 = 0 from H.f0_6.trans (by omega)]
  exact row_eq (rfl)
    (rfl)
    (by rw [gr_eq d H.f20_6 (by first | omega | rfl), gr_eq a H.f14_6 (by first | omega | rfl), gr_eq b H.f8_6 (by first | omega | rfl), H.b7, H.b6])

theorem faddF16 (d : GReg) (a : GReg) (b : GReg) (ea : Bool) (eb : Bool) : Statement (.faddF16 d a b ea eb) := by
  intro _ hwf
  have h_d := d.isLt
  have h_a := a.isLt
  have h_b := b.isLt
  have H : TFields (encodeWord (.faddF16 d a b ea eb)) _ _ _ _ _ _ _ :=
    encT_fields 0x19 1 d.toNat a.toNat b.toNat ea eb (by omega) (by omega) (by omega) (by omega) (by omega)
  revert H; generalize encodeWord (.faddF16 d a b ea eb) = w; intro H
  refine ⟨H.lt, lt_eq H.f26_6 (by decide), noExt H.f26_6 (by decide) (by decide), (op_19 H.f26_6 _).trans ?_⟩
  unfold decodeFadd
  rw [show fld w 0 6 = 1 from H.f0_6.trans (by omega)]
  exact row_eq (rfl)
    (rfl)
    (by rw [gr_eq d H.f20_6 (by first | omega | rfl), gr_eq a H.f14_6 (by first | omega | rfl), gr_eq b H.f8_6 (by first | omega | rfl), H.b7, H.b6])

theorem faddF64 (d : GReg) (a : GReg) (b : GReg) (ea : Bool) (eb : Bool) : Statement (.faddF64 d a b ea eb) := by
  intro _ hwf
  have h_d := d.isLt
  have h_a := a.isLt
  have h_b := b.isLt
  have H : TFields (encodeWord (.faddF64 d a b ea eb)) _ _ _ _ _ _ _ :=
    encT_fields 0x19 2 d.toNat a.toNat b.toNat ea eb (by omega) (by omega) (by omega) (by omega) (by omega)
  revert H; generalize encodeWord (.faddF64 d a b ea eb) = w; intro H
  refine ⟨H.lt, lt_eq H.f26_6 (by decide), noExt H.f26_6 (by decide) (by decide), (op_19 H.f26_6 _).trans ?_⟩
  unfold decodeFadd
  rw [show fld w 0 6 = 2 from H.f0_6.trans (by omega)]
  exact row_eq (rfl)
    (rfl)
    (by rw [gr_eq d H.f20_6 (by first | omega | rfl), gr_eq a H.f14_6 (by first | omega | rfl), gr_eq b H.f8_6 (by first | omega | rfl), H.b7, H.b6])

theorem faddBf16 (d : GReg) (a : GReg) (b : GReg) (ea : Bool) (eb : Bool) : Statement (.faddBf16 d a b ea eb) := by
  intro _ hwf
  have h_d := d.isLt
  have h_a := a.isLt
  have h_b := b.isLt
  have H : TFields (encodeWord (.faddBf16 d a b ea eb)) _ _ _ _ _ _ _ :=
    encT_fields 0x19 3 d.toNat a.toNat b.toNat ea eb (by omega) (by omega) (by omega) (by omega) (by omega)
  revert H; generalize encodeWord (.faddBf16 d a b ea eb) = w; intro H
  refine ⟨H.lt, lt_eq H.f26_6 (by decide), noExt H.f26_6 (by decide) (by decide), (op_19 H.f26_6 _).trans ?_⟩
  unfold decodeFadd
  rw [show fld w 0 6 = 3 from H.f0_6.trans (by omega)]
  exact row_eq (rfl)
    (rfl)
    (by rw [gr_eq d H.f20_6 (by first | omega | rfl), gr_eq a H.f14_6 (by first | omega | rfl), gr_eq b H.f8_6 (by first | omega | rfl), H.b7, H.b6])

theorem decp (d : GReg) (a : GReg) (ea : Bool) : Statement (.decp d a ea) := by
  intro _ hwf
  have h_d := d.isLt
  have h_a := a.isLt
  have H : TFields (encodeWord (.decp d a ea)) _ _ _ _ _ _ _ :=
    encT_fields 0x19 4 d.toNat a.toNat 0 ea false (by omega) (by omega) (by omega) (by omega) (by omega)
  revert H; generalize encodeWord (.decp d a ea) = w; intro H
  refine ⟨H.lt, lt_eq H.f26_6 (by decide), noExt H.f26_6 (by decide) (by decide), (op_19 H.f26_6 _).trans ?_⟩
  unfold decodeFadd
  rw [show fld w 0 6 = 4 from H.f0_6.trans (by omega)]
  exact row_eq (and_eq (z_eq H.f8_6 (by first | omega | rfl)) (z_eq H.f6_1 (by first | omega | rfl)))
    (rfl)
    (by rw [gr_eq d H.f20_6 (by first | omega | rfl), gr_eq a H.f14_6 (by first | omega | rfl), H.b7])

theorem waita (t : GReg) (a : GReg) (b : GReg) (ea : Bool) (eb : Bool) : Statement (.waita t a b ea eb) := by
  intro _ hwf
  have h_t := t.isLt
  have h_a := a.isLt
  have h_b := b.isLt
  have H : TFields (encodeWord (.waita t a b ea eb)) _ _ _ _ _ _ _ :=
    encT_fields 0x1A 0 t.toNat a.toNat b.toNat ea eb (by omega) (by omega) (by omega) (by omega) (by omega)
  revert H; generalize encodeWord (.waita t a b ea eb) = w; intro H
  refine ⟨H.lt, lt_eq H.f26_6 (by decide), noExt H.f26_6 (by decide) (by decide), (op_1A H.f26_6 _).trans ?_⟩
  unfold decodeWait
  rw [show fld w 0 6 = 0 from H.f0_6.trans (by omega)]
  exact row_eq (rfl)
    (rfl)
    (by rw [gr_eq t H.f20_6 (by first | omega | rfl), gr_eq a H.f14_6 (by first | omega | rfl), gr_eq b H.f8_6 (by first | omega | rfl), H.b7, H.b6])

theorem barQuad : Statement .barQuad := by
  intro _ hwf
  have H : TFields (encodeWord (.barQuad)) _ _ _ _ _ _ _ :=
    encT_fields 0x1A 1 0 0 0 false false (by omega) (by omega) (by omega) (by omega) (by omega)
  revert H; generalize encodeWord (.barQuad) = w; intro H
  refine ⟨H.lt, lt_eq H.f26_6 (by decide), noExt H.f26_6 (by decide) (by decide), (op_1A H.f26_6 _).trans ?_⟩
  unfold decodeWait
  rw [show fld w 0 6 = 1 from H.f0_6.trans (by omega)]
  exact row_eq (and_eq (and_eq (and_eq (and_eq (z_eq H.f20_6 (by first | omega | rfl)) (z_eq H.f14_6 (by first | omega | rfl))) (z_eq H.f8_6 (by first | omega | rfl))) (z_eq H.f7_1 (by first | omega | rfl))) (z_eq H.f6_1 (by first | omega | rfl)))
    (rfl)
    (rfl)

theorem barClus : Statement .barClus := by
  intro _ hwf
  have H : TFields (encodeWord (.barClus)) _ _ _ _ _ _ _ :=
    encT_fields 0x1A 2 0 0 0 false false (by omega) (by omega) (by omega) (by omega) (by omega)
  revert H; generalize encodeWord (.barClus) = w; intro H
  refine ⟨H.lt, lt_eq H.f26_6 (by decide), noExt H.f26_6 (by decide) (by decide), (op_1A H.f26_6 _).trans ?_⟩
  unfold decodeWait
  rw [show fld w 0 6 = 2 from H.f0_6.trans (by omega)]
  exact row_eq (and_eq (and_eq (and_eq (and_eq (z_eq H.f20_6 (by first | omega | rfl)) (z_eq H.f14_6 (by first | omega | rfl))) (z_eq H.f8_6 (by first | omega | rfl))) (z_eq H.f7_1 (by first | omega | rfl))) (z_eq H.f6_1 (by first | omega | rfl)))
    (rfl)
    (rfl)

theorem barDie : Statement .barDie := by
  intro _ hwf
  have H : TFields (encodeWord (.barDie)) _ _ _ _ _ _ _ :=
    encT_fields 0x1A 3 0 0 0 false false (by omega) (by omega) (by omega) (by omega) (by omega)
  revert H; generalize encodeWord (.barDie) = w; intro H
  refine ⟨H.lt, lt_eq H.f26_6 (by decide), noExt H.f26_6 (by decide) (by decide), (op_1A H.f26_6 _).trans ?_⟩
  unfold decodeWait
  rw [show fld w 0 6 = 3 from H.f0_6.trans (by omega)]
  exact row_eq (and_eq (and_eq (and_eq (and_eq (z_eq H.f20_6 (by first | omega | rfl)) (z_eq H.f14_6 (by first | omega | rfl))) (z_eq H.f8_6 (by first | omega | rfl))) (z_eq H.f7_1 (by first | omega | rfl))) (z_eq H.f6_1 (by first | omega | rfl)))
    (rfl)
    (rfl)

theorem barMod : Statement .barMod := by
  intro _ hwf
  have H : TFields (encodeWord (.barMod)) _ _ _ _ _ _ _ :=
    encT_fields 0x1A 4 0 0 0 false false (by omega) (by omega) (by omega) (by omega) (by omega)
  revert H; generalize encodeWord (.barMod) = w; intro H
  refine ⟨H.lt, lt_eq H.f26_6 (by decide), noExt H.f26_6 (by decide) (by decide), (op_1A H.f26_6 _).trans ?_⟩
  unfold decodeWait
  rw [show fld w 0 6 = 4 from H.f0_6.trans (by omega)]
  exact row_eq (and_eq (and_eq (and_eq (and_eq (z_eq H.f20_6 (by first | omega | rfl)) (z_eq H.f14_6 (by first | omega | rfl))) (z_eq H.f8_6 (by first | omega | rfl))) (z_eq H.f7_1 (by first | omega | rfl))) (z_eq H.f6_1 (by first | omega | rfl)))
    (rfl)
    (rfl)

theorem barPod : Statement .barPod := by
  intro _ hwf
  have H : TFields (encodeWord (.barPod)) _ _ _ _ _ _ _ :=
    encT_fields 0x1A 5 0 0 0 false false (by omega) (by omega) (by omega) (by omega) (by omega)
  revert H; generalize encodeWord (.barPod) = w; intro H
  refine ⟨H.lt, lt_eq H.f26_6 (by decide), noExt H.f26_6 (by decide) (by decide), (op_1A H.f26_6 _).trans ?_⟩
  unfold decodeWait
  rw [show fld w 0 6 = 5 from H.f0_6.trans (by omega)]
  exact row_eq (and_eq (and_eq (and_eq (and_eq (z_eq H.f20_6 (by first | omega | rfl)) (z_eq H.f14_6 (by first | omega | rfl))) (z_eq H.f8_6 (by first | omega | rfl))) (z_eq H.f7_1 (by first | omega | rfl))) (z_eq H.f6_1 (by first | omega | rfl)))
    (rfl)
    (rfl)

theorem boinit (a : GReg) (b : GReg) (ea : Bool) (eb : Bool) : Statement (.boinit a b ea eb) := by
  intro _ hwf
  have h_a := a.isLt
  have h_b := b.isLt
  have H : TFields (encodeWord (.boinit a b ea eb)) _ _ _ _ _ _ _ :=
    encT_fields 0x1A 6 0 a.toNat b.toNat ea eb (by omega) (by omega) (by omega) (by omega) (by omega)
  revert H; generalize encodeWord (.boinit a b ea eb) = w; intro H
  refine ⟨H.lt, lt_eq H.f26_6 (by decide), noExt H.f26_6 (by decide) (by decide), (op_1A H.f26_6 _).trans ?_⟩
  unfold decodeWait
  rw [show fld w 0 6 = 6 from H.f0_6.trans (by omega)]
  exact row_eq (z_eq H.f20_6 (by first | omega | rfl))
    (rfl)
    (by rw [gr_eq a H.f14_6 (by first | omega | rfl), gr_eq b H.f8_6 (by first | omega | rfl), H.b7, H.b6])

theorem boarr (a : GReg) (b : GReg) (ea : Bool) (eb : Bool) : Statement (.boarr a b ea eb) := by
  intro _ hwf
  have h_a := a.isLt
  have h_b := b.isLt
  have H : TFields (encodeWord (.boarr a b ea eb)) _ _ _ _ _ _ _ :=
    encT_fields 0x1A 7 0 a.toNat b.toNat ea eb (by omega) (by omega) (by omega) (by omega) (by omega)
  revert H; generalize encodeWord (.boarr a b ea eb) = w; intro H
  refine ⟨H.lt, lt_eq H.f26_6 (by decide), noExt H.f26_6 (by decide) (by decide), (op_1A H.f26_6 _).trans ?_⟩
  unfold decodeWait
  rw [show fld w 0 6 = 7 from H.f0_6.trans (by omega)]
  exact row_eq (z_eq H.f20_6 (by first | omega | rfl))
    (rfl)
    (by rw [gr_eq a H.f14_6 (by first | omega | rfl), gr_eq b H.f8_6 (by first | omega | rfl), H.b7, H.b6])

theorem bowait (a : GReg) (b : GReg) (ea : Bool) (eb : Bool) : Statement (.bowait a b ea eb) := by
  intro _ hwf
  have h_a := a.isLt
  have h_b := b.isLt
  have H : TFields (encodeWord (.bowait a b ea eb)) _ _ _ _ _ _ _ :=
    encT_fields 0x1A 8 0 a.toNat b.toNat ea eb (by omega) (by omega) (by omega) (by omega) (by omega)
  revert H; generalize encodeWord (.bowait a b ea eb) = w; intro H
  refine ⟨H.lt, lt_eq H.f26_6 (by decide), noExt H.f26_6 (by decide) (by decide), (op_1A H.f26_6 _).trans ?_⟩
  unfold decodeWait
  rw [show fld w 0 6 = 8 from H.f0_6.trans (by omega)]
  exact row_eq (z_eq H.f20_6 (by first | omega | rfl))
    (rfl)
    (by rw [gr_eq a H.f14_6 (by first | omega | rfl), gr_eq b H.f8_6 (by first | omega | rfl), H.b7, H.b6])

theorem fork (d : GReg) (a : GReg) (b : GReg) (ea : Bool) (eb : Bool) : Statement (.fork d a b ea eb) := by
  intro _ hwf
  have h_d := d.isLt
  have h_a := a.isLt
  have h_b := b.isLt
  have H : TFields (encodeWord (.fork d a b ea eb)) _ _ _ _ _ _ _ :=
    encT_fields 0x1B 0 d.toNat a.toNat b.toNat ea eb (by omega) (by omega) (by omega) (by omega) (by omega)
  revert H; generalize encodeWord (.fork d a b ea eb) = w; intro H
  refine ⟨H.lt, lt_eq H.f26_6 (by decide), noExt H.f26_6 (by decide) (by decide), (op_1B H.f26_6 _).trans ?_⟩
  unfold decodeTask
  rw [show fld w 0 6 = 0 from H.f0_6.trans (by omega)]
  exact row_eq (rfl)
    (rfl)
    (by rw [gr_eq d H.f20_6 (by first | omega | rfl), gr_eq a H.f14_6 (by first | omega | rfl), gr_eq b H.f8_6 (by first | omega | rfl), H.b7, H.b6])

theorem join (a : GReg) (ea : Bool) : Statement (.join a ea) := by
  intro _ hwf
  have h_a := a.isLt
  have H : TFields (encodeWord (.join a ea)) _ _ _ _ _ _ _ :=
    encT_fields 0x1B 1 0 a.toNat 0 ea false (by omega) (by omega) (by omega) (by omega) (by omega)
  revert H; generalize encodeWord (.join a ea) = w; intro H
  refine ⟨H.lt, lt_eq H.f26_6 (by decide), noExt H.f26_6 (by decide) (by decide), (op_1B H.f26_6 _).trans ?_⟩
  unfold decodeTask
  rw [show fld w 0 6 = 1 from H.f0_6.trans (by omega)]
  exact row_eq (and_eq (and_eq (z_eq H.f20_6 (by first | omega | rfl)) (z_eq H.f8_6 (by first | omega | rfl))) (z_eq H.f6_1 (by first | omega | rfl)))
    (rfl)
    (by rw [gr_eq a H.f14_6 (by first | omega | rfl), H.b7])

theorem rfork (a : GReg) (b : GReg) (ea : Bool) (eb : Bool) : Statement (.rfork a b ea eb) := by
  intro _ hwf
  have h_a := a.isLt
  have h_b := b.isLt
  have H : TFields (encodeWord (.rfork a b ea eb)) _ _ _ _ _ _ _ :=
    encT_fields 0x1B 2 0 a.toNat b.toNat ea eb (by omega) (by omega) (by omega) (by omega) (by omega)
  revert H; generalize encodeWord (.rfork a b ea eb) = w; intro H
  refine ⟨H.lt, lt_eq H.f26_6 (by decide), noExt H.f26_6 (by decide) (by decide), (op_1B H.f26_6 _).trans ?_⟩
  unfold decodeTask
  rw [show fld w 0 6 = 2 from H.f0_6.trans (by omega)]
  exact row_eq (z_eq H.f20_6 (by first | omega | rfl))
    (rfl)
    (by rw [gr_eq a H.f14_6 (by first | omega | rfl), gr_eq b H.f8_6 (by first | omega | rfl), H.b7, H.b6])

theorem post (a : GReg) (b : GReg) (ea : Bool) (eb : Bool) : Statement (.post a b ea eb) := by
  intro _ hwf
  have h_a := a.isLt
  have h_b := b.isLt
  have H : TFields (encodeWord (.post a b ea eb)) _ _ _ _ _ _ _ :=
    encT_fields 0x1B 3 0 a.toNat b.toNat ea eb (by omega) (by omega) (by omega) (by omega) (by omega)
  revert H; generalize encodeWord (.post a b ea eb) = w; intro H
  refine ⟨H.lt, lt_eq H.f26_6 (by decide), noExt H.f26_6 (by decide) (by decide), (op_1B H.f26_6 _).trans ?_⟩
  unfold decodeTask
  rw [show fld w 0 6 = 3 from H.f0_6.trans (by omega)]
  exact row_eq (z_eq H.f20_6 (by first | omega | rfl))
    (rfl)
    (by rw [gr_eq a H.f14_6 (by first | omega | rfl), gr_eq b H.f8_6 (by first | omega | rfl), H.b7, H.b6])

theorem cdinit (a : GReg) (b : GReg) (ea : Bool) (eb : Bool) : Statement (.cdinit a b ea eb) := by
  intro _ hwf
  have h_a := a.isLt
  have h_b := b.isLt
  have H : TFields (encodeWord (.cdinit a b ea eb)) _ _ _ _ _ _ _ :=
    encT_fields 0x1B 4 0 a.toNat b.toNat ea eb (by omega) (by omega) (by omega) (by omega) (by omega)
  revert H; generalize encodeWord (.cdinit a b ea eb) = w; intro H
  refine ⟨H.lt, lt_eq H.f26_6 (by decide), noExt H.f26_6 (by decide) (by decide), (op_1B H.f26_6 _).trans ?_⟩
  unfold decodeTask
  rw [show fld w 0 6 = 4 from H.f0_6.trans (by omega)]
  exact row_eq (z_eq H.f20_6 (by first | omega | rfl))
    (rfl)
    (by rw [gr_eq a H.f14_6 (by first | omega | rfl), gr_eq b H.f8_6 (by first | omega | rfl), H.b7, H.b6])

theorem grow (d : GReg) (a : GReg) (ea : Bool) : Statement (.grow d a ea) := by
  intro _ hwf
  have h_d := d.isLt
  have h_a := a.isLt
  have H : TFields (encodeWord (.grow d a ea)) _ _ _ _ _ _ _ :=
    encT_fields 0x1B 5 d.toNat a.toNat 0 ea false (by omega) (by omega) (by omega) (by omega) (by omega)
  revert H; generalize encodeWord (.grow d a ea) = w; intro H
  refine ⟨H.lt, lt_eq H.f26_6 (by decide), noExt H.f26_6 (by decide) (by decide), (op_1B H.f26_6 _).trans ?_⟩
  unfold decodeTask
  rw [show fld w 0 6 = 5 from H.f0_6.trans (by omega)]
  exact row_eq (and_eq (z_eq H.f8_6 (by first | omega | rfl)) (z_eq H.f6_1 (by first | omega | rfl)))
    (rfl)
    (by rw [gr_eq d H.f20_6 (by first | omega | rfl), gr_eq a H.f14_6 (by first | omega | rfl), H.b7])

theorem shrink (d : GReg) (a : GReg) (ea : Bool) : Statement (.shrink d a ea) := by
  intro _ hwf
  have h_d := d.isLt
  have h_a := a.isLt
  have H : TFields (encodeWord (.shrink d a ea)) _ _ _ _ _ _ _ :=
    encT_fields 0x1B 6 d.toNat a.toNat 0 ea false (by omega) (by omega) (by omega) (by omega) (by omega)
  revert H; generalize encodeWord (.shrink d a ea) = w; intro H
  refine ⟨H.lt, lt_eq H.f26_6 (by decide), noExt H.f26_6 (by decide) (by decide), (op_1B H.f26_6 _).trans ?_⟩
  unfold decodeTask
  rw [show fld w 0 6 = 6 from H.f0_6.trans (by omega)]
  exact row_eq (and_eq (z_eq H.f8_6 (by first | omega | rfl)) (z_eq H.f6_1 (by first | omega | rfl)))
    (rfl)
    (by rw [gr_eq d H.f20_6 (by first | omega | rfl), gr_eq a H.f14_6 (by first | omega | rfl), H.b7])

theorem stgpush (d : GReg) (a : GReg) (b : GReg) (ea : Bool) (eb : Bool) : Statement (.stgpush d a b ea eb) := by
  intro _ hwf
  have h_d := d.isLt
  have h_a := a.isLt
  have h_b := b.isLt
  have H : TFields (encodeWord (.stgpush d a b ea eb)) _ _ _ _ _ _ _ :=
    encT_fields 0x1B 7 d.toNat a.toNat b.toNat ea eb (by omega) (by omega) (by omega) (by omega) (by omega)
  revert H; generalize encodeWord (.stgpush d a b ea eb) = w; intro H
  refine ⟨H.lt, lt_eq H.f26_6 (by decide), noExt H.f26_6 (by decide) (by decide), (op_1B H.f26_6 _).trans ?_⟩
  unfold decodeTask
  rw [show fld w 0 6 = 7 from H.f0_6.trans (by omega)]
  exact row_eq (rfl)
    (rfl)
    (by rw [gr_eq d H.f20_6 (by first | omega | rfl), gr_eq a H.f14_6 (by first | omega | rfl), gr_eq b H.f8_6 (by first | omega | rfl), H.b7, H.b6])

theorem stgsub (a : GReg) (ea : Bool) : Statement (.stgsub a ea) := by
  intro _ hwf
  have h_a := a.isLt
  have H : TFields (encodeWord (.stgsub a ea)) _ _ _ _ _ _ _ :=
    encT_fields 0x1B 8 0 a.toNat 0 ea false (by omega) (by omega) (by omega) (by omega) (by omega)
  revert H; generalize encodeWord (.stgsub a ea) = w; intro H
  refine ⟨H.lt, lt_eq H.f26_6 (by decide), noExt H.f26_6 (by decide) (by decide), (op_1B H.f26_6 _).trans ?_⟩
  unfold decodeTask
  rw [show fld w 0 6 = 8 from H.f0_6.trans (by omega)]
  exact row_eq (and_eq (and_eq (z_eq H.f20_6 (by first | omega | rfl)) (z_eq H.f8_6 (by first | omega | rfl))) (z_eq H.f6_1 (by first | omega | rfl)))
    (rfl)
    (by rw [gr_eq a H.f14_6 (by first | omega | rfl), H.b7])

theorem park (a : GReg) (ea : Bool) : Statement (.park a ea) := by
  intro _ hwf
  have h_a := a.isLt
  have H : TFields (encodeWord (.park a ea)) _ _ _ _ _ _ _ :=
    encT_fields 0x1B 9 0 a.toNat 0 ea false (by omega) (by omega) (by omega) (by omega) (by omega)
  revert H; generalize encodeWord (.park a ea) = w; intro H
  refine ⟨H.lt, lt_eq H.f26_6 (by decide), noExt H.f26_6 (by decide) (by decide), (op_1B H.f26_6 _).trans ?_⟩
  unfold decodeTask
  rw [show fld w 0 6 = 9 from H.f0_6.trans (by omega)]
  exact row_eq (and_eq (and_eq (z_eq H.f20_6 (by first | omega | rfl)) (z_eq H.f8_6 (by first | omega | rfl))) (z_eq H.f6_1 (by first | omega | rfl)))
    (rfl)
    (by rw [gr_eq a H.f14_6 (by first | omega | rfl), H.b7])

theorem send (cls : BitVec 6) (a : GReg) (b : GReg) (ea : Bool) (eb : Bool) : Statement (.send cls a b ea eb) := by
  intro _ hwf
  have h_cls := cls.isLt
  have h_a := a.isLt
  have h_b := b.isLt
  have H : TFields (encodeWord (.send cls a b ea eb)) _ _ _ _ _ _ _ :=
    encT_fields 0x1C 0 cls.toNat a.toNat b.toNat ea eb (by omega) (by omega) (by omega) (by omega) (by omega)
  revert H; generalize encodeWord (.send cls a b ea eb) = w; intro H
  refine ⟨H.lt, lt_eq H.f26_6 (by decide), noExt H.f26_6 (by decide) (by decide), (op_1C H.f26_6 _).trans ?_⟩
  unfold decodeMessage
  rw [show fld w 0 6 = 0 from H.f0_6.trans (by omega)]
  exact row_eq (rfl)
    (rfl)
    (by rw [ofNat_eq cls H.f20_6 (by first | omega | rfl), gr_eq a H.f14_6 (by first | omega | rfl), gr_eq b H.f8_6 (by first | omega | rfl), H.b7, H.b6])

theorem cmask (a : GReg) (ea : Bool) : Statement (.cmask a ea) := by
  intro _ hwf
  have h_a := a.isLt
  have H : TFields (encodeWord (.cmask a ea)) _ _ _ _ _ _ _ :=
    encT_fields 0x1C 1 0 a.toNat 0 ea false (by omega) (by omega) (by omega) (by omega) (by omega)
  revert H; generalize encodeWord (.cmask a ea) = w; intro H
  refine ⟨H.lt, lt_eq H.f26_6 (by decide), noExt H.f26_6 (by decide) (by decide), (op_1C H.f26_6 _).trans ?_⟩
  unfold decodeMessage
  rw [show fld w 0 6 = 1 from H.f0_6.trans (by omega)]
  exact row_eq (and_eq (and_eq (z_eq H.f20_6 (by first | omega | rfl)) (z_eq H.f8_6 (by first | omega | rfl))) (z_eq H.f6_1 (by first | omega | rfl)))
    (rfl)
    (by rw [gr_eq a H.f14_6 (by first | omega | rfl), H.b7])

theorem cunmask (a : GReg) (ea : Bool) : Statement (.cunmask a ea) := by
  intro _ hwf
  have h_a := a.isLt
  have H : TFields (encodeWord (.cunmask a ea)) _ _ _ _ _ _ _ :=
    encT_fields 0x1C 2 0 a.toNat 0 ea false (by omega) (by omega) (by omega) (by omega) (by omega)
  revert H; generalize encodeWord (.cunmask a ea) = w; intro H
  refine ⟨H.lt, lt_eq H.f26_6 (by decide), noExt H.f26_6 (by decide) (by decide), (op_1C H.f26_6 _).trans ?_⟩
  unfold decodeMessage
  rw [show fld w 0 6 = 2 from H.f0_6.trans (by omega)]
  exact row_eq (and_eq (and_eq (z_eq H.f20_6 (by first | omega | rfl)) (z_eq H.f8_6 (by first | omega | rfl))) (z_eq H.f6_1 (by first | omega | rfl)))
    (rfl)
    (by rw [gr_eq a H.f14_6 (by first | omega | rfl), H.b7])

theorem cpend (d : GReg) (a : GReg) (ea : Bool) : Statement (.cpend d a ea) := by
  intro _ hwf
  have h_d := d.isLt
  have h_a := a.isLt
  have H : TFields (encodeWord (.cpend d a ea)) _ _ _ _ _ _ _ :=
    encT_fields 0x1C 3 d.toNat a.toNat 0 ea false (by omega) (by omega) (by omega) (by omega) (by omega)
  revert H; generalize encodeWord (.cpend d a ea) = w; intro H
  refine ⟨H.lt, lt_eq H.f26_6 (by decide), noExt H.f26_6 (by decide) (by decide), (op_1C H.f26_6 _).trans ?_⟩
  unfold decodeMessage
  rw [show fld w 0 6 = 3 from H.f0_6.trans (by omega)]
  exact row_eq (and_eq (z_eq H.f8_6 (by first | omega | rfl)) (z_eq H.f6_1 (by first | omega | rfl)))
    (rfl)
    (by rw [gr_eq d H.f20_6 (by first | omega | rfl), gr_eq a H.f14_6 (by first | omega | rfl), H.b7])

theorem swapx (a : GReg) (b : GReg) (ea : Bool) (eb : Bool) : Statement (.swapx a b ea eb) := by
  intro _ hwf
  have h_a := a.isLt
  have h_b := b.isLt
  have H : TFields (encodeWord (.swapx a b ea eb)) _ _ _ _ _ _ _ :=
    encT_fields 0x1C 4 0 a.toNat b.toNat ea eb (by omega) (by omega) (by omega) (by omega) (by omega)
  revert H; generalize encodeWord (.swapx a b ea eb) = w; intro H
  refine ⟨H.lt, lt_eq H.f26_6 (by decide), noExt H.f26_6 (by decide) (by decide), (op_1C H.f26_6 _).trans ?_⟩
  unfold decodeMessage
  rw [show fld w 0 6 = 4 from H.f0_6.trans (by omega)]
  exact row_eq (z_eq H.f20_6 (by first | omega | rfl))
    (rfl)
    (by rw [gr_eq a H.f14_6 (by first | omega | rfl), gr_eq b H.f8_6 (by first | omega | rfl), H.b7, H.b6])

theorem sendr (cls : BitVec 6) (a : GReg) (b : GReg) (ea : Bool) (eb : Bool) (route : IWord) : Statement (.sendr cls a b ea eb route) := by
  intro _ hwf
  have h_cls := cls.isLt
  have h_a := a.isLt
  have h_b := b.isLt
  have h_route := route.isLt
  have H : TFields (encodeWord (.sendr cls a b ea eb route)) _ _ _ _ _ _ _ :=
    encT_fields 0x1D 0 cls.toNat a.toNat b.toNat ea eb (by omega) (by omega) (by omega) (by omega) (by omega)
  revert H; generalize encodeWord (.sendr cls a b ea eb route) = w; intro H
  refine ⟨H.lt, lt_eq H.f26_6 (by decide), ext_1D H.f26_6 H.f0_6, (op_1D H.f26_6 _).trans ?_⟩
  unfold decodeSendr
  rw [show fld w 0 6 = 0 from H.f0_6.trans (by omega)]
  exact row_eq (rfl)
    (rfl)
    (by rw [ofNat_eq cls H.f20_6 (by first | omega | rfl), gr_eq a H.f14_6 (by first | omega | rfl), gr_eq b H.f8_6 (by first | omega | rfl), H.b7, H.b6]; rfl)

theorem vadd (d : VReg) (a : VReg) (b : VReg) (ty : Ty) : Statement (.vadd d a b ty) := by
  intro _ hwf
  have h_d := d.isLt
  have h_a := a.isLt
  have h_b := b.isLt
  have h_ty := tyCode_lt ty
  have H : VFields (encodeWord (.vadd d a b ty)) _ _ _ _ _ _ :=
    encV_fields 0x20 0 d.toNat a.toNat b.toNat (tyCode ty) (by omega) (by omega) (by omega) (by omega) (by omega) (by omega)
  revert H; generalize encodeWord (.vadd d a b ty) = w; intro H
  refine ⟨H.lt, lt_eq H.f26_6 (by decide), noExt H.f26_6 (by decide) (by decide), (op_20 H.f26_6 _).trans ?_⟩
  unfold decodeVArith
  rw [show fld w 0 7 = 0 from H.f0_7.trans (by omega)]
  exact row_eq (rfl)
    (tyIn_eq ty H.f7_4 rfl hwf)
    (by rw [vr_eq d H.f21_5 (by first | omega | rfl), vr_eq a H.f16_5 (by first | omega | rfl), vr_eq b H.f11_5 (by first | omega | rfl), tyD_eq ty H.f7_4 (by first | omega | rfl)])

theorem vsub (d : VReg) (a : VReg) (b : VReg) (ty : Ty) : Statement (.vsub d a b ty) := by
  intro _ hwf
  have h_d := d.isLt
  have h_a := a.isLt
  have h_b := b.isLt
  have h_ty := tyCode_lt ty
  have H : VFields (encodeWord (.vsub d a b ty)) _ _ _ _ _ _ :=
    encV_fields 0x20 1 d.toNat a.toNat b.toNat (tyCode ty) (by omega) (by omega) (by omega) (by omega) (by omega) (by omega)
  revert H; generalize encodeWord (.vsub d a b ty) = w; intro H
  refine ⟨H.lt, lt_eq H.f26_6 (by decide), noExt H.f26_6 (by decide) (by decide), (op_20 H.f26_6 _).trans ?_⟩
  unfold decodeVArith
  rw [show fld w 0 7 = 1 from H.f0_7.trans (by omega)]
  exact row_eq (rfl)
    (tyIn_eq ty H.f7_4 rfl hwf)
    (by rw [vr_eq d H.f21_5 (by first | omega | rfl), vr_eq a H.f16_5 (by first | omega | rfl), vr_eq b H.f11_5 (by first | omega | rfl), tyD_eq ty H.f7_4 (by first | omega | rfl)])

theorem vmul (d : VReg) (a : VReg) (b : VReg) (ty : Ty) : Statement (.vmul d a b ty) := by
  intro _ hwf
  have h_d := d.isLt
  have h_a := a.isLt
  have h_b := b.isLt
  have h_ty := tyCode_lt ty
  have H : VFields (encodeWord (.vmul d a b ty)) _ _ _ _ _ _ :=
    encV_fields 0x20 2 d.toNat a.toNat b.toNat (tyCode ty) (by omega) (by omega) (by omega) (by omega) (by omega) (by omega)
  revert H; generalize encodeWord (.vmul d a b ty) = w; intro H
  refine ⟨H.lt, lt_eq H.f26_6 (by decide), noExt H.f26_6 (by decide) (by decide), (op_20 H.f26_6 _).trans ?_⟩
  unfold decodeVArith
  rw [show fld w 0 7 = 2 from H.f0_7.trans (by omega)]
  exact row_eq (rfl)
    (tyIn_eq ty H.f7_4 rfl hwf)
    (by rw [vr_eq d H.f21_5 (by first | omega | rfl), vr_eq a H.f16_5 (by first | omega | rfl), vr_eq b H.f11_5 (by first | omega | rfl), tyD_eq ty H.f7_4 (by first | omega | rfl)])

theorem vmin (d : VReg) (a : VReg) (b : VReg) (ty : Ty) : Statement (.vmin d a b ty) := by
  intro _ hwf
  have h_d := d.isLt
  have h_a := a.isLt
  have h_b := b.isLt
  have h_ty := tyCode_lt ty
  have H : VFields (encodeWord (.vmin d a b ty)) _ _ _ _ _ _ :=
    encV_fields 0x20 3 d.toNat a.toNat b.toNat (tyCode ty) (by omega) (by omega) (by omega) (by omega) (by omega) (by omega)
  revert H; generalize encodeWord (.vmin d a b ty) = w; intro H
  refine ⟨H.lt, lt_eq H.f26_6 (by decide), noExt H.f26_6 (by decide) (by decide), (op_20 H.f26_6 _).trans ?_⟩
  unfold decodeVArith
  rw [show fld w 0 7 = 3 from H.f0_7.trans (by omega)]
  exact row_eq (rfl)
    (tyIn_eq ty H.f7_4 rfl hwf)
    (by rw [vr_eq d H.f21_5 (by first | omega | rfl), vr_eq a H.f16_5 (by first | omega | rfl), vr_eq b H.f11_5 (by first | omega | rfl), tyD_eq ty H.f7_4 (by first | omega | rfl)])

theorem vmax (d : VReg) (a : VReg) (b : VReg) (ty : Ty) : Statement (.vmax d a b ty) := by
  intro _ hwf
  have h_d := d.isLt
  have h_a := a.isLt
  have h_b := b.isLt
  have h_ty := tyCode_lt ty
  have H : VFields (encodeWord (.vmax d a b ty)) _ _ _ _ _ _ :=
    encV_fields 0x20 4 d.toNat a.toNat b.toNat (tyCode ty) (by omega) (by omega) (by omega) (by omega) (by omega) (by omega)
  revert H; generalize encodeWord (.vmax d a b ty) = w; intro H
  refine ⟨H.lt, lt_eq H.f26_6 (by decide), noExt H.f26_6 (by decide) (by decide), (op_20 H.f26_6 _).trans ?_⟩
  unfold decodeVArith
  rw [show fld w 0 7 = 4 from H.f0_7.trans (by omega)]
  exact row_eq (rfl)
    (tyIn_eq ty H.f7_4 rfl hwf)
    (by rw [vr_eq d H.f21_5 (by first | omega | rfl), vr_eq a H.f16_5 (by first | omega | rfl), vr_eq b H.f11_5 (by first | omega | rfl), tyD_eq ty H.f7_4 (by first | omega | rfl)])

theorem vand (d : VReg) (a : VReg) (b : VReg) : Statement (.vand d a b) := by
  intro _ hwf
  have h_d := d.isLt
  have h_a := a.isLt
  have h_b := b.isLt
  have H : VFields (encodeWord (.vand d a b)) _ _ _ _ _ _ :=
    encV_fields 0x20 5 d.toNat a.toNat b.toNat 0 (by omega) (by omega) (by omega) (by omega) (by omega) (by omega)
  revert H; generalize encodeWord (.vand d a b) = w; intro H
  refine ⟨H.lt, lt_eq H.f26_6 (by decide), noExt H.f26_6 (by decide) (by decide), (op_20 H.f26_6 _).trans ?_⟩
  unfold decodeVArith
  rw [show fld w 0 7 = 5 from H.f0_7.trans (by omega)]
  exact row_eq (z_eq H.f7_4 (by first | omega | rfl))
    (rfl)
    (by rw [vr_eq d H.f21_5 (by first | omega | rfl), vr_eq a H.f16_5 (by first | omega | rfl), vr_eq b H.f11_5 (by first | omega | rfl)])

theorem vor (d : VReg) (a : VReg) (b : VReg) : Statement (.vor d a b) := by
  intro _ hwf
  have h_d := d.isLt
  have h_a := a.isLt
  have h_b := b.isLt
  have H : VFields (encodeWord (.vor d a b)) _ _ _ _ _ _ :=
    encV_fields 0x20 6 d.toNat a.toNat b.toNat 0 (by omega) (by omega) (by omega) (by omega) (by omega) (by omega)
  revert H; generalize encodeWord (.vor d a b) = w; intro H
  refine ⟨H.lt, lt_eq H.f26_6 (by decide), noExt H.f26_6 (by decide) (by decide), (op_20 H.f26_6 _).trans ?_⟩
  unfold decodeVArith
  rw [show fld w 0 7 = 6 from H.f0_7.trans (by omega)]
  exact row_eq (z_eq H.f7_4 (by first | omega | rfl))
    (rfl)
    (by rw [vr_eq d H.f21_5 (by first | omega | rfl), vr_eq a H.f16_5 (by first | omega | rfl), vr_eq b H.f11_5 (by first | omega | rfl)])

theorem vxor (d : VReg) (a : VReg) (b : VReg) : Statement (.vxor d a b) := by
  intro _ hwf
  have h_d := d.isLt
  have h_a := a.isLt
  have h_b := b.isLt
  have H : VFields (encodeWord (.vxor d a b)) _ _ _ _ _ _ :=
    encV_fields 0x20 7 d.toNat a.toNat b.toNat 0 (by omega) (by omega) (by omega) (by omega) (by omega) (by omega)
  revert H; generalize encodeWord (.vxor d a b) = w; intro H
  refine ⟨H.lt, lt_eq H.f26_6 (by decide), noExt H.f26_6 (by decide) (by decide), (op_20 H.f26_6 _).trans ?_⟩
  unfold decodeVArith
  rw [show fld w 0 7 = 7 from H.f0_7.trans (by omega)]
  exact row_eq (z_eq H.f7_4 (by first | omega | rfl))
    (rfl)
    (by rw [vr_eq d H.f21_5 (by first | omega | rfl), vr_eq a H.f16_5 (by first | omega | rfl), vr_eq b H.f11_5 (by first | omega | rfl)])

theorem vandn (d : VReg) (a : VReg) (b : VReg) : Statement (.vandn d a b) := by
  intro _ hwf
  have h_d := d.isLt
  have h_a := a.isLt
  have h_b := b.isLt
  have H : VFields (encodeWord (.vandn d a b)) _ _ _ _ _ _ :=
    encV_fields 0x20 8 d.toNat a.toNat b.toNat 0 (by omega) (by omega) (by omega) (by omega) (by omega) (by omega)
  revert H; generalize encodeWord (.vandn d a b) = w; intro H
  refine ⟨H.lt, lt_eq H.f26_6 (by decide), noExt H.f26_6 (by decide) (by decide), (op_20 H.f26_6 _).trans ?_⟩
  unfold decodeVArith
  rw [show fld w 0 7 = 8 from H.f0_7.trans (by omega)]
  exact row_eq (z_eq H.f7_4 (by first | omega | rfl))
    (rfl)
    (by rw [vr_eq d H.f21_5 (by first | omega | rfl), vr_eq a H.f16_5 (by first | omega | rfl), vr_eq b H.f11_5 (by first | omega | rfl)])

theorem vshl (d : VReg) (a : VReg) (b : VReg) (ty : Ty) : Statement (.vshl d a b ty) := by
  intro _ hwf
  have h_d := d.isLt
  have h_a := a.isLt
  have h_b := b.isLt
  have h_ty := tyCode_lt ty
  have H : VFields (encodeWord (.vshl d a b ty)) _ _ _ _ _ _ :=
    encV_fields 0x20 9 d.toNat a.toNat b.toNat (tyCode ty) (by omega) (by omega) (by omega) (by omega) (by omega) (by omega)
  revert H; generalize encodeWord (.vshl d a b ty) = w; intro H
  refine ⟨H.lt, lt_eq H.f26_6 (by decide), noExt H.f26_6 (by decide) (by decide), (op_20 H.f26_6 _).trans ?_⟩
  unfold decodeVArith
  rw [show fld w 0 7 = 9 from H.f0_7.trans (by omega)]
  exact row_eq (rfl)
    (tyIn_eq ty H.f7_4 rfl hwf)
    (by rw [vr_eq d H.f21_5 (by first | omega | rfl), vr_eq a H.f16_5 (by first | omega | rfl), vr_eq b H.f11_5 (by first | omega | rfl), tyD_eq ty H.f7_4 (by first | omega | rfl)])

theorem vshr (d : VReg) (a : VReg) (b : VReg) (ty : Ty) : Statement (.vshr d a b ty) := by
  intro _ hwf
  have h_d := d.isLt
  have h_a := a.isLt
  have h_b := b.isLt
  have h_ty := tyCode_lt ty
  have H : VFields (encodeWord (.vshr d a b ty)) _ _ _ _ _ _ :=
    encV_fields 0x20 10 d.toNat a.toNat b.toNat (tyCode ty) (by omega) (by omega) (by omega) (by omega) (by omega) (by omega)
  revert H; generalize encodeWord (.vshr d a b ty) = w; intro H
  refine ⟨H.lt, lt_eq H.f26_6 (by decide), noExt H.f26_6 (by decide) (by decide), (op_20 H.f26_6 _).trans ?_⟩
  unfold decodeVArith
  rw [show fld w 0 7 = 10 from H.f0_7.trans (by omega)]
  exact row_eq (rfl)
    (tyIn_eq ty H.f7_4 rfl hwf)
    (by rw [vr_eq d H.f21_5 (by first | omega | rfl), vr_eq a H.f16_5 (by first | omega | rfl), vr_eq b H.f11_5 (by first | omega | rfl), tyD_eq ty H.f7_4 (by first | omega | rfl)])

theorem vsar (d : VReg) (a : VReg) (b : VReg) (ty : Ty) : Statement (.vsar d a b ty) := by
  intro _ hwf
  have h_d := d.isLt
  have h_a := a.isLt
  have h_b := b.isLt
  have h_ty := tyCode_lt ty
  have H : VFields (encodeWord (.vsar d a b ty)) _ _ _ _ _ _ :=
    encV_fields 0x20 11 d.toNat a.toNat b.toNat (tyCode ty) (by omega) (by omega) (by omega) (by omega) (by omega) (by omega)
  revert H; generalize encodeWord (.vsar d a b ty) = w; intro H
  refine ⟨H.lt, lt_eq H.f26_6 (by decide), noExt H.f26_6 (by decide) (by decide), (op_20 H.f26_6 _).trans ?_⟩
  unfold decodeVArith
  rw [show fld w 0 7 = 11 from H.f0_7.trans (by omega)]
  exact row_eq (rfl)
    (tyIn_eq ty H.f7_4 rfl hwf)
    (by rw [vr_eq d H.f21_5 (by first | omega | rfl), vr_eq a H.f16_5 (by first | omega | rfl), vr_eq b H.f11_5 (by first | omega | rfl), tyD_eq ty H.f7_4 (by first | omega | rfl)])

theorem vmov (d : VReg) (a : VReg) : Statement (.vmov d a) := by
  intro _ hwf
  have h_d := d.isLt
  have h_a := a.isLt
  have H : VFields (encodeWord (.vmov d a)) _ _ _ _ _ _ :=
    encV_fields 0x20 12 d.toNat a.toNat 0 0 (by omega) (by omega) (by omega) (by omega) (by omega) (by omega)
  revert H; generalize encodeWord (.vmov d a) = w; intro H
  refine ⟨H.lt, lt_eq H.f26_6 (by decide), noExt H.f26_6 (by decide) (by decide), (op_20 H.f26_6 _).trans ?_⟩
  unfold decodeVArith
  rw [show fld w 0 7 = 12 from H.f0_7.trans (by omega)]
  exact row_eq (and_eq (z_eq H.f11_5 (by first | omega | rfl)) (z_eq H.f7_4 (by first | omega | rfl)))
    (rfl)
    (by rw [vr_eq d H.f21_5 (by first | omega | rfl), vr_eq a H.f16_5 (by first | omega | rfl)])

theorem vfma (d : VReg) (a : VReg) (b : VReg) (c : VReg) (ty : Ty) : Statement (.vfma d a b c ty) := by
  intro _ hwf
  have h_d := d.isLt
  have h_a := a.isLt
  have h_b := b.isLt
  have h_c := c.isLt
  have h_ty := tyCode_lt ty
  have H : FFields (encodeWord (.vfma d a b c ty)) _ _ _ _ _ _ _ :=
    encF_fields 0x21 0 d.toNat a.toNat b.toNat c.toNat (tyCode ty) (by omega) (by omega) (by omega) (by omega) (by omega) (by omega) (by omega)
  revert H; generalize encodeWord (.vfma d a b c ty) = w; intro H
  refine ⟨H.lt, lt_eq H.f26_6 (by decide), noExt H.f26_6 (by decide) (by decide), (op_21 H.f26_6 _).trans ?_⟩
  unfold decodeVFma
  rw [show fld w 0 2 = 0 from H.f0_2.trans (by omega)]
  exact row_eq (rfl)
    (tyIn_eq ty H.f2_4 rfl hwf)
    (by rw [vr_eq d H.f21_5 (by first | omega | rfl), vr_eq a H.f16_5 (by first | omega | rfl), vr_eq b H.f11_5 (by first | omega | rfl), vr_eq c H.f6_5 (by first | omega | rfl), tyD_eq ty H.f2_4 (by first | omega | rfl)])

theorem vfms (d : VReg) (a : VReg) (b : VReg) (c : VReg) (ty : Ty) : Statement (.vfms d a b c ty) := by
  intro _ hwf
  have h_d := d.isLt
  have h_a := a.isLt
  have h_b := b.isLt
  have h_c := c.isLt
  have h_ty := tyCode_lt ty
  have H : FFields (encodeWord (.vfms d a b c ty)) _ _ _ _ _ _ _ :=
    encF_fields 0x21 1 d.toNat a.toNat b.toNat c.toNat (tyCode ty) (by omega) (by omega) (by omega) (by omega) (by omega) (by omega) (by omega)
  revert H; generalize encodeWord (.vfms d a b c ty) = w; intro H
  refine ⟨H.lt, lt_eq H.f26_6 (by decide), noExt H.f26_6 (by decide) (by decide), (op_21 H.f26_6 _).trans ?_⟩
  unfold decodeVFma
  rw [show fld w 0 2 = 1 from H.f0_2.trans (by omega)]
  exact row_eq (rfl)
    (tyIn_eq ty H.f2_4 rfl hwf)
    (by rw [vr_eq d H.f21_5 (by first | omega | rfl), vr_eq a H.f16_5 (by first | omega | rfl), vr_eq b H.f11_5 (by first | omega | rfl), vr_eq c H.f6_5 (by first | omega | rfl), tyD_eq ty H.f2_4 (by first | omega | rfl)])

theorem vfnma (d : VReg) (a : VReg) (b : VReg) (c : VReg) (ty : Ty) : Statement (.vfnma d a b c ty) := by
  intro _ hwf
  have h_d := d.isLt
  have h_a := a.isLt
  have h_b := b.isLt
  have h_c := c.isLt
  have h_ty := tyCode_lt ty
  have H : FFields (encodeWord (.vfnma d a b c ty)) _ _ _ _ _ _ _ :=
    encF_fields 0x21 2 d.toNat a.toNat b.toNat c.toNat (tyCode ty) (by omega) (by omega) (by omega) (by omega) (by omega) (by omega) (by omega)
  revert H; generalize encodeWord (.vfnma d a b c ty) = w; intro H
  refine ⟨H.lt, lt_eq H.f26_6 (by decide), noExt H.f26_6 (by decide) (by decide), (op_21 H.f26_6 _).trans ?_⟩
  unfold decodeVFma
  rw [show fld w 0 2 = 2 from H.f0_2.trans (by omega)]
  exact row_eq (rfl)
    (tyIn_eq ty H.f2_4 rfl hwf)
    (by rw [vr_eq d H.f21_5 (by first | omega | rfl), vr_eq a H.f16_5 (by first | omega | rfl), vr_eq b H.f11_5 (by first | omega | rfl), vr_eq c H.f6_5 (by first | omega | rfl), tyD_eq ty H.f2_4 (by first | omega | rfl)])

theorem vfnms (d : VReg) (a : VReg) (b : VReg) (c : VReg) (ty : Ty) : Statement (.vfnms d a b c ty) := by
  intro _ hwf
  have h_d := d.isLt
  have h_a := a.isLt
  have h_b := b.isLt
  have h_c := c.isLt
  have h_ty := tyCode_lt ty
  have H : FFields (encodeWord (.vfnms d a b c ty)) _ _ _ _ _ _ _ :=
    encF_fields 0x21 3 d.toNat a.toNat b.toNat c.toNat (tyCode ty) (by omega) (by omega) (by omega) (by omega) (by omega) (by omega) (by omega)
  revert H; generalize encodeWord (.vfnms d a b c ty) = w; intro H
  refine ⟨H.lt, lt_eq H.f26_6 (by decide), noExt H.f26_6 (by decide) (by decide), (op_21 H.f26_6 _).trans ?_⟩
  unfold decodeVFma
  rw [show fld w 0 2 = 3 from H.f0_2.trans (by omega)]
  exact row_eq (rfl)
    (tyIn_eq ty H.f2_4 rfl hwf)
    (by rw [vr_eq d H.f21_5 (by first | omega | rfl), vr_eq a H.f16_5 (by first | omega | rfl), vr_eq b H.f11_5 (by first | omega | rfl), vr_eq c H.f6_5 (by first | omega | rfl), tyD_eq ty H.f2_4 (by first | omega | rfl)])

theorem vcvt (d : VReg) (a : VReg) (dt : Ty) (st : Ty) (rm : CvtRm) : Statement (.vcvt d a dt st rm) := by
  intro _ hwf
  have h_d := d.isLt
  have h_a := a.isLt
  have h_dt := tyCode_lt dt
  have h_st := tyCode_lt st
  have h_rm := rmCode_lt rm
  have H : VFields (encodeWord (.vcvt d a dt st rm)) _ _ _ _ _ _ :=
    encV_fields 0x22 (tyCode st * 8 + rmCode rm) d.toNat a.toNat 0 (tyCode dt) (by omega) (by omega) (by omega) (by omega) (by omega) (by omega)
  revert H; generalize encodeWord (.vcvt d a dt st rm) = w; intro H
  refine ⟨H.lt, lt_eq H.f26_6 (by decide), noExt H.f26_6 (by decide) (by decide), (op_22 H.f26_6 _).trans ?_⟩
  unfold decodeVCvt
  exact row_eq (z_eq H.f11_5 (by first | omega | rfl))
    (by
    rw [tyIn_eq dt H.f7_4 rfl (by cases dt <;> rfl), tyIn_eq st H.f3_4 (by omega) (by cases st <;> rfl), H.f7_4, H.f3_4,
      (code_eq H.f0_3 ((congrArg rmOf (by omega)).trans (rmOf_code rm)) : rmOf _ = _)]
    exact and_eq (and_eq rfl (decide_eq_true (fun e => of_decide_eq_true hwf (tyCode_inj (by omega))))) rfl)
    (by rw [vr_eq d H.f21_5 (by first | omega | rfl), vr_eq a H.f16_5 (by first | omega | rfl), tyD_eq dt H.f7_4 (by first | omega | rfl), tyD_eq st H.f3_4 (by first | omega | rfl), (code_eq H.f0_3 ((congrArg rmOf (by omega)).trans (rmOf_code rm)) : rmOf _ = _)]; rfl)

theorem vrcp (d : VReg) (a : VReg) (ty : Ty) : Statement (.vrcp d a ty) := by
  intro _ hwf
  have h_d := d.isLt
  have h_a := a.isLt
  have h_ty := tyCode_lt ty
  have H : VFields (encodeWord (.vrcp d a ty)) _ _ _ _ _ _ :=
    encV_fields 0x23 0 d.toNat a.toNat 0 (tyCode ty) (by omega) (by omega) (by omega) (by omega) (by omega) (by omega)
  revert H; generalize encodeWord (.vrcp d a ty) = w; intro H
  refine ⟨H.lt, lt_eq H.f26_6 (by decide), noExt H.f26_6 (by decide) (by decide), (op_23 H.f26_6 _).trans ?_⟩
  unfold decodeVFunc
  rw [show fld w 0 7 = 0 from H.f0_7.trans (by omega)]
  exact row_eq (z_eq H.f11_5 (by first | omega | rfl))
    (tyIn_eq ty H.f7_4 rfl hwf)
    (by rw [vr_eq d H.f21_5 (by first | omega | rfl), vr_eq a H.f16_5 (by first | omega | rfl), tyD_eq ty H.f7_4 (by first | omega | rfl)])

theorem vrsqrt (d : VReg) (a : VReg) (ty : Ty) : Statement (.vrsqrt d a ty) := by
  intro _ hwf
  have h_d := d.isLt
  have h_a := a.isLt
  have h_ty := tyCode_lt ty
  have H : VFields (encodeWord (.vrsqrt d a ty)) _ _ _ _ _ _ :=
    encV_fields 0x23 1 d.toNat a.toNat 0 (tyCode ty) (by omega) (by omega) (by omega) (by omega) (by omega) (by omega)
  revert H; generalize encodeWord (.vrsqrt d a ty) = w; intro H
  refine ⟨H.lt, lt_eq H.f26_6 (by decide), noExt H.f26_6 (by decide) (by decide), (op_23 H.f26_6 _).trans ?_⟩
  unfold decodeVFunc
  rw [show fld w 0 7 = 1 from H.f0_7.trans (by omega)]
  exact row_eq (z_eq H.f11_5 (by first | omega | rfl))
    (tyIn_eq ty H.f7_4 rfl hwf)
    (by rw [vr_eq d H.f21_5 (by first | omega | rfl), vr_eq a H.f16_5 (by first | omega | rfl), tyD_eq ty H.f7_4 (by first | omega | rfl)])

theorem vsqrt (d : VReg) (a : VReg) (ty : Ty) : Statement (.vsqrt d a ty) := by
  intro _ hwf
  have h_d := d.isLt
  have h_a := a.isLt
  have h_ty := tyCode_lt ty
  have H : VFields (encodeWord (.vsqrt d a ty)) _ _ _ _ _ _ :=
    encV_fields 0x23 2 d.toNat a.toNat 0 (tyCode ty) (by omega) (by omega) (by omega) (by omega) (by omega) (by omega)
  revert H; generalize encodeWord (.vsqrt d a ty) = w; intro H
  refine ⟨H.lt, lt_eq H.f26_6 (by decide), noExt H.f26_6 (by decide) (by decide), (op_23 H.f26_6 _).trans ?_⟩
  unfold decodeVFunc
  rw [show fld w 0 7 = 2 from H.f0_7.trans (by omega)]
  exact row_eq (z_eq H.f11_5 (by first | omega | rfl))
    (tyIn_eq ty H.f7_4 rfl hwf)
    (by rw [vr_eq d H.f21_5 (by first | omega | rfl), vr_eq a H.f16_5 (by first | omega | rfl), tyD_eq ty H.f7_4 (by first | omega | rfl)])

theorem vexp2 (d : VReg) (a : VReg) (ty : Ty) : Statement (.vexp2 d a ty) := by
  intro _ hwf
  have h_d := d.isLt
  have h_a := a.isLt
  have h_ty := tyCode_lt ty
  have H : VFields (encodeWord (.vexp2 d a ty)) _ _ _ _ _ _ :=
    encV_fields 0x23 3 d.toNat a.toNat 0 (tyCode ty) (by omega) (by omega) (by omega) (by omega) (by omega) (by omega)
  revert H; generalize encodeWord (.vexp2 d a ty) = w; intro H
  refine ⟨H.lt, lt_eq H.f26_6 (by decide), noExt H.f26_6 (by decide) (by decide), (op_23 H.f26_6 _).trans ?_⟩
  unfold decodeVFunc
  rw [show fld w 0 7 = 3 from H.f0_7.trans (by omega)]
  exact row_eq (z_eq H.f11_5 (by first | omega | rfl))
    (tyIn_eq ty H.f7_4 rfl hwf)
    (by rw [vr_eq d H.f21_5 (by first | omega | rfl), vr_eq a H.f16_5 (by first | omega | rfl), tyD_eq ty H.f7_4 (by first | omega | rfl)])

theorem vlog2 (d : VReg) (a : VReg) (ty : Ty) : Statement (.vlog2 d a ty) := by
  intro _ hwf
  have h_d := d.isLt
  have h_a := a.isLt
  have h_ty := tyCode_lt ty
  have H : VFields (encodeWord (.vlog2 d a ty)) _ _ _ _ _ _ :=
    encV_fields 0x23 4 d.toNat a.toNat 0 (tyCode ty) (by omega) (by omega) (by omega) (by omega) (by omega) (by omega)
  revert H; generalize encodeWord (.vlog2 d a ty) = w; intro H
  refine ⟨H.lt, lt_eq H.f26_6 (by decide), noExt H.f26_6 (by decide) (by decide), (op_23 H.f26_6 _).trans ?_⟩
  unfold decodeVFunc
  rw [show fld w 0 7 = 4 from H.f0_7.trans (by omega)]
  exact row_eq (z_eq H.f11_5 (by first | omega | rfl))
    (tyIn_eq ty H.f7_4 rfl hwf)
    (by rw [vr_eq d H.f21_5 (by first | omega | rfl), vr_eq a H.f16_5 (by first | omega | rfl), tyD_eq ty H.f7_4 (by first | omega | rfl)])

theorem vdiv (d : VReg) (a : VReg) (b : VReg) (ty : Ty) : Statement (.vdiv d a b ty) := by
  intro _ hwf
  have h_d := d.isLt
  have h_a := a.isLt
  have h_b := b.isLt
  have h_ty := tyCode_lt ty
  have H : VFields (encodeWord (.vdiv d a b ty)) _ _ _ _ _ _ :=
    encV_fields 0x23 5 d.toNat a.toNat b.toNat (tyCode ty) (by omega) (by omega) (by omega) (by omega) (by omega) (by omega)
  revert H; generalize encodeWord (.vdiv d a b ty) = w; intro H
  refine ⟨H.lt, lt_eq H.f26_6 (by decide), noExt H.f26_6 (by decide) (by decide), (op_23 H.f26_6 _).trans ?_⟩
  unfold decodeVFunc
  rw [show fld w 0 7 = 5 from H.f0_7.trans (by omega)]
  exact row_eq (rfl)
    (tyIn_eq ty H.f7_4 rfl hwf)
    (by rw [vr_eq d H.f21_5 (by first | omega | rfl), vr_eq a H.f16_5 (by first | omega | rfl), vr_eq b H.f11_5 (by first | omega | rfl), tyD_eq ty H.f7_4 (by first | omega | rfl)])

theorem vperm (d : VReg) (a : VReg) (b : VReg) (ty : Ty) : Statement (.vperm d a b ty) := by
  intro _ hwf
  have h_d := d.isLt
  have h_a := a.isLt
  have h_b := b.isLt
  have h_ty := tyCode_lt ty
  have H : VFields (encodeWord (.vperm d a b ty)) _ _ _ _ _ _ :=
    encV_fields 0x24 0 d.toNat a.toNat b.toNat (tyCode ty) (by omega) (by omega) (by omega) (by omega) (by omega) (by omega)
  revert H; generalize encodeWord (.vperm d a b ty) = w; intro H
  refine ⟨H.lt, lt_eq H.f26_6 (by decide), noExt H.f26_6 (by decide) (by decide), (op_24 H.f26_6 _).trans ?_⟩
  unfold decodeVMove
  rw [show fld w 0 7 = 0 from H.f0_7.trans (by omega)]
  exact row_eq (rfl)
    (tyIn_eq ty H.f7_4 rfl hwf)
    (by rw [vr_eq d H.f21_5 (by first | omega | rfl), vr_eq a H.f16_5 (by first | omega | rfl), vr_eq b H.f11_5 (by first | omega | rfl), tyD_eq ty H.f7_4 (by first | omega | rfl)])

theorem vbcast (d : VReg) (a : VReg) (ty : Ty) : Statement (.vbcast d a ty) := by
  intro _ hwf
  have h_d := d.isLt
  have h_a := a.isLt
  have h_ty := tyCode_lt ty
  have H : VFields (encodeWord (.vbcast d a ty)) _ _ _ _ _ _ :=
    encV_fields 0x24 1 d.toNat a.toNat 0 (tyCode ty) (by omega) (by omega) (by omega) (by omega) (by omega) (by omega)
  revert H; generalize encodeWord (.vbcast d a ty) = w; intro H
  refine ⟨H.lt, lt_eq H.f26_6 (by decide), noExt H.f26_6 (by decide) (by decide), (op_24 H.f26_6 _).trans ?_⟩
  unfold decodeVMove
  rw [show fld w 0 7 = 1 from H.f0_7.trans (by omega)]
  exact row_eq (z_eq H.f11_5 (by first | omega | rfl))
    (tyIn_eq ty H.f7_4 rfl hwf)
    (by rw [vr_eq d H.f21_5 (by first | omega | rfl), vr_eq a H.f16_5 (by first | omega | rfl), tyD_eq ty H.f7_4 (by first | omega | rfl)])

theorem vins (d : VReg) (a : VReg) (idx : BitVec 5) (ty : Ty) : Statement (.vins d a idx ty) := by
  intro _ hwf
  have h_d := d.isLt
  have h_a := a.isLt
  have h_idx := idx.isLt
  have h_ty := tyCode_lt ty
  have H : VFields (encodeWord (.vins d a idx ty)) _ _ _ _ _ _ :=
    encV_fields 0x24 2 d.toNat a.toNat idx.toNat (tyCode ty) (by omega) (by omega) (by omega) (by omega) (by omega) (by omega)
  revert H; generalize encodeWord (.vins d a idx ty) = w; intro H
  refine ⟨H.lt, lt_eq H.f26_6 (by decide), noExt H.f26_6 (by decide) (by decide), (op_24 H.f26_6 _).trans ?_⟩
  unfold decodeVMove
  rw [show fld w 0 7 = 2 from H.f0_7.trans (by omega)]
  exact row_eq (rfl)
    (and_eq (tyIn_eq ty H.f7_4 rfl (Bool.and_eq_true_iff.mp hwf).1)
    (by rw [tyD_eq ty H.f7_4 rfl, H.f11_5]; exact (Bool.and_eq_true_iff.mp hwf).2))
    (by rw [vr_eq d H.f21_5 (by first | omega | rfl), vr_eq a H.f16_5 (by first | omega | rfl), vr_eq idx H.f11_5 (by first | omega | rfl), tyD_eq ty H.f7_4 (by first | omega | rfl)])

theorem vext (d : VReg) (a : VReg) (idx : BitVec 5) (ty : Ty) : Statement (.vext d a idx ty) := by
  intro _ hwf
  have h_d := d.isLt
  have h_a := a.isLt
  have h_idx := idx.isLt
  have h_ty := tyCode_lt ty
  have H : VFields (encodeWord (.vext d a idx ty)) _ _ _ _ _ _ :=
    encV_fields 0x24 3 d.toNat a.toNat idx.toNat (tyCode ty) (by omega) (by omega) (by omega) (by omega) (by omega) (by omega)
  revert H; generalize encodeWord (.vext d a idx ty) = w; intro H
  refine ⟨H.lt, lt_eq H.f26_6 (by decide), noExt H.f26_6 (by decide) (by decide), (op_24 H.f26_6 _).trans ?_⟩
  unfold decodeVMove
  rw [show fld w 0 7 = 3 from H.f0_7.trans (by omega)]
  exact row_eq (rfl)
    (and_eq (tyIn_eq ty H.f7_4 rfl (Bool.and_eq_true_iff.mp hwf).1)
    (by rw [tyD_eq ty H.f7_4 rfl, H.f11_5]; exact (Bool.and_eq_true_iff.mp hwf).2))
    (by rw [vr_eq d H.f21_5 (by first | omega | rfl), vr_eq a H.f16_5 (by first | omega | rfl), vr_eq idx H.f11_5 (by first | omega | rfl), tyD_eq ty H.f7_4 (by first | omega | rfl)])

theorem vredAdd (d : VReg) (a : VReg) (ty : Ty) : Statement (.vredAdd d a ty) := by
  intro _ hwf
  have h_d := d.isLt
  have h_a := a.isLt
  have h_ty := tyCode_lt ty
  have H : VFields (encodeWord (.vredAdd d a ty)) _ _ _ _ _ _ :=
    encV_fields 0x24 4 d.toNat a.toNat 0 (tyCode ty) (by omega) (by omega) (by omega) (by omega) (by omega) (by omega)
  revert H; generalize encodeWord (.vredAdd d a ty) = w; intro H
  refine ⟨H.lt, lt_eq H.f26_6 (by decide), noExt H.f26_6 (by decide) (by decide), (op_24 H.f26_6 _).trans ?_⟩
  unfold decodeVMove
  rw [show fld w 0 7 = 4 from H.f0_7.trans (by omega)]
  exact row_eq (z_eq H.f11_5 (by first | omega | rfl))
    (tyIn_eq ty H.f7_4 rfl hwf)
    (by rw [vr_eq d H.f21_5 (by first | omega | rfl), vr_eq a H.f16_5 (by first | omega | rfl), tyD_eq ty H.f7_4 (by first | omega | rfl)])

theorem vredMin (d : VReg) (a : VReg) (ty : Ty) : Statement (.vredMin d a ty) := by
  intro _ hwf
  have h_d := d.isLt
  have h_a := a.isLt
  have h_ty := tyCode_lt ty
  have H : VFields (encodeWord (.vredMin d a ty)) _ _ _ _ _ _ :=
    encV_fields 0x24 5 d.toNat a.toNat 0 (tyCode ty) (by omega) (by omega) (by omega) (by omega) (by omega) (by omega)
  revert H; generalize encodeWord (.vredMin d a ty) = w; intro H
  refine ⟨H.lt, lt_eq H.f26_6 (by decide), noExt H.f26_6 (by decide) (by decide), (op_24 H.f26_6 _).trans ?_⟩
  unfold decodeVMove
  rw [show fld w 0 7 = 5 from H.f0_7.trans (by omega)]
  exact row_eq (z_eq H.f11_5 (by first | omega | rfl))
    (tyIn_eq ty H.f7_4 rfl hwf)
    (by rw [vr_eq d H.f21_5 (by first | omega | rfl), vr_eq a H.f16_5 (by first | omega | rfl), tyD_eq ty H.f7_4 (by first | omega | rfl)])

theorem vredMax (d : VReg) (a : VReg) (ty : Ty) : Statement (.vredMax d a ty) := by
  intro _ hwf
  have h_d := d.isLt
  have h_a := a.isLt
  have h_ty := tyCode_lt ty
  have H : VFields (encodeWord (.vredMax d a ty)) _ _ _ _ _ _ :=
    encV_fields 0x24 6 d.toNat a.toNat 0 (tyCode ty) (by omega) (by omega) (by omega) (by omega) (by omega) (by omega)
  revert H; generalize encodeWord (.vredMax d a ty) = w; intro H
  refine ⟨H.lt, lt_eq H.f26_6 (by decide), noExt H.f26_6 (by decide) (by decide), (op_24 H.f26_6 _).trans ?_⟩
  unfold decodeVMove
  rw [show fld w 0 7 = 6 from H.f0_7.trans (by omega)]
  exact row_eq (z_eq H.f11_5 (by first | omega | rfl))
    (tyIn_eq ty H.f7_4 rfl hwf)
    (by rw [vr_eq d H.f21_5 (by first | omega | rfl), vr_eq a H.f16_5 (by first | omega | rfl), tyD_eq ty H.f7_4 (by first | omega | rfl)])

theorem vpack (d : VReg) (a : VReg) (b : VReg) (ty : Ty) : Statement (.vpack d a b ty) := by
  intro _ hwf
  have h_d := d.isLt
  have h_a := a.isLt
  have h_b := b.isLt
  have h_ty := tyCode_lt ty
  have H : VFields (encodeWord (.vpack d a b ty)) _ _ _ _ _ _ :=
    encV_fields 0x24 7 d.toNat a.toNat b.toNat (tyCode ty) (by omega) (by omega) (by omega) (by omega) (by omega) (by omega)
  revert H; generalize encodeWord (.vpack d a b ty) = w; intro H
  refine ⟨H.lt, lt_eq H.f26_6 (by decide), noExt H.f26_6 (by decide) (by decide), (op_24 H.f26_6 _).trans ?_⟩
  unfold decodeVMove
  rw [show fld w 0 7 = 7 from H.f0_7.trans (by omega)]
  exact row_eq (rfl)
    (tyIn_eq ty H.f7_4 rfl hwf)
    (by rw [vr_eq d H.f21_5 (by first | omega | rfl), vr_eq a H.f16_5 (by first | omega | rfl), vr_eq b H.f11_5 (by first | omega | rfl), tyD_eq ty H.f7_4 (by first | omega | rfl)])

theorem vunpkLo (d : VReg) (a : VReg) (ty : Ty) : Statement (.vunpkLo d a ty) := by
  intro _ hwf
  have h_d := d.isLt
  have h_a := a.isLt
  have h_ty := tyCode_lt ty
  have H : VFields (encodeWord (.vunpkLo d a ty)) _ _ _ _ _ _ :=
    encV_fields 0x24 8 d.toNat a.toNat 0 (tyCode ty) (by omega) (by omega) (by omega) (by omega) (by omega) (by omega)
  revert H; generalize encodeWord (.vunpkLo d a ty) = w; intro H
  refine ⟨H.lt, lt_eq H.f26_6 (by decide), noExt H.f26_6 (by decide) (by decide), (op_24 H.f26_6 _).trans ?_⟩
  unfold decodeVMove
  rw [show fld w 0 7 = 8 from H.f0_7.trans (by omega)]
  exact row_eq (z_eq H.f11_5 (by first | omega | rfl))
    (tyIn_eq ty H.f7_4 rfl hwf)
    (by rw [vr_eq d H.f21_5 (by first | omega | rfl), vr_eq a H.f16_5 (by first | omega | rfl), tyD_eq ty H.f7_4 (by first | omega | rfl)])

theorem vunpkHi (d : VReg) (a : VReg) (ty : Ty) : Statement (.vunpkHi d a ty) := by
  intro _ hwf
  have h_d := d.isLt
  have h_a := a.isLt
  have h_ty := tyCode_lt ty
  have H : VFields (encodeWord (.vunpkHi d a ty)) _ _ _ _ _ _ :=
    encV_fields 0x24 9 d.toNat a.toNat 0 (tyCode ty) (by omega) (by omega) (by omega) (by omega) (by omega) (by omega)
  revert H; generalize encodeWord (.vunpkHi d a ty) = w; intro H
  refine ⟨H.lt, lt_eq H.f26_6 (by decide), noExt H.f26_6 (by decide) (by decide), (op_24 H.f26_6 _).trans ?_⟩
  unfold decodeVMove
  rw [show fld w 0 7 = 9 from H.f0_7.trans (by omega)]
  exact row_eq (z_eq H.f11_5 (by first | omega | rfl))
    (tyIn_eq ty H.f7_4 rfl hwf)
    (by rw [vr_eq d H.f21_5 (by first | omega | rfl), vr_eq a H.f16_5 (by first | omega | rfl), tyD_eq ty H.f7_4 (by first | omega | rfl)])

theorem vzip (d : VReg) (a : VReg) (b : VReg) (ty : Ty) : Statement (.vzip d a b ty) := by
  intro _ hwf
  have h_d := d.isLt
  have h_a := a.isLt
  have h_b := b.isLt
  have h_ty := tyCode_lt ty
  have H : VFields (encodeWord (.vzip d a b ty)) _ _ _ _ _ _ :=
    encV_fields 0x24 10 d.toNat a.toNat b.toNat (tyCode ty) (by omega) (by omega) (by omega) (by omega) (by omega) (by omega)
  revert H; generalize encodeWord (.vzip d a b ty) = w; intro H
  refine ⟨H.lt, lt_eq H.f26_6 (by decide), noExt H.f26_6 (by decide) (by decide), (op_24 H.f26_6 _).trans ?_⟩
  unfold decodeVMove
  rw [show fld w 0 7 = 10 from H.f0_7.trans (by omega)]
  exact row_eq (rfl)
    (tyIn_eq ty H.f7_4 rfl hwf)
    (by rw [vr_eq d H.f21_5 (by first | omega | rfl), vr_eq a H.f16_5 (by first | omega | rfl), vr_eq b H.f11_5 (by first | omega | rfl), tyD_eq ty H.f7_4 (by first | omega | rfl)])

theorem vunzip (d : VReg) (a : VReg) (b : VReg) (ty : Ty) : Statement (.vunzip d a b ty) := by
  intro _ hwf
  have h_d := d.isLt
  have h_a := a.isLt
  have h_b := b.isLt
  have h_ty := tyCode_lt ty
  have H : VFields (encodeWord (.vunzip d a b ty)) _ _ _ _ _ _ :=
    encV_fields 0x24 11 d.toNat a.toNat b.toNat (tyCode ty) (by omega) (by omega) (by omega) (by omega) (by omega) (by omega)
  revert H; generalize encodeWord (.vunzip d a b ty) = w; intro H
  refine ⟨H.lt, lt_eq H.f26_6 (by decide), noExt H.f26_6 (by decide) (by decide), (op_24 H.f26_6 _).trans ?_⟩
  unfold decodeVMove
  rw [show fld w 0 7 = 11 from H.f0_7.trans (by omega)]
  exact row_eq (rfl)
    (tyIn_eq ty H.f7_4 rfl hwf)
    (by rw [vr_eq d H.f21_5 (by first | omega | rfl), vr_eq a H.f16_5 (by first | omega | rfl), vr_eq b H.f11_5 (by first | omega | rfl), tyD_eq ty H.f7_4 (by first | omega | rfl)])

theorem vcmp (d : VReg) (a : VReg) (b : VReg) (ty : Ty) (cc : VCond) : Statement (.vcmp d a b ty cc) := by
  intro _ hwf
  have h_d := d.isLt
  have h_a := a.isLt
  have h_b := b.isLt
  have h_ty := tyCode_lt ty
  have h_cc := vcondCode_lt cc
  have H : VFields (encodeWord (.vcmp d a b ty cc)) _ _ _ _ _ _ :=
    encV_fields 0x25 (vcondCode cc) d.toNat a.toNat b.toNat (tyCode ty) (by omega) (by omega) (by omega) (by omega) (by omega) (by omega)
  revert H; generalize encodeWord (.vcmp d a b ty cc) = w; intro H
  refine ⟨H.lt, lt_eq H.f26_6 (by decide), noExt H.f26_6 (by decide) (by decide), (op_25 H.f26_6 _).trans ?_⟩
  unfold decodeVCmp
  cases cc <;>
  rw [show fld w 0 7 = _ from H.f0_7] <;>
  exact row_eq (rfl)
    (tyIn_eq ty H.f7_4 rfl hwf)
    (by rw [vr_eq d H.f21_5 (by first | omega | rfl), vr_eq a H.f16_5 (by first | omega | rfl), vr_eq b H.f11_5 (by first | omega | rfl), tyD_eq ty H.f7_4 (by first | omega | rfl)])

theorem vclass (d : VReg) (a : VReg) (ty : Ty) : Statement (.vclass d a ty) := by
  intro _ hwf
  have h_d := d.isLt
  have h_a := a.isLt
  have h_ty := tyCode_lt ty
  have H : VFields (encodeWord (.vclass d a ty)) _ _ _ _ _ _ :=
    encV_fields 0x25 4 d.toNat a.toNat 0 (tyCode ty) (by omega) (by omega) (by omega) (by omega) (by omega) (by omega)
  revert H; generalize encodeWord (.vclass d a ty) = w; intro H
  refine ⟨H.lt, lt_eq H.f26_6 (by decide), noExt H.f26_6 (by decide) (by decide), (op_25 H.f26_6 _).trans ?_⟩
  unfold decodeVCmp
  rw [show fld w 0 7 = 4 from H.f0_7.trans (by omega)]
  exact row_eq (z_eq H.f11_5 (by first | omega | rfl))
    (tyIn_eq ty H.f7_4 rfl hwf)
    (by rw [vr_eq d H.f21_5 (by first | omega | rfl), vr_eq a H.f16_5 (by first | omega | rfl), tyD_eq ty H.f7_4 (by first | omega | rfl)])

theorem vsel (d : VReg) (a : VReg) (b : VReg) (c : VReg) : Statement (.vsel d a b c) := by
  intro _ hwf
  have h_d := d.isLt
  have h_a := a.isLt
  have h_b := b.isLt
  have h_c := c.isLt
  have H : FFields (encodeWord (.vsel d a b c)) _ _ _ _ _ _ _ :=
    encF_fields 0x26 0 d.toNat a.toNat b.toNat c.toNat 0 (by omega) (by omega) (by omega) (by omega) (by omega) (by omega) (by omega)
  revert H; generalize encodeWord (.vsel d a b c) = w; intro H
  refine ⟨H.lt, lt_eq H.f26_6 (by decide), noExt H.f26_6 (by decide) (by decide), (op_26 H.f26_6 _).trans ?_⟩
  unfold decodeVSel
  rw [show fld w 0 2 = 0 from H.f0_2.trans (by omega)]
  exact row_eq (z_eq H.f2_4 (by first | omega | rfl))
    (rfl)
    (by rw [vr_eq d H.f21_5 (by first | omega | rfl), vr_eq a H.f16_5 (by first | omega | rfl), vr_eq b H.f11_5 (by first | omega | rfl), vr_eq c H.f6_5 (by first | omega | rfl)])

theorem vdot (d : VReg) (a : VReg) (b : VReg) (c : VReg) (ty : Ty) : Statement (.vdot d a b c ty) := by
  intro _ hwf
  have h_d := d.isLt
  have h_a := a.isLt
  have h_b := b.isLt
  have h_c := c.isLt
  have h_ty := tyCode_lt ty
  have H : FFields (encodeWord (.vdot d a b c ty)) _ _ _ _ _ _ _ :=
    encF_fields 0x26 1 d.toNat a.toNat b.toNat c.toNat (tyCode ty) (by omega) (by omega) (by omega) (by omega) (by omega) (by omega) (by omega)
  revert H; generalize encodeWord (.vdot d a b c ty) = w; intro H
  refine ⟨H.lt, lt_eq H.f26_6 (by decide), noExt H.f26_6 (by decide) (by decide), (op_26 H.f26_6 _).trans ?_⟩
  unfold decodeVSel
  rw [show fld w 0 2 = 1 from H.f0_2.trans (by omega)]
  exact row_eq (rfl)
    (tyIn_eq ty H.f2_4 rfl hwf)
    (by rw [vr_eq d H.f21_5 (by first | omega | rfl), vr_eq a H.f16_5 (by first | omega | rfl), vr_eq b H.f11_5 (by first | omega | rfl), vr_eq c H.f6_5 (by first | omega | rfl), tyD_eq ty H.f2_4 (by first | omega | rfl)])

theorem vdotI (d : VReg) (a : VReg) (b : VReg) (c : VReg) (ty : Ty) : Statement (.vdotI d a b c ty) := by
  intro _ hwf
  have h_d := d.isLt
  have h_a := a.isLt
  have h_b := b.isLt
  have h_c := c.isLt
  have h_ty := tyCode_lt ty
  have H : FFields (encodeWord (.vdotI d a b c ty)) _ _ _ _ _ _ _ :=
    encF_fields 0x26 2 d.toNat a.toNat b.toNat c.toNat (tyCode ty) (by omega) (by omega) (by omega) (by omega) (by omega) (by omega) (by omega)
  revert H; generalize encodeWord (.vdotI d a b c ty) = w; intro H
  refine ⟨H.lt, lt_eq H.f26_6 (by decide), noExt H.f26_6 (by decide) (by decide), (op_26 H.f26_6 _).trans ?_⟩
  unfold decodeVSel
  rw [show fld w 0 2 = 2 from H.f0_2.trans (by omega)]
  exact row_eq (rfl)
    (tyIn_eq ty H.f2_4 rfl hwf)
    (by rw [vr_eq d H.f21_5 (by first | omega | rfl), vr_eq a H.f16_5 (by first | omega | rfl), vr_eq b H.f11_5 (by first | omega | rfl), vr_eq c H.f6_5 (by first | omega | rfl), tyD_eq ty H.f2_4 (by first | omega | rfl)])

theorem lks (a : GReg) (eg : BitVec 3) (l : Dir) : Statement (.lks a eg l) := by
  intro _ hwf
  have h_a := a.isLt
  have h_eg := eg.isLt
  have h_l := dirCode_lt l
  have H : XFields (encodeWord (.lks a eg l)) _ _ _ _ _ _ :=
    encX_fields 0x28 (0 * 4 + dirCode l) 0 a.toNat 0 eg.toNat (by omega) (by omega) (by omega) (by omega) (by omega) (by omega)
  revert H; generalize encodeWord (.lks a eg l) = w; intro H
  refine ⟨H.lt, lt_eq H.f26_6 (by decide), noExt H.f26_6 (by decide) (by decide), (op_28 H.f26_6 _).trans ?_⟩
  unfold decodeLink
  rw [show fld w 2 3 = 0 from H.f2_3.trans (by omega)]
  exact row_eq (and_eq (z_eq H.f20_6 (by first | omega | rfl)) (z_eq H.f8_6 (by first | omega | rfl)))
    (rfl)
    (by rw [gr_eq a H.f14_6 (by first | omega | rfl), ofNat_eq eg H.f5_3 (by first | omega | rfl), (code_eq H.f0_2 ((congrArg dirOf (by omega)).trans (dirOf_code l)) : dirOf _ = _)])

theorem lkm (d : GReg) (a : GReg) (b : GReg) (eg : BitVec 3) (l : Dir) : Statement (.lkm d a b eg l) := by
  intro _ hwf
  have h_d := d.isLt
  have h_a := a.isLt
  have h_b := b.isLt
  have h_eg := eg.isLt
  have h_l := dirCode_lt l
  have H : XFields (encodeWord (.lkm d a b eg l)) _ _ _ _ _ _ :=
    encX_fields 0x28 (1 * 4 + dirCode l) d.toNat a.toNat b.toNat eg.toNat (by omega) (by omega) (by omega) (by omega) (by omega) (by omega)
  revert H; generalize encodeWord (.lkm d a b eg l) = w; intro H
  refine ⟨H.lt, lt_eq H.f26_6 (by decide), noExt H.f26_6 (by decide) (by decide), (op_28 H.f26_6 _).trans ?_⟩
  unfold decodeLink
  rw [show fld w 2 3 = 1 from H.f2_3.trans (by omega)]
  exact row_eq (rfl)
    (rfl)
    (by rw [gr_eq d H.f20_6 (by first | omega | rfl), gr_eq a H.f14_6 (by first | omega | rfl), gr_eq b H.f8_6 (by first | omega | rfl), ofNat_eq eg H.f5_3 (by first | omega | rfl), (code_eq H.f0_2 ((congrArg dirOf (by omega)).trans (dirOf_code l)) : dirOf _ = _)])

theorem lkq (d : GReg) (l : Dir) : Statement (.lkq d l) := by
  intro _ hwf
  have h_d := d.isLt
  have h_l := dirCode_lt l
  have H : XFields (encodeWord (.lkq d l)) _ _ _ _ _ _ :=
    encX_fields 0x28 (2 * 4 + dirCode l) d.toNat 0 0 0 (by omega) (by omega) (by omega) (by omega) (by omega) (by omega)
  revert H; generalize encodeWord (.lkq d l) = w; intro H
  refine ⟨H.lt, lt_eq H.f26_6 (by decide), noExt H.f26_6 (by decide) (by decide), (op_28 H.f26_6 _).trans ?_⟩
  unfold decodeLink
  rw [show fld w 2 3 = 2 from H.f2_3.trans (by omega)]
  exact row_eq (and_eq (and_eq (z_eq H.f14_6 (by first | omega | rfl)) (z_eq H.f8_6 (by first | omega | rfl))) (z_eq H.f5_3 (by first | omega | rfl)))
    (rfl)
    (by rw [gr_eq d H.f20_6 (by first | omega | rfl), (code_eq H.f0_2 ((congrArg dirOf (by omega)).trans (dirOf_code l)) : dirOf _ = _)])

theorem lkdrain (a : GReg) (l : Dir) : Statement (.lkdrain a l) := by
  intro _ hwf
  have h_a := a.isLt
  have h_l := dirCode_lt l
  have H : XFields (encodeWord (.lkdrain a l)) _ _ _ _ _ _ :=
    encX_fields 0x28 (3 * 4 + dirCode l) 0 a.toNat 0 0 (by omega) (by omega) (by omega) (by omega) (by omega) (by omega)
  revert H; generalize encodeWord (.lkdrain a l) = w; intro H
  refine ⟨H.lt, lt_eq H.f26_6 (by decide), noExt H.f26_6 (by decide) (by decide), (op_28 H.f26_6 _).trans ?_⟩
  unfold decodeLink
  rw [show fld w 2 3 = 3 from H.f2_3.trans (by omega)]
  exact row_eq (and_eq (and_eq (z_eq H.f20_6 (by first | omega | rfl)) (z_eq H.f8_6 (by first | omega | rfl))) (z_eq H.f5_3 (by first | omega | rfl)))
    (rfl)
    (by rw [gr_eq a H.f14_6 (by first | omega | rfl), (code_eq H.f0_2 ((congrArg dirOf (by omega)).trans (dirOf_code l)) : dirOf _ = _)])

theorem lkload (a : GReg) (l : Dir) : Statement (.lkload a l) := by
  intro _ hwf
  have h_a := a.isLt
  have h_l := dirCode_lt l
  have H : XFields (encodeWord (.lkload a l)) _ _ _ _ _ _ :=
    encX_fields 0x28 (4 * 4 + dirCode l) 0 a.toNat 0 0 (by omega) (by omega) (by omega) (by omega) (by omega) (by omega)
  revert H; generalize encodeWord (.lkload a l) = w; intro H
  refine ⟨H.lt, lt_eq H.f26_6 (by decide), noExt H.f26_6 (by decide) (by decide), (op_28 H.f26_6 _).trans ?_⟩
  unfold decodeLink
  rw [show fld w 2 3 = 4 from H.f2_3.trans (by omega)]
  exact row_eq (and_eq (and_eq (z_eq H.f20_6 (by first | omega | rfl)) (z_eq H.f8_6 (by first | omega | rfl))) (z_eq H.f5_3 (by first | omega | rfl)))
    (rfl)
    (by rw [gr_eq a H.f14_6 (by first | omega | rfl), (code_eq H.f0_2 ((congrArg dirOf (by omega)).trans (dirOf_code l)) : dirOf _ = _)])

theorem lkfrz (l : Dir) : Statement (.lkfrz l) := by
  intro _ hwf
  have h_l := dirCode_lt l
  have H : XFields (encodeWord (.lkfrz l)) _ _ _ _ _ _ :=
    encX_fields 0x28 (5 * 4 + dirCode l) 0 0 0 0 (by omega) (by omega) (by omega) (by omega) (by omega) (by omega)
  revert H; generalize encodeWord (.lkfrz l) = w; intro H
  refine ⟨H.lt, lt_eq H.f26_6 (by decide), noExt H.f26_6 (by decide) (by decide), (op_28 H.f26_6 _).trans ?_⟩
  unfold decodeLink
  rw [show fld w 2 3 = 5 from H.f2_3.trans (by omega)]
  exact row_eq (and_eq (and_eq (and_eq (z_eq H.f20_6 (by first | omega | rfl)) (z_eq H.f14_6 (by first | omega | rfl))) (z_eq H.f8_6 (by first | omega | rfl))) (z_eq H.f5_3 (by first | omega | rfl)))
    (rfl)
    (by rw [(code_eq H.f0_2 ((congrArg dirOf (by omega)).trans (dirOf_code l)) : dirOf _ = _)])

theorem lkthw (l : Dir) : Statement (.lkthw l) := by
  intro _ hwf
  have h_l := dirCode_lt l
  have H : XFields (encodeWord (.lkthw l)) _ _ _ _ _ _ :=
    encX_fields 0x28 (6 * 4 + dirCode l) 0 0 0 0 (by omega) (by omega) (by omega) (by omega) (by omega) (by omega)
  revert H; generalize encodeWord (.lkthw l) = w; intro H
  refine ⟨H.lt, lt_eq H.f26_6 (by decide), noExt H.f26_6 (by decide) (by decide), (op_28 H.f26_6 _).trans ?_⟩
  unfold decodeLink
  rw [show fld w 2 3 = 6 from H.f2_3.trans (by omega)]
  exact row_eq (and_eq (and_eq (and_eq (z_eq H.f20_6 (by first | omega | rfl)) (z_eq H.f14_6 (by first | omega | rfl))) (z_eq H.f8_6 (by first | omega | rfl))) (z_eq H.f5_3 (by first | omega | rfl)))
    (rfl)
    (by rw [(code_eq H.f0_2 ((congrArg dirOf (by omega)).trans (dirOf_code l)) : dirOf _ = _)])

theorem lkcan (d : GReg) (a : GReg) (l : Dir) : Statement (.lkcan d a l) := by
  intro _ hwf
  have h_d := d.isLt
  have h_a := a.isLt
  have h_l := dirCode_lt l
  have H : XFields (encodeWord (.lkcan d a l)) _ _ _ _ _ _ :=
    encX_fields 0x28 (7 * 4 + dirCode l) d.toNat a.toNat 0 0 (by omega) (by omega) (by omega) (by omega) (by omega) (by omega)
  revert H; generalize encodeWord (.lkcan d a l) = w; intro H
  refine ⟨H.lt, lt_eq H.f26_6 (by decide), noExt H.f26_6 (by decide) (by decide), (op_28 H.f26_6 _).trans ?_⟩
  unfold decodeLink
  rw [show fld w 2 3 = 7 from H.f2_3.trans (by omega)]
  exact row_eq (and_eq (z_eq H.f8_6 (by first | omega | rfl)) (z_eq H.f5_3 (by first | omega | rfl)))
    (rfl)
    (by rw [gr_eq d H.f20_6 (by first | omega | rfl), gr_eq a H.f14_6 (by first | omega | rfl), (code_eq H.f0_2 ((congrArg dirOf (by omega)).trans (dirOf_code l)) : dirOf _ = _)])

theorem cpy (d : GReg) (a : GReg) (b : GReg) : Statement (.cpy d a b) := by
  intro _ hwf
  have h_d := d.isLt
  have h_a := a.isLt
  have h_b := b.isLt
  have H : XFields (encodeWord (.cpy d a b)) _ _ _ _ _ _ :=
    encX_fields 0x29 0 d.toNat a.toNat b.toNat 0 (by omega) (by omega) (by omega) (by omega) (by omega) (by omega)
  revert H; generalize encodeWord (.cpy d a b) = w; intro H
  refine ⟨H.lt, lt_eq H.f26_6 (by decide), noExt H.f26_6 (by decide) (by decide), (op_29 H.f26_6 _).trans ?_⟩
  unfold decodeCopy
  rw [show fld w 0 5 = 0 from H.f0_5.trans (by omega)]
  exact row_eq (z_eq H.f5_3 (by first | omega | rfl))
    (rfl)
    (by rw [gr_eq d H.f20_6 (by first | omega | rfl), gr_eq a H.f14_6 (by first | omega | rfl), gr_eq b H.f8_6 (by first | omega | rfl)])

theorem gat (d : GReg) (a : GReg) (b : GReg) : Statement (.gat d a b) := by
  intro _ hwf
  have h_d := d.isLt
  have h_a := a.isLt
  have h_b := b.isLt
  have H : XFields (encodeWord (.gat d a b)) _ _ _ _ _ _ :=
    encX_fields 0x29 1 d.toNat a.toNat b.toNat 0 (by omega) (by omega) (by omega) (by omega) (by omega) (by omega)
  revert H; generalize encodeWord (.gat d a b) = w; intro H
  refine ⟨H.lt, lt_eq H.f26_6 (by decide), noExt H.f26_6 (by decide) (by decide), (op_29 H.f26_6 _).trans ?_⟩
  unfold decodeCopy
  rw [show fld w 0 5 = 1 from H.f0_5.trans (by omega)]
  exact row_eq (z_eq H.f5_3 (by first | omega | rfl))
    (rfl)
    (by rw [gr_eq d H.f20_6 (by first | omega | rfl), gr_eq a H.f14_6 (by first | omega | rfl), gr_eq b H.f8_6 (by first | omega | rfl)])

theorem sca (d : GReg) (a : GReg) (b : GReg) : Statement (.sca d a b) := by
  intro _ hwf
  have h_d := d.isLt
  have h_a := a.isLt
  have h_b := b.isLt
  have H : XFields (encodeWord (.sca d a b)) _ _ _ _ _ _ :=
    encX_fields 0x29 2 d.toNat a.toNat b.toNat 0 (by omega) (by omega) (by omega) (by omega) (by omega) (by omega)
  revert H; generalize encodeWord (.sca d a b) = w; intro H
  refine ⟨H.lt, lt_eq H.f26_6 (by decide), noExt H.f26_6 (by decide) (by decide), (op_29 H.f26_6 _).trans ?_⟩
  unfold decodeCopy
  rw [show fld w 0 5 = 2 from H.f0_5.trans (by omega)]
  exact row_eq (z_eq H.f5_3 (by first | omega | rfl))
    (rfl)
    (by rw [gr_eq d H.f20_6 (by first | omega | rfl), gr_eq a H.f14_6 (by first | omega | rfl), gr_eq b H.f8_6 (by first | omega | rfl)])

theorem redc (d : GReg) (a : GReg) (b : GReg) : Statement (.redc d a b) := by
  intro _ hwf
  have h_d := d.isLt
  have h_a := a.isLt
  have h_b := b.isLt
  have H : XFields (encodeWord (.redc d a b)) _ _ _ _ _ _ :=
    encX_fields 0x29 3 d.toNat a.toNat b.toNat 0 (by omega) (by omega) (by omega) (by omega) (by omega) (by omega)
  revert H; generalize encodeWord (.redc d a b) = w; intro H
  refine ⟨H.lt, lt_eq H.f26_6 (by decide), noExt H.f26_6 (by decide) (by decide), (op_29 H.f26_6 _).trans ?_⟩
  unfold decodeCopy
  rw [show fld w 0 5 = 3 from H.f0_5.trans (by omega)]
  exact row_eq (z_eq H.f5_3 (by first | omega | rfl))
    (rfl)
    (by rw [gr_eq d H.f20_6 (by first | omega | rfl), gr_eq a H.f14_6 (by first | omega | rfl), gr_eq b H.f8_6 (by first | omega | rfl)])

theorem bct (d : GReg) (a : GReg) (b : GReg) : Statement (.bct d a b) := by
  intro _ hwf
  have h_d := d.isLt
  have h_a := a.isLt
  have h_b := b.isLt
  have H : XFields (encodeWord (.bct d a b)) _ _ _ _ _ _ :=
    encX_fields 0x29 4 d.toNat a.toNat b.toNat 0 (by omega) (by omega) (by omega) (by omega) (by omega) (by omega)
  revert H; generalize encodeWord (.bct d a b) = w; intro H
  refine ⟨H.lt, lt_eq H.f26_6 (by decide), noExt H.f26_6 (by decide) (by decide), (op_29 H.f26_6 _).trans ?_⟩
  unfold decodeCopy
  rw [show fld w 0 5 = 4 from H.f0_5.trans (by omega)]
  exact row_eq (z_eq H.f5_3 (by first | omega | rfl))
    (rfl)
    (by rw [gr_eq d H.f20_6 (by first | omega | rfl), gr_eq a H.f14_6 (by first | omega | rfl), gr_eq b H.f8_6 (by first | omega | rfl)])

theorem tdset (a : GReg) (b : GReg) : Statement (.tdset a b) := by
  intro _ hwf
  have h_a := a.isLt
  have h_b := b.isLt
  have H : XFields (encodeWord (.tdset a b)) _ _ _ _ _ _ :=
    encX_fields 0x2A 0 0 a.toNat b.toNat 0 (by omega) (by omega) (by omega) (by omega) (by omega) (by omega)
  revert H; generalize encodeWord (.tdset a b) = w; intro H
  refine ⟨H.lt, lt_eq H.f26_6 (by decide), noExt H.f26_6 (by decide) (by decide), (op_2A H.f26_6 _).trans ?_⟩
  unfold decodeTensor
  rw [show fld w 0 5 = 0 from H.f0_5.trans (by omega)]
  exact row_eq (and_eq (z_eq H.f20_6 (by first | omega | rfl)) (z_eq H.f5_3 (by first | omega | rfl)))
    (rfl)
    (by rw [gr_eq a H.f14_6 (by first | omega | rfl), gr_eq b H.f8_6 (by first | omega | rfl)])

theorem tdget (d : GReg) (a : GReg) (b : GReg) : Statement (.tdget d a b) := by
  intro _ hwf
  have h_d := d.isLt
  have h_a := a.isLt
  have h_b := b.isLt
  have H : XFields (encodeWord (.tdget d a b)) _ _ _ _ _ _ :=
    encX_fields 0x2A 1 d.toNat a.toNat b.toNat 0 (by omega) (by omega) (by omega) (by omega) (by omega) (by omega)
  revert H; generalize encodeWord (.tdget d a b) = w; intro H
  refine ⟨H.lt, lt_eq H.f26_6 (by decide), noExt H.f26_6 (by decide) (by decide), (op_2A H.f26_6 _).trans ?_⟩
  unfold decodeTensor
  rw [show fld w 0 5 = 1 from H.f0_5.trans (by omega)]
  exact row_eq (z_eq H.f5_3 (by first | omega | rfl))
    (rfl)
    (by rw [gr_eq d H.f20_6 (by first | omega | rfl), gr_eq a H.f14_6 (by first | omega | rfl), gr_eq b H.f8_6 (by first | omega | rfl)])

theorem tdinv (a : GReg) : Statement (.tdinv a) := by
  intro _ hwf
  have h_a := a.isLt
  have H : XFields (encodeWord (.tdinv a)) _ _ _ _ _ _ :=
    encX_fields 0x2A 2 0 a.toNat 0 0 (by omega) (by omega) (by omega) (by omega) (by omega) (by omega)
  revert H; generalize encodeWord (.tdinv a) = w; intro H
  refine ⟨H.lt, lt_eq H.f26_6 (by decide), noExt H.f26_6 (by decide) (by decide), (op_2A H.f26_6 _).trans ?_⟩
  unfold decodeTensor
  rw [show fld w 0 5 = 2 from H.f0_5.trans (by omega)]
  exact row_eq (and_eq (and_eq (z_eq H.f20_6 (by first | omega | rfl)) (z_eq H.f8_6 (by first | omega | rfl))) (z_eq H.f5_3 (by first | omega | rfl)))
    (rfl)
    (by rw [gr_eq a H.f14_6 (by first | omega | rfl)])

theorem gmacc (a : GReg) (b : GReg) (blk : BitVec 3) : Statement (.gmacc a b blk) := by
  intro _ hwf
  have h_a := a.isLt
  have h_b := b.isLt
  have h_blk := blk.isLt
  have H : XFields (encodeWord (.gmacc a b blk)) _ _ _ _ _ _ :=
    encX_fields 0x2B 0 0 a.toNat b.toNat blk.toNat (by omega) (by omega) (by omega) (by omega) (by omega) (by omega)
  revert H; generalize encodeWord (.gmacc a b blk) = w; intro H
  refine ⟨H.lt, lt_eq H.f26_6 (by decide), noExt H.f26_6 (by decide) (by decide), (op_2B H.f26_6 _).trans ?_⟩
  unfold decodeGmu
  rw [show fld w 0 5 = 0 from H.f0_5.trans (by omega)]
  exact row_eq (z_eq H.f20_6 (by first | omega | rfl))
    (rfl)
    (by rw [gr_eq a H.f14_6 (by first | omega | rfl), gr_eq b H.f8_6 (by first | omega | rfl), ofNat_eq blk H.f5_3 (by first | omega | rfl)])

theorem gmsub (a : GReg) (b : GReg) (blk : BitVec 3) : Statement (.gmsub a b blk) := by
  intro _ hwf
  have h_a := a.isLt
  have h_b := b.isLt
  have h_blk := blk.isLt
  have H : XFields (encodeWord (.gmsub a b blk)) _ _ _ _ _ _ :=
    encX_fields 0x2B 1 0 a.toNat b.toNat blk.toNat (by omega) (by omega) (by omega) (by omega) (by omega) (by omega)
  revert H; generalize encodeWord (.gmsub a b blk) = w; intro H
  refine ⟨H.lt, lt_eq H.f26_6 (by decide), noExt H.f26_6 (by decide) (by decide), (op_2B H.f26_6 _).trans ?_⟩
  unfold decodeGmu
  rw [show fld w 0 5 = 1 from H.f0_5.trans (by omega)]
  exact row_eq (z_eq H.f20_6 (by first | omega | rfl))
    (rfl)
    (by rw [gr_eq a H.f14_6 (by first | omega | rfl), gr_eq b H.f8_6 (by first | omega | rfl), ofNat_eq blk H.f5_3 (by first | omega | rfl)])

theorem gmelim (d : GReg) (a : GReg) (b : GReg) : Statement (.gmelim d a b) := by
  intro _ hwf
  have h_d := d.isLt
  have h_a := a.isLt
  have h_b := b.isLt
  have H : XFields (encodeWord (.gmelim d a b)) _ _ _ _ _ _ :=
    encX_fields 0x2B 2 d.toNat a.toNat b.toNat 0 (by omega) (by omega) (by omega) (by omega) (by omega) (by omega)
  revert H; generalize encodeWord (.gmelim d a b) = w; intro H
  refine ⟨H.lt, lt_eq H.f26_6 (by decide), noExt H.f26_6 (by decide) (by decide), (op_2B H.f26_6 _).trans ?_⟩
  unfold decodeGmu
  rw [show fld w 0 5 = 2 from H.f0_5.trans (by omega)]
  exact row_eq (z_eq H.f5_3 (by first | omega | rfl))
    (rfl)
    (by rw [gr_eq d H.f20_6 (by first | omega | rfl), gr_eq a H.f14_6 (by first | omega | rfl), gr_eq b H.f8_6 (by first | omega | rfl)])

theorem gmdamp (a : GReg) (b : GReg) : Statement (.gmdamp a b) := by
  intro _ hwf
  have h_a := a.isLt
  have h_b := b.isLt
  have H : XFields (encodeWord (.gmdamp a b)) _ _ _ _ _ _ :=
    encX_fields 0x2B 3 0 a.toNat b.toNat 0 (by omega) (by omega) (by omega) (by omega) (by omega) (by omega)
  revert H; generalize encodeWord (.gmdamp a b) = w; intro H
  refine ⟨H.lt, lt_eq H.f26_6 (by decide), noExt H.f26_6 (by decide) (by decide), (op_2B H.f26_6 _).trans ?_⟩
  unfold decodeGmu
  rw [show fld w 0 5 = 3 from H.f0_5.trans (by omega)]
  exact row_eq (and_eq (z_eq H.f20_6 (by first | omega | rfl)) (z_eq H.f5_3 (by first | omega | rfl)))
    (rfl)
    (by rw [gr_eq a H.f14_6 (by first | omega | rfl), gr_eq b H.f8_6 (by first | omega | rfl)])

theorem gmmean (d : GReg) (a : GReg) (b : GReg) : Statement (.gmmean d a b) := by
  intro _ hwf
  have h_d := d.isLt
  have h_a := a.isLt
  have h_b := b.isLt
  have H : XFields (encodeWord (.gmmean d a b)) _ _ _ _ _ _ :=
    encX_fields 0x2B 4 d.toNat a.toNat b.toNat 0 (by omega) (by omega) (by omega) (by omega) (by omega) (by omega)
  revert H; generalize encodeWord (.gmmean d a b) = w; intro H
  refine ⟨H.lt, lt_eq H.f26_6 (by decide), noExt H.f26_6 (by decide) (by decide), (op_2B H.f26_6 _).trans ?_⟩
  unfold decodeGmu
  rw [show fld w 0 5 = 4 from H.f0_5.trans (by omega)]
  exact row_eq (z_eq H.f5_3 (by first | omega | rfl))
    (rfl)
    (by rw [gr_eq d H.f20_6 (by first | omega | rfl), gr_eq a H.f14_6 (by first | omega | rfl), gr_eq b H.f8_6 (by first | omega | rfl)])

theorem gmres (d : GReg) (a : GReg) (b : GReg) : Statement (.gmres d a b) := by
  intro _ hwf
  have h_d := d.isLt
  have h_a := a.isLt
  have h_b := b.isLt
  have H : XFields (encodeWord (.gmres d a b)) _ _ _ _ _ _ :=
    encX_fields 0x2B 5 d.toNat a.toNat b.toNat 0 (by omega) (by omega) (by omega) (by omega) (by omega) (by omega)
  revert H; generalize encodeWord (.gmres d a b) = w; intro H
  refine ⟨H.lt, lt_eq H.f26_6 (by decide), noExt H.f26_6 (by decide) (by decide), (op_2B H.f26_6 _).trans ?_⟩
  unfold decodeGmu
  rw [show fld w 0 5 = 5 from H.f0_5.trans (by omega)]
  exact row_eq (z_eq H.f5_3 (by first | omega | rfl))
    (rfl)
    (by rw [gr_eq d H.f20_6 (by first | omega | rfl), gr_eq a H.f14_6 (by first | omega | rfl), gr_eq b H.f8_6 (by first | omega | rfl)])

theorem gmsend (a : GReg) (b : GReg) : Statement (.gmsend a b) := by
  intro _ hwf
  have h_a := a.isLt
  have h_b := b.isLt
  have H : XFields (encodeWord (.gmsend a b)) _ _ _ _ _ _ :=
    encX_fields 0x2B 6 0 a.toNat b.toNat 0 (by omega) (by omega) (by omega) (by omega) (by omega) (by omega)
  revert H; generalize encodeWord (.gmsend a b) = w; intro H
  refine ⟨H.lt, lt_eq H.f26_6 (by decide), noExt H.f26_6 (by decide) (by decide), (op_2B H.f26_6 _).trans ?_⟩
  unfold decodeGmu
  rw [show fld w 0 5 = 6 from H.f0_5.trans (by omega)]
  exact row_eq (and_eq (z_eq H.f20_6 (by first | omega | rfl)) (z_eq H.f5_3 (by first | omega | rfl)))
    (rfl)
    (by rw [gr_eq a H.f14_6 (by first | omega | rfl), gr_eq b H.f8_6 (by first | omega | rfl)])

theorem gmcpy (a : GReg) (b : GReg) : Statement (.gmcpy a b) := by
  intro _ hwf
  have h_a := a.isLt
  have h_b := b.isLt
  have H : XFields (encodeWord (.gmcpy a b)) _ _ _ _ _ _ :=
    encX_fields 0x2B 7 0 a.toNat b.toNat 0 (by omega) (by omega) (by omega) (by omega) (by omega) (by omega)
  revert H; generalize encodeWord (.gmcpy a b) = w; intro H
  refine ⟨H.lt, lt_eq H.f26_6 (by decide), noExt H.f26_6 (by decide) (by decide), (op_2B H.f26_6 _).trans ?_⟩
  unfold decodeGmu
  rw [show fld w 0 5 = 7 from H.f0_5.trans (by omega)]
  exact row_eq (and_eq (z_eq H.f20_6 (by first | omega | rfl)) (z_eq H.f5_3 (by first | omega | rfl)))
    (rfl)
    (by rw [gr_eq a H.f14_6 (by first | omega | rfl), gr_eq b H.f8_6 (by first | omega | rfl)])

theorem tlbw (t : GReg) (a : GReg) (b : GReg) (ea : Bool) (eb : Bool) : Statement (.tlbw t a b ea eb) := by
  intro _ hwf
  have h_t := t.isLt
  have h_a := a.isLt
  have h_b := b.isLt
  have H : TFields (encodeWord (.tlbw t a b ea eb)) _ _ _ _ _ _ _ :=
    encT_fields 0x2C 0 t.toNat a.toNat b.toNat ea eb (by omega) (by omega) (by omega) (by omega) (by omega)
  revert H; generalize encodeWord (.tlbw t a b ea eb) = w; intro H
  refine ⟨H.lt, lt_eq H.f26_6 (by decide), noExt H.f26_6 (by decide) (by decide), (op_2C H.f26_6 _).trans ?_⟩
  unfold decodeSystem
  rw [show fld w 0 6 = 0 from H.f0_6.trans (by omega)]
  exact row_eq (rfl)
    (rfl)
    (by rw [gr_eq t H.f20_6 (by first | omega | rfl), gr_eq a H.f14_6 (by first | omega | rfl), gr_eq b H.f8_6 (by first | omega | rfl), H.b7, H.b6])

theorem tlbi (a : GReg) (b : GReg) (ea : Bool) (eb : Bool) : Statement (.tlbi a b ea eb) := by
  intro _ hwf
  have h_a := a.isLt
  have h_b := b.isLt
  have H : TFields (encodeWord (.tlbi a b ea eb)) _ _ _ _ _ _ _ :=
    encT_fields 0x2C 1 0 a.toNat b.toNat ea eb (by omega) (by omega) (by omega) (by omega) (by omega)
  revert H; generalize encodeWord (.tlbi a b ea eb) = w; intro H
  refine ⟨H.lt, lt_eq H.f26_6 (by decide), noExt H.f26_6 (by decide) (by decide), (op_2C H.f26_6 _).trans ?_⟩
  unfold decodeSystem
  rw [show fld w 0 6 = 1 from H.f0_6.trans (by omega)]
  exact row_eq (z_eq H.f20_6 (by first | omega | rfl))
    (rfl)
    (by rw [gr_eq a H.f14_6 (by first | omega | rfl), gr_eq b H.f8_6 (by first | omega | rfl), H.b7, H.b6])

theorem fres (a : GReg) (b : GReg) (ea : Bool) (eb : Bool) : Statement (.fres a b ea eb) := by
  intro _ hwf
  have h_a := a.isLt
  have h_b := b.isLt
  have H : TFields (encodeWord (.fres a b ea eb)) _ _ _ _ _ _ _ :=
    encT_fields 0x2C 2 0 a.toNat b.toNat ea eb (by omega) (by omega) (by omega) (by omega) (by omega)
  revert H; generalize encodeWord (.fres a b ea eb) = w; intro H
  refine ⟨H.lt, lt_eq H.f26_6 (by decide), noExt H.f26_6 (by decide) (by decide), (op_2C H.f26_6 _).trans ?_⟩
  unfold decodeSystem
  rw [show fld w 0 6 = 2 from H.f0_6.trans (by omega)]
  exact row_eq (z_eq H.f20_6 (by first | omega | rfl))
    (rfl)
    (by rw [gr_eq a H.f14_6 (by first | omega | rfl), gr_eq b H.f8_6 (by first | omega | rfl), H.b7, H.b6])

theorem ctxs (a : GReg) (ea : Bool) : Statement (.ctxs a ea) := by
  intro _ hwf
  have h_a := a.isLt
  have H : TFields (encodeWord (.ctxs a ea)) _ _ _ _ _ _ _ :=
    encT_fields 0x2C 3 0 a.toNat 0 ea false (by omega) (by omega) (by omega) (by omega) (by omega)
  revert H; generalize encodeWord (.ctxs a ea) = w; intro H
  refine ⟨H.lt, lt_eq H.f26_6 (by decide), noExt H.f26_6 (by decide) (by decide), (op_2C H.f26_6 _).trans ?_⟩
  unfold decodeSystem
  rw [show fld w 0 6 = 3 from H.f0_6.trans (by omega)]
  exact row_eq (and_eq (and_eq (z_eq H.f20_6 (by first | omega | rfl)) (z_eq H.f8_6 (by first | omega | rfl))) (z_eq H.f6_1 (by first | omega | rfl)))
    (rfl)
    (by rw [gr_eq a H.f14_6 (by first | omega | rfl), H.b7])

theorem ctxl (a : GReg) (ea : Bool) : Statement (.ctxl a ea) := by
  intro _ hwf
  have h_a := a.isLt
  have H : TFields (encodeWord (.ctxl a ea)) _ _ _ _ _ _ _ :=
    encT_fields 0x2C 4 0 a.toNat 0 ea false (by omega) (by omega) (by omega) (by omega) (by omega)
  revert H; generalize encodeWord (.ctxl a ea) = w; intro H
  refine ⟨H.lt, lt_eq H.f26_6 (by decide), noExt H.f26_6 (by decide) (by decide), (op_2C H.f26_6 _).trans ?_⟩
  unfold decodeSystem
  rw [show fld w 0 6 = 4 from H.f0_6.trans (by omega)]
  exact row_eq (and_eq (and_eq (z_eq H.f20_6 (by first | omega | rfl)) (z_eq H.f8_6 (by first | omega | rfl))) (z_eq H.f6_1 (by first | omega | rfl)))
    (rfl)
    (by rw [gr_eq a H.f14_6 (by first | omega | rfl), H.b7])

theorem wtab (a : GReg) (b : GReg) (ea : Bool) (eb : Bool) : Statement (.wtab a b ea eb) := by
  intro _ hwf
  have h_a := a.isLt
  have h_b := b.isLt
  have H : TFields (encodeWord (.wtab a b ea eb)) _ _ _ _ _ _ _ :=
    encT_fields 0x2C 5 0 a.toNat b.toNat ea eb (by omega) (by omega) (by omega) (by omega) (by omega)
  revert H; generalize encodeWord (.wtab a b ea eb) = w; intro H
  refine ⟨H.lt, lt_eq H.f26_6 (by decide), noExt H.f26_6 (by decide) (by decide), (op_2C H.f26_6 _).trans ?_⟩
  unfold decodeSystem
  rw [show fld w 0 6 = 5 from H.f0_6.trans (by omega)]
  exact row_eq (z_eq H.f20_6 (by first | omega | rfl))
    (rfl)
    (by rw [gr_eq a H.f14_6 (by first | omega | rfl), gr_eq b H.f8_6 (by first | omega | rfl), H.b7, H.b6])

theorem wclose (a : GReg) (ea : Bool) : Statement (.wclose a ea) := by
  intro _ hwf
  have h_a := a.isLt
  have H : TFields (encodeWord (.wclose a ea)) _ _ _ _ _ _ _ :=
    encT_fields 0x2C 6 0 a.toNat 0 ea false (by omega) (by omega) (by omega) (by omega) (by omega)
  revert H; generalize encodeWord (.wclose a ea) = w; intro H
  refine ⟨H.lt, lt_eq H.f26_6 (by decide), noExt H.f26_6 (by decide) (by decide), (op_2C H.f26_6 _).trans ?_⟩
  unfold decodeSystem
  rw [show fld w 0 6 = 6 from H.f0_6.trans (by omega)]
  exact row_eq (and_eq (and_eq (z_eq H.f20_6 (by first | omega | rfl)) (z_eq H.f8_6 (by first | omega | rfl))) (z_eq H.f6_1 (by first | omega | rfl)))
    (rfl)
    (by rw [gr_eq a H.f14_6 (by first | omega | rfl), H.b7])

theorem wopen (a : GReg) (ea : Bool) : Statement (.wopen a ea) := by
  intro _ hwf
  have h_a := a.isLt
  have H : TFields (encodeWord (.wopen a ea)) _ _ _ _ _ _ _ :=
    encT_fields 0x2C 7 0 a.toNat 0 ea false (by omega) (by omega) (by omega) (by omega) (by omega)
  revert H; generalize encodeWord (.wopen a ea) = w; intro H
  refine ⟨H.lt, lt_eq H.f26_6 (by decide), noExt H.f26_6 (by decide) (by decide), (op_2C H.f26_6 _).trans ?_⟩
  unfold decodeSystem
  rw [show fld w 0 6 = 7 from H.f0_6.trans (by omega)]
  exact row_eq (and_eq (and_eq (z_eq H.f20_6 (by first | omega | rfl)) (z_eq H.f8_6 (by first | omega | rfl))) (z_eq H.f6_1 (by first | omega | rfl)))
    (rfl)
    (by rw [gr_eq a H.f14_6 (by first | omega | rfl), H.b7])

theorem rmap (a : GReg) (b : GReg) (ea : Bool) (eb : Bool) : Statement (.rmap a b ea eb) := by
  intro _ hwf
  have h_a := a.isLt
  have h_b := b.isLt
  have H : TFields (encodeWord (.rmap a b ea eb)) _ _ _ _ _ _ _ :=
    encT_fields 0x2C 8 0 a.toNat b.toNat ea eb (by omega) (by omega) (by omega) (by omega) (by omega)
  revert H; generalize encodeWord (.rmap a b ea eb) = w; intro H
  refine ⟨H.lt, lt_eq H.f26_6 (by decide), noExt H.f26_6 (by decide) (by decide), (op_2C H.f26_6 _).trans ?_⟩
  unfold decodeSystem
  rw [show fld w 0 6 = 8 from H.f0_6.trans (by omega)]
  exact row_eq (z_eq H.f20_6 (by first | omega | rfl))
    (rfl)
    (by rw [gr_eq a H.f14_6 (by first | omega | rfl), gr_eq b H.f8_6 (by first | omega | rfl), H.b7, H.b6])

theorem evac (a : GReg) (b : GReg) (ea : Bool) (eb : Bool) : Statement (.evac a b ea eb) := by
  intro _ hwf
  have h_a := a.isLt
  have h_b := b.isLt
  have H : TFields (encodeWord (.evac a b ea eb)) _ _ _ _ _ _ _ :=
    encT_fields 0x2C 9 0 a.toNat b.toNat ea eb (by omega) (by omega) (by omega) (by omega) (by omega)
  revert H; generalize encodeWord (.evac a b ea eb) = w; intro H
  refine ⟨H.lt, lt_eq H.f26_6 (by decide), noExt H.f26_6 (by decide) (by decide), (op_2C H.f26_6 _).trans ?_⟩
  unfold decodeSystem
  rw [show fld w 0 6 = 9 from H.f0_6.trans (by omega)]
  exact row_eq (z_eq H.f20_6 (by first | omega | rfl))
    (rfl)
    (by rw [gr_eq a H.f14_6 (by first | omega | rfl), gr_eq b H.f8_6 (by first | omega | rfl), H.b7, H.b6])

theorem getc (d : GReg) (n : BitVec 13) : Statement (.getc d n) := by
  intro _ hwf
  have h_d := d.isLt
  have h_n := n.isLt
  have H : IFields (encodeWord (.getc d n)) _ _ _ _ _ :=
    encI_fields 0x2D d.toNat 0 false n.toNat (by omega) (by omega) (by omega) (by omega)
  revert H; generalize encodeWord (.getc d n) = w; intro H
  refine ⟨H.lt, lt_eq H.f26_6 (by decide), noExt H.f26_6 (by decide) (by decide), (op_2D H.f26_6 _).trans ?_⟩
  unfold decodeGetc
  exact row_eq (and_eq (z_eq H.f14_6 (by first | omega | rfl)) (z_eq H.f13_1 (by first | omega | rfl)))
    (rfl)
    (by rw [gr_eq d H.f20_6 (by first | omega | rfl), ofNat_eq n H.f0_13 (by first | omega | rfl)])

theorem setc (a : GReg) (ea : Bool) (n : BitVec 13) : Statement (.setc a ea n) := by
  intro _ hwf
  have h_a := a.isLt
  have h_n := n.isLt
  have H : IFields (encodeWord (.setc a ea n)) _ _ _ _ _ :=
    encI_fields 0x2E 0 a.toNat ea n.toNat (by omega) (by omega) (by omega) (by omega)
  revert H; generalize encodeWord (.setc a ea n) = w; intro H
  refine ⟨H.lt, lt_eq H.f26_6 (by decide), noExt H.f26_6 (by decide) (by decide), (op_2E H.f26_6 _).trans ?_⟩
  unfold decodeSetc
  exact row_eq (z_eq H.f20_6 (by first | omega | rfl))
    (rfl)
    (by rw [gr_eq a H.f14_6 (by first | omega | rfl), H.b13, ofNat_eq n H.f0_13 (by first | omega | rfl)])

theorem smrReissue (core : Nat) (slot : Nat) (value : Word) : Statement (.smrReissue core slot value) := fun h => by cases h

theorem fmthAdmit (core : Nat) : Statement (.fmthAdmit core) := fun h => by cases h

theorem fmthRefuse (core : Nat) : Statement (.fmthRefuse core) := fun h => by cases h

theorem tprdWrite (n : Nat) (value : BitVec 16) : Statement (.tprdWrite n value) := fun h => by cases h

theorem alstClear (value : Word) : Statement (.alstClear value) := fun h => by cases h

theorem cmaskWrite (core : Nat) (value : Word) : Statement (.cmaskWrite core value) := fun h => by cases h

theorem iclWrite (n : Nat) (value : Nat) : Statement (.iclWrite n value) := fun h => by cases h

theorem pceilWrite (value : Nat) : Statement (.pceilWrite value) := fun h => by cases h

theorem counterWrite (core : Nat) (n : Nat) (value : Word) : Statement (.counterWrite core n value) := fun h => by cases h

theorem taskStart (core : Nat) (lvl : Nat) : Statement (.taskStart core lvl) := fun h => by cases h

theorem l0HandlerStart (core : Nat) : Statement (.l0HandlerStart core) := fun h => by cases h

theorem deferredTrapDelivery (core : Nat) (slot : Nat) : Statement (.deferredTrapDelivery core slot) := fun h => by cases h

theorem spillRefill (core : Nat) (lvl : Nat) : Statement (.spillRefill core lvl) := fun h => by cases h

theorem antiStarvationTurn (core : Nat) : Statement (.antiStarvationTurn core) := fun h => by cases h

theorem fetchDutyWindow (core : Nat) : Statement (.fetchDutyWindow core) := fun h => by cases h

theorem stealRound (core : Nat) : Statement (.stealRound core) := fun h => by cases h

theorem stealRequest (thief : Nat) (victim : Nat) : Statement (.stealRequest thief victim) := fun h => by cases h

theorem stagePop (core : Nat) : Statement (.stagePop core) := fun h => by cases h

theorem governorWindow (cluster : Nat) : Statement (.governorWindow cluster) := fun h => by cases h

theorem swapQuantum (cluster : Nat) : Statement (.swapQuantum cluster) := fun h => by cases h

theorem teamSwapOut (team : Nat) : Statement (.teamSwapOut team) := fun h => by cases h

theorem teamSwapIn (team : Nat) : Statement (.teamSwapIn team) := fun h => by cases h

theorem watchWake (core : Nat) (line : Nat) : Statement (.watchWake core line) := fun h => by cases h

theorem waitaTimeout (id : Nat) : Statement (.waitaTimeout id) := fun h => by cases h

theorem parkTimeout (id : Nat) : Statement (.parkTimeout id) := fun h => by cases h

theorem registerFill (id : Nat) : Statement (.registerFill id) := fun h => by cases h

theorem remoteAccessAtHome (id : Nat) : Statement (.remoteAccessAtHome id) := fun h => by cases h

theorem releaseRetry (id : Nat) : Statement (.releaseRetry id) := fun h => by cases h

theorem commitToken (id : Nat) : Statement (.commitToken id) := fun h => by cases h

theorem releaseWithdraw (id : Nat) : Statement (.releaseWithdraw id) := fun h => by cases h

theorem scopeMissReturn (id : Nat) : Statement (.scopeMissReturn id) := fun h => by cases h

theorem refusalReturn (id : Nat) : Statement (.refusalReturn id) := fun h => by cases h

theorem tlbMissMessage (core : Nat) (slot : Nat) (ans : WalkAnswer) : Statement (.tlbMissMessage core slot ans) := fun h => by cases h

theorem packetHeadRouting (id : Nat) : Statement (.packetHeadRouting id) := fun h => by cases h

theorem messageArrival (id : Nat) : Statement (.messageArrival id) := fun h => by cases h

theorem gmRecordArrival (id : Nat) : Statement (.gmRecordArrival id) := fun h => by cases h

theorem heldAlertRetry (n : Nat) : Statement (.heldAlertRetry n) := fun h => by cases h

theorem enginePairing (e : Nat) : Statement (.enginePairing e) := fun h => by cases h

theorem jobStart (e : Nat) : Statement (.jobStart e) := fun h => by cases h

theorem beatPull (e : Nat) : Statement (.beatPull e) := fun h => by cases h

theorem rowSend (e : Nat) : Statement (.rowSend e) := fun h => by cases h

theorem resultPacketArrival (id : Nat) : Statement (.resultPacketArrival id) := fun h => by cases h

theorem streamRowDelivery (e : Nat) : Statement (.streamRowDelivery e) := fun h => by cases h

theorem tileEndArrival (e : Nat) : Statement (.tileEndArrival e) := fun h => by cases h

theorem engwaitTimeout (core : Nat) (slot : Nat) : Statement (.engwaitTimeout core slot) := fun h => by cases h

theorem swapxTimeout (core : Nat) (slot : Nat) : Statement (.swapxTimeout core slot) := fun h => by cases h

theorem copyJobStart (cluster : Nat) : Statement (.copyJobStart cluster) := fun h => by cases h

theorem copyUnit (cluster : Nat) (job : Nat) (ans : WalkAnswer) : Statement (.copyUnit cluster job ans) := fun h => by cases h

theorem bctArrival (id : Nat) : Statement (.bctArrival id) := fun h => by cases h

theorem gmuRequestStart (core : Nat) : Statement (.gmuRequestStart core) := fun h => by cases h

theorem gmuRequestComplete (core : Nat) : Statement (.gmuRequestComplete core) := fun h => by cases h

theorem budgetPeriod (nonCore : Nat) (energy : List (Nat × Nat)) : Statement (.budgetPeriod nonCore energy) := fun h => by cases h

theorem monitorSample (power : BitVec 16) (current : BitVec 16) : Statement (.monitorSample power current) := fun h => by cases h

theorem sensorSample (temps : List (BitVec 16)) : Statement (.sensorSample temps) := fun h => by cases h

theorem stateRequest (value : Word) : Statement (.stateRequest value) := fun h => by cases h

theorem transitionStart : Statement .transitionStart := fun h => by cases h

theorem islandStepDown (island : Nat) : Statement (.islandStepDown island) := fun h => by cases h

theorem diePark (d : Nat) : Statement (.diePark d) := fun h => by cases h

theorem dieUnpark (d : Nat) : Statement (.dieUnpark d) := fun h => by cases h

theorem sqDoorbell (q : Nat) (tail : Nat) : Statement (.sqDoorbell q tail) := fun h => by cases h

theorem launchRecord (q : Nat) : Statement (.launchRecord q) := fun h => by cases h

theorem createContextRecord (q : TakenRecord) : Statement (.createContextRecord q) := fun h => by cases h

theorem destroyContextRecord (q : Nat) : Statement (.destroyContextRecord q) := fun h => by cases h

theorem checkpointRecord (q : Nat) : Statement (.checkpointRecord q) := fun h => by cases h

theorem checkpointStream : Statement .checkpointStream := fun h => by cases h

theorem launchCompletion (ctx : Nat) : Statement (.launchCompletion ctx) := fun h => by cases h

theorem watchdogExpiry (launch : Nat) : Statement (.watchdogExpiry launch) := fun h => by cases h

theorem cqHeadWrite (q : Nat) (head : Nat) : Statement (.cqHeadWrite q head) := fun h => by cases h

theorem faultConsumerIndex (index : Nat) : Statement (.faultConsumerIndex index) := fun h => by cases h

theorem resolutionWord (seq : BitVec 32) : Statement (.resolutionWord seq) := fun h => by cases h

theorem attestationRequest (word : Nat) (value : Word) : Statement (.attestationRequest word value) := fun h => by cases h

theorem recoveryRequest (image : Word) (verified : Bool) : Statement (.recoveryRequest image verified) := fun h => by cases h

theorem hostMemoryAccess (pa : Nat) (bytes : Nat) (acc : HostAccess) : Statement (.hostMemoryAccess pa bytes acc) := fun h => by cases h

theorem powerOn (verified : Bool) (modnum : BitVec 14) : Statement (.powerOn verified modnum) := fun h => by cases h

theorem remoteAccessTimeout (id : Nat) : Statement (.remoteAccessTimeout id) := fun h => by cases h

theorem flitArrival (link : Nat) (seq : Nat) (crcOk : Bool) : Statement (.flitArrival link seq crcOk) := fun h => by cases h

theorem flitAck (link : Nat) (seq : Nat) : Statement (.flitAck link seq) := fun h => by cases h

theorem flitNak (link : Nat) (seq : Nat) (windowError : Bool) : Statement (.flitNak link seq windowError) := fun h => by cases h

theorem replayRequest (link : Nat) (pkt : Nat) (routeLeft : Bool) : Statement (.replayRequest link pkt routeLeft) := fun h => by cases h

theorem endToEndAck (link : Nat) (seq : Nat) : Statement (.endToEndAck link seq) := fun h => by cases h

theorem controlSpaceTaskStart (core : Nat) (pc : Word) (frame : Word) (allot : Nat) : Statement (.controlSpaceTaskStart core pc frame allot) := fun h => by cases h

theorem coreRestart (core : Nat) : Statement (.coreRestart core) := fun h => by cases h

theorem stageConfigStore (core : Nat) (slot : Nat) (cluster : Nat) (off : Nat) (value : Word) : Statement (.stageConfigStore core slot cluster off value) := fun h => by cases h

theorem routeTableWrite (router : Nat) (cls : Nat) (value : BitVec 16) : Statement (.routeTableWrite router cls value) := fun h => by cases h

theorem psTableWrite (state : Nat) (mask : BitVec 8) : Statement (.psTableWrite state mask) := fun h => by cases h

theorem permissionTableWrite (ctx : Nat) (idx : Nat) (w0 : Word) (w1 : Word) : Statement (.permissionTableWrite ctx idx w0 w1) := fun h => by cases h

theorem floorWrite (core : Nat) (w : Nat) (a : Nat) (c : Nat) : Statement (.floorWrite core w a c) := fun h => by cases h

theorem encodingError (reason : Nat) (addr : Word) (word : IWord) : Statement (.encodingError reason addr word) := fun h => by cases h

theorem queueConfigurationWrite (q : Nat) (word : Nat) (value : Word) : Statement (.queueConfigurationWrite q word value) := fun h => by cases h

theorem modeChange (m : Nat) : Statement (.modeChange m) := fun h => by cases h

theorem podBarrierArrival (job : Nat) (module : Nat) : Statement (.podBarrierArrival job module) := fun h => by cases h

theorem firmwareGridStart (entry : Word) (args : Word) (allot : Nat) (threads : GridShape) : Statement (.firmwareGridStart entry args allot threads) := fun h => by cases h

theorem contextAbortEnd (ctx : Nat) : Statement (.contextAbortEnd ctx) := fun h => by cases h

theorem darkroomAbortRequest (core : Nat) (slot : Nat) : Statement (.darkroomAbortRequest core slot) := fun h => by cases h

end Sys2Proof.Laws.RoundTrip
end

