-- ==== Sys2Proof/Tests/Slice0.lean ====
section
/-! SUPPORT. Tests. Words are written from the encoding tables of 12_encoding and from the worked examples of 13_isa_scalar to
16_isa_engines_system; results from the examples and the pseudocode of the rules. For every statement with hypotheses, a named theorem
shows a state and operands that meet them, clause by clause. -/

namespace Sys2Proof.Tests

set_option maxRecDepth 20000
set_option Elab.async false

open Sys2Proof.Machine Sys2Proof.Safety Sys2Proof.Claims

/-! ### Small states -/

/-- Registers with these `g` values. -/
def regsOf (g : List (Nat × Word)) : Regs := { Regs.reset with g := g }

/-- The start of a buffer in the self region (R99): 1 W, 2 A, 3 C. -/
def vaOf (b o : Nat) : Word := BitVec.ofNat 64 (0xFFFFFFFFFFF00000 + (if b = 1 then 0 else if b = 2 then 0x20000 else 0x30000) + o)

/-- A work of context 1 with these registers and four steps. -/
def workOf (g : List (Nat × Word)) : Work :=
  { Work.reset with id := 7, lvl := 3, pc := 0x1000, regs := regsOf g, ctl := { Ctl.reset with allot := 4, ctx := 1 } }

/-- Core `c` about to issue from slot `n`, which runs a work; context 1 owns cluster 0. -/
def issuing (c n : Nat) (w : Work) (k : Core) : State :=
  { State.reset with
    cores := [(c, { k with slots := [(n, { Slot.reset with busy := true, w := w })] })]
    clusters := [(0, { Cluster.reset with owner := some 1 })]
    cur := { core := c, slot := n, pc := 0x1000, len := 1, mod := none }
    nextId := 100 }

/-- A task in slot 6 of core 0. -/
def task (g : List (Nat × Word)) : State := issuing 0 6 (workOf g) Core.reset

/-- A team thread in slot 6 of core 0. -/
def thread (g : List (Nat × Word)) : State := issuing 0 6 { workOf g with thread := true, team := some 1 } Core.reset

/-- A task of firmware in slot 0 of a core. -/
def firmware (c : Nat) (g : List (Nat × Word)) : State :=
  issuing c 0 { workOf g with lvl := 0, ctl := { Ctl.reset with allot := 4, fw := true } } Core.reset

/-- A `g` register of the issuing slot after an instruction. -/
def gives (i : Instr) (s : State) (r : Nat) : Option Word :=
  match exec i s with
  | .next t => some (t.me.regs.getG r)
  | _ => none

/-- A predicate of the issuing slot after an instruction. -/
def givesP (i : Instr) (s : State) (r : Nat) : Option Bool :=
  match exec i s with
  | .next t => some (t.me.regs.getP r)
  | _ => none

/-- A `v` register of the issuing slot after an instruction. -/
def givesV (i : Instr) (s : State) (r : Nat) : Option Vec :=
  match exec i s with
  | .next t => some (t.me.regs.getV r)
  | _ => none

/-- The PC of the issuing slot after an instruction. -/
def goesTo (i : Instr) (s : State) : Option Word :=
  match exec i s with
  | .next t => some t.me.pc
  | _ => none

/-- ECAUSE, EADDR and EINFO of the event that an instruction leaves last on its core's queue. -/
def traps (i : Instr) (s : State) : Option (Word × Word × Word) :=
  match exec i s with
  | .next t => t.myCore.events.getLast?.map (fun e => (e.ecause, e.eaddr, e.einfo))
  | _ => none

/-- Bytes of a place after an instruction, as a number. -/
def holds (i : Instr) (s : State) (l : Loc) (n : Nat) : Option Nat :=
  match exec i s with
  | .next t => some (t.readNat l n)
  | _ => none

theorem canTrap_of {s : State} (h : s.curSlot.waiting = [] ∧ ¬(s.cur.slot < 2 ∧ (s.slot s.cur.core (1 - s.cur.slot)).frozen = true) ∧
    ¬((s.slot s.cur.core 0).frozen = true ∧ (s.slot s.cur.core 1).frozen = true) ∧
    s.myCore.evSpilled = 0 ∧ s.myCore.events.length < 16) : CanTrap s := ⟨h.1, h.2.1, h.2.2.1, h.2.2.2⟩

/-! ### Scalar members (R267 to R275) -/

/-- A task with -7 in `g2`, 2 in `g3`, -2^63 in `g4`, -1 in `g5` and 40 in `g6`. -/
def sc : State := task [(2, 0xFFFFFFFFFFFFFFF9), (3, 2), (4, 0x8000000000000000), (5, 0xFFFFFFFFFFFFFFFF), (6, 40)]

theorem test_add_wraps : gives (.add 1 5 3 false false) sc 1 = some 1 := by decide +kernel
theorem test_sub : gives (.sub 1 3 2 false false) sc 1 = some 9 := by decide +kernel
/-- R268's example: -7 by 2. -/
theorem test_divS : gives (.divS 1 2 3 false false) sc 1 = some 0xFFFFFFFFFFFFFFFD := by decide +kernel
theorem test_remS : gives (.remS 1 2 3 false false) sc 1 = some 0xFFFFFFFFFFFFFFFF := by decide +kernel
theorem test_divZ : gives (.divZ 1 2 3 false false) sc 1 = some 0x7FFFFFFFFFFFFFFC := by decide +kernel
theorem test_remS_overflow : gives (.remS 1 4 5 false false) sc 1 = some 0 := by decide +kernel
theorem test_div_zero_traps : traps (.divS 0 2 7 false false) sc = some (0x17, 0, 0) := by decide +kernel
theorem test_mulhS : gives (.mulhS 1 2 3 false false) sc 1 = some 0xFFFFFFFFFFFFFFFF := by decide +kernel
theorem test_mulhZ : gives (.mulhZ 1 2 3 false false) sc 1 = some 1 := by decide +kernel
theorem test_sar : gives (.sar 1 4 6 false false) sc 1 = some 0xFFFFFFFFFF800000 := by decide +kernel
theorem test_rol : gives (.rol 1 4 3 false false) sc 1 = some 2 := by decide +kernel
theorem test_minS : gives (.minS 1 2 3 false false) sc 1 = some 0xFFFFFFFFFFFFFFF9 := by decide +kernel
theorem test_maxZ : gives (.maxZ 1 2 3 false false) sc 1 = some 0xFFFFFFFFFFFFFFF9 := by decide +kernel
theorem test_clz_of_zero : gives (.clz 1 7 false) sc 1 = some 64 := by decide +kernel
theorem test_bswap : gives (.bswap 1 3 false) sc 1 = some 0x0200000000000000 := by decide +kernel
theorem test_addi_sign : gives (.addi 1 3 false 0x1FFF) sc 1 = some 1 := by decide +kernel
theorem test_lih_keeps_low : gives (.lih 2 0x12345678) sc 2 = some 0x12345678FFFFFFF9 := by decide +kernel
theorem test_bextS : gives (.bextS 1 6 false 3 2) sc 1 = some 0xFFFFFFFFFFFFFFFD := by decide +kernel
theorem test_bins_reads_d : gives (.bins 5 3 false 8 7) sc 5 = some 0xFFFFFFFFFFFF02FF := by decide +kernel
theorem test_g0_discards : gives (.add 0 2 3 false false) sc 0 = some 0 := by decide +kernel
theorem test_cmp_signed : givesP (.cmp 1 2 3 false false .ltS) sc 1 = some true := by decide +kernel
theorem test_cmp_unsigned : givesP (.cmp 1 2 3 false false .ltZ) sc 1 = some false := by decide +kernel
theorem test_pput_keeps : (match exec (.pput 5 3 false false) sc with | .next t => some t.me.regs.p | _ => none) = some 3 := by decide +kernel
theorem test_regbound : traps (.add 1 2 3 false false)
    (issuing 0 6 { workOf [] with ctl := { Ctl.reset with allot := 1 } } Core.reset) = none := by decide +kernel
theorem test_regbound_above : traps (.add 16 2 3 false false)
    (issuing 0 6 { workOf [] with ctl := { Ctl.reset with allot := 1 } } Core.reset) = some (2, 0, 0) := by decide +kernel
theorem test_empty_source_traps : traps (.add 1 2 3 true false)
    (issuing 0 6 { workOf [] with regs := { Regs.reset with ge := [(2, true)] } } Core.reset) = some (3, 0, 2) := by decide +kernel

theorem wit_ScalarResults : ∃ P, Scalar sc (.bins 1 2 false 63 0) 1 P ∧ (Instr.bins 1 2 false 63 0).wellFormed = true ∧
    Ready (.bins 1 2 false 63 0) sc := by
  refine ⟨_, .bins .., ?_, enter_ready ?_⟩ <;> decide +kernel
theorem wit_PredicateResults : (∃ P, Pred sc (.cmp 0 2 3 false false .tst) 0 P ∧ Ready (.cmp 0 2 3 false false .tst) sc) ∧
    Ready (.pput 2 3 false false) sc := by
  refine ⟨⟨_, .cmp .., enter_ready ?_⟩, enter_ready ?_⟩ <;> decide +kernel
theorem wit_DivisionRule : (∃ P, Division sc (.divS 1 4 5 false false) 1 5 P ∧ Ready (.divS 1 4 5 false false) sc ∧ sc.g 5 ≠ 0) ∧
    (∃ P, Division sc (.remZ 0 2 7 false false) 0 7 P ∧ Ready (.remZ 0 2 7 false false) sc ∧ CanTrap sc ∧ sc.g 7 = 0) := by
  refine ⟨⟨_, .divS .., enter_ready ?_, ?_⟩, ⟨_, .remZ .., enter_ready ?_, canTrap_of ?_, ?_⟩⟩ <;> decide +kernel
theorem wit_DivisionRule_mulh : (Ready (.mulhS 1 2 3 false false) (task [(2, BitVec.ofInt 64 (-1)), (3, 1)]) ∧
      (task [(2, BitVec.ofInt 64 (-1)), (3, 1)]).g 2 = BitVec.ofInt 64 (-1) ∧ (task [(2, BitVec.ofInt 64 (-1)), (3, 1)]).g 3 = 1) ∧
    (Ready (.mulhZ 1 2 3 false false) (task [(2, wordOf (2 ^ 63)), (3, 4)]) ∧ (task [(2, wordOf (2 ^ 63)), (3, 4)]).g 2 = wordOf (2 ^ 63) ∧
      (task [(2, wordOf (2 ^ 63)), (3, 4)]).g 3 = 4) := by
  refine ⟨⟨enter_ready ?_, ?_, ?_⟩, ⟨enter_ready ?_, ?_, ?_⟩⟩ <;> decide +kernel

/-! ### Transfers and the control group (R276 to R288) -/

theorem test_br_back : goesTo (.br 0 false 0x3FFFFF) sc = some 0xFFC := by decide +kernel
theorem test_br_untaken : goesTo (.br 0 true 5) sc = some 0x1004 := by decide +kernel
theorem test_call_link : gives (.call 0x40) sc 15 = some 0x1004 := by decide +kernel
theorem test_jr_clears_low : goesTo (.jr 3 false) (task [(3, 0x2003)]) = some 0x2000 := by decide +kernel
theorem test_jalr_reads_first : goesTo (.jalr 3 3 false) (task [(3, 0x2000)]) = some 0x2000 := by decide +kernel
theorem test_trap_code : traps (.trap 5) sc = some (0xD, 0, 5) := by decide +kernel
theorem test_brk : traps .brk sc = some (0xD, 0, 64) := by decide +kernel
theorem test_eret_user : traps (.eret 2 false) sc = some (0x15, 0, 0) := by decide +kernel

theorem wit_TransferRules : ∃ pc, Transfer sc (.br 1 true 0x200000) pc none ∧ Ready (.br 1 true 0x200000) sc := by
  refine ⟨_, .br .., enter_ready ?_⟩ <;> decide +kernel

/-- A handler in slot 0 for a trap of slot 6 of the same core, with `eret`'s operand in `g2`. -/
def handler (op : Word) : State :=
  let s := issuing 0 0 { workOf [(2, op)] with lvl := 0, events := true, ctl := { Ctl.reset with allot := 1, ctx := 1, eslot := 6, epc := 0x2000 } } Core.reset
  s.modCore 0 (fun k => { k with slots := k.slots ++ [(6, { Slot.reset with busy := true, frozen := true, len := 2, w := { workOf [] with pc := 0x2000 } })] })

theorem test_eret_skips : (match exec (.eret 2 false) (handler 0x16) with | .next t => some ((t.slot 0 6).w.pc, (t.slot 0 6).frozen) | _ => none) =
    some (0x2008, false) := by decide +kernel

theorem wit_TrapsAndReturns : CanTrap sc ∧ Ready (.trap 63) sc ∧ Ready .brk sc := by
  refine ⟨canTrap_of ?_, enter_ready ?_, enter_ready ?_⟩ <;> decide +kernel
theorem wit_TrapsAndReturns_eret : Ready (.eret 2 false) (handler 0x16) ∧ (handler 0x16).me.regs.noneEmpty = true ∧ (handler 0x16).me.events = true ∧
    6 ≠ (handler 0x16).cur.slot ∧ (handler 0x16).g 2 = wordOf (16 * 1 + 6) ∧ (handler 0x16).me.ctl.eslot.toNat % 16 = 6 ∧
    (handler 0x16).me.ctl.ecause.toNat / 256 % 4 ≤ 1 ∧ ((handler 0x16).slot (handler 0x16).cur.core 6).busy = true ∧
    ((handler 0x16).slot (handler 0x16).cur.core 6).frozen = true ∧ (handler 0x16).me.thread = false := by
  refine ⟨enter_ready ?_, ?_, ?_, ?_, ?_, ?_, ?_, ?_, ?_, ?_⟩ <;> decide +kernel
theorem wit_EndYieldHalt : Ready .yield sc ∧ Ready .endTask sc ∧ sc.me.regs.noneEmpty = true ∧ sc.me.events = false ∧ sc.me.thread = false := by
  refine ⟨enter_ready ?_, enter_ready ?_, ?_, ?_, ?_⟩ <;> decide +kernel
theorem wit_EndYieldHalt_compute : Ready .halt (firmware 0 []) ∧ isCompute (firmware 0 []).cur.core = true ∧
    (∀ n, n < 8 → n ≠ (firmware 0 []).cur.slot → ((firmware 0 []).slot (firmware 0 []).cur.core n).busy = false) ∧
    (firmware 0 []).me.regs.noneEmpty = true ∧ (firmware 0 []).me.thread = false := by
  refine ⟨enter_ready ?_, ?_, ?_, ?_, ?_⟩ <;> decide +kernel
/-- Firmware at L0 of MC1 with an event in its queue. -/
def waiting : State := issuing mc1 0 { workOf [] with lvl := 0, ctl := { Ctl.reset with allot := 4, fw := true } }
  { Core.reset with events := [eventOf 0x13 8 0 0] }
theorem wit_EndYieldHalt_management : Ready .halt waiting ∧ isCompute waiting.cur.core = false ∧ waiting.myCore.events ≠ [] := by
  refine ⟨enter_ready ?_, ?_, ?_⟩ <;> decide +kernel

/-! ### Memory (R290 to R303) -/

/-- A task whose `g2` is an address of its C buffer and `g3` is 5, over one written 8-byte word of it. -/
def own (o : Nat) (x : Nat) : State :=
  let s := task [(2, vaOf 3 o), (3, 5), (4, 0xFF)]
  s.writeNat { sp := .buf 0 3, off := o } 8 x

theorem test_ldS : gives (.ldS 1 2 false .b1 .relaxed 0) (own 64 0x80) 1 = some 0xFFFFFFFFFFFFFF80 := by decide +kernel
theorem test_ldZ_offset : gives (.ldZ 1 2 false .b2 .relaxed 1) (own 64 0xABCD8001) 1 = some 0xABCD := by decide +kernel
theorem test_st_low_byte : holds (.st 4 2 false .b1 .relaxed 3) (own 64 0) { sp := .buf 0 3, off := 64 } 8 = some 0xFF000000 := by decide +kernel
theorem test_st_negative : holds (.st 3 2 false .b8 .relaxed 0x7F) (own 64 0) { sp := .buf 0 3, off := 56 } 8 = some 5 := by decide +kernel
theorem test_misaligned : traps (.ldZ 1 2 false .b8 .relaxed 0) (own 4 0) = some (7, vaOf 3 4, 0) := by decide +kernel
theorem test_self_hole : traps (.st 1 2 false .b8 .relaxed 0) (task [(2, 0xFFFFFFFFFFF18000)]) = some (6, 0xFFFFFFFFFFF18000, 1) := by decide +kernel
theorem test_amo_add : holds (.amo64 3 2 3 .add .relaxed) (own 64 0xFFFFFFFFFFFFFFFE) { sp := .buf 0 3, off := 64 } 8 = some 3 := by decide +kernel
theorem test_cas_fails : holds (.amo32 3 2 4 .cas .relaxed) (own 64 6) { sp := .buf 0 3, off := 64 } 4 = some 6 := by decide +kernel
theorem test_cas_swaps : holds (.amo32 3 2 4 .cas .relaxed) (own 64 5) { sp := .buf 0 3, off := 64 } 4 = some 0xFF := by decide +kernel
theorem test_amo_a_buffer : traps (.amo64 1 2 3 .add .relaxed) (task [(2, vaOf 2 0)]) = some (6, vaOf 2 0, 1) := by decide +kernel
/-- FP32 1.0 plus 1.0. -/
theorem test_fadd : holds (.faddF32 1 2 3 false false)
    (task [(2, vaOf 3 0), (3, 0x3F800000)] |>.writeNat { sp := .buf 0 3, off := 0 } 4 0x3F800000) { sp := .buf 0 3, off := 0 } 4 =
    some 0x40000000 := by decide +kernel
theorem test_ldv : givesV (.ldv 1 2 false .relaxed 0) (task [(2, vaOf 1 16)] |>.writeNat { sp := .buf 0 1, off := 16 } 16 (2 ^ 120 + 3)) 1 =
    some (BitVec.ofNat 128 (2 ^ 120 + 3)) := by decide +kernel
/-- Element 1 of register 0's row lands in lane 0 of register 1. -/
theorem test_ldvt : givesV (.ldvt 0 2 false .e32 0) (task [(2, vaOf 1 0)] |>.writeNat { sp := .buf 0 1, off := 0 } 16 (7 * 2 ^ 32)) 1 =
    some 7 := by decide +kernel

/-- HBM of the first 1 GiB mapped for context 1, readable and writable. -/
def hbmPage : TlbEntry := { w0 := wordOf (2 ^ 13 + 2 ^ 10 + 1), w1 := wordOf (2 ^ 58 + 2 ^ 57) }

/-- A task that sees HBM, `g2` its address. -/
def far (a : Word) : State := issuing 0 6 (workOf [(2, a), (3, 5)]) { Core.reset with l1 := [hbmPage] }

theorem test_far_load_leaves : (match exec (.ldZ 1 2 false .b8 .relaxed 0) (far 0x2000) with
    | .next t => some (t.me.regs.emptyG 1, t.inflight.length, t.me.pc) | _ => none) = some (true, 1, 0x1004) := by decide +kernel
theorem test_tlb_miss_waits : (match exec (.ldZ 1 2 false .b8 .relaxed 0) (task [(2, 0x2000)]) with
    | .next t => some (t.me.regs.emptyG 1, t.curSlot.waiting.length, t.me.pc) | _ => none) = some (true, 1, 0x1004) := by decide +kernel

theorem wit_AccessTraps : (∃ al q, Access (task [(2, 0x100000000000000)]) (.st 3 2 false .b8 .relaxed 0) al q ∧
      Ready (.st 3 2 false .b8 .relaxed 0) (task [(2, 0x100000000000000)]) ∧ CanTrap (task [(2, 0x100000000000000)]) ∧
      canonical q.va = false) ∧
    (∃ q, Access (far 0x2001) (.ldZ 1 2 false .b2 .relaxed 0) 2 q ∧ Ready (.ldZ 1 2 false .b2 .relaxed 0) (far 0x2001) ∧
      CanTrap (far 0x2001) ∧ canonical q.va = true ∧ q.va.toNat % 2 ≠ 0) ∧
    ∃ q cause va, Access (task [(2, vaOf 3 0x4000)]) (.ldZ 1 2 false .b8 .relaxed 0) 8 q ∧
      Ready (.ldZ 1 2 false .b8 .relaxed 0) (task [(2, vaOf 3 0x4000)]) ∧ CanTrap (task [(2, vaOf 3 0x4000)]) ∧ canonical q.va = true ∧
      q.va.toNat % 8 = 0 ∧ Clear q (task [(2, vaOf 3 0x4000)]) ∧ (task [(2, vaOf 3 0x4000)]).planHere q = .trap cause va := by
  refine ⟨⟨_, _, .st .., enter_ready ?_, canTrap_of ?_, ?_⟩,
   ⟨_, .ldZ .., enter_ready ?_, canTrap_of ?_, ?_, ?_⟩,
   _, 6, vaOf 3 0x4000, .ldZ .., enter_ready ?_, canTrap_of ?_, ?_, ?_, ⟨?_, ?_, ?_⟩, ?_⟩ <;> decide +kernel
/-- A task that loads the last 8 bytes of a buffer that nothing has written, under SPMODE 2. -/
def unwritten : State := issuing 0 6 (workOf [(2, vaOf 3 0x3FF8)]) { Core.reset with spmode := 2 }
theorem test_uninit : traps (.ldZ 1 2 false .b8 .relaxed 0) unwritten = some (0x11, vaOf 3 0x3FF8, 0) := by decide +kernel
theorem wit_AccessTraps_uninit : Ready (.ldZ 1 2 false .b8 .relaxed 0) unwritten ∧ CanTrap unwritten ∧
    (addrM (unwritten.g 2) .b8 0).toNat % sizeBytes .b8 = 0 ∧ Own unwritten (addrM (unwritten.g 2) .b8 0) (sizeBytes .b8) 3 0x3FF8 ∧
    unwritten.drained = true ∧ unwritten.curSlot.held = none ∧ unwritten.allValid (ownLoc unwritten 3 0x3FF8) (sizeBytes .b8) = false ∧
    unwritten.myCore.spmode = 2 ∧ Sound unwritten (ownLoc unwritten 3 0x3FF8) (sizeBytes .b8) := by
  refine ⟨enter_ready ?_, canTrap_of ?_, ?_, ⟨?_, ?_, ?_⟩, ?_, ?_, ?_, ?_⟩ <;> decide +kernel
theorem wit_AccessesLeave : ∃ q ps, Access (far 0x2000) (.ldZ 1 2 false .b8 (.ordered .mod) 0) 8 q ∧
    Ready (.ldZ 1 2 false .b8 (.ordered .mod) 0) (far 0x2000) ∧ canonical q.va = true ∧ q.va.toNat % 8 = 0 ∧ Clear q (far 0x2000) ∧
    (far 0x2000).planHere q = .go ps ∧ ps.all (fun p => p.page.own) = false := by
  refine ⟨_, [{ off := 0, len := 8, page := { loc := { sp := .hbm, off := 0x2000 }, ord := 0, own := false, r := true, w := true, x := false } }],
   .ldZ .., enter_ready ?_, ?_, ?_, ⟨?_, ?_, ?_⟩, ?_, ?_⟩ <;> decide +kernel
theorem wit_OwnLoads : ∃ P, OwnLoad (own 0x3FF8 9) (ownLoc (own 0x3FF8 9) 3 0x3FF8) (.ldZ 1 2 false .b8 .relaxed 0)
      (addrM ((own 0x3FF8 9).g 2) .b8 0) 8 8 P ∧ Ready (.ldZ 1 2 false .b8 .relaxed 0) (own 0x3FF8 9) ∧
    (addrM ((own 0x3FF8 9).g 2) .b8 0).toNat % 8 = 0 ∧ Own (own 0x3FF8 9) (addrM ((own 0x3FF8 9).g 2) .b8 0) 8 3 0x3FF8 ∧
    (own 0x3FF8 9).drained = true ∧ (own 0x3FF8 9).curSlot.waiting = [] ∧ (own 0x3FF8 9).curSlot.held = none ∧
    (own 0x3FF8 9).allValid (ownLoc (own 0x3FF8 9) 3 0x3FF8) 8 = true ∧
    Sound (own 0x3FF8 9) (ownLoc (own 0x3FF8 9) 3 0x3FF8) 8 := by
  refine ⟨_, .ldZ 1 2 false .b8 .relaxed 0, enter_ready ?_, ?_, ⟨?_, ?_, ?_⟩, ?_, ?_, ?_, ?_⟩ <;> decide +kernel
theorem wit_OwnStores : OwnStore (own 0x3FF8 9) (.st 3 2 false .b8 .relaxed 0) (addrM ((own 0x3FF8 9).g 2) .b8 0) 8 8 ((own 0x3FF8 9).g 3).toNat ∧
    Ready (.st 3 2 false .b8 .relaxed 0) (own 0x3FF8 9) ∧ memWf (own 0x3FF8 9).mem = true ∧
    (addrM ((own 0x3FF8 9).g 2) .b8 0).toNat % 8 = 0 ∧ Own (own 0x3FF8 9) (addrM ((own 0x3FF8 9).g 2) .b8 0) 8 3 0x3FF8 ∧
    (own 0x3FF8 9).drained = true ∧ (own 0x3FF8 9).curSlot.waiting = [] ∧ (own 0x3FF8 9).curSlot.held = none ∧
    Sound (own 0x3FF8 9) (ownLoc (own 0x3FF8 9) 3 0x3FF8) 8 ∧ (own 0x3FF8 9).relBlocked = false := by
  refine ⟨.st 3 2 false .b8 .relaxed 0, enter_ready ?_, ?_, ?_, ⟨?_, ?_, ?_⟩, ?_, ?_, ?_⟩ <;> decide +kernel
theorem wit_OwnAtomics : ∃ v, OwnAtomic (own 64 9) (ownLoc (own 64 9) 3 64) (.amo64 0 2 3 .add .relaxed) 0 ((own 64 9).g 2) 8 v ∧
    Ready (.amo64 0 2 3 .add .relaxed) (own 64 9) ∧ memWf (own 64 9).mem = true ∧ ((own 64 9).g 2).toNat % 8 = 0 ∧
    Own (own 64 9) ((own 64 9).g 2) 8 3 64 ∧ (own 64 9).drained = true ∧ (own 64 9).curSlot.waiting = [] ∧ (own 64 9).curSlot.held = none ∧
    (own 64 9).allValid (ownLoc (own 64 9) 3 64) 8 = true ∧
    Sound (own 64 9) (ownLoc (own 64 9) 3 64) 8 := by
  refine ⟨_, .amo64 _ _ _ _ _ _ .add, enter_ready ?_, ?_, ?_, ⟨?_, ?_, ?_⟩, ?_, ?_, ?_, ?_⟩ <;> decide +kernel
/-- A codelet record with count 1 of level 2 in the C buffer, its address in `g2`. -/
def codelet : State := (own 64 (2 ^ 63 + 2 ^ 59 + 1)).writeNat { sp := .buf 0 3, off := 72 } 8 0x8000
theorem test_decp_dispatches : (match exec (.decp 1 2 false) codelet with
    | .next t => some ((t.myCore.ring 2).chip.map (fun e => (e.kind, e.frame)), t.readNat { sp := .buf 0 3, off := 64 } 4) | _ => none) =
    some ([(1, vaOf 3 64)], 0) := by decide +kernel
theorem wit_OwnAtomics_decp : Ready (.decp 1 2 false) codelet ∧ memWf codelet.mem = true ∧ (codelet.g 2).toNat % 32 = 0 ∧
    Own codelet (codelet.g 2) 4 3 64 ∧ codelet.drained = true ∧ codelet.curSlot.waiting = [] ∧ codelet.allValid (ownLoc codelet 3 64) 4 = true ∧
    codelet.readNat (ownLoc codelet 3 64) 4 = 1 ∧ codelet.myCore.hasRoom (fld (codelet.readNat (ownLoc codelet 3 64) 8) 62 2) = true ∧
    Sound codelet (ownLoc codelet 3 64) 4 ∧ RingRoom codelet.myCore 2 := by
  refine ⟨enter_ready ?_, ?_, ?_, ⟨?_, ?_, ?_⟩, ?_, ?_, ?_, ?_, ?_⟩ <;> decide +kernel
theorem wit_OwnAtomics_decp_above : Ready (.decp 1 2 false) (own 64 (2 ^ 31 - 1)) ∧ (own 64 (2 ^ 31 - 1)).readNat (ownLoc (own 64 (2 ^ 31 - 1)) 3 64) 4 = 2 ^ 31 - 1 ∧
    RingRoom (own 64 (2 ^ 31 - 1)).myCore 0 := by
  refine ⟨enter_ready ?_, ?_, ?_⟩ <;> decide +kernel
/-- A task whose prefetch line no TLB knows. -/
def unmapped : State := task [(2, 0x100000003F)]
theorem test_pf_asks : (match exec (.pf 2) unmapped with | .next t => some (t.myCore.wanted.map (fun w => w.va), t.me.pc) | _ => none) =
    some ([0x1000000000], 0x1004) := by decide +kernel
theorem wit_FencesAndSalloc_pf : Ready (.pf 2) unmapped ∧ canonical (unmapped.g 2) = true ∧
    unmapped.translate unmapped.cur.core unmapped.me.ctl.fw unmapped.me.ctl.ctx (unmapped.g 2 &&& ~~~63) = .miss :=
  ⟨enter_ready (by decide +kernel), by decide +kernel, rfl⟩
theorem wit_FencesAndSalloc : Ready (.pf 2) sc ∧ Ready (.fence .acq .sys) sc ∧ Ready (.fence .full .core) sc ∧ Ready (.fence .rel .clus) sc ∧
    sc.inflight = [] ∧ sc.returns = [] := by
  refine ⟨enter_ready ?_, enter_ready ?_, enter_ready ?_, enter_ready ?_, ?_, ?_⟩ <;> decide +kernel
/-- `salloc`'s range: the last 8 bytes of C in `g2` and `g3`. -/
def span : State := task [(2, vaOf 3 0x3FF8), (3, 8)]
theorem wit_FencesAndSalloc_salloc : Ready (.salloc 2 3 false false) span ∧ canonical (span.g 2) = true ∧ (span.g 2).toNat % 4 = 0 ∧
    (span.g 3).toNat % 4 = 0 ∧ span.g 3 ≠ 0 ∧ Own span (span.g 2) (span.g 3).toNat 3 0x3FF8 ∧ span.drained = true ∧
    Ready (.salloc 2 4 false false) span ∧ span.g 4 = 0 := by
  refine ⟨enter_ready ?_, ?_, ?_, ?_, ?_, ⟨?_, ?_, ?_⟩, ?_, enter_ready ?_, ?_⟩ <;> decide +kernel

/-- A task whose q register 3 is bound to ring 15 of 8 elements with `n` in it; `g2` binds ring 14 at the last A row. -/
def stream (n : Nat) : State :=
  issuing 0 6 { workOf [(2, bindWord 3 767 14)] with q := [(3, 16)] }
    { Core.reset with rings := [(15, { owner := some (7, 3), team := none, base := 0, logk := 3, rd := 7, occ := n })] }
theorem test_qstat : gives (.qstat 1 3) (stream 2) 1 = some (wordOf (2 ^ 63 + 15 * 65536 + 2)) := by decide +kernel
theorem test_qget_unbound : traps (.qget 1 4) (stream 2) = some (0x18, 0, 4) := by decide +kernel
theorem test_qget_wraps : (match exec (.qget 1 3) (stream 2) with
    | .next t => some ((t.myCore.stream 15).rd, (t.myCore.stream 15).occ) | _ => none) = some (0, 1) := by decide +kernel
theorem wit_StreamMembers : Ready (.qbind 0 2 false) (stream 2) ∧ (stream 2).g 2 = bindWord 3 767 14 ∧ (stream 2).boundRing 0 = none ∧
    ((stream 2).myCore.stream 14).owner = none ∧ 767 + 2 ^ (3 - 3) ≤ (stream 2).spcap (stream 2).cur.core 2 ∧
    Ready (.qfree 0) (stream 2) ∧ Ready (.qfree 3) (stream 2) ∧ (stream 2).boundRing 3 = some 15 ∧ Ready (.qstat 1 3) (stream 2) := by
  refine ⟨enter_ready ?_, ?_, ?_, ?_, ?_, enter_ready ?_, enter_ready ?_, ?_, enter_ready ?_⟩ <;> decide +kernel
theorem wit_StreamMembers_reads : (Ready (.qget 1 0) (stream 2) ∧ Ready (.qgetv 1 0) (stream 2) ∧ (stream 2).boundRing 0 = none ∧ CanTrap (stream 2)) ∧
    (Ready (.qget 1 3) (stream 0) ∧ (stream 0).boundRing 3 = some 15 ∧ ((stream 0).myCore.stream 15).occ = 0) ∧
    (Ready (.qget 1 3) (stream 1) ∧ Ready (.qgetv 1 3) (stream 1) ∧ (stream 1).boundRing 3 = some 15 ∧ ((stream 1).myCore.stream 15).occ = 1) ∧
    (Ready (.qgetv 1 3) (stream 2) ∧ (stream 2).boundRing 3 = some 15 ∧ ((stream 2).myCore.stream 15).occ = 2) ∧
    (Sound (stream 2) (((stream 2).myCore.stream 15).place 0 0) 8 ∧ Sound (stream 2) (((stream 2).myCore.stream 15).place 0 1) 8) := by
  and_intros <;> first | decide +kernel | exact enter_ready (by decide +kernel) | exact canTrap_of (by decide +kernel) | (constructor <;> decide +kernel)

/-! ### Waiting, barriers, creating and joining work (R304 to R316) -/

/-- A team thread over one written 8-byte word of its C buffer, whose address is in `g2`; `g3` is 5 and `g1` is `t`. -/
def watcher (t : Word) (x : Nat) : State := (thread [(1, t), (2, vaOf 3 64), (3, 5)]).writeNat { sp := .buf 0 3, off := 64 } 8 x

theorem test_waita_parks : (match exec (.waita 1 2 3 false false) (watcher 9 5) with
    | .next t => some (t.curSlot.busy, t.parked.map (fun p => (p.until_, p.w.pc))) | _ => none) = some (false, [(some 9, 0x1004)]) := by decide +kernel
theorem test_waita_passes : goesTo (.waita 1 2 3 false false) (watcher 9 6) = some 0x1004 := by decide +kernel
theorem test_waita_task : traps (.waita 1 2 3 false false) (own 64 5) = some (4, vaOf 3 64, 0) := by decide +kernel

/-- A word of the own C buffer as a page. -/
def ownPage (b o : Nat) : Page := { loc := { sp := .buf 0 b, off := o }, ord := 0, own := true, r := true, w := true, x := false }

theorem wit_WaitsAndParks : (Ready (.waita 1 2 3 false false) (watcher 0xFFFFFFFF 6) ∧ (watcher 0xFFFFFFFF 6).me.thread = true ∧
      ((watcher 0xFFFFFFFF 6).g 1).toNat < 2 ^ 32 ∧ (watcher 0xFFFFFFFF 6).findAligned ((watcher 0xFFFFFFFF 6).g 2) 8 0 0 = .page (ownPage 3 64) ∧
      waitaPlace (ownPage 3 64) = true ∧ (watcher 0xFFFFFFFF 6).drained = true ∧ Room (watcher 0xFFFFFFFF 6) (ownPage 3 64) true ∧ (watcher 0xFFFFFFFF 6).homeOk (ownPage 3 64).loc 8 34 = true ∧
      (watcher 0xFFFFFFFF 6).uninit (ownPage 3 64).loc 8 = 0 ∧
      (watcher 0xFFFFFFFF 6).readNat (ownPage 3 64).loc 8 ≠ ((watcher 0xFFFFFFFF 6).g 3).toNat) ∧
    (Ready (.waita 1 2 3 false false) (watcher 0 5) ∧ (watcher 0 5).findAligned ((watcher 0 5).g 2) 8 0 0 = .page (ownPage 3 64) ∧
      (watcher 0 5).drained = true ∧ Room (watcher 0 5) (ownPage 3 64) true ∧ (watcher 0 5).uninit (ownPage 3 64).loc 8 = 0 ∧
      (watcher 0 5).readNat (ownPage 3 64).loc 8 = ((watcher 0 5).g 3).toNat ∧ CanPark (watcher 0 5)) ∧
    (Sound (watcher 0xFFFFFFFF 6) (ownPage 3 64).loc 8 ∧ Sound (watcher 0 5) (ownPage 3 64).loc 8) := by
  and_intros <;> first | decide +kernel | exact enter_ready (by decide +kernel) | exact canTrap_of (by decide +kernel) | (constructor <;> decide +kernel)
theorem wit_WaitsAndParks_park : (Ready (.park 2 false) (thread [(2, 0xFFFFFFFF)]) ∧ (thread [(2, 0xFFFFFFFF)]).me.thread = true ∧
      1 ≤ ((thread [(2, 0xFFFFFFFF)]).g 2).toNat ∧ ((thread [(2, 0xFFFFFFFF)]).g 2).toNat < 2 ^ 32 ∧ CanPark (thread [(2, 0xFFFFFFFF)])) ∧
    (Ready (.park 2 false) (thread []) ∧ (thread []).g 2 = 0 ∧ CanPark (thread []) ∧ (thread []).myCore.hasRoom (thread []).me.lvl = true ∧
      ∀ p ∈ (thread []).parked, p.id ≠ (thread []).nextId) ∧
    (Ready (.park 2 false) (thread [(2, 0x100000000)]) ∧ 2 ^ 32 ≤ ((thread [(2, 0x100000000)]).g 2).toNat ∧ CanTrap (thread [(2, 0x100000000)])) ∧
    RingRoom (thread []).myCore (thread []).me.lvl := by
  and_intros <;> first | decide +kernel | exact enter_ready (by decide +kernel) | exact canTrap_of (by decide +kernel) | (constructor <;> decide +kernel)

/-- Team 1, two threads on core 0, with these arrivals. -/
def teamOf (a : List (Nat × (Scope × Bool))) : Team :=
  { id := 1, launch := 5, ctx := 1, number := 0, threads := 2, allot := 4, entry := 0x1000, args := 0x7000, cluster := 0, cores := [0], bases := [(0, 0)],
    rowsW := 8, rowsA := 8, rowsC := 8, placed := true, resident := true, leaving := false, since := 0, saved := [], savedMem := [], savedVal := [],
    savedDq := [], savedRdy := [], savedEng := [], ended := [], arrived := a }
/-- A thread whose team has arrived so. -/
def member (a : List (Nat × (Scope × Bool))) : State := { thread [] with teams := [teamOf a] }
/-- An access of the work that is under way. -/
def pendingLoad : Flight :=
  { id := 50, acc := 49, core := 0, slot := 6, work := 7, pc := 0xFFC, va := 0x2000, loc := { sp := .hbm, off := 0x2000 }, idx := 0, len := 8, total := 8,
    kind := .load false, acq := false, rel := false, scope := none, ord := 0, data := 0, cmp := 0, dest := .none, st := .going, fw := false }

theorem wit_Barriers : (Bar .barQuad .quad ∧ Ready .barQuad (member [(0, (.quad, true))]) ∧ (member [(0, (.quad, true))]).me.thread = true ∧
      MyTeam (member [(0, (.quad, true))]) (teamOf [(0, (.quad, true))]) ∧
      tblGet (Scope.sys, false) (teamOf [(0, (.quad, true))]).arrived (member [(0, (.quad, true))]).me.threadNo = (.quad, true)) ∧
    (Ready .barPod (member [(0, (.pod, false))]) ∧ MyTeam (member [(0, (.pod, false))]) (teamOf [(0, (.pod, false))]) ∧
      tblGet (Scope.sys, false) (teamOf [(0, (.pod, false))]).arrived (member [(0, (.pod, false))]).me.threadNo = (.pod, false)) ∧
    (Ready .barDie { member [] with inflight := [pendingLoad] } ∧ MyTeam { member [] with inflight := [pendingLoad] } (teamOf []) ∧
      ({ member [] with inflight := [pendingLoad] } : State).drained = false) ∧
    (ThreadOnly sc (.swapx 2 3 false false) (sc.g 2) 1 ∧ Ready (.swapx 2 3 false false) sc ∧ CanTrap sc ∧ sc.me.thread = false) := by
  refine ⟨⟨.quad, enter_ready ?_, ?_, rfl, ?_⟩, ⟨enter_ready ?_, rfl, ?_⟩,
   ⟨enter_ready ?_, rfl, ?_⟩, .swapx .., enter_ready ?_, canTrap_of ?_, ?_⟩ <;> decide +kernel

/-- A thread with a barrier object at the last block of its C buffer: target 3, count 2, generation 6; `g3` is `n`. -/
def object (n : Word) : State :=
  ((thread [(2, vaOf 3 0x3FF0), (3, n)]).writeNat { sp := .buf 0 3, off := 0x3FF0 } 8 (3 * 2 ^ 32 + 2)).writeNat { sp := .buf 0 3, off := 0x3FF8 } 8 6
theorem test_boarr_completes : (match exec (.boarr 2 3 false false) (object 5) with
    | .next t => some (boCount t { sp := .buf 0 3, off := 0x3FF0 }, boGen t { sp := .buf 0 3, off := 0x3FF0 }) | _ => none) = some (1, 8) := by decide +kernel
theorem test_boinit : holds (.boinit 2 3 false false) (object 5) { sp := .buf 0 3, off := 0x3FF0 } 8 = some 0x500000000 := by decide +kernel
theorem wit_BarrierObjects : (object 1).findObject ((object 1).g 2) = .page (ownPage 3 0x3FF0) ∧ (object 1).homeOk (ownPage 3 0x3FF0).loc 16 36 = true ∧
    ((object 1).drained = true ∧ (object 1).settled = true ∧ Room (object 1) (ownPage 3 0x3FF0) true ∧ Room (object 1) (ownPage 3 0x3FF0) false) ∧ memWf (object 1).mem = true ∧ (Ready (.boinit 2 3 false false) (object 1) ∧ ((object 1).g 3).toNat % 2 ^ 32 ≠ 0) ∧
    (Ready (.boarr 2 3 false false) (object 1) ∧ (object 1).uninit (ownPage 3 0x3FF0).loc 16 = 0 ∧ boTarget (object 1) (ownPage 3 0x3FF0).loc ≠ 0) ∧
    Sound (object 1) (ownPage 3 0x3FF0).loc 16 := by
  and_intros <;> first | decide +kernel | exact enter_ready (by decide +kernel) | exact canTrap_of (by decide +kernel) | (constructor <;> decide +kernel)
theorem wit_BarrierObjects_wait : (Ready (.bowait 2 3 false false) (object 5) ∧ (object 5).me.thread = true ∧ (object 5).drained = true ∧ Room (object 5) (ownPage 3 0x3FF0) true ∧
      (object 5).uninit (ownPage 3 0x3FF0).loc 16 = 0 ∧ (object 5).curSlot.held = none ∧
      boGen (object 5) (ownPage 3 0x3FF0).loc ≠ ((object 5).g 3).toNat % 2 ^ 32) ∧
    (Ready (.bowait 2 3 false false) (object 6) ∧ Room (object 6) (ownPage 3 0x3FF0) true ∧ boGen (object 6) (ownPage 3 0x3FF0).loc = ((object 6).g 3).toNat % 2 ^ 32 ∧
      fld ((object 6).readNat ((ownPage 3 0x3FF0).loc.plus 8) 8) 32 4 = 0 ∧ CanPark (object 6)) ∧
    Sound (object 5) (ownPage 3 0x3FF0).loc 16 ∧ Sound (object 6) (ownPage 3 0x3FF0).loc 16 := by
  and_intros <;> first | decide +kernel | exact enter_ready (by decide +kernel) | exact canTrap_of (by decide +kernel) | (constructor <;> decide +kernel)

/-- A task that may fork: its deque lies in a writable page of HBM and holds `n` entries. -/
def forker (n : Nat) : State :=
  issuing 0 6 (workOf [(2, entryWord 4 (2 ^ 55 - 1) 3), (3, 0x77)])
    { Core.reset with l1 := [hbmPage], dqb := 0x1000, deque := List.replicate n (plainEntry 5 1 4 3 0 none) }
theorem test_fork_full : gives (.fork 1 2 3 false false) (forker 4096) 1 = some 1 := by decide +kernel
theorem test_fork_tail : (match exec (.fork 1 2 3 false false) (forker 2) with
    | .next t => some (t.myCore.deque.map (fun e => (e.allot, e.frame)), t.me.regs.getG 1) | _ => none) = some ([(1, 0), (1, 0), (4, 0x77)], 0) := by decide +kernel
theorem wit_WorkCreation : (Ready (.fork 1 2 3 false false) (forker 4096) ∧ (forker 4096).g 2 = entryWord 4 (2 ^ 55 - 1) 3 ∧ (forker 4096).myCore.dqb ≠ 0 ∧
      4096 ≤ (forker 4096).myCore.deque.length ∧
      (forker 4096).settled = true) ∧
    (Ready (.fork 1 2 3 false false) (forker 4095) ∧ (forker 4095).settled = true ∧ (forker 4095).g 2 = entryWord 4 (2 ^ 55 - 1) 3 ∧ (forker 4095).myCore.dqb ≠ 0 ∧
      (forker 4095).dequePlace (forker 4095).cur.core 4095 = .place { sp := .hbm, off := 0x1000 + 32 * 4095 } ∧
      Sound (forker 4095) { sp := .hbm, off := 0x1000 + 32 * 4095 } 32 ∧ memWf (forker 4095).mem = true ∧ (forker 4095).myCore.deque.length < 4096) ∧
    (Ready (.post 2 3 false false) (firmware 0 [(2, entryWord 1 0 0)]) ∧ (firmware 0 [(2, entryWord 1 0 0)]).me.ctl.fw = true ∧
      (firmware 0 [(2, entryWord 1 0 0)]).g 2 = entryWord 1 0 0 ∧ (firmware 0 [(2, entryWord 1 0 0)]).myCore.hasRoom 0 = true ∧
      (firmware 0 [(2, entryWord 1 0 0)]).settled = true) ∧
    RingRoom (firmware 0 [(2, entryWord 1 0 0)]).myCore 0 := by
  and_intros <;> first | decide +kernel | exact enter_ready (by decide +kernel) | exact canTrap_of (by decide +kernel) | (constructor <;> decide +kernel)
/-- A task with a record image of COUNT 2, allotment 1, level 3 in its W buffer, `g2` a block of its A buffer. -/
def recorder : State :=
  (task [(2, vaOf 2 0xBFE0), (3, vaOf 1 0)]).writeNat { sp := .buf 0 1, off := 0 } 32 (3 * 2 ^ 62 + 2 ^ 59 + 2 + 2 ^ 64 * 0x9000)
theorem wit_WorkCreation_record : Ready (.cdinit 2 3 false false) recorder ∧ memWf recorder.mem = true ∧ recorder.drained = true ∧
    (Room recorder (ownPage 2 0xBFE0) false ∧ Room recorder (ownPage 1 0) true ∧ Room (recorder.cross (ownPage 1 0) true) (ownPage 2 0xBFE0) false) ∧
    recorder.findRecord (recorder.g 2) = .page (ownPage 2 0xBFE0) ∧ recorder.homeOk (ownPage 2 0xBFE0).loc 32 35 = true ∧
    recorder.findAligned (recorder.g 3) 32 0 0 = .page (ownPage 1 0) ∧ (ownPage 1 0).denies recorder.atL0 (.load false) 32 false = none ∧
    recorder.homeOk (ownPage 1 0).loc 32 34 = true ∧ recorder.uninit (ownPage 1 0).loc 32 = 0 ∧
    recordOk (recorder.readNat (ownPage 1 0).loc 32) = true ∧ recorder.readNat (ownPage 1 0).loc 4 ≠ 0 ∧
    recorder.readNat (ownPage 1 0).loc 8 / 2 ^ 62 ≠ 0 ∧
    Sound recorder (ownPage 1 0).loc 32 ∧ Sound recorder (ownPage 2 0xBFE0).loc 32 := by
  refine ⟨enter_ready ?_, ?_, ?_, ⟨?_, ?_, ?_⟩, ?_, ?_, ?_, ?_, ?_, ?_, ?_, ?_, ?_⟩ <;> decide +kernel

/-- The same image with an allotment of 0, which R309 does not allow. -/
def badRecorder : State := (task [(2, vaOf 2 0xBFE0), (3, vaOf 1 0)]).writeNat { sp := .buf 0 1, off := 0 } 32 (3 * 2 ^ 62 + 2)
theorem test_cdinit_malformed : traps (.cdinit 2 3 false false) badRecorder = some (1, 0, 0x700) := by decide +kernel
theorem wit_WorkCreation_malformed : Ready (.cdinit 2 3 false false) badRecorder ∧ CanTrap badRecorder ∧
    recordOk (badRecorder.readNat (ownPage 1 0).loc 32) = false ∧ badRecorder.uninit (ownPage 1 0).loc 32 = 0 := by
  refine ⟨enter_ready ?_, canTrap_of ?_, ?_, ?_⟩ <;> decide +kernel
/-- A join cell in a C buffer with COUNT `n` and PK `pk`, its CONT 3000H. -/
def cell (s : State) (n pk : Nat) : State :=
  (s.writeNat { sp := .buf 0 3, off := 64 } 8 (pk * 2 ^ 32 + n)).writeNat { sp := .buf 0 3, off := 72 } 8 0x3000
theorem test_join_last : goesTo (.join 2 false) (cell (task [(2, vaOf 3 64)]) 1 0) = some 0x3000 := by decide +kernel
theorem test_join_dies : (match exec (.join 2 false) (cell (task [(2, vaOf 3 64)]) 3 1) with
    | .next t => some (t.curSlot.busy, t.readNat { sp := .buf 0 3, off := 64 } 8) | _ => none) = some (false, 0x100000002) := by decide +kernel
/-- What `JoinOutcomes` asks of every state. -/
def JoinCase (s : State) (n pk : Nat) : Prop :=
  Ready (.join 2 false) s ∧ memWf s.mem = true ∧ s.findCell (s.g 2) = .page (ownPage 3 64) ∧ (s.settled = true ∧ Room s (ownPage 3 64) true) ∧
    s.homeOk (ownPage 3 64).loc 16 36 = true ∧
    s.uninit (ownPage 3 64).loc 16 = 0 ∧ s.me.events = false ∧ s.me.regs.noneEmpty = true ∧ s.readNat (ownPage 3 64).loc 8 = pk * 2 ^ 32 + n ∧
    Sound s (ownPage 3 64).loc 16
theorem wit_JoinOutcomes : JoinCase (cell (task [(2, vaOf 3 64)]) 1 0) 1 0 ∧
    (JoinCase (cell (thread [(2, vaOf 3 64)]) 0x7FFFFFFF 0) 0x7FFFFFFF 0 ∧ (cell (thread [(2, vaOf 3 64)]) 0x7FFFFFFF 0).me.thread = true ∧
      CanPark (cell (thread [(2, vaOf 3 64)]) 0x7FFFFFFF 0)) ∧
    (JoinCase (cell (task [(2, vaOf 3 64)]) 2 1) 2 1 ∧ (cell (task [(2, vaOf 3 64)]) 2 1).me.thread = false) ∧
    JoinCase (cell (task [(2, vaOf 3 64)]) 1 1) 1 1 := by
  refine ⟨⟨enter_ready ?_, ?_, ?_, ⟨?_, ?_⟩, ?_, ?_, ?_, ?_, ?_⟩,
   ⟨⟨enter_ready ?_, ?_, ?_, ⟨?_, ?_⟩, ?_, ?_, ?_, ?_, ?_⟩, ?_,
    ⟨?_, ?_, ?_⟩⟩,
   ⟨⟨enter_ready ?_, ?_, ?_, ⟨?_, ?_⟩, ?_, ?_, ?_, ?_, ?_⟩, ?_⟩,
   ⟨enter_ready ?_, ?_, ?_, ⟨?_, ?_⟩, ?_, ?_, ?_, ?_, ?_⟩⟩ <;> decide +kernel

/-- A thread with a descriptor in its W buffer: quad scope, allotment 1, GRAIN 2, the cell at C offset 64; `g2` counts the indexes. -/
def splitter (n : Word) : State :=
  (cell (thread [(2, n), (3, vaOf 1 0)]) 0 0).writeNat { sp := .buf 0 1, off := 0 } 32
    (2 ^ 58 + 0x5000 + 1 + 2 ^ 128 * (vaOf 3 64).toNat + 2 ^ 192 * 2)
/-- Three of the quad's cores are idle, and five indexes over GRAIN 2 make three shares. -/
theorem test_rfork_shares : (match exec (.rfork 2 3 false false) (splitter 5) with
    | .next t => some (t.readNat { sp := .buf 0 3, off := 64 } 8, ((t.core 1).ring 3).chip.map (fun e => (e.g2, e.g3))) | _ => none) =
    some (0x100000003, [(2, 4)]) := by decide +kernel
/-- The descriptor's bits. -/
def descBits : Nat := 2 ^ 58 + 0x5000 + 1 + 2 ^ 128 * (vaOf 3 64).toNat + 2 ^ 192 * 2
/-- What `RforkOutcomes` asks of every state. -/
def RforkCase (s : State) : Prop :=
  Ready (.rfork 2 3 false false) s ∧ memWf s.mem = true ∧ s.me.thread = true ∧ s.settled = true ∧ s.findAligned (s.g 3) 32 0 0 = .page (ownPage 1 0) ∧
    (ownPage 1 0).denies s.atL0 (.load false) 32 false = none ∧ s.mayAct (s.g 3) (ownPage 1 0) 32 .vload = true ∧ s.homeOk (ownPage 1 0).loc 32 34 = true ∧
    s.uninit (ownPage 1 0).loc 32 = 0 ∧ Sound s (ownPage 1 0).loc 32 ∧ s.fetchNat (ownPage 1 0).loc 32 = descBits ∧ descOk descBits = true ∧
    (s.cross (ownPage 1 0) true).findCell (blockWord descBits 2) = .page (ownPage 3 64) ∧ Room (s.cross (ownPage 1 0) true) (ownPage 3 64) true ∧
    s.homeOk (ownPage 3 64).loc 16 36 = true ∧ Sound s (ownPage 3 64).loc 16
theorem rforkCase_of {s : State} (h : Ready (.rfork 2 3 false false) s)
    (r : (memWf s.mem = true ∧ s.me.thread = true ∧ s.settled = true ∧ s.findAligned (s.g 3) 32 0 0 = .page (ownPage 1 0)) ∧
    ((ownPage 1 0).denies s.atL0 (.load false) 32 false = none ∧ s.mayAct (s.g 3) (ownPage 1 0) 32 .vload = true ∧ s.homeOk (ownPage 1 0).loc 32 34 = true ∧
    s.uninit (ownPage 1 0).loc 32 = 0) ∧ Sound s (ownPage 1 0).loc 32 ∧ (s.fetchNat (ownPage 1 0).loc 32 = descBits ∧ descOk descBits = true) ∧
    ((s.cross (ownPage 1 0) true).findCell (blockWord descBits 2) = .page (ownPage 3 64) ∧ Room (s.cross (ownPage 1 0) true) (ownPage 3 64) true) ∧
    s.homeOk (ownPage 3 64).loc 16 36 = true ∧ Sound s (ownPage 3 64).loc 16) : RforkCase s :=
  ⟨h, r.1.1, r.1.2.1, r.1.2.2.1, r.1.2.2.2, r.2.1.1, r.2.1.2.1, r.2.1.2.2.1, r.2.1.2.2.2, r.2.2.1, r.2.2.2.1.1, r.2.2.2.1.2, r.2.2.2.2.1.1,
   r.2.2.2.2.1.2, r.2.2.2.2.2.1, r.2.2.2.2.2.2⟩
theorem wit_RforkOutcomes : (RforkCase (splitter 0) ∧ (splitter 0).g 2 = 0 ∧ (splitter 0).uninit (ownPage 3 64).loc 16 = 0) ∧
    (RforkCase (splitter 5) ∧
      ((splitter 5).recruits (bits (blockWord descBits 0) 1 0) (bits (blockWord descBits 0) 60 58)).Nodup ∧ (splitter 5).g 2 ≠ 0 ∧
      CanPark (splitter 5)) ∧
    ((splitter 5).recruits (bits (blockWord descBits 0) 1 0) (bits (blockWord descBits 0) 60 58)).length < 2 ^ 32 ∧ RingRoom (splitter 5).myCore 3 := by
  refine ⟨⟨rforkCase_of (enter_ready ?_) ?_, ?_, ?_⟩, ⟨rforkCase_of (enter_ready ?_) ?_, ?_, ?_, ⟨?_, ?_, ?_⟩⟩, ?_, ?_, ?_⟩ <;> decide +kernel

/-- A task of allotment `a` with `n` in `g2`, beside a task of allotment `b` in slot 7. -/
def grower (a b : Nat) (n : Word) : State :=
  (issuing 0 6 { workOf [(2, n), (5, 9)] with ctl := { Ctl.reset with allot := a, ctx := 1 } } Core.reset).modCore 0 (fun k =>
    { k with slots := k.slots ++ [(7, { Slot.reset with busy := b ≠ 0, w := { workOf [] with ctl := { Ctl.reset with allot := b } } })] })
theorem test_grow_no_room : (match exec (.grow 1 2 false) (issuing 0 6 { workOf [(2, 4)] with thread := true, ctl := { Ctl.reset with allot := 1, ctx := 1 } }
    Core.reset) with | .next t => some (t.me.regs.getG 1, t.me.ctl.allot) | _ => none) = some (0, 4) := by decide +kernel
theorem test_shrink : (match exec (.shrink 1 2 false) (grower 4 0 1) with | .next t => some (t.me.regs.getG 1, t.me.ctl.allot) | _ => none) =
    some (3, 1) := by decide +kernel
/-- A core whose slots hold every step. -/
def crowded : State :=
  (grower 1 4 4).modCore 0 (fun k => { k with slots := [(0, { Slot.reset with busy := true, w := { workOf [] with ctl := { Ctl.reset with allot := 4 } } }),
    (2, { Slot.reset with busy := true, w := { workOf [] with ctl := { Ctl.reset with allot := 4 } } })] ++ k.slots })
/-- A thread beside one of allotment 4 and one of 3. -/
def bulky : State :=
  ((issuing 0 6 { workOf [(2, 4)] with thread := true, ctl := { Ctl.reset with allot := 2, ctx := 1 } } Core.reset).modCore 0 (fun k =>
    { k with slots := k.slots ++ [(7, { Slot.reset with busy := true, w := { workOf [] with thread := true, ctl := { Ctl.reset with allot := 5 } } })] }))
theorem wit_AllotmentChanges : (Ready (.grow 1 2 false) (grower 4 0 4) ∧ tblRising 0 (grower 4 0 4).me.regs.g = true ∧
      (grower 4 0 4).me.ctl.allot = ((grower 4 0 4).g 2).toNat) ∧
    (Ready (.grow 1 2 false) crowded ∧ ((crowded.g 2).toNat ≠ crowded.me.ctl.allot ∧ crowded.me.thread = false) ∧
      crowded.myCore.freeSteps < (crowded.g 2).toNat - crowded.me.ctl.allot) ∧
    (Ready (.grow 1 2 false) bulky ∧ bulky.me.thread = true ∧ (bulky.g 2).toNat ≠ bulky.me.ctl.allot ∧
      8 < bulky.myCore.threadSteps + ((bulky.g 2).toNat - bulky.me.ctl.allot)) ∧
    (Ready (.grow 1 2 false) (grower 1 0 4) ∧ (grower 1 0 4).me.thread = false ∧
      ((grower 1 0 4).g 2).toNat - (grower 1 0 4).me.ctl.allot ≤ (grower 1 0 4).myCore.freeSteps ∧
      (grower 1 0 4).higherWaits (grower 1 0 4).cur.core ((grower 1 0 4).cur.slot / 2) = false) ∧
    (Ready (.shrink 15 2 false) (grower 4 0 1) ∧ (grower 4 0 1).me.regs.noneEmpty = true) := by
  refine ⟨⟨enter_ready ?_, ?_, ?_⟩, ⟨enter_ready ?_, ?_, ?_⟩,
   ⟨enter_ready ?_, ?_, ?_, ?_⟩, ⟨enter_ready ?_, ?_, ?_, ?_⟩,
   enter_ready ?_, ?_⟩ <;> decide +kernel

/-- A task of cluster 0, whose stage 7 is configured and holds `n` items; `g2` is 7. -/
def stager (n : Nat) : State :=
  { task [(2, 7), (3, 0x99)] with clusters := [(0, { Cluster.reset with owner := some 1, stages := [(7, List.replicate n 0)], cfg := [(28, 0x1000000000004003)] })] }
theorem test_stgpush : (match exec (.stgpush 1 2 3 false false) (stager 2) with
    | .next t => some (tblGet [] (t.cluster 0).stages 7, t.me.regs.getG 1) | _ => none) = some ([0, 0, 0x99], 0) := by decide +kernel
theorem wit_StageMembers : (Ready (.stgpush 1 2 3 false false) (stager 255) ∧ (stager 255).drained = true ∧ isMc (stager 255).cur.core = false ∧
      (stager 255).g 2 = wordOf 7 ∧ (tblGet [] ((stager 255).cluster (clusterOf (stager 255).cur.core)).stages 7).length < 256 ∧
      bits (((stager 255).cluster (clusterOf (stager 255).cur.core)).cfgWord 7 0) 62 60 ≠ 0) ∧
    (Ready (.stgpush 1 2 3 false false) (stager 256) ∧ 256 ≤ (tblGet [] ((stager 256).cluster (clusterOf (stager 256).cur.core)).stages 7).length) ∧
    (Ready (.stgsub 2 false) (task [(2, 15)]) ∧ ((task [(2, 15)]).g 2).toNat < 16) := by
  refine ⟨⟨enter_ready ?_, ?_, ?_, ?_, ?_, ?_⟩, ⟨enter_ready ?_, ?_⟩, enter_ready ?_, ?_⟩ <;> decide +kernel

/-! ### Messages (R317 to R321) -/

/-- A task that sends 48 words of its C buffer to core 5, mailbox slot 127. -/
def sender : State := task [(2, vaOf 3 0), (3, destWord 5 127 48 true), (4, destWord 0 0 1 false)]
theorem wit_SendsComplete : CanSend sender 2 48 3 0 ∧ Ready (.send 63 2 3 false false) sender ∧ sender.g 3 = destWord 5 127 48 true ∧
    sender.ownsCore sender.me.ctl.fw sender.me.ctl.ctx 5 = true ∧ CanSend sender 2 1 3 0 ∧ Ready (.sendr 0 2 4 false false 0x44B00000) sender ∧
    sender.g 4 = destWord 0 0 1 false ∧ routeOk 0x44B00000 = true := by
  refine ⟨⟨?_, ?_, ⟨?_, ?_, ?_⟩, ?_, ?_, ?_⟩, enter_ready ?_, ?_, ?_,
   ⟨?_, ?_, ⟨?_, ?_, ?_⟩, ?_, ?_, ?_⟩, enter_ready ?_, ?_, ?_⟩ <;> decide +kernel
theorem test_send_bad_count : traps (.send 0 2 3 false false) (task [(2, vaOf 3 0), (3, destWord 7 0 49 false)]) = some (1, 0, 0xC00) := by decide +kernel

/-- A task on a core with one pending start of class 63. -/
def masked : State :=
  issuing 0 6 (workOf [(2, 0x8000000000000000)]) { Core.reset with cmask := 0x8000000000000001, pending := [{ cls := 63, slot := none, entry := plainEntry 0 1 4 2 0 none }] }
theorem test_cpend : gives (.cpend 1 0 false) masked 1 = some 0x8000000000000000 := by decide +kernel
theorem wit_ClassMasks : Ready (.cmask 2 false) masked ∧ (Ready (.cunmask 2 false) (task [(2, 1)]) ∧ (task [(2, 1)]).myCore.pending = []) ∧
    (Ready (.cunmask 2 false) masked ∧ masked.myCore.pending = [{ cls := 63, slot := none, entry := plainEntry 0 1 4 2 0 none }] ∧
      masked.myCore.cmask.getLsbD 63 = true ∧ (masked.g 2).getLsbD 63 = true ∧ masked.myCore.hasRoom 2 = true) ∧
    (Ready (.cpend 1 0 false) masked ∧ masked.g 0 = 0) ∧
    RingRoom masked.myCore 2 := by
  and_intros <;> first | decide +kernel | exact enter_ready (by decide +kernel) | exact canTrap_of (by decide +kernel) | (constructor <;> decide +kernel)

/-- A thread of core `c` at `swapx` of row 767 in the 7-sided tile at (0, 0), with the mirror of core (0, 0, 6) waiting or not. -/
def swapper (c : Nat) (mirror : Bool) : State :=
  let w := { workOf [(2, 767 * 64), (3, 1)] with thread := true, team := some 1, ctl := { Ctl.reset with allot := 4, ctx := 1, swp := 0x7000 } }
  let s := (issuing c 6 w Core.reset).writeNat { sp := .buf 384 2, off := 64 } 1 7
  if mirror then s.modCore 384 (fun k => { k with slots := [(7, { Slot.reset with busy := true, len := 1, stall := some (.partner 64 1, 0), w := w })] }) else s
theorem test_swapx : holds (.swapx 2 3 false false) (swapper 6 true) { sp := .buf 6 2, off := 767 * 64 } 1 = some 7 := by decide +kernel
/-- What `SwapxOutcomes` asks of every state. -/
def SwapCase (s : State) (m : Nat) : Prop :=
  Ready (.swapx 2 3 false false) s ∧ s.me.thread = true ∧ (s.g 2).toNat % 64 = 0 ∧ 1 ≤ (s.g 3).toNat ∧ (s.g 3).toNat ≤ 768 ∧
    (s.g 2).toNat / 64 + (s.g 3).toNat ≤ s.spcap s.cur.core 2 ∧ bits s.me.ctl.swp 14 12 ≠ 0 ∧ mirrorOf s.me.ctl.swp s.cur.core = some m ∧ s.drained = true
theorem wit_SwapxOutcomes : (SwapCase (swapper 0 false) 0 ∧ (swapper 0 false).cur.core = 0) ∧
    (SwapCase (swapper 6 false) 384 ∧ (swapper 6 false).partnerAt 6 384 = none) ∧
    (SwapCase (swapper 6 true) 384 ∧ memWf (swapper 6 true).mem = true ∧ (swapper 6 true).partnerAt 6 384 = some (7, 64, 1)) ∧
    (0 + 64 ≤ 768 * 64 ∧ (swapper 6 true).uninit (ownLoc (swapper 6 true) 2 (767 * 64)) 64 = 0 ∧ (swapper 6 true).uninit { sp := .buf 384 2, off := 64 } 64 = 0 ∧
      Sound (swapper 6 true) (ownLoc (swapper 6 true) 2 (767 * 64)) 64 ∧ Sound (swapper 6 true) { sp := .buf 384 2, off := 64 } 64) := by
  and_intros <;> first | decide +kernel | exact enter_ready (by decide +kernel) | exact canTrap_of (by decide +kernel) | (constructor <;> decide +kernel)

/-! ### The vector unit (R323 to R346) -/

/-- A task with these `v` registers, FPC `f` and `g4` = 85H. -/
def vec (f : Word) (v : List (Nat × Vec)) : State :=
  issuing 0 6 { workOf [] with regs := { Regs.reset with v := v, g := [(4, 0x85)] }, ctl := { Ctl.reset with allot := 4, ctx := 1, fpc := f } } Core.reset
/-- 128 bits from four 32-bit lanes, lane 0 first. -/
def l4 (a b c d : Nat) : Vec := BitVec.ofNat 128 (a + 2 ^ 32 * b + 2 ^ 64 * c + 2 ^ 96 * d)
/-- FP32 1.0, -2.0, 0.5, +0 in `v1`; 2.0, 2.0, 2.0, -0 in `v2`; and a signalling NaN, infinity, 1.0, 3.0 in `v3`. -/
def vs : State := vec 0 [(1, l4 0x3F800000 0xC0000000 0x3F000000 0), (2, l4 0x40000000 0x40000000 0x40000000 0x80000000),
  (3, l4 0x7FA00000 0x7F800000 0x3F800000 0x40400000)]

theorem test_vadd_f32 : givesV (.vadd 0 1 2 .f32) vs 0 = some (l4 0x40400000 0 0x40200000 0) := by decide +kernel
theorem test_vsub_s8 : givesV (.vsub 0 1 2 .s8) (vec 0 [(1, 0x80), (2, 0x01)]) 0 = some 0x7F := by decide +kernel
theorem test_vmul_z16 : givesV (.vmul 0 1 1 .z16) (vec 0 [(1, 0x0101)]) 0 = some 0x0201 := by decide +kernel
theorem test_vmin_f32_nan : givesV (.vmin 0 1 3 .f32) vs 0 = some (l4 0x7FC00000 0xC0000000 0x3F000000 0) := by decide +kernel
theorem test_vmax_s16 : givesV (.vmax 0 1 2 .s16) (vec 0 [(1, 0x8000), (2, 0xFFFF)]) 0 = some 0xFFFF := by decide +kernel
theorem test_vandn : givesV (.vandn 0 1 2) (vec 0 [(1, 0xFF), (2, 0x0F)]) 0 = some 0xF0 := by decide +kernel
theorem test_vshr_count : givesV (.vshr 0 1 2 .z8) (vec 0 [(1, 0xF0), (2, 0x0C)]) 0 = some 0x0F := by decide +kernel
theorem test_vsar : givesV (.vsar 0 1 2 .s32) (vec 0 [(1, 0x80000000), (2, 4)]) 0 = some 0xF8000000 := by decide +kernel
theorem test_vfma : givesV (.vfma 0 1 2 3 .f32) (vec 0 [(1, 0x40000000), (2, 0x40400000), (3, 0x3F800000)]) 0 = some 0x40E00000 := by decide +kernel
theorem test_vfms : givesV (.vfms 0 1 2 3 .f32) (vec 0 [(1, 0x40000000), (2, 0x40400000), (3, 0x3F800000)]) 0 = some 0x40A00000 := by decide +kernel
theorem test_vfnms : givesV (.vfnms 0 1 2 3 .f32) (vec 0 [(1, l4 0x40000000 0 0 0), (2, 0x40400000), (3, 0x3F800000)]) 0 =
    some (l4 0xC0E00000 0x80000000 0x80000000 0x80000000) := by decide +kernel
theorem test_vdiv : givesV (.vdiv 0 2 1 .f32) (vec 0 [(1, l4 0x40000000 0x40000000 0x40000000 0x40000000), (2, l4 0x40400000 0 0 0)]) 0 =
    some 0x3FC00000 := by decide +kernel
theorem test_vsqrt : givesV (.vsqrt 0 1 .f64) (vec 0 [(1, 0x4010000000000000)]) 0 = some 0x4000000000000000 := by decide +kernel
theorem test_vcvt_rtz : givesV (.vcvt 0 1 .s32 .f32 .rtz) (vec 0 [(1, l4 0xBFC00000 0x40700000 0 0)]) 0 = some (l4 0xFFFFFFFF 3 0 0) := by decide +kernel
theorem test_vcvt_narrows : givesV (.vcvt 0 1 .z8 .z32 .fpc) (vec 0 [(1, l4 0x1FF 2 3 4)]) 0 = some 0x040302FF := by decide +kernel
theorem test_vperm_zero : givesV (.vperm 0 1 2 .z8) (vec 0 [(1, 0x4433), (2, 0x80808080808080808080808080800001)]) 0 = some 0x3344 := by decide +kernel
theorem test_vbcast : givesV (.vbcast 0 4 .z8) vs 0 = some 0x85858585858585858585858585858585 := by decide +kernel
theorem test_vins : givesV (.vins 1 4 1 .s16) (vec 0 [(1, 0x11112222)]) 1 = some 0x00852222 := by decide +kernel
theorem test_vext_sign : gives (.vext 1 2 0 .s8) (vec 0 [(2, 0x85)]) 1 = some 0xFFFFFFFFFFFFFF85 := by decide +kernel
theorem test_vpack : givesV (.vpack 0 1 2 .z32) (vec 0 [(1, l4 1 9 2 9), (2, l4 3 9 4 9)]) 0 = some (l4 1 2 3 4) := by decide +kernel
theorem test_vunpk_hi : givesV (.vunpkHi 0 1 .s64) (vec 0 [(1, l4 0 0 5 0xFFFFFFFF)]) 0 = some (l4 5 0 0xFFFFFFFF 0xFFFFFFFF) := by decide +kernel
theorem test_vred_add : givesV (.vredAdd 0 1 .z32) (vec 0 [(1, l4 1 2 3 0xFFFFFFFF)]) 0 = some 5 := by decide +kernel
theorem test_vred_min : givesV (.vredMin 0 1 .s8) (vec 0 [(1, 0x80)]) 0 = some 0x80 := by decide +kernel
theorem test_vcmp_nan : givesV (.vcmp 0 3 3 .f32 .ne) vs 0 = some (l4 0xFFFFFFFF 0 0 0) := by decide +kernel
theorem test_vzip : givesV (.vzip 0 1 2 .z32) (vec 0 [(1, l4 1 2 3 4), (2, l4 5 6 7 8)]) 0 = some (l4 1 5 2 6) := by decide +kernel
theorem test_vunzip : givesV (.vunzip 0 1 2 .z32) (vec 0 [(1, l4 1 2 3 4), (2, l4 5 6 7 8)]) 0 = some (l4 1 3 5 7) := by decide +kernel
theorem test_vsel : givesV (.vsel 0 1 2 3) (vec 0 [(1, 0xFF), (2, 0x100), (3, 0x0F)]) 0 = some 0x10F := by decide +kernel
theorem test_vdotI : givesV (.vdotI 0 1 2 3 .s8) (vec 0 [(1, 0xFF020304), (2, 0x01010101), (3, 10)]) 0 = some 18 := by decide +kernel
/-- 1 divided by 0 in one lane and 0 divided by 0 in the others: DZ and NV join FPC (R55). -/
theorem test_vdiv_zero : (match exec (.vdiv 0 1 2 .f32) (vec 0 [(1, 0x3F800000)]) with | .next t => some t.me.ctl.fpc | _ => none) = some 0x30 := by decide +kernel

theorem wit_VectorMoves : (∃ P, Moves vs (.vins 0 4 15 .z8) 0 P ∧ (Instr.vins 0 4 15 .z8).wellFormed = true ∧ Ready (.vins 0 4 15 .z8) vs) ∧
    (∃ P, Moves vs (.vsel 0 1 2 3) 0 P ∧ Ready (.vsel 0 1 2 3) vs) ∧
    (Ready (.vext 1 2 1 .f64) vs ∧ (1 : BitVec 5).toNat < 128 / laneW vs.nfc .f64) ∧
    (Ready (.vext 1 2 31 .narrow) vs ∧ CanTrap vs ∧ 128 / laneW vs.nfc .narrow ≤ (31 : BitVec 5).toNat) ∧ Ready (.vins 1 2 31 .narrow) vs := by
  refine ⟨⟨_, .vins _ _ _ _ ?_, ?_, enter_ready ?_⟩, ⟨_, .vsel .., enter_ready ?_⟩, ⟨enter_ready ?_, ?_⟩,
   ⟨enter_ready ?_, canTrap_of ?_, ?_⟩, enter_ready ?_⟩ <;> decide +kernel
theorem wit_VectorIntegers : ∃ P, IntLanes vs (.vcvt 0 1 .s8 .z64 .fpc) 0 .s8 P ∧ tyIsInt .s8 = true ∧ (Instr.vcvt 0 1 .s8 .z64 .fpc).wellFormed = true ∧
    Ready (.vcvt 0 1 .s8 .z64 .fpc) vs ∧ vs.cur.mod = none := by
  refine ⟨_, .vcvt _ _ _ _ _ ?_, ?_, ?_, enter_ready ?_, ?_⟩ <;> decide +kernel
theorem wit_VectorLanes : (∃ w l, Lanes vs (.vfma 0 1 2 3 .f32) 0 w l ∧ (Instr.vfma 0 1 2 3 .f32).wellFormed = true ∧ Ready (.vfma 0 1 2 3 .f32) vs ∧
      (flagsOf l).toNat &&& bits vs.fpc 13 9 = 0) ∧
    ∃ w l, Lanes (vec 0x3E00 vs.me.regs.v) (.vdiv 0 1 2 .f32) 0 w l ∧ (Instr.vdiv 0 1 2 .f32).wellFormed = true ∧
      Ready (.vdiv 0 1 2 .f32) (vec 0x3E00 vs.me.regs.v) ∧ (flagsOf l).toNat &&& bits (vec 0x3E00 vs.me.regs.v).fpc 13 9 ≠ 0 ∧
      CanTrap (vec 0x3E00 vs.me.regs.v) := by
  refine ⟨⟨_, _, .vfma .., ?_, enter_ready ?_, ?_⟩, _, _, .vdiv .., ?_, enter_ready ?_, ?_, canTrap_of ?_⟩ <;> decide +kernel
/-- 1, 2^24, 1, -2^24 in `v1`: the tree of R65 gives 1. -/
def tree4 : State := vec 0 [(1, l4 0x3F800000 0x4B800000 0x3F800000 0xCB800000)]
theorem test_vred_tree : (givesV (.vredAdd 0 1 .f32) tree4 0, match exec (.vredAdd 0 1 .f32) tree4 with | .next t => t.me.ctl.fpc | _ => 0) =
    (some 0x3F800000, 0x100) := by decide +kernel
/-- R62's corner: 450 rounds to 448, the largest finite value of n8e4m3, and raises NX alone. -/
theorem test_vcvt_rounds_first : (givesV (.vcvt 0 1 .narrow .f32 .fpc) (vec 0 [(1, 0x43E10000)]) 0,
    match exec (.vcvt 0 1 .narrow .f32 .fpc) (vec 0 [(1, 0x43E10000)]) with | .next t => t.me.ctl.fpc | _ => 0) = (some 0x7E, 0x100) := by decide +kernel
theorem wit_VectorLanes_cases : FloatCase (.vdiv 0 1 2 .f32) 0 32 [(1, 32, 0, 0x3F800000), (2, 32, 0, 0)] 0 0x7F800000 2 ∧
    Ready (.vdiv 0 1 2 .f32) (vec 0 [(1, 0x3F800000)]) ∧ (vec 0 [(1, 0x3F800000)]).cur.mod = none ∧ (vec 0 [(1, 0x3F800000)]).fpc = 0 ∧
    (vec 0 [(1, 0x3F800000)]).nfc = 0xA307 ∧ ∀ x ∈ [((1 : VReg), 32, 0, 0x3F800000), (2, 32, 0, 0)], ln x.2.1 ((vec 0 [(1, 0x3F800000)]).vr x.1) x.2.2.1 = x.2.2.2 := by
  refine ⟨.vdiv2 0 1 2, enter_ready ?_, ?_⟩ <;> decide +kernel
theorem wit_FloatReductions_lanes : (bits tree4.fpc 13 9 = 0 ∧ Ready (.vredAdd 0 1 .f32) tree4 ∧ Ready (.vredMin 0 1 .f32) tree4 ∧ Ready (.vredMax 0 1 .f32) tree4 ∧
      tree4.cur.mod = none ∧ tree4.fpc.toNat % 2 ^ 4 = 0 ∧
      tree4.vr 1 = BitVec.ofNat 128 (0x3F800000 + 0x4B800000 * 2 ^ 32 + 0x3F800000 * 2 ^ 64 + 0xCB800000 * 2 ^ 96)) ∧
    (∀ j, j < 4 → ¬isNanCode .f32 (ln 32 (tree4.vr 1) j)) ∧ (∀ j, j < 4 → ¬isSnanCode .f32 (ln 32 (tree4.vr 1) j)) ∧
    ∃ j, j < 4 ∧ isSnanCode .f32 (ln 32 (vs.vr 3) j) := by
  have h : ∀ j, j < 4 → ¬isNanCode .f32 (ln 32 (tree4.vr 1) j) := by
    intro j hj; unfold isNanCode; revert j; decide +kernel
  refine ⟨⟨?_, enter_ready ?_, enter_ready ?_, enter_ready ?_, ?_, ?_, ?_⟩, h, fun j hj hs => h j hj hs.1, 0, ?_, ⟨?_, ?_⟩, ?_⟩ <;> decide +kernel
theorem wit_FloatReductions : (Ty.bf16 ∈ tysFloat ∧ bits vs.fpc 13 9 = 0 ∧ Ready (.vredAdd 0 1 .bf16) vs ∧ Ready (.vredMin 0 1 .bf16) vs ∧
      Ready (.vredMax 0 1 .bf16) vs ∧ Ready (.vredAdd 0 1 .f64) vs ∧ fpcFzi vs.fpc = false) ∧
    (NanThrough (.vmin 0 1 3 .f32) 0 .f32 [1, 3] ∧ (Instr.vmin 0 1 3 .f32).wellFormed = true ∧ Ready (.vmin 0 1 3 .f32) vs ∧ vs.cur.mod = none ∧
      bits vs.fpc 13 9 = 0 ∧ isNanCode .f32 (ln 32 (vs.vr 3) 0)) := by
  refine ⟨⟨?_, ?_, enter_ready ?_, enter_ready ?_, enter_ready ?_, enter_ready ?_, ?_⟩,
   .vmin .., ?_, enter_ready ?_, ?_, ?_, ⟨?_, ?_⟩⟩ <;> decide +kernel

/-! ### Engines, cards, tensors, Gaussian messages (R180 to R220, R349 to R364) -/

/-- A task of core 0 with operands of a 1 by 1 by 1 product of FP64 in `g2`, `g3`. -/
def product : State := task [(2, 0x4000000000), (3, 0)]
theorem test_lks_queues : (match exec (.lks 0 0 .e) product with
    | .next t => some (((t.engine 0).lowS.map (fun h => (h.k, h.n, h.m)), (t.engine 0).highS.length)) | _ => none) = some ([(1, 1, 0)], 0) := by decide +kernel
theorem test_lks_edge : traps (.lks 0 0 .w) product = some (1, 0, 0x303) := by decide +kernel
theorem test_lkm_id : (match exec (.lkm 1 2 3 0 .s) product with
    | .next t => some (t.me.regs.emptyG 1, (t.cluster 0).cmdState 0, t.returns.map (fun r => r.data)) | _ => none) = some (true, 1, [0]) := by decide +kernel
theorem wit_HalvesIssue : (∃ h, product.engineAt product.cur.core .e = some 0 ∧ isCompute product.cur.core = true ∧ neighbour product.cur.core .e = some 64 ∧
      Ready (.lks 0 7 .e) product ∧ h = product.halfOf false (engineLow 0 == product.cur.core) (product.g 0) 0 7 (product.engine 0).cyc ∧ geometryOk h.td h.k h.n = true ∧
      product.reaches 64 = true ∧ (product.engine 0).queued h.moving h.low < 2 ∧ product.relBlocked = false ∧ operandsOk false (product.g 0) 0 = true) ∧
    ∃ h, product.engineAt product.cur.core .s = some 1 ∧ neighbour product.cur.core .s = some 1 ∧ Ready (.lkm 0 2 3 0 .s) product ∧
      h = product.halfOf true (engineLow 1 == product.cur.core) (product.g 2) (product.g 3) 0 (product.engine 1).cyc ∧ geometryOk h.td h.k h.n = true ∧
      product.reaches 1 = true ∧ (product.engine 1).queued h.moving h.low < 2 ∧ operandsOk true (product.g 2) (product.g 3) = true ∧
      targetFormOk h = true ∧ product.reaches h.tcore = true ∧ (product.cluster (clusterOf product.cur.core)).idWaits = [] ∧
      (product.cluster (clusterOf product.cur.core)).cmdState (product.cluster (clusterOf product.cur.core)).nextCmd ≠ 1 ∧
    product.ownStoresOut = false := by
  refine ⟨⟨_, ?_, ?_, ?_, enter_ready ?_, rfl, ?_, ?_, ?_, ?_, ?_⟩,
   _, ?_, ?_, enter_ready ?_, rfl, ?_, ?_, ?_, ?_, ?_, ?_, ?_, ?_⟩ <;> decide +kernel

/-- Slot 0 of core 0 running work of context 1, beside engine 0, with these registers and word 0 and word 6 of an image in its C buffer. -/
def engineer (x : Engine) (w0 w6 : Nat) : State :=
  ((({ issuing 0 0 (workOf [(2, vaOf 3 0), (3, 0)]) Core.reset with engines := [(0, x)] } : State).writeNat { sp := .buf 0 3, off := 0 } 8 w0).writeNat
    { sp := .buf 0 3, off := 48 } 8 w6)
/-- An engine that is frozen. -/
def icy : Engine := { Engine.reset with frozen := true }
/-- The pages of the 49 blocks. -/
def imagePages : List Page := (List.range 49).map (fun i => ownPage 3 (64 * i))
/-- The bytes of the 49 blocks. -/
def imageBytes (s : State) : List Byte := imagePages.flatMap (fun p => s.read p.loc 64)
/-- An image with V and LAYOUT set, no job. -/
def bare : State := engineer icy (2 ^ 62) 0
/-- An image with a job of context 1, moving at core 0 and stationary at core 64. -/
def loaded : State := engineer icy (2 ^ 63 + 2 ^ 62 + 4) (64 * 2 ^ 31 + 1 * 2 ^ 19)
/-- Two stationary halves of slot 0. -/
def owned : State :=
  engineer { Engine.reset with lowS := [{ product.halfOf false true 0 0 0 0 with slot := 0 }, { product.halfOf false true 0 0 0 0 with slot := 0, seq := 101 }] } 0 0
theorem test_lkq_frozen : gives (.lkq 1 .e) bare 1 = some 0xA01FE00000000000 := by decide +kernel
theorem test_lkcan_counts : gives (.lkcan 1 3 .e) owned 1 = some 2 := by decide +kernel
theorem wit_EngineControl : bare.engineAt bare.cur.core .e = some 0 ∧ Ready (.lkq 1 .e) bare ∧ (Ready (.lkfrz .e) bare ∧ (bare.engine 0).frozen = true) ∧
    (Ready (.lkfrz .e) owned ∧ (owned.engine 0).frozen = false ∧ owned.atBoundary 0 = true) ∧ Ready (.lkthw .e) bare ∧
    (Ready (.lkdrain 2 .e) bare ∧ bare.findImage (bare.g 2) 49 .vstore = .ok imagePages ∧ (∀ p ∈ imagePages, bare.homeOk p.loc 64 35 = true ∧ Sound bare p.loc 64) ∧
      memWf bare.mem = true) := by
  refine ⟨?_, enter_ready ?_, ⟨enter_ready ?_, ?_⟩, ⟨enter_ready ?_, ?_, ?_⟩, enter_ready ?_,
   enter_ready ?_, ?_, ?_, ?_⟩ <;> decide +kernel
theorem wit_EngineControl_load : (Ready (.lkload 2 .e) bare ∧ (bare.engine 0).job = none ∧ (bare.engine 0).halves = [] ∧
      bare.findImage (bare.g 2) 49 .vload = .ok imagePages ∧ bare.readBlocks (bare.g 2) imagePages true = .ok (imageBytes bare) (bare.flitsOn (bare.spansAll imagePages true)) ∧
      imageOk 0 bare.me.ctl.fw bare.me.ctl.ctx (imageBytes bare) = true ∧ wbit (imageWord (imageBytes bare) 0) 63 = false) ∧
    (Ready (.lkload 2 .e) loaded ∧ loaded.findImage (loaded.g 2) 49 .vload = .ok imagePages ∧
      loaded.readBlocks (loaded.g 2) imagePages true = .ok (imageBytes loaded) (loaded.flitsOn (loaded.spansAll imagePages true)) ∧
      imageOk 0 loaded.me.ctl.fw loaded.me.ctl.ctx (imageBytes loaded) = true ∧ wbit (imageWord (imageBytes loaded) 0) 63 = true) ∧
    (Ready (.lkcan 1 3 .e) owned ∧ owned.g 3 = 0 ∧ (owned.engine 0).job = none ∧
      ∀ h ∈ (owned.engine 0).halves, h.moving = false ∧ h.core = owned.cur.core ∧ h.slot = owned.cur.slot) := by
  refine ⟨⟨enter_ready ?_, ?_, ?_, ?_, ?_, ?_, ?_⟩,
   ⟨enter_ready ?_, ?_, ?_, ?_, ?_⟩, enter_ready ?_, ?_, ?_, ?_⟩ <;> decide +kernel

/-- A task with a card in its A buffer: words 0, 4, 5, 12, 13; the barrier object is at C offset 16. -/
def carder (w0 w4 w5 w12 w13 : Nat) : State :=
  let at_ := fun (s : State) (i x : Nat) => s.writeNat { sp := .buf 0 2, off := 128 + 8 * i } 8 x
  at_ (at_ (at_ (at_ (at_ (task [(2, vaOf 2 128), (3, vaOf 3 16)]) 0 w0) 4 w4) 5 w5) 12 w12) 13 w13
/-- A copy of 64 bytes from HBM 8000H to HBM 9000H in elements of 8 bytes. -/
def copier : State := carder (3 * 2 ^ 62 + 2 ^ 55 + 2 ^ 53) 0x8000 64 0x9000 64
/-- A broadcast of 64 bytes to the W buffers of cores (0, 0) to (7, 5) of die 0. -/
def caster : State := carder (2 ^ 55 + 2 ^ 53 + 2 ^ 48 + 7 * 2 ^ 30 + 5 * 2 ^ 24) 0x8000 64 0x40 64
/-- The card's bytes. -/
def cardBytes (s : State) : List Byte := [ownPage 2 128, ownPage 2 192].flatMap (fun p => s.read p.loc 64)
theorem test_cpy_issues : (match exec (.cpy 1 2 3) copier with
    | .next t => some ((t.cluster 0).jobs.map (fun j => (j.fn, j.unit)), t.me.regs.emptyG 1, t.returns.map (fun r => r.dest)) | _ => none) =
    some ([(0, 0)], true, [.g 1]) := by decide +kernel
/-- What `CardsIssue` asks. -/
def CardCase (i : Instr) (s : State) (fn : Nat) : Prop :=
  Card i fn 1 2 3 ∧ Ready i s ∧ isMc s.cur.core = false ∧ (s.settled = true ∧ (s.g 2).toNat % 64 = 0) ∧ s.findImage (s.g 2) 2 .vload = .ok [ownPage 2 128, ownPage 2 192] ∧
    s.readBlocks (s.g 2) [ownPage 2 128, ownPage 2 192] = .ok (cardBytes s) (s.flitsOn (s.spansAll [ownPage 2 128, ownPage 2 192] true)) ∧ s.cardFormOk s.cur.core fn (cardOf (cardBytes s)) = true ∧
    memberRulesOk fn (cardOf (cardBytes s)) = true ∧ (s.flitsOn (s.spansAll [ownPage 2 128, ownPage 2 192] true)).findObject (s.g 3) = .page (ownPage 3 16) ∧
    (fn = 4 → (rectCores (coreDie s.cur.core) (cardRect (cardOf (cardBytes s)))).all (fun h => s.reaches h) = true) ∧
    (∃ n < 64, ∀ k ∈ (s.cluster (clusterOf s.cur.core)).jobs, k.jid ≠ n)
theorem wit_CardsIssue : CardCase (.cpy 1 2 3) copier 0 ∧ CardCase (.bct 1 2 3) caster 4 := by
  refine ⟨⟨.cpy .., enter_ready ?_, ?_, ⟨?_, ?_⟩, ?_, ?_, ?_, ?_, ?_, ?_, ?_⟩,
   .bct .., enter_ready ?_, ?_, ⟨?_, ?_⟩, ?_, ?_, ?_, ?_, ?_, ?_, ?_⟩ <;> decide +kernel

/-- The image of a 2 by 8 tensor of FP32 at A offset 64 with a stride of 32 bytes. -/
def tensorImage : Nat := (2 ^ 59 + 2 * 2 ^ 40 + 2 * 2 ^ 24 + 8 * 2 ^ 8) + 2 ^ 64 * 64 + 2 ^ 128 * (32 * 2 ^ 32)
/-- A task with the image in its W buffer, `g2` = `n`, and entry 63 valid. -/
def tensor (n : Word) : State :=
  (issuing 0 6 (workOf [(2, n), (3, vaOf 1 0)]) { Core.reset with tensors := [(63, { words0 with w0 := 0x8000000000000005 })] }).writeNat
    { sp := .buf 0 1, off := 0 } 32 tensorImage
theorem test_tdset : (match exec (.tdset 2 3) (tensor 5) with | .next t => some (tblGet words0 t.myCore.tensors 5).w0 | _ => none) =
    some 0x8800020002000800 := by decide +kernel
theorem test_tdget_invalid : gives (.tdget 1 2 0) (tensor 63) 1 = some 0x8000000000000005 := by decide +kernel
theorem wit_TensorTable : (Ready (.tdset 2 3) (tensor 63) ∧ ((tensor 63).g 2).toNat < 64 ∧
      (tensor 63).readBlock ((tensor 63).g 3) 32 32 = .data tensorImage ((tensor 63).cross (ownPage 1 0) true) ∧
      tensorFormOk (tensorOf tensorImage ((nfcHere (tensor 63)).getLsbD 16)) = true ∧
      (tensor 63).tensorFits (tensor 63).cur.core (tensorOf tensorImage ((nfcHere (tensor 63)).getLsbD 16)) = true) ∧
    (Ready (.tdset 2 3) (tensor 64) ∧ CanTrap (tensor 64) ∧ 64 ≤ ((tensor 64).g 2).toNat) ∧
    (Ready (.tdget 1 2 0) (tensor 63) ∧ ((tensor 63).g 0).toNat < 4) ∧ (Ready (.tdinv 2) (tensor 63) ∧ (tensor 63).g 2 = wordOf 63) ∧
    (Ready (.tdinv 2) (tensor 0x8000000000000000) ∧ (tensor 0x8000000000000000).g 2 = wordOf (2 ^ 63)) := by
  refine ⟨⟨enter_ready ?_, ?_, ?_, ?_, ?_⟩, ⟨enter_ready ?_, canTrap_of ?_, ?_⟩,
   ⟨enter_ready ?_, ?_⟩, ⟨enter_ready ?_, ?_⟩, enter_ready ?_, ?_⟩ <;> decide +kernel

theorem wit_GaussianIssue : (Gaussian (.gmelim 1 2 3) 2 2 3 0 1 ∧ Ready (.gmelim 1 2 3) sc ∧
      (∀ q ∈ sc.myCore.gmu, ¬(q.work = sc.me.id ∧ q.slot = sc.cur.slot)) ∧ sc.drained = true ∧ sc.myCore.gmu.length < 8) ∧
    (Gaussian (.gmsend 2 3) 6 2 3 0 0 ∧ Ready (.gmsend 2 3) (task [(3, 0x000A000000000000)]) ∧
      ((task [(3, 0x000A000000000000)]).g 3).toNat % 2 ^ 36 = 0 ∧
      (task [(3, 0x000A000000000000)]).ownsCore (task [(3, 0x000A000000000000)]).me.ctl.fw (task [(3, 0x000A000000000000)]).me.ctl.ctx
        (((task [(3, 0x000A000000000000)]).g 3).toNat / 2 ^ 49) = true) := by
  refine ⟨⟨.gmelim .., enter_ready ?_, ?_, ?_, ?_⟩, .gmsend .., enter_ready ?_, ?_, ?_⟩ <;> decide +kernel

/-! ### Control registers and the system group (R76 to R92, R365 to R376) -/

/-- Firmware at L0 of core `c` with `v` in `g2` and `w` in `g3`. -/
def admin (c : Nat) (v w : Word) : State := firmware c [(2, v), (3, w)]
theorem test_getc_eg : gives (.getc 1 0x1F) sc 1 = some 0xFFFF000081 := by decide +kernel
theorem test_getc_lvl : gives (.getc 1 1) sc 1 = some 3 := by decide +kernel
theorem test_setc_fpc : (match exec (.setc 5 false 8) sc with | .next t => some t.me.ctl.fpc | _ => none) = some 0x3FFF := by decide +kernel
theorem test_setc_icl : (traps (.setc 2 false 0x250) (firmware mc1 [(2, 17)])).map (fun e => e.1) = some 1 := by decide +kernel
theorem test_getc_privileged : traps (.getc 1 0x10) sc = some (0x15, 0, 0) := by decide +kernel
theorem wit_ControlReads : (CrValue (admin mc1 0 0) 0x22F (wordOf (tblGet 0 (admin mc1 0 0).tsen 47)) ∧ Ready (.getc 1 0x22F) (admin mc1 0 0)) ∧
    (CrValue sc 0x1F (tblGet 0x000000FFFF000081 sc.me.ctl.eg 7) ∧ Ready (.getc 0 0x1F) sc) ∧
    (CrValue sc 0x117 (tblGet 0 sc.myCore.win 7) ∧ Ready (.getc 1 0x117) sc) ∧ (CrValue (admin mc0 0 0) 0x270 (wordOf 1000) ∧ Ready (.getc 1 0x270) (admin mc0 0 0)) := by
  refine ⟨⟨.tsen 47 ?_, enter_ready ?_⟩, ⟨.eg 7 ?_, enter_ready ?_⟩, ⟨.win 7 ?_, enter_ready ?_⟩,
   .pceil, enter_ready ?_⟩ <;> decide +kernel
theorem wit_ControlWrites : (∃ x, Ready (.setc 2 false 0xA) (admin 0 0 0) ∧ SetsSlot (admin 0 0 0).cur.core (admin 0 0 0).me.ctl ((admin 0 0 0).g 2) 0xA x) ∧
    (∃ x, Ready (.setc 2 false 0xC) (task [(2, 0x6002)]) ∧ SetsSlot (task [(2, 0x6002)]).cur.core (task [(2, 0x6002)]).me.ctl ((task [(2, 0x6002)]).g 2) 0xC x) ∧
    (∃ k, Ready (.setc 2 false 0x10F) (admin 0 0x1014 0) ∧ isCompute (admin 0 0x1014 0).cur.core = true ∧
      SetsCore (admin 0 0x1014 0).mode (countIns (admin 0 0x1014 0).myCore) ((admin 0 0x1014 0).g 2) 0x10F k) ∧
    ∃ k, Ready (.setc 2 false 0x117) (admin 0 (0x300000000 + 255 * 65536 + 1) 0) ∧
      SetsCore 0 (countIns (admin 0 (0x300000000 + 255 * 65536 + 1) 0).myCore) ((admin 0 (0x300000000 + 255 * 65536 + 1) 0).g 2) 0x117 k := by
  refine ⟨⟨_, enter_ready ?_, .gmc ?_⟩, ⟨_, enter_ready ?_, .swp ?_⟩,
   ⟨_, enter_ready ?_, ?_, .rrbOn 3 ?_ ?_ ?_ ?_ ?_⟩,
   _, enter_ready ?_, .win 7 ?_ ?_ ?_⟩ <;> decide +kernel
theorem wit_RegisterTraps : CanTrap sc ∧ (withinAllot sc.me.ctl.allot (operands (.getc 1 5)) = true ∧ crClass sc.cur.core 5 = .absent) ∧
    (withinAllot sc.me.ctl.allot (operands (.getc 1 0x15)) = true ∧ crClass sc.cur.core 0x15 = .l0r ∧ 2 ≤ sc.cur.slot) ∧
    (withinAllot sc.me.ctl.allot (operands (.setc 2 false 0x200)) = true ∧ crClass sc.cur.core 0x200 = .absent) ∧
    (crClass sc.cur.core 4 = .ro ∧ (4 : BitVec 13).toNat < 0x1000) ∧ crClass sc.cur.core 0x126 = .l0 ∧
    (∃ P, Privileged sc .halt P ∧ withinAllot sc.me.ctl.allot (operands .halt) = true ∧ ¬P) ∧
    ∃ P, Privileged (admin 0 0 0) (.tlbw 1 2 3 false false) P ∧ CanTrap (admin 0 0 0) ∧ ¬P := by
  refine ⟨canTrap_of ?_, ⟨?_, ?_⟩, ⟨?_, ?_, ?_⟩, ⟨?_, ?_⟩, ⟨?_, ?_⟩, ?_,
   ⟨_, .halt, ?_, ?_⟩, _, .tlbw .., canTrap_of ?_, ?_⟩ <;> decide +kernel

/-- Firmware on the translation service core of cluster 0, which writes `hbmPage` for core `d`; context 1 may map all of HBM. -/
def walker (d : Word) : State :=
  { firmware (tscOf 0) [(1, d), (2, hbmPage.w0), (3, hbmPage.w1)] with
    contexts := [(1, { Context.reset with clusters := [0], header := 1, ranges := [(0, (0xF000000000000000, 0x000FFFFFFFFFC000))] })] }
/-- Firmware on MC0 that invalidates every entry of context 1 in the module. -/
def flusher : State := (admin mc0 0 (2 ^ 63 + 4 * 2 ^ 16 + 1)).modCore 0 (fun k => { k with l1 := [hbmPage] })
theorem test_tlbi : (match exec (.tlbi 2 3 false false) flusher with | .next t => some (t.core 0).l1 | _ => none) = some [] := by decide +kernel
theorem wit_TlbMembers : (Ready (.tlbw 1 2 3 false false) (walker 5) ∧ entryFormOk (entryOfWords ((walker 5).g 2) ((walker 5).g 3)) = true ∧
      (walker 5).g 1 = wordOf (5 + if false then 2 ^ 15 else 0) ∧ isCompute 5 = true ∧ clusterOf 5 = clusterOf (walker 5).cur.core ∧
      (walker 5).entryPermitted (entryOfWords ((walker 5).g 2) ((walker 5).g 3)) = true) ∧
    (Ready (.tlbw 1 2 3 false false) (walker 0x8000) ∧ (walker 0x8000).g 1 = wordOf (0 + if true then 2 ^ 15 else 0)) ∧
    (Ready (.tlbi 2 3 false false) flusher ∧ tlbiOk flusher.cur.core (flusher.g 2) (flusher.g 3) = true ∧
      scopeOf ((flusher.g 3).toNat / 2 ^ 16 % 8) = some .mod ∧ ∀ f ∈ flusher.inflight, f.st = .withdrawn) := by
  refine ⟨⟨enter_ready ?_, ?_, ?_, ?_, ?_, ?_⟩, ⟨enter_ready ?_, ?_⟩,
   enter_ready ?_, ?_, ?_, ?_⟩ <;> decide +kernel
theorem wit_ResolveFaults : Ready (.fres 2 3 false false) (admin (tscOf 0) 0xFFFFFFFF 511) ∧ (admin (tscOf 0) 0xFFFFFFFF 511).g 2 = wordOf 0xFFFFFFFF ∧
    (admin (tscOf 0) 0xFFFFFFFF 511).g 3 = wordOf 511 ∧ (admin (tscOf 0) 0xFFFFFFFF 511).parked = [] ∧
    ∀ n, ((admin (tscOf 0) 0xFFFFFFFF 511).cluster n).jobs = [] := by
  refine ⟨enter_ready ?_, ?_, ?_, ?_, fun n => by
    by_cases h : n = 0
    · subst h; decide
    · simp [State.cluster, admin, firmware, issuing, tblGet, h, Cluster.reset]⟩ <;> decide +kernel
theorem test_fres_advances : (match exec (.fres 2 3 false false) (admin (tscOf 0) 9 1) with | .next t => some ((t.core 5).rseq, (t.core 6).rseq) | _ => none) =
    some (9, 0) := by decide +kernel

/-- Firmware at L0 of core 0 with `htb`, and an image at 2000H of firmware memory whose word 0 is `w`, word 1 is 4000H and NFC the reset value. -/
def imager (htb : Word) (w : Nat) : State :=
  (((admin 0 0x2000 0).modCore 0 (fun k => { k with htb := htb })).writeNat { sp := .fw, off := 0x2000 } 16 (w + 2 ^ 64 * 0x4000)).writeNat
    { sp := .fw, off := 0x2058 } 8 0xA307
/-- Blocks of firmware memory. -/
def fwPages (a n : Nat) : List Page :=
  (List.range n).map (fun i => { loc := { sp := .fw, off := a + 64 * i }, ord := 0, own := false, r := true, w := true, x := true })
/-- Their bytes. -/
def fwBytes (s : State) (a n : Nat) : List Byte := (fwPages a n).flatMap (fun p => s.read p.loc 64)
theorem wit_CoreImages : (Ready (.ctxs 2 false) (imager 0x4000 0) ∧ memWf (imager 0x4000 0).mem = true ∧
      (imager 0x4000 0).findImage ((imager 0x4000 0).g 2) 36 .store = .ok (fwPages 0x2000 36) ∧
      (imager 0x4000 0).findTable (imager 0x4000 0).myCore.htb .store = .ok (fwPages 0x4000 32) ∧
      (∀ p ∈ fwPages 0x2000 36 ++ fwPages 0x4000 32, (imager 0x4000 0).homeOk p.loc 64 35 = true) ∧
      (imager 0x4000 0).roomOn ((imager 0x4000 0).spansAll (fwPages 0x2000 36 ++ fwPages 0x4000 32) false) = true) ∧
    (Ready (.ctxl 2 false) (imager 0 0) ∧ (imager 0 0).quiet (imager 0 0).cur.core (imager 0 0).cur.slot = true ∧
      (imager 0 0).readBlock ((imager 0 0).g 2) 8 64 true = .data 0 (imager 0 0) ∧ bitAt 0 63 = false) ∧
    (Ready (.ctxl 2 false) (imager 0 (2 ^ 63)) ∧ (imager 0 (2 ^ 63)).quiet (imager 0 (2 ^ 63)).cur.core (imager 0 (2 ^ 63)).cur.slot = true ∧
      (imager 0 (2 ^ 63)).readBlock ((imager 0 (2 ^ 63)).g 2) 8 64 true = .data (2 ^ 63) (imager 0 (2 ^ 63)) ∧ bitAt (2 ^ 63) 63 = true ∧
      (imager 0 (2 ^ 63)).findImage ((imager 0 (2 ^ 63)).g 2) 36 (.load false) = .ok (fwPages 0x2000 36) ∧
      (imager 0 (2 ^ 63)).readBlocks ((imager 0 (2 ^ 63)).g 2) (fwPages 0x2000 36) true = .ok (fwBytes (imager 0 (2 ^ 63)) 0x2000 36) (imager 0 (2 ^ 63)) ∧
      (imager 0 (2 ^ 63)).imageBad (wordsIn 288 (fwBytes (imager 0 (2 ^ 63)) 0x2000 36)) = none ∧
      (imager 0 (2 ^ 63)).findTable (coreCrMask 0x102 (nthW (wordsIn 288 (fwBytes (imager 0 (2 ^ 63)) 0x2000 36)) 1)) (.load false) =
        .ok (fwPages 0x4000 32) ∧
      (imager 0 (2 ^ 63)).readBlocks (baseVa (nthW (wordsIn 288 (fwBytes (imager 0 (2 ^ 63)) 0x2000 36)) 1)) (fwPages 0x4000 32) true =
        .ok (fwBytes (imager 0 (2 ^ 63)) 0x4000 32) (imager 0 (2 ^ 63))) := by
  refine ⟨⟨enter_ready ?_, ?_, ?_, ?_, ?_, ?_⟩, ⟨enter_ready ?_, ?_, ?_, ?_⟩,
   enter_ready ?_, ?_, ?_, ?_, ?_, ?_, ?_, ?_, ?_⟩ <;> decide +kernel

/-- A handler at 9000H, level 1, allotment 4, a landing ring of two cells at row 3, open. -/
def handlerImage : Nat := (2 ^ 62 + 2 ^ 60 + 4 * 2 ^ 57 + 0x9000) + 2 ^ 128 * (3 * 2 ^ 52 + 2 ^ 49)
/-- A task of a core with A floor 100, the image in its W buffer, class 63 holding the handler's area. -/
def tabler (htb : Word) : State :=
  { (issuing 0 6 { workOf [(2, 63), (3, vaOf 1 0)] with ctl := { Ctl.reset with allot := 4, fw := true } }
      { Core.reset with htb := htb, handlers := [(63, { blockWords handlerImage with w1 := 7 })] }).writeNat { sp := .buf 0 1, off := 0 } 32 handlerImage with
    floors := [(0, (0, 100, 0))] }
theorem test_wclose : (match exec (.wclose 2 false) (tabler 0) with | .next t => some ((t.core 0).handler 63).hState | _ => none) = some 2 := by decide +kernel
theorem wit_HandlerTable : (tabler 0x4000).g 2 = wordOf 63 ∧ memWf (tabler 0x4000).mem = true ∧ (tabler 0x4000).myCore.holdingOf 63 = [] ∧
    (∀ t, ((tabler 0x4000).cross (ownPage 1 0) true).savePlace 63 ≠ .stop t) ∧ (∀ t, (tabler 0).savePlace 63 ≠ .stop t) ∧
    (Ready (.wtab 2 3 false false) (tabler 0x4000) ∧ (tabler 0x4000).readBlock ((tabler 0x4000).g 3) 32 32 true = .data handlerImage ((tabler 0x4000).cross (ownPage 1 0) true) ∧
      handlerBad (blockWords handlerImage) = false ∧ (tabler 0x4000).overFloor (tabler 0x4000).cur.core (blockWords handlerImage) = false ∧
      ((tabler 0x4000).myCore.handler 63).w2 = (blockWords handlerImage).w2) ∧
    (Ready (.wclose 2 false) (tabler 0) ∧ Ready (.wopen 2 false) (tabler 0) ∧ ((tabler 0).myCore.handler 63).hState ≠ 0) := by
  refine ⟨?_, ?_, ?_,
   fun t => by rw [show ((tabler 0x4000).cross (ownPage 1 0) true).savePlace 63 = .at_ ((fwPages 0x47E0 1).headD (ownPage 0 0)) from by decide]; nofun,
   fun t => by rw [show (tabler 0).savePlace 63 = .at_ ((fwPages 0x7E0 1).headD (ownPage 0 0)) from by decide]; nofun,
   ⟨enter_ready ?_, ?_, ?_, ?_, ?_⟩, enter_ready ?_, enter_ready ?_, ?_⟩ <;> decide +kernel

/-- The same task below a floor of 4 rows. -/
def tablerLow : State := { tabler 0x4000 with floors := [(0, (0, 4, 0))] }
theorem wit_HandlerTable_floor : Ready (.wtab 2 3 false false) tablerLow ∧ CanTrap tablerLow ∧ tablerLow.g 2 = wordOf 63 ∧
    tablerLow.readBlock (tablerLow.g 3) 32 32 true = .data handlerImage (tablerLow.cross (ownPage 1 0) true) ∧ handlerBad (blockWords handlerImage) = false ∧
    tablerLow.overFloor tablerLow.cur.core (blockWords handlerImage) = true := by
  refine ⟨enter_ready ?_, canTrap_of ?_, ?_, ?_, ?_, ?_⟩ <;> decide +kernel
theorem test_wtab_floor : traps (.wtab 2 3 false false) tablerLow = some (6, 0, 0x23F) := by decide +kernel

/-- Firmware of MC0 on a row of the last core: row 255 of its C buffer at PS3, unmapped or not, in a step or not; `g3` is `b`. -/
def rower (b : Word) (mapped : Bool) (hold : Bool) : State :=
  let s := (admin mc0 (rowWordOf 32751 3 3 255) b).modCore 32751 (fun k => { k with stepHold := hold })
  if mapped then s else s.setRow 32751 3 255 none
theorem test_rmap : (match exec (.rmap 2 3 false false) (rower (wordOf (2 ^ 63 + 271)) false false) with | .next t => some (t.rowOf 32751 3 255) | _ => none) =
    some (some 271) := by decide +kernel
theorem wit_RowMembers : isCompute 32751 = true ∧ 255 < bufRows 3 ∧ 271 < bufPhys 3 ∧ (rower 0 true true).g 2 = rowWordOf 32751 3 3 255 ∧
    memWf (rower 0 true true).mem = true ∧
    (Ready (.rmap 2 3 false false) (rower (wordOf (2 ^ 63 + 271)) false false) ∧ (rower (wordOf (2 ^ 63 + 271)) false false).g 3 = wordOf (2 ^ 63 + 271) ∧
      (rower (wordOf (2 ^ 63 + 271)) false false).rowOf 32751 3 255 = none ∧
      (rower (wordOf (2 ^ 63 + 271)) false false).physUsed 32751 3 271 = false ∧
      (rower (wordOf (2 ^ 63 + 271)) false false).rowGood 32751 3 271 3 = true) ∧
    (Ready (.rmap 2 3 false false) (rower 0 true true) ∧ (rower 0 true true).g 3 = 0 ∧ (rower 0 true true).rowOf 32751 3 255 ≠ none ∧
      ((rower 0 true true).core 32751).stepHold = true) ∧
    (Ready (.evac 2 3 false false) (rower 271 true false) ∧ (rower 271 true false).g 3 = wordOf 271 ∧ (rower 271 true false).rowOf 32751 3 255 ≠ none ∧
      (rower 271 true false).physUsed 32751 3 271 = false ∧ (rower 271 true false).rowGood 32751 3 271 3 = true) := by
  refine ⟨?_, ?_, ?_, ?_, ?_, ⟨enter_ready ?_, ?_, ?_, ?_, ?_⟩,
   ⟨enter_ready ?_, ?_, ?_, ?_⟩, enter_ready ?_, ?_, ?_, ?_, ?_⟩ <;> decide +kernel

/-! ### Steps that are no words: register writes, power, the dispatcher, teams, accesses under way

Each theorem shows, row by row, a state that meets what the row asks. -/

/-- The machine after reset with one core set. -/
def oneCore (c : Nat) (k : Core) : State := { State.reset with cores := [(c, k)] }
/-- A pending start of class 3, level 2. -/
def pend3 : Pending := { cls := 3, slot := none, entry := plainEntry 0 1 4 2 0 none }
/-- A held access of slot 6 of core 0, missed at scope `.clus`. -/
def heldOne : Flight := { pendingLoad with st := .missed, scope := some .clus }
/-- Core 0 with that access held. -/
def missedCore : State :=
  { oneCore 0 { Core.reset with slots := [(6, { Slot.reset with busy := true, held := some heldOne, w := { Work.reset with ctl := { Ctl.reset with smr := 0x8000000000000000 } } })] } with
    inflight := [heldOne] }

theorem test_tprd_alert : (match exec (.tprdWrite 23 1000) { State.reset with heldAlerts := [23] } with | .next t => some t.alst | _ => none) =
    some 0x800000 := by decide +kernel
theorem wit_RegisterWrites : (∃ P, RegisterWrite State.reset (.tprdWrite 0 970) P) ∧ (∃ P, RegisterWrite State.reset (.tprdWrite 23 0xFFFF) P) ∧
    (∃ P, RegisterWrite { State.reset with heldAlerts := [23] } (.tprdWrite 23 1000) P) ∧ (∃ P, RegisterWrite State.reset (.tprdWrite 0 0x7FFF) P) ∧
    (∃ P, RegisterWrite { State.reset with heldAlerts := [2], icl := [(2, 15)] } (.tprdWrite 2 969) P) ∧ (∃ P, RegisterWrite State.reset (.alstClear 1) P) ∧
    (∃ P, RegisterWrite State.reset (.iclWrite 23 16) P) ∧ (∃ P, RegisterWrite State.reset (.iclWrite 23 17) P) ∧
    (∃ P, RegisterWrite State.reset (.pceilWrite 150) P) ∧ (∃ P, RegisterWrite State.reset (.pceilWrite 1001) P) ∧
    (∃ P, RegisterWrite State.reset (.counterWrite 32751 5 7) P) ∧ (∃ P, RegisterWrite State.reset (.cmaskWrite 0x8001 1) P) ∧
    (∃ P, RegisterWrite (oneCore 0 { Core.reset with cmask := 8, pending := [pend3] }) (.cmaskWrite 0 0) P) ∧
    ∃ P, RegisterWrite missedCore (.smrReissue 0 6 (wordOf (8 + scopeCode .sys))) P := by
  refine ⟨⟨_, .tprdBand 0 970 ?_ ?_ ?_⟩, ⟨_, .tprdBand 23 0xFFFF ?_ ?_ ?_⟩,
   ⟨_, .tprdHotMerged 23 1000 ?_ ?_ ?_⟩, ⟨_, .tprdHotHeld 0 0x7FFF ?_ ?_ ?_ ?_⟩,
   ⟨_, .tprdCoolMerged 2 969 ?_ ?_ ?_ ?_⟩, ⟨_, .alst 1⟩, ⟨_, .icl 23 16 ?_ ?_⟩,
   ⟨_, .iclRefused 23 17 ?_ ?_⟩, ⟨_, .pceil 150 ?_ ?_⟩, ⟨_, .pceilRefused 1001 ?_⟩,
   ⟨_, .counter 32751 5 7 ?_ ?_⟩, ⟨_, .cmask 0x8001 1 ?_ ?_⟩,
   ⟨_, .cmaskReady 0 0 pend3 ?_ ?_ ?_ ?_ ?_ ?_⟩,
   _, .smr 0 6 heldOne .sys ?_ ?_ ?_ ?_ ?_⟩ <;> decide +kernel

/-- In a transition to PS `p`. -/
def stepping (p : Nat) : State := { State.reset with psBusy := true, psTarget := p }
/-- A floor of W that no row of core 0 can meet. -/
def tight : State := { stepping 1 with floors := [(0, (1536, 0, 0))], failOk := (List.range 100).map (fun i => (rowKey 0 1 i, 1)) }
/-- R175's examples: FDR 6 fetches in the cycles 2, 5, 7, 10, 13 and 15 of a window. -/
theorem test_duty_six : ((List.range 16).filter (fun c => { Core.reset with fdr := 6, cyc := wordOf c }.dutyOpen)) = [2, 5, 7, 10, 13, 15] := by decide +kernel
theorem test_park_refused : (match exec (.psTableWrite 4 0x1F) State.reset with | .next t => some t.psPark4 | _ => none) = some 0xF0 := by decide +kernel
theorem wit_PowerSteps : (∃ P, PowerStep State.reset (.fetchDutyWindow 32751) P) ∧ (∃ P, PowerStep State.reset (.fetchDutyWindow mc0) P) ∧
    (∃ P, PowerStep State.reset (.budgetPeriod 0 []) P) ∧ (∃ P, PowerStep State.reset (.monitorSample 10000 20000) P) ∧
    (∃ P, PowerStep { State.reset with clampOn := true } (.monitorSample 0 20001) P) ∧ (∃ P, PowerStep State.reset (.monitorSample 10001 0) P) ∧
    (∃ P, PowerStep State.reset (.sensorSample (List.replicate 48 1150)) P) ∧ (∃ P, PowerStep State.reset (.stateRequest 7) P) ∧
    (∃ P, PowerStep State.reset (.stateRequest 0) P) ∧ (∃ P, PowerStep State.reset (.psTableWrite 4 0x0F) P) ∧
    (∃ P, PowerStep State.reset (.psTableWrite 5 0x3F) P) ∧ (∃ P, PowerStep State.reset (.psTableWrite 5 0x07) P) ∧
    (∃ P, PowerStep State.reset (.floorWrite 32751 1536 768 256) P) := by
  refine ⟨⟨_, .duty 32751 ?_ ?_⟩, ⟨_, .dutyFixed mc0 ?_ ?_⟩, ⟨_, .period 0 [] 0 0 ?_ ?_ ?_⟩,
   ⟨_, .sampleWithin 10000 20000 ?_ ?_⟩, ⟨_, .sampleClamped 0 20001 ?_ ?_⟩,
   ⟨_, .sampleClamps 10001 0 ?_ ?_⟩, ⟨_, .sensors _ ?_⟩, ⟨_, .request 7 ?_ ?_⟩,
   ⟨_, .requestSame 0 ?_ ?_ ?_⟩, ⟨_, .park4 0x0F ?_ ?_ ?_⟩,
   ⟨_, .park5 0x3F ?_ ?_ ?_⟩, ⟨_, .parkRefused 5 0x07 ?_⟩,
   _, .floor 32751 1536 768 256 ?_ ?_ ?_ ?_⟩ <;> decide +kernel
/-- On the way to PS6, every island lowered, with these parking steps done and teams. -/
def parking (done : List Nat) (ts : List Team) : State := { stepping 6 with psDone := done ++ List.range 24, teams := ts }
theorem reset_closed : Core.reset.openClasses = [] := by decide +kernel
theorem wit_PowerSteps_transition : (∃ P, PowerStep { State.reset with psReq := some 7 } .transitionStart P) ∧
    (∃ P, PowerStep { State.reset with psReq := some 7, launches := [{ id := 1, queue := none, fw := true, ctx := 0, tag := 0, job := 0, nmod := 0, wdog := 0, at_ := 0 }] }
      .transitionStart P) ∧
    (∃ P, PowerStep { State.reset with psReq := some 5, psCur := 7 } .transitionStart P) ∧ (∃ P, PowerStep (stepping 0) .transitionStart P) ∧
    (∃ P, PowerStep tight (.islandStepDown 0) P) ∧ ∃ P, PowerStep (stepping 3) (.islandStepDown 23) P := by
  refine ⟨⟨_, .begins 7 ?_ ?_ ?_ ?_ ?_⟩, ⟨_, .declined ?_ ?_ ?_ ?_⟩, ⟨_, .byPs6 5 ?_ ?_ ?_ ?_⟩, ⟨_, .ends ?_ ?_ ?_ ?_ ?_⟩,
   ⟨_, .declines 0 ?_ ?_ ?_ ?_ ?_ ?_⟩, _, .holds 23 ?_ ?_ ?_ ?_ ?_ ?_ ?_ ⟨31232, ?_, ?_⟩⟩ <;> decide +kernel
theorem wit_PowerSteps_park : (∃ P, PowerStep (parking [] []) (.diePark 7) P) ∧ (∃ P, PowerStep (parking [] [teamOf []]) (.diePark 0) P) ∧
    (∃ P, PowerStep (parking [107] []) (.diePark 7) P) ∧ (∃ P, PowerStep (parking [100, 200] []) (.diePark 0) P) ∧
    ∃ P, PowerStep { stepping 0 with dieParked := [(7, true)] } (.dieUnpark 7) P := by
  refine ⟨⟨_, .quiesces 7 ?_ ?_ ?_ ?_ ?_ ?_ ?_ ?_⟩, ⟨_, .leaves 0 (teamOf []) ?_ ?_ ?_ ?_ ?_ ?_ ?_ ?_⟩,
   ⟨_, .closes 7 ?_ ?_ ?_ ?_ ?_ ?_ ?_ ?_ ?_ (fun _ _ => reset_closed)⟩, ⟨_, .parks 0 ?_ ?_ ?_ ?_ ?_ ?_ ?_ ?_ ?_ (fun _ _ => rfl)⟩,
   _, .unparks 7 ?_ ?_ ?_ ?_⟩ <;> decide +kernel

/-- A table with one value at every key of a rising list gives it at each. -/
theorem get_all {α : Type} (d k : α) : ∀ l : List Nat, l.Pairwise (· < ·) → ∀ x ∈ l, tblGet d (l.map (fun c => (c, k))) x = k
  | [], _, _, h => nomatch h
  | a :: t, hp, x, hx => by
    rw [List.pairwise_cons] at hp
    rcases List.mem_cons.1 hx with rfl | ht
    · simp [tblGet]
    · have h1 := hp.1 x ht
      rw [List.map_cons, tblGet, if_neg (by omega), if_neg (by omega)]
      exact get_all d k t hp.2 x ht
/-- The cores of island 0 rise. -/
theorem island_rises : (islandCores 0).Pairwise (· < ·) := by
  simp only [islandCores, List.pairwise_map]
  refine List.Pairwise.imp (fun {a b} h => ?_) List.pairwise_lt_range
  simp only [coreId]; omega
/-- In a transition to PS3 whose starts on island 0 are held. -/
def holding0 : State := { stepping 3 with cores := (islandCores 0).map (fun c => (c, { Core.reset with stepHold := true })) }
theorem wit_PowerSteps_steps : ∃ P, PowerStep holding0 (.islandStepDown 0) P := by
  refine ⟨_, .stepsDown 0 ?_ ?_ ?_ ?_ ?_ ?_ ?_ (fun c h => ?_) ?_ ?_⟩
  case refine_8 =>
    have e : holding0.core c = { Core.reset with stepHold := true } := get_all _ _ _ island_rises c h
    rw [e]; decide +kernel
  all_goals decide +kernel

/-- A ready entry of level `l`. -/
def readyEntry (l : Nat) : Entry := { plainEntry 2 4 0x400 l 0x77 none with g2 := 5, g3 := 6 }
/-- Parked work 33 of core 0, with what it waits for. -/
def sleeper (w : Wait) (u : Option Nat) : Parked := { id := 33, core := 0, w := { workOf [] with thread := true, team := some 1 }, wait := w, until_ := u, ready := false }
/-- A core whose ring of level `l` holds these entries. -/
def ringed (l : Nat) (es : List Entry) : Core := { Core.reset with ready := [(l, { chip := es, spill := [] })] }
/-- Two cores of cluster 0, owned by context 1: core 64 idle, core 0 with two tasks on its deque. -/
def stealing : State :=
  { State.reset with cores := [(0, { Core.reset with dqb := 0x1000, l1 := [hbmPage], deque := [readyEntry 3, plainEntry 5 1 4 3 0 none] }), (64, { Core.reset with idle := 64 })],
                     clusters := [(0, { Cluster.reset with owner := some 1 })] }
/-- The same, the deque's page not writable. -/
def lockedDeque : State := stealing.modCore 0 (fun k => { k with l1 := [{ hbmPage with w1 := wordOf (2 ^ 57) }, { hbmPage with w1 := wordOf (2 ^ 58) }] })
/-- Core 0 of context 1, its ring of level 3 with 15 entries on chip and one in the spill area at HBM 2000H. -/
def spilled : State :=
  { State.reset with clusters := [(0, { Cluster.reset with owner := some 1 })],
                     cores := [(0, { Core.reset with rrb := [(3, 0x2006)], l1 := [hbmPage], ready := [(3, { chip := List.replicate 15 (readyEntry 3), spill := [readyEntry 3] })] })] }
/-- A stage 7 with an item for core 0, which subscribes to it. -/
def staged : State :=
  { oneCore 0 { Core.reset with stg := 15 } with clusters := [(0, { Cluster.reset with stages := [(7, [0x99, 0x88])], cfg := [(28, 0x1000000000004003), (29, 0x66)] })] }
theorem test_start_order : (match exec (.taskStart 0 3) (oneCore 0 (ringed 3 [readyEntry 3])) with
    | .next t => some ((t.slot 0 6).w.pc, (t.slot 0 6).w.regs.getG 1, (t.slot 0 6).w.regs.getG 2, (t.slot 0 6).w.regs.getG 3) | _ => none) =
    some (0x1000, 0x77, 5, 6) := by decide +kernel
theorem test_refill_reads_memory : (match exec (.spillRefill 0 3) (spilled.writeNat { sp := .hbm, off := 0x2000 } 16 (2 ^ 61 * 2 + 2 ^ 58 + 0x44 + 2 ^ 64 * 0x1234)) with
    | .next t => ((t.core 0).ring 3).chip.getLast?.map (fun e => (e.allot, e.pc, e.frame)) | _ => none) = some (1, 0x44, 0x1234) := by decide +kernel
theorem wit_DispatchSteps_events : (∃ P, DispatchStep sc (.encodingError 1 0x1000 0xFFFFFFFF) P) ∧
    (∃ P, DispatchStep (task [] |>.modCore 0 (fun k => k.setSlot 6 { k.slot 6 with w := { (k.slot 6).w with deferred := [{ cause := 8, eaddr := 9, einfo := 4 }] } }))
      (.deferredTrapDelivery 0 6) P) ∧
    (∃ P, DispatchStep (oneCore 0 { Core.reset with tvec := 0x5000, events := [eventOf 8 6 1 2] }) (.l0HandlerStart 0) P) ∧
    (∃ P, DispatchStep (oneCore 0 { Core.reset with events := [eventOf 0x13 8 1 2] }) (.l0HandlerStart 0) P) ∧
    ∃ P, DispatchStep { firmware 0 [] with clusters := [(0, { Cluster.reset with owner := some 511 })] } (.darkroomAbortRequest 0 0) P := by
  refine ⟨⟨_, .encoding 1 0x1000 0xFFFFFFFF (canTrap_of ?_)⟩, ⟨_, .deferred 0 6 { cause := 8, eaddr := 9, einfo := 4 } [] ?_ ?_ ?_ ?_ ?_ ?_ ?_ ⟨?_, ?_, ?_⟩⟩,
   ⟨_, .handler 0 0 (eventOf 8 6 1 2) [] ?_ ?_ ?_ ?_ ?_ ?_ ?_⟩, ⟨_, .dropped 0 0 0x13 1 2 [] ?_ ?_ ?_ ?_ ?_ ?_ ?_⟩, _, .abort 0 0 false 511 ?_ ?_ ?_ ?_ ?_⟩ <;> decide +kernel
theorem wit_DispatchSteps_starts : (∃ P, DispatchStep (oneCore 0 (ringed 3 [readyEntry 3])) (.taskStart 0 3) P) ∧
    (∃ P, DispatchStep { oneCore 0 (ringed 3 [resumeEntry (sleeper .time none)]) with parked := [{ sleeper .time none with ready := true }] } (.taskStart 0 3) P) ∧
    (∃ P, DispatchStep staged (.stagePop 0) P) ∧ (∃ P, DispatchStep State.reset (.controlSpaceTaskStart 32751 0x100 3 4) P) ∧
    (∃ P, DispatchStep (oneCore 5 { Core.reset with halted := true }) (.coreRestart 5) P) ∧
    (∃ P, DispatchStep State.reset (.firmwareGridStart 0x4000 9 4 ⟨2, 1⟩) P) ∧ ∃ P, DispatchStep State.reset (.firmwareGridStart 0x4000 9 1 ⟨1, 2⟩) P := by
  refine ⟨⟨_, .starts 0 3 6 (readyEntry 3) [] ?_ ?_ ?_ ?_ ?_ ?_ ?_ ?_ ?_ ?_⟩,
   ⟨_, .resumes 0 3 6 (resumeEntry (sleeper .time none)) [] { sleeper .time none with ready := true } ?_ ?_ ?_ ?_ ?_ ?_ ?_ ?_ (fun _ => nofun) ?_ ?_ ?_⟩,
   ⟨_, .stage 0 7 4 0x99 [0x88] ?_ ?_ ?_ ?_ ?_ ?_ ?_ ?_ ?_ ?_ ?_ ?_⟩, ⟨_, .control 32751 0 0x100 3 4 ?_ ?_ ?_ ?_ ?_ ?_ ?_⟩, ⟨_, .restart 5 ?_ ?_⟩,
   ⟨_, .grid 0x4000 9 4 2 1 ?_ ?_ ?_ ?_ ?_ ?_ ?_ ?_⟩, _, .grid 0x4000 9 1 1 2 ?_ ?_ ?_ ?_ ?_ ?_ ?_ ?_⟩ <;> decide +kernel
theorem wit_DispatchSteps_queues : (∃ P, DispatchStep spilled (.spillRefill 0 3) P) ∧ (∃ P, DispatchStep stealing (.stealRequest 64 0) P) ∧
    (∃ P, DispatchStep stealing (.stealRound 64) P) ∧ (∃ P, DispatchStep (oneCore 0 { Core.reset with idle := 64 }) (.stealRound 0) P) ∧
    (∃ P, DispatchStep { State.reset with clusters := [(511, { Cluster.reset with cfg := [(28, 0x9000000000004003)] })] } (.governorWindow 511) P) ∧
    (∃ P, DispatchStep sc (.antiStarvationTurn 0) P) ∧ ∃ P, DispatchStep (oneCore 0 { Core.reset with cyc := 5 }) (.antiStarvationTurn 0) P := by
  refine ⟨⟨_, .refill 0 3 (readyEntry 3) [] { sp := .hbm, off := 0x2000 } ?_ ?_ ?_ ?_ ?_ ?_ ?_ ?_ ?_⟩,
   ⟨_, .stolen 64 0 (readyEntry 3) [plainEntry 5 1 4 3 0 none] { sp := .hbm, off := 0x1000 } ?_ ?_ ?_ ?_ ?_ ?_ ?_ ?_ ?_⟩,
   ⟨_, .round 64 0 (readyEntry 3) [plainEntry 5 1 4 3 0 none] { sp := .hbm, off := 0x1000 } ?_ ?_ ?_ ?_ ?_ ?_ ?_ ?_ ?_ ?_⟩,
   ⟨_, .roundFails 0 ?_ ?_ ?_ ?_ ?_⟩, ⟨_, .window 511 7 ?_ ?_ ?_ ?_ ?_⟩, ⟨_, .aged 0 ?_ ?_⟩, _, .notAged 0 ?_ ?_⟩ <;> decide +kernel
theorem wit_DispatchSteps_fault : ∃ P, DispatchStep lockedDeque (.stealRequest 64 0) P := by
  refine ⟨_, .dequeFault 64 0 1 (readyEntry 3) [plainEntry 5 1 4 3 0 none] ?_ ?_ ?_ ?_ ?_ ?_ ?_ ?_⟩ <;> decide +kernel

/-- Parked work that watches line 5 of core 0, which a store has reached. -/
def wakeable : State :=
  { oneCore 0 { Core.reset with watches := [{ line := 5, fw := false, ctx := 1, waiters := [33] }] } with
    parked := [sleeper (.line 5) (some 9)], wakes := [(5, 0)], teams := [teamOf []], usec := 9 }
/-- A second team of context 1 that waits for cluster 0. -/
def queuedTeam : Team := { teamOf [] with id := 2, placed := false, resident := false, threads := 1, cores := [], since := 1 }
/-- A team that is leaving, its one thread at a boundary. -/
def leavingTeam : State := { thread [] with teams := [{ teamOf [] with leaving := true }] }
/-- A team that is swapped out, with that thread saved. -/
def outTeam : Team := { teamOf [] with resident := false, saved := [(0, 6, { workOf [] with thread := true, team := some 1 })] }
/-- Cluster 0 of context 1. -/
def ctxOne (ts : List Team) : State := { State.reset with clusters := [(0, { Cluster.reset with owner := some 1 })], teams := ts }
theorem canWake_of {s : State} {p : Parked} (h : s.parked.find? (fun x => x.id == p.id) = some p ∧ p.ready = false ∧
    RingRoom (s.core p.core) p.w.lvl ∧ ∀ x ∈ s.teams, some x.id = p.w.team → x.resident = true) : CanWake s p := ⟨h.1, h.2.1, h.2.2.1, h.2.2.2⟩
theorem wit_TeamSteps : (∃ P, TeamStep wakeable (.watchWake 0 5) P) ∧ (∃ P, TeamStep wakeable (.waitaTimeout 33) P) ∧
    (∃ P, TeamStep { wakeable with parked := [sleeper .time (some 9)] } (.parkTimeout 33) P) ∧
    (∃ P, TeamStep (ctxOne [teamOf [], queuedTeam]) (.swapQuantum 0) P) ∧ (∃ P, TeamStep State.reset (.swapQuantum 511) P) ∧
    (∃ P, TeamStep leavingTeam (.teamSwapOut 1) P) ∧ (∃ P, TeamStep (ctxOne [outTeam]) (.teamSwapIn 1) P) ∧
    ∃ P, TeamStep (ctxOne [queuedTeam]) (.teamSwapIn 2) P := by
  refine ⟨⟨_, .wake 0 5 (sleeper (.line 5) (some 9)) false 1 ?_ ?_ ?_ (canWake_of ?_) ?_ ?_⟩,
   ⟨_, .lineTime (sleeper (.line 5) (some 9)) 5 9 (canWake_of ?_) ?_ ?_ ?_⟩,
   ⟨_, .parkTime (sleeper .time (some 9)) 9 (canWake_of ?_) ?_ ?_ ?_⟩,
   ⟨_, .quantum 0 queuedTeam (teamOf []) [] [] ?_ ?_ ?_⟩, ⟨_, .noQuantum 511 ?_ ?_⟩,
   ⟨_, .swapOut { teamOf [] with leaving := true } ?_ ?_ ?_ ?_ ?_ ?_ ?_ ?_ ?_⟩,
   ⟨_, .swapIn outTeam ?_ ?_ ?_ ?_ ?_ ?_ ?_ ?_ ?_ ?_ ?_⟩,
   _, .placed queuedTeam 0 0 { Cluster.reset with owner := some 1 } ?_ ?_ ?_ ?_ ?_ ?_ ?_ ?_⟩ <;> decide +kernel

/-- A store of 8 bytes to HBM on its way. -/
def farStore : Flight := { pendingLoad with kind := .store, data := 0x55 }
/-- The task of core 0 with accesses on their way. -/
def flying (fs : List Flight) : State := { task [] with inflight := fs }
/-- The task with a release store sent behind one that awaits translation. -/
def unsettled (f : Flight) : State :=
  { task [] |>.modCore 0 (fun k => k.setSlot 6 { k.slot 6 with waiting := [{ va := 0, data := 0, len := 8, kind := .store, rel := true, scope := none, pc := 0, glen := 1, id := f.acc, sent := true, regs := Regs.reset, fpc := 0 }] }) with
    inflight := [f] }
/-- Eight more held accesses at the same home. -/
def full (f : Flight) : State := { unsettled f with inflight := f :: (List.range 8).map (fun i => { farStore with id := 60 + i, acc := 60 + i, work := 9, st := .held }) }
/-- A value for `g5`. -/
def valueBack (k : RetKind) : Ret := { id := 40, core := 0, slot := 6, work := 7, pc := 0xFFC, va := 0x2000, kind := .load false, dest := .g 5, data := 0x1234, ret := k }
/-- Values on their way back. -/
def returning (r : Ret) : State := { task [] with returns := [r] }
/-- A task that waits for a walk of 2000H; context 1 may map all of HBM. -/
def walking : State :=
  { task [] |>.modCore 0 (fun k => k.setSlot 6 { k.slot 6 with stall := some (.walk 0x2000 0, 0), len := 1 }) with
    contexts := [(1, { Context.reset with clusters := [0], header := 1, ranges := [(0, (0xF000000000000000, 0x000FFFFFFFFFC000))] })] }
theorem test_fill : (match exec (.registerFill 40) (returning (valueBack .value)) with | .next t => some ((t.slot 0 6).w.regs.getG 5) | _ => none) = some 0x1234 := by decide +kernel
theorem test_store_lands : (match exec (.remoteAccessAtHome 50) (flying [farStore]) with | .next t => some (t.readNat { sp := .hbm, off := 0x2000 } 8) | _ => none) =
    some 0x55 := by decide +kernel
/-- A core that has asked for the line of a prefetch. -/
def fetching : State := { walking with cores := [(0, { Core.reset with wanted := [{ deque := false, fw := false, ctx := 1, va := 0x2000 }] })] }
/-- A load on its way to a word of HBM that holds a double-bit error. -/
def spoiled : State := { flying [pendingLoad] with poison := [pendingLoad.loc.key / 8] }
theorem test_error_retires : (match exec (.remoteAccessAtHome 50) spoiled with | .next t => some ((t.context 1).abort, t.retired) | _ => none) =
    some (some (6, 0), [pendingLoad.loc.key / 16384]) := by decide +kernel
theorem wit_FlightSteps_values : (∃ P, FlightStep (returning (valueBack .value)) (.registerFill 40) P) ∧ (∃ P, FlightStep (returning (valueBack (.failed 8))) (.refusalReturn 40) P) ∧
    (∃ P, FlightStep (returning (valueBack (.event 8))) (.refusalReturn 40) P) ∧ (∃ P, FlightStep (flying [farStore]) (.remoteAccessAtHome 50) P) ∧
    (∃ P, FlightStep { flying [pendingLoad] with gathers := [{ acc := 49, left := 1, data := 0, bad := none }] } (.remoteAccessAtHome 50) P) ∧
    ∃ P, FlightStep spoiled (.remoteAccessAtHome 50) P := by
  refine ⟨⟨_, .fill (valueBack .value) 5 ?_ ?_ ?_ ?_ ?_⟩, ⟨_, .refused (valueBack (.failed 8)) 5 8 ?_ ?_ ?_ ?_ ?_⟩, ⟨_, .told (valueBack (.event 8)) 8 ?_ ?_ ?_⟩,
   ⟨_, .stored farStore ?_ ?_ ?_ ?_ ?_ ?_ ?_ ?_⟩, ⟨_, .loaded pendingLoad ?_ ?_ ?_ ?_ ?_ ?_ ?_ ?_ ?_⟩,
   _, .lost pendingLoad 1 (pendingLoad.loc.key / 8) ?_ ?_ ?_ ?_ ?_ ?_ ?_ ?_ ?_ ?_ ?_ ?_ ?_ ?_⟩ <;> decide +kernel
theorem wit_FlightSteps_releases : (∃ P, FlightStep (unsettled farStore) (.remoteAccessAtHome 50) P) ∧ (∃ P, FlightStep (full farStore) (.remoteAccessAtHome 50) P) ∧
    (∃ P, FlightStep (flying [{ farStore with st := .nacked 0 }]) (.releaseRetry 50) P) ∧ (∃ P, FlightStep (flying [{ farStore with st := .held }]) (.commitToken 50) P) ∧
    (∃ P, FlightStep (flying [{ farStore with st := .withdrawn }]) (.releaseWithdraw 50) P) ∧
    (∃ P, FlightStep (flying [{ farStore with scope := some .clus }]) (.scopeMissReturn 50) P) ∧
    ∃ P, FlightStep (flying [{ farStore with loc := { sp := .remote 3, off := 0x2000 } }]) (.remoteAccessTimeout 50) P := by
  refine ⟨⟨_, .held farStore ?_ ?_ ?_ ?_ ?_⟩, ⟨_, .nacked farStore ?_ ?_ ?_ ?_ ?_⟩, ⟨_, .retried { farStore with st := .nacked 0 } ?_ ?_⟩,
   ⟨_, .committed { farStore with st := .held } ?_ ?_ ?_ ?_ ?_ ?_ ?_ ?_ ?_ ?_ ?_⟩, ⟨_, .withdrawn { farStore with st := .withdrawn } ?_ ?_⟩,
   ⟨_, .missed { farStore with scope := some .clus } ?_ ?_ ?_ ?_ ?_⟩, _, .timeout { farStore with loc := { sp := .remote 3, off := 0x2000 } } 3 ?_ ?_ ?_ ?_ ?_⟩ <;>
    decide +kernel
theorem wit_FlightSteps_walks : (∃ P, FlightStep walking (.tlbMissMessage 0 6 (.entry hbmPage.w0 hbmPage.w1)) P) ∧ (∃ P, FlightStep walking (.tlbMissMessage 0 6 .absent) P) ∧
    (∃ P, FlightStep walking (.tlbMissMessage 0 6 .refused) P) ∧ ∃ P, FlightStep fetching (.tlbMissMessage 0 6 (.entry hbmPage.w0 hbmPage.w1)) P := by
  refine ⟨⟨_, .walked 0 6 0 0 0x2000 hbmPage.w0 hbmPage.w1 ?_ ?_ ?_ ?_ ?_ ?_ ?_ ?_⟩, ⟨_, .absent 0 6 0 0 0x2000 ?_ ?_ ?_ ?_ ?_ ?_ ⟨?_, ?_, ?_⟩⟩,
   ⟨_, .denied 0 6 0 0 0x2000 ?_ ?_ ?_ ?_ ?_ ?_ ⟨?_, ?_, ?_⟩⟩,
   _, .prefetched 0 6 { deque := false, fw := false, ctx := 1, va := 0x2000 } hbmPage.w0 hbmPage.w1 ?_ ?_ ?_ ?_ ?_ ?_ ?_ ?_ ?_⟩ <;> decide +kernel

/-! ### Packets, links, engines, the copy engine, the GMU -/

/-- A message of class 3 with two words from core 0 to core 130, at its destination. -/
def note : Packet :=
  { id := 70, gm := false, fw := false, ctx := 1, src := 0, sslot := 6, dst := 130, cls := 3, slot := 0, span := 1, words := [0x11, 0x22], nrw := false, topx := false,
    dword := 5, route := none, at_ := 130, head := none, turn := 0, here := true, local_ := false }
/-- Context 1 owns cluster 0; core 130 has class 3's handler with what `h` says and lets core 0 store to its A buffer; a packet is on its way. -/
def posted (h : Words4) (p : Packet) : State :=
  { State.reset with cores := [(130, { Core.reset with handlers := [(3, h)] })], clusters := [(0, { Cluster.reset with owner := some 1 })], packets := [p], routesUp := true }
/-- A window of core 130 that admits stores of the whole A buffer from its own context. -/
def openWindow (s : State) : State := s.modCore 130 (fun k => { k with win := [(0, wordOf (2 * 2 ^ 32 + 768 * 2 ^ 16 + 7 * 2 ^ 34 + 4 * 2 ^ 40))] })
/-- A landing ring of 2 cells at row 3 and a mailbox of one slot at row 10. -/
def landH : Words4 := blockWords handlerImage
def mailH : Words4 := { words0 with w0 := 0x5800000000009000, w2 := wordOf (2 ^ 62 + 10 * 2 ^ 52 + 2 ^ 42) }
/-- A record of one variable in FP32 on its way. -/
def gmNote : Packet := { note with gm := true, words := [0, 0x1000, 0] }
/-- MC1 with class 0's handler open and alert 23 held. -/
def alerting : State := { oneCore mc1 { Core.reset with handlers := [(0, landH)] } with heldAlerts := [23] }
/-- Core 130 holding a message for its format. -/
def formatted : State :=
  openWindow { posted landH note with packets := [], cores := [(130, { Core.reset with handlers := [(3, landH)], fmth := some note })] }
/-- A core whose slot 6 has stood at an instruction since cycle 0. -/
def stuck (y : Why) : State := task [] |>.modCore 0 (fun k => { k.setSlot 6 { k.slot 6 with stall := some (y, 0), len := 1 } with cyc := 0x1000001 })
/-- A link with one flit missing, one unacknowledged and a replay copy. -/
def wire : State := { State.reset with links := [(9, { Link.reset with expect := 4095, naks := [7], window := [5], copies := [(70, 1)], fails := [(71, 7)] })] }
theorem welcome_of {s : State} {c : Nat} {p : Packet} (h : (p.local_ = true ∨ s.ownsCore p.fw p.ctx c = true) ∧
    s.parkedCore c = false ∧ (s.core c).loading = false ∧ ((s.core c).handler p.cls).hState = 1 ∧ p.nrw = false ∧
    s.areaTakes c p ((s.core c).handler p.cls) = true ∧ (s.core c).masked p.cls = false ∧
    (s.core c).acceptsArrival ((s.core c).handler p.cls).hLvl = true ∧ RingRoom (s.core c) ((s.core c).handler p.cls).hLvl) : Welcome s c p :=
  ⟨h.1, ⟨h.2.1, h.2.2.1⟩, h.2.2.2.1, h.2.2.2.2.1, h.2.2.2.2.2.1, h.2.2.2.2.2.2.1, h.2.2.2.2.2.2.2⟩
theorem test_lands : (match exec (.messageArrival 70) (openWindow (posted landH note)) with
    | .next t => some (t.readNat { sp := .buf 130 2, off := 200 } 8, ((t.core 130).ring 1).chip.map (fun e => (e.pc, e.g2))) | _ => none) =
    some (0x22, [(0x9000, 0xFFFFFFFFFFF200C0)]) := by decide +kernel
theorem test_hop : (match exec (.packetHeadRouting 70) (posted landH { note with at_ := 0, here := false }) with | .next t => some (t.packets.map (fun p => p.at_)) | _ => none) =
    some [64] := by decide +kernel
/-- The note on its way from core 0, the first link of its way retired or not. -/
def leaving (gone : Bool) : State :=
  { posted landH { note with at_ := 0, here := false } with links := if gone then [(64, { Link.reset with retired := true })] else [] }
theorem wit_PacketSteps_hops : (∃ P, PacketStep (leaving false) (.packetHeadRouting 70) P) ∧ (∃ P, PacketStep (leaving true) (.packetHeadRouting 70) P) ∧
    (∃ P, PacketStep (posted landH { note with here := false }) (.packetHeadRouting 70) P) ∧
    (∃ P, PacketStep { posted landH { note with here := false } with routesUp := false } (.packetHeadRouting 70) P) ∧
    ∃ P, PacketStep State.reset (.routeTableWrite 32751 63 0xFFFF) P := by
  refine ⟨⟨_, .moves { note with at_ := 0, here := false } .e 64 ?_ ?_ ?_ ?_ ?_ ?_ ?_ ?_ ?_⟩,
   ⟨_, .otherWay { note with at_ := 0, here := false } .s 1 ?_ ?_ ?_ ?_ ?_ ?_ ?_ ?_ ?_ ?_ ?_⟩,
   ⟨_, .ejects { note with here := false } ?_ ?_ ?_ ?_ ?_ ?_⟩, ⟨_, .noRoute { note with here := false } ?_ ?_ ?_ ?_ ?_⟩, _, .routes 32751 63 0xFFFF ?_ ?_ ?_⟩ <;> decide +kernel
/-- The note with a route word that goes east, at the same retired link; and on its way to die 1, with no link of die 0 left. -/
def worded : Packet := { note with at_ := 0, here := false, route := some 0x24000000 }
def gone : Packet := { note with at_ := 0, here := false, dst := 4096 }
theorem wit_PacketSteps_retired :
    (∃ P, PacketStep { posted landH worded with routes := [(3, 0xB000)], links := [(64, { Link.reset with retired := true })] } (.packetHeadRouting 70) P) ∧
    ∃ P, PacketStep { posted landH gone with links := (List.range 8).map (fun i => (i, { Link.reset with retired := true })) } (.packetHeadRouting 70) P := by
  refine ⟨⟨_, .linkGone worded 0x24000000 .e 64 0 ?_ ?_ ?_ ?_ ?_ ?_ ?_ ?_ ?_ ?_ ?_⟩, _, .noWay gone ?_ ?_ ?_ ?_ ?_ ?_ ?_ ?_ ?_ ?_⟩ <;> decide +kernel
theorem wit_PacketSteps_arrivals : (∃ P, PacketStep (openWindow (posted landH note)) (.messageArrival 70) P) ∧ (∃ P, PacketStep (posted words0 note) (.messageArrival 70) P) ∧
    (∃ P, PacketStep (openWindow (posted mailH gmNote)) (.gmRecordArrival 70) P) ∧ (∃ P, PacketStep alerting (.heldAlertRetry 23) P) ∧
    (∃ P, PacketStep { State.reset with heldAlerts := [23] } (.heldAlertRetry 23) P) ∧ (∃ P, PacketStep formatted (.fmthAdmit 130) P) ∧
    (∃ P, PacketStep formatted (.fmthRefuse 130) P) ∧ (∃ P, PacketStep (stuck (.partner 0 1)) (.swapxTimeout 0 6) P) ∧
    ∃ P, PacketStep (stuck .queueFull) (.engwaitTimeout 0 6) P := by
  refine ⟨⟨_, .lands note ?_ (welcome_of ?_) ?_ ?_⟩, ⟨_, .noHandler note ?_ ?_ ?_ ?_ ?_ ?_⟩, ⟨_, .record gmNote ?_ ?_ (welcome_of ?_) ?_ ?_ ?_ ?_ ?_⟩,
   ⟨_, .alert 23 ?_ ?_ (welcome_of ?_) ?_ ?_⟩, ⟨_, .alertWaits 23 ?_ ?_ ?_⟩, ⟨_, .admitted 130 note ?_ ?_ ?_ ?_ ?_ ?_ ?_ ?_ ?_⟩, ⟨_, .refusedHere 130 note ?_ ?_ ?_ ?_⟩,
   ⟨_, .swapxTime 0 6 0 0 1 ?_ ?_ ?_ ?_ ?_ ?_ ⟨?_, ?_, ?_⟩⟩, _, .queueTime 0 6 0 ?_ ?_ ?_ ?_ ?_ ?_ ⟨?_, ?_, ?_⟩⟩ <;> decide +kernel
/-- A note at core (0,63,0) for core (1,0,0). -/
def edgeNote : Packet := { note with at_ := 63 * 64, dst := 4096, here := false }
/-- The note on the edge of die 0, bound for die 1, with the window of the link that it crosses holding `n` flits. -/
def edged (n : Nat) : State := { posted landH edgeNote with links := [(1, { Link.reset with window := List.range n, next := n })] }
theorem test_crosses : (match exec (.packetHeadRouting 70) (edged 127) with
    | .next t => some (t.packets.map (fun p => p.at_), ((t.link 1).window.drop 126, (t.link 1).next)) | _ => none) =
    some ([4096], ([126, 127], 128)) := by decide +kernel
theorem wit_PacketSteps_crossing : (∃ P, PacketStep (edged 127) (.packetHeadRouting 70) P) ∧ ∃ P, PacketStep (edged 128) (.packetHeadRouting 70) P := by
  refine ⟨⟨_, .crosses edgeNote .e 4096 ?_ ?_ ?_ ?_ ?_ ?_ ?_ ?_ ?_ ?_ ?_ ?_⟩, _, .windowFull edgeNote .e 4096 ?_ ?_ ?_ ?_ ?_ ?_ ?_ ?_ ?_ ?_ ?_ ?_⟩ <;> decide +kernel
theorem wit_PacketSteps_links : (∃ P, PacketStep wire (.flitArrival 9 4095 true) P) ∧ (∃ P, PacketStep wire (.flitArrival 9 4095 false) P) ∧
    (∃ P, PacketStep wire (.flitArrival 9 7 true) P) ∧ (∃ P, PacketStep wire (.flitAck 9 5) P) ∧ (∃ P, PacketStep wire (.flitNak 9 5 true) P) ∧
    (∃ P, PacketStep wire (.flitNak 9 4095 false) P) ∧ (∃ P, PacketStep wire (.replayRequest 9 70 true) P) ∧
    (∃ P, PacketStep { State.reset with links := [(9, { Link.reset with copies := [(71, 1)], fails := [(71, 7)] })] } (.replayRequest 9 71 true) P) ∧
    ∃ P, PacketStep wire (.endToEndAck 9 70) P := by
  refine ⟨⟨_, .flit 9 4095 ?_ ?_ ?_⟩, ⟨_, .flitBad 9 4095 ?_ ?_ ?_⟩, ⟨_, .flitAgain 9 7 ?_ ?_⟩,
   ⟨_, .ack 9 5 ?_⟩, ⟨_, .skip 9 5 ?_ ?_ ?_⟩, ⟨_, .again 9 4095 ?_⟩, ⟨_, .replay 9 70 true ?_ ?_⟩,
   ⟨_, .retires 9 71 ?_ ?_ ?_⟩, _, .delivered 9 70⟩ <;> decide +kernel

/-- A 4 by 4 tensor of FP32: in the A buffer of a core (moving) or its W buffer (stationary), offset 0, stride 16. -/
def mat (loc : Nat) : Words4 :=
  { w0 := wordOf (2 ^ 63 + 2 ^ 59 + loc * 2 ^ 40 + 4 * 2 ^ 24 + 4 * 2 ^ 8), w1 := 0, w2 := wordOf (16 * 2 ^ 32), w3 := 0 }
/-- The halves of a product of one row by a 1 by 1 tile, result FP32, into the C buffer of core 0 or a ring of it. -/
def movHalf : Half :=
  { seq := 5, core := 0, slot := 6, work := 7, team := none, ctx := 1, moving := true, low := true, pc := 0x1000, td := mat 2, ga := 0x4000000000,
    gb := wordOf (2 ^ 44), eg := 0x000000FFFF000081, pace := 0, rm := 0, topx := false, cmd := 3, cycle := 90 }
def staHalf : Half := { movHalf with seq := 6, core := 64, slot := 6, work := 8, moving := false, low := false, td := mat 1, ga := 0, gb := 0 }
/-- A job of them, started or not, with these rows; NOBAR set or not. -/
def jobOf (started : Bool) (row : Nat) (rows : List AccRow) (m : Half) : Job :=
  { mov := m, sta := staHalf, started := started, start := 0, loadEnd := 0, b := [0x40400000], bscale := [], row := row, out := 0, sent := 0, rows := rows, next := 0, duty := 16 }
/-- Windows that admit stores of the whole A and C buffers from the own context. -/
def openWins : List (Nat × Word) := [(0, wordOf (3 * 2 ^ 32 + 256 * 2 ^ 16 + 7 * 2 ^ 34 + 4 * 2 ^ 40)), (1, wordOf (2 * 2 ^ 32 + 768 * 2 ^ 16 + 7 * 2 ^ 34 + 4 * 2 ^ 40))]
/-- Engine 0 with a job, at engine cycle 100, between cores 0 and 64, which hold 2.0 and 3.0; core 0 admits its own results. -/
def running (j : Option Job) : State :=
  ((({ State.reset with engines := [(0, { Engine.reset with job := j, cyc := 100, lowM := if j.isSome then [] else [movHalf], highS := if j.isSome then [] else [staHalf] })], clusters := [(0, { Cluster.reset with owner := some 1 })], cores := [(0, { Core.reset with win := openWins })] } : State).writeNat { sp := .buf 0 2, off := 0 } 4 0x40000000).writeNat
    { sp := .buf 64 1, off := 0 } 4 0x40400000)
/-- A row whose one accumulator is 6.0. -/
def rowSix : AccRow := { row := 0, beats := 1, last := 50, acc := [0x40C00000], done := true }
/-- A result packet of it. -/
def sixPacket : ResultPkt := { id := 80, eng := 0, mov := movHalf, row := 0, acc := [0x40C00000] }
/-- A moving half whose results go to ring 2 of core 0, without a barrier object. -/
def ringHalf : Half := { movHalf with gb := wordOf (2 ^ 48 + 2 ^ 44 + 2 * 2 ^ 29) }
def quietHalf : Half := { movHalf with eg := 0x000000FFFF080081 }
/-- Core 0 with ring 2 of 8 elements bound. -/
def streamed : State :=
  running (some (jobOf true 1 [rowSix] ringHalf)) |>.modCore 0 (fun k => { k with rings := [(2, { owner := some (7, 0), team := none, base := 0, logk := 3, rd := 0, occ := 7 })] })
theorem test_beat_multiplies : (match exec (.beatPull 0) (running (some (jobOf true 0 [] movHalf))) with
    | .next t => (t.engine 0).job.map (fun j => j.rows.map (fun r => r.acc)) | _ => none) = some [[0x40C00000]] := by decide +kernel
theorem test_row_lands : (match exec (.resultPacketArrival 80) { running none with results := [sixPacket] } with
    | .next t => some (t.readNat { sp := .buf 0 3, off := 0 } 4) | _ => none) = some 0x40C00000 := by decide +kernel
/-- A copy job of 16 KiB from the C buffer of core 0 to its A buffer, in elements of 8 bytes. -/
def copyJob (run : Bool) : CopyJob :=
  { jid := 63, serial := 9, fn := 0, card := [wordOf (3 * 2 ^ 62 + 2 ^ 55 + 2 ^ 53), 0, 0, 0, vaOf 3 0, 16384, 0, 0, 0, 0, 0, 0, vaOf 2 0, 16384, 0, 0], obj := { sp := .buf 0 3, off := 0x3FF0 }, objVa := vaOf 3 0x3FF0,
    core := 0, slot := 6, work := 7, team := none, fw := false, ctx := 1, unit := 0, running := run, token := none, after := [], stopped := false }
/-- Cluster 0 of context 1 with that job. -/
def copying (j : CopyJob) : State :=
  ({ State.reset with clusters := [(0, { Cluster.reset with owner := some 1, jobs := [j] })] } : State).writeNat { sp := .buf 0 3, off := 8 } 8 0xABCD
/-- A job that reads an address that no TLB knows. -/
def lostJob : CopyJob := { copyJob true with card := [wordOf (3 * 2 ^ 62 + 2 ^ 55 + 2 ^ 53), 0, 0, 0, 0x8000, 64, 0, 0, 0, 0, 0, 0, vaOf 2 0, 64, 0, 0] }
/-- A broadcast with a unit on its way to core 64. -/
def castJob : CopyJob := { copyJob true with fn := 4, card := [wordOf (2 ^ 55 + 2 ^ 53 + 2 ^ 48 + 7 * 2 ^ 30 + 5 * 2 ^ 24), 0, 0, 0, vaOf 3 0, 64, 0, 0, 0, 0, 0, 0, 0x40, 64, 0, 0] }
def castUnit : BctUnit := { id := 81, cluster := 0, serial := 9, core := 0, fw := false, ctx := 1, dst := 64, buf := 1, off := 0x40, data := [1, 2] }
/-- Core 64 with a window that admits stores to its W buffer. -/
def castState : State :=
  { copying castJob with bcts := [castUnit], cores := [(64, { Core.reset with win := [(0, wordOf (1 * 2 ^ 32 + 1536 * 2 ^ 16 + 7 * 2 ^ 34 + 4 * 2 ^ 40))] })] }
theorem test_copy_unit : (match exec (.copyUnit 0 63 .absent) (copying (copyJob true) |>.modCore 0 (fun k => { k with cyc := 0 })) with
    | .next t => some (t.readNat { sp := .buf 0 2, off := 8 } 8) | _ => none) = some 0xABCD := by decide +kernel
/-- A `gmcpy` of a record of one variable in FP32 at A offset 16 to offset 32, which has its own. -/
def gmReq : GmuReq := { slot := 6, work := 7, pc := 0x1000, fn := 7, a := vaOf 2 32, b := vaOf 2 64, blk := 0, d := 0, gmc := 0xF82800 }
def gmuState : State :=
  ((task [] |>.modCore 0 (fun k => { k.setSlot 6 { k.slot 6 with stall := some (.gmu, 0), len := 1 } with gmu := [gmReq], gmuBusy := true })).writeNat
    { sp := .buf 0 2, off := 64 } 16 (2 ^ 64 * 0x1000)).writeNat { sp := .buf 0 2, off := 32 } 16 (2 ^ 64 * 0x1000)
theorem wit_UnitSteps_engines : (∃ P, UnitStep (running none) (.enginePairing 0) P) ∧
    (∃ P, UnitStep (running (some (jobOf false 0 [] movHalf))) (.jobStart 0) P) ∧ (∃ P, UnitStep (running (some (jobOf true 0 [] movHalf))) (.beatPull 0) P) ∧
    (∃ P, UnitStep (running (some (jobOf true 1 [rowSix] movHalf))) (.rowSend 0) P) ∧
    (∃ P, UnitStep { running none with results := [sixPacket] } (.resultPacketArrival 80) P) ∧ (∃ P, UnitStep streamed (.streamRowDelivery 0) P) ∧
    ∃ P, UnitStep (running (some { jobOf true 1 [] quietHalf with out := 1, sent := 1 })) (.tileEndArrival 0) P := by
  refine ⟨⟨_, .pairs 0 movHalf staHalf ?_ ?_ ?_ ?_ ?_ ?_ ?_ ?_⟩,
   ⟨_, .starts 0 (jobOf false 0 [] movHalf) .f32 ?_ ?_ ?_ ?_ ?_ ?_ ?_⟩,
   ⟨_, .beat 0 (jobOf true 0 [] movHalf) ?_ ?_ ?_ ?_ ?_ ?_ ?_⟩,
   ⟨_, .rowLeaves 0 (jobOf true 1 [rowSix] movHalf) rowSix [] ?_ ?_ ?_⟩,
   ⟨_, .rowLands sixPacket ?_ ?_ ?_ ?_ ?_ ?_ ?_⟩,
   ⟨_, .rowStreams 0 (jobOf true 1 [rowSix] ringHalf) rowSix [] _ ?_ ?_ ?_ rfl ?_ ?_ ?_ ?_⟩,
   _, .jobEnds 0 { jobOf true 1 [] quietHalf with out := 1, sent := 1 } ?_ ?_ ?_ ?_ ?_ ?_ ?_ ?_⟩ <;> decide +kernel
theorem wit_UnitSteps_copies : (∃ P, UnitStep (copying (copyJob false)) (.copyJobStart 0) P) ∧ (∃ P, UnitStep (copying (copyJob true)) (.copyUnit 0 63 .refused) P) ∧
    (∃ P, UnitStep (copying lostJob) (.copyUnit 0 63 .absent) P) ∧ (∃ P, UnitStep castState (.bctArrival 81) P) ∧
    (∃ P, UnitStep { gmuState with cores := gmuState.cores.map (fun e => (e.1, { e.2 with gmuBusy := false })) } (.gmuRequestStart 0) P) ∧
    ∃ P, UnitStep gmuState (.gmuRequestComplete 0) P := by
  refine ⟨⟨_, .copyStarts 0 (copyJob false) ?_ ?_ ?_ ?_⟩,
   ⟨_, .copies 0 63 0 0xFFFFFFFFFFF20000 64 (copyJob true) { sp := .buf 0 3, off := 0 } { sp := .buf 0 2, off := 0 } .refused ?_ ?_ ?_ ?_ ?_ ?_ ?_ ?_ ?_ ?_ ?_ ?_ ?_ ?_⟩,
   ⟨_, .suspends 0 63 lostJob 0x8000 ?_ ?_ ?_ ?_ ?_ ?_ ?_ ?_ ?_ ?_ ⟨0, 0x3FF0, ?_, ?_⟩ ?_⟩, ⟨_, .multicast castUnit ?_ ?_ ?_ ?_ ?_⟩, ⟨_, .gmuTakes 0 ?_ ?_ ?_⟩,
   _, .gmuCopies 0 64 32 gmReq [] _ _ ?_ ?_ ?_ ?_ ?_ ?_ ?_ ?_ ?_ ?_ ?_ ?_ rfl rfl ?_ ?_ ?_ ?_⟩ <;> decide +kernel
/-- The state and the value that the request leaves. -/
def gmuAfter : State := match ((gmuState.modCore 0 (fun k => { k with gmu := [], gmuBusy := false })).gmRun 0 gmReq) with | .ok u _ => u | _ => State.reset
theorem wit_UnitSteps_gmu : ∃ P, UnitStep gmuState (.gmuRequestComplete 0) P := by
  refine ⟨_, .gmuEnds 0 gmReq [] gmuAfter 0 ?_ ?_ ?_ ?_⟩ <;> decide +kernel

/-! ### The host and firmware -/

/-- Words in HBM from a byte offset on. -/
def inHbm (s : State) (o : Nat) (ws : List Word) : State :=
  (List.zip ws (List.range ws.length)).foldl (fun t e => t.writeNat { sp := .hbm, off := o + 8 * e.2 } 8 e.1.toNat) s
/-- In service, with queue 63 of 8 records enabled, its completion queue of 2, and one record at its head. -/
def hosted (r : List Word) : State :=
  inHbm { State.reset with mode := 1, queues := [(63, { HostQ.reset with w0 := 0x10000, w1 := 0x20000, w2 := 0x80000000003F0103, tail := 1 })] } 0x10000 r
/-- A launch of context 1: two teams of three threads, allotment 4, tag 99H. -/
def launchRec (al : Nat) : List Word := [wordOf (2 ^ 51 + al * 2 ^ 48 + 3 * 2 ^ 41 + 2), 0x4000, 0x7000, 0, wordOf (63 * 2 ^ 42), 0x99, 1, 0]
/-- The first eight cores by column of cluster 0, all halted, and the context. -/
def halted (s : State) : State :=
  { s with cores := (List.range 48).map (fun k => (coreId 0 (k / 6) (k % 6), { Core.reset with halted := true })), clusters := [(0, { Cluster.reset with owner := some 1 })],
           contexts := [(1, { Context.reset with clusters := [0] })] }
/-- A record that creates context 1 on cluster 5. -/
def createRec : List Word := [wordOf (2 ^ 60 + 2 ^ 51), wordOf (2 ^ 9 + 5), 0x40000, 0x50000, wordOf (63 * 2 ^ 42), 0x99, 0, 0]
def destroyRec : List Word := [wordOf (2 * 2 ^ 60 + 2 ^ 51), 0, 0, 0, wordOf (63 * 2 ^ 42), 0x99, 0, 0]
def checkRec : List Word := [wordOf (3 * 2 ^ 60), 17, 0x4000, 0, wordOf (63 * 2 ^ 42), 0x99, 0, 0]
/-- The checkpoint that it asks for. -/
def check (b : Bool) : Checkpoint := { queue := 63, job := 17, dest := 0x4000, tag := 0x99, copying := b }
theorem cq_room {s : State} {q : Nat} (h : (s.queue (s.queue q).cq).cqTail - (s.queue (s.queue q).cq).cqHead < 2 ^ bits (s.queue (s.queue q).cq).w2 12 8 ∧
    (s.queue (s.queue q).cq).heldRecs = []) : CqRoom s q := h
theorem takes_of {s : State} {q k : Nat} (h : q < 64 ∧ s.mayTake q = true ∧ recKind (s.head q) = k) : Takes s q k := h
theorem test_malformed : (match exec (.launchRecord 63) (hosted (launchRec 5)) with | .next t => some (t.readNat { sp := .host, off := 0x20000 } 8 / 2 ^ 48) | _ => none) =
    some 0x8001 := by decide +kernel
theorem wit_HostSteps_queues : (∃ P, HostStep State.reset (.sqDoorbell 63 5) P) ∧ (∃ P, HostStep State.reset (.cqHeadWrite 0 5) P) ∧
    (∃ P, HostStep { State.reset with queues := [(0, { HostQ.reset with heldRecs := [words0] })] } (.cqHeadWrite 0 0) P) ∧
    (∃ P, HostStep State.reset (.queueConfigurationWrite 63 0 1) P) ∧ (∃ P, HostStep State.reset (.queueConfigurationWrite 63 1 1) P) ∧
    (∃ P, HostStep State.reset (.queueConfigurationWrite 63 2 1) P) ∧
    (∃ P, HostStep State.reset (.queueConfigurationWrite 64 0 0xFFFFFFFFFFFFFFFF) P) ∧ (∃ P, HostStep State.reset (.queueConfigurationWrite 64 1 20) P) ∧ (∃ P, HostStep (hosted []) (.queueConfigurationWrite 63 3 1) P) ∧
    (∃ P, HostStep (hosted (launchRec 5)) (.launchRecord 63) P) ∧ (∃ P, HostStep (hosted (launchRec 4)) (.launchRecord 63) P) ∧
    ∃ P, HostStep (halted (hosted (launchRec 4))) (.launchRecord 63) P := by
  refine ⟨⟨_, .doorbell 63 5 ?_⟩, ⟨_, .cqHead 0 5 ?_ ?_⟩, ⟨_, .cqHeld 0 0 words0 ?_ ?_ ?_⟩,
   ⟨_, .queueBase 63 1 ?_ ?_ ?_⟩, ⟨_, .cqBase 63 1 ?_ ?_ ?_⟩,
   ⟨_, .queueWord 63 1 ?_ ?_ ?_⟩, ⟨_, .ringBase 0xFFFFFFFFFFFFFFFF⟩, ⟨_, .ringSize 20 ?_ ?_⟩,
   ⟨_, .queueEnabled 63 3 1 ?_ ?_ ?_⟩,
   ⟨_, .launchMalformed 63 (takes_of ?_) (cq_room ?_) ?_ ?_ ?_⟩,
   ⟨_, .launchDenied 63 (takes_of ?_) (cq_room ?_) ?_ ?_ ?_ ?_ ?_⟩,
   _, .launches 63 (takes_of ?_) ?_ ?_ ?_ ?_ ?_ ?_⟩ <;> decide +kernel
theorem test_create_denied : (match exec (.createContextRecord ⟨63, .absent⟩) (halted (hosted createRec)) with
    | .next t => some (t.readNat { sp := .host, off := 0x20000 } 8 / 2 ^ 48) | _ => none) = some 0x8004 := by decide +kernel
theorem wit_HostSteps_records : (∃ P, HostStep (halted (hosted createRec)) (.createContextRecord ⟨63, .absent⟩) P) ∧ (∃ P, HostStep (hosted createRec) (.createContextRecord ⟨63, .absent⟩) P) ∧
    ∃ P, HostStep (halted (hosted destroyRec)) (.destroyContextRecord 63) P := by
  refine ⟨⟨_, .createDenied 63 .absent (takes_of ?_) (cq_room ?_) ?_ ?_ ?_ ?_ ?_⟩, ⟨_, .creates 63 .absent (takes_of ?_) (cq_room ?_) ?_ ?_ ?_ ?_ ?_ ?_ ?_ ?_ ?_ ?_⟩,
   _, .destroys 63 (takes_of ?_) (cq_room ?_) ?_ ?_ ?_ ?_ ?_ ?_ ?_ ?_ ?_ ?_ ?_ ?_⟩ <;> decide +kernel
theorem wit_HostSteps_checkpoint : (∃ P, HostStep (hosted checkRec) (.checkpointRecord 63) P) ∧
    (∃ P, HostStep { hosted checkRec with checkpoint := some (check false) } (.checkpointRecord 63) P) ∧
    ∃ P, HostStep { hosted checkRec with checkpoint := some (check true) } .checkpointStream P := by
  refine ⟨⟨_, .checkpoints 63 (takes_of ?_) ?_ ?_ ?_ ?_ ?_ ?_ ?_⟩, ⟨_, .copies 63 (check false) (takes_of ?_) ?_ ?_ ?_ ?_ ?_⟩,
   _, .streams (check true) ?_ ?_ ?_ (cq_room ?_)⟩ <;> decide +kernel

/-- A launch of context 1 on queue 63 with a watchdog of 1 ms. -/
def oneLaunch : Launch := { id := 5, queue := some 63, fw := false, ctx := 1, tag := 0x99, job := 0, nmod := 1, wdog := 1, at_ := 0 }
theorem wit_HostSteps_ends : (∃ P, HostStep { hosted [] with launches := [oneLaunch] } (.launchCompletion 1) P) ∧
    (∃ P, HostStep { State.reset with launches := [{ oneLaunch with fw := true, queue := none }] } (.launchCompletion 512) P) ∧
    (∃ P, HostStep { State.reset with launches := [oneLaunch], usec := 1000 } (.watchdogExpiry 5) P) ∧
    (∃ P, HostStep { State.reset with contexts := [(512, { Context.reset with abort := some (8, 0) })] } (.contextAbortEnd 512) P) ∧
    (∃ P, HostStep State.reset (.faultConsumerIndex 5) P) ∧
    (∃ P, HostStep { State.reset with faults := { State.reset.faults with size := 8, prod := 256, heldRecs := [(0, words0)] } } (.faultConsumerIndex 1) P) ∧
    ∃ P, HostStep State.reset (.resolutionWord 0xFFFFFFFF) P := by
  refine ⟨⟨_, .completes 1 63 oneLaunch ?_ ?_ ?_ ?_ (cq_room ?_) ?_⟩, ⟨_, .gridEnds ?_ ?_⟩, ⟨_, .watchdog oneLaunch ?_ ?_ ?_⟩, ⟨_, .abortEnds 512 ?_ ?_⟩,
   ⟨_, .consumer 5 ?_⟩, ⟨_, .consumerHeld 1 0 words0 ?_ ?_⟩, _, .resolution 0xFFFFFFFF ?_ ?_⟩ <;> decide +kernel
/-- The digest of the three bytes of "abc" begins so (FIPS 180-4's example). -/
theorem test_sha512 : (sha512 [0x61, 0x62, 0x63]).take 8 = [0xDD, 0xAF, 0x35, 0xA1, 0x93, 0x61, 0x7A, 0xBA] := by decide +kernel
theorem wit_HostSteps_trust : (∃ P, HostStep State.reset (.attestationRequest 4 7) P) ∧ (∃ P, HostStep State.reset (.attestationRequest 7 7) P) ∧
    (∃ P, HostStep State.reset (.attestationRequest 5 1) P) ∧
    (∃ P, HostStep { State.reset with mode := 3 } (.recoveryRequest 0 true) P) ∧ (∃ P, HostStep { State.reset with mode := 3 } (.recoveryRequest 0 false) P) ∧
    ∃ P, HostStep State.reset (.recoveryRequest 0 true) P := by
  refine ⟨⟨_, .attest 4 7 ?_⟩, ⟨_, .recovWord 1 7 ?_⟩, ⟨_, .report ?_ ?_⟩, ⟨_, .recovers 0 ?_⟩, ⟨_, .staysDown 0 ?_⟩, _, .notDown 0 true ?_⟩ <;> decide +kernel
theorem test_host_reads : (match exec (.hostMemoryAccess 8 2 .read) (inHbm State.reset 8 [0x1234]) with | .next t => some t.reply | _ => none) =
    some (.data [0x34, 0x12]) := by decide +kernel
theorem wit_HostSteps_memory : (∃ P, HostStep State.reset (.hostMemoryAccess 0 64 .read) P) ∧ (∃ P, HostStep { State.reset with psCur := 7 } (.hostMemoryAccess 0 64 .read) P) ∧
    (∃ P, HostStep { State.reset with poison := [7] } (.hostMemoryAccess 0 64 .read) P) ∧ (∃ P, HostStep State.reset (.hostMemoryAccess 0 4 (.barWrite 5)) P) ∧
    (∃ P, HostStep State.reset (.hostMemoryAccess 4 8 .barRead) P) ∧ (∃ P, HostStep State.reset (.hostMemoryAccess (2 ^ 40 - 8) 8 (.write 5)) P) ∧
    ∃ P, HostStep { State.reset with psCur := 7 } (.hostMemoryAccess 0 8 (.write 5)) P := by
  refine ⟨⟨_, .hostRead 0 64 ?_ ?_ ?_⟩, ⟨_, .hostPoison 0 64 ?_ ?_⟩, ⟨_, .hostLost 0 64 7 ?_ ?_ ?_ ?_ ?_ ?_⟩, ⟨_, .barOther 0 4 5 ?_⟩, ⟨_, .barOnes 4 8 ?_⟩,
   ⟨_, .hostWrite (2 ^ 40 - 8) 8 5 ?_ ?_ ?_ ?_⟩, _, .hostDropped 0 8 5 ?_⟩ <;> decide +kernel
theorem wit_HostSteps_modes : (∃ P, HostStep State.reset (.powerOn true 0x3FFF) P) ∧ (∃ P, HostStep State.reset (.modeChange 1) P) ∧
    (∃ P, HostStep { State.reset with mode := 2 } (.modeChange 1) P) ∧ (∃ P, HostStep { State.reset with mode := 1 } (.modeChange 2) P) ∧
    ∃ P, HostStep State.reset (.modeChange 3) P := by
  refine ⟨⟨_, .power true 0x3FFF⟩, ⟨_, .service ?_⟩, ⟨_, .afterTest ?_⟩, ⟨_, .test ?_ ?_⟩, _, .fails ?_⟩ <;> decide +kernel
/-- Context 1, its table narrowed after an access that is still under way. -/
def narrowed : State := { flying [pendingLoad] with narrowing := [(1, 51)] }
theorem wit_HostSteps_firmware : (∃ P, HostStep State.reset (.permissionTableWrite 512 0 0x800000000000001F 0) P) ∧
    (∃ P, HostStep { State.reset with contexts := [(511, { Context.reset with header := 31 })] } (.permissionTableWrite 511 0 30 0) P) ∧
    (∃ P, HostStep State.reset (.permissionTableWrite 0 31 0xF000000000004000 0x000FFFFFFFFFC000) P) ∧
    (∃ P, HostStep { task [] |>.modCore 0 (fun k => k.setSlot 1 { k.slot 6 with w := workOf [] }) with clusters := [(511, { Cluster.reset with owner := some 1 })] }
      (.stageConfigStore 0 1 511 (32 * 7 + 8 * 2) 0x1000000) P) ∧
    (∃ P, HostStep (task [] |>.modCore 0 (fun k => k.setSlot 1 { k.slot 6 with w := workOf [] })) (.stageConfigStore 0 1 511 (32 * 7 + 8 * 3) 0) P) ∧
    (∃ P, HostStep State.reset (.podBarrierArrival 0xFFFF 4) P) ∧ ∃ P, HostStep narrowed (.permissionTableWrite 1 31 0 0) P := by
  refine ⟨⟨_, .header 512 0x800000000000001F ?_ ?_ ?_ ?_ ?_⟩, ⟨_, .headerNarrows 511 30 ?_ ?_ ?_ ?_⟩,
   ⟨_, .range 0 31 0xF000000000004000 0x000FFFFFFFFFC000 ?_ ?_ ?_ ?_ ?_ ?_ ?_ ?_ ?_⟩,
   ⟨_, .stageWord 0 1 511 7 2 0x1000000 ?_ ?_ ?_ ?_ ?_ ?_ ?_⟩,
   ⟨_, .stageRefused 0 1 511 7 3 0 ?_ ?_ ?_ ?_ ?_ ?_ ?_ ?_⟩,
   ⟨_, .pod 0xFFFF 4 ?_ ?_⟩, _, .narrowWaits 1 31 0 0 ?_ ?_ ?_⟩ <;> decide +kernel

/-! ### The encoding (R246 to R263) -/

/-- The member that words decode to. -/
def one (ws : List IWord) : Option Instr :=
  match decodeGroup ws with
  | .group g => some g.instr
  | _ => none

/-- R250 to R261: `add` to `and`. -/
theorem test_decode_1 :
    [[0x055F4A00], [0x05898441], [0x05B15002], [0x07D3E903], [0x04393784], [0x06322505], [0x0581E446], [0x06C8DCC7],
     [0x05443348], [0x06283989]].map one =
    [.add 21 61 10 false false, .sub 24 38 4 false true, .mul 27 5 16 false false, .mulhS 61 15 41 false false,
     .mulhZ 3 36 55 true false, .divS 35 8 37 false false, .divZ 24 7 36 false true, .remS 44 35 28 true true,
     .remZ 20 16 51 false true, .and 34 32 57 true false].map some := by decide +kernel

/-- R250 to R261: `or` to `minS`. -/
theorem test_decode_2 :
    [[0x04885B4A], [0x05B0FECB], [0x0678264C], [0x05FB6BCD], [0x053B99CE], [0x04BA084F], [0x049C1090], [0x04B75AD1],
     [0x06E6D712], [0x04C28F93]].map one =
    [.or 8 33 27 false true, .xor 27 3 62 true true, .andn 39 32 38 false true, .orn 31 45 43 true true,
     .shl 19 46 25 true true, .shr 11 40 8 false true, .sar 9 48 16 true false, .rol 11 29 26 true true,
     .ror 46 27 23 false false, .minS 12 10 15 true false].map some := by decide +kernel

/-- R250 to R261: `minZ` to `lea3`. -/
theorem test_decode_3 :
    [[0x0514C1D4], [0x07D26DD5], [0x05A68716], [0x04538017], [0x04858018], [0x04194019], [0x07D6001A], [0x0783A8DB],
     [0x06761FDC], [0x05F7D45D]].map one =
    [.minZ 17 19 1 true true, .maxS 61 9 45 true true, .maxZ 26 26 7 false false, .clz 5 14 false, .ctz 8 22 false,
     .popc 1 37 false, .bswap 61 24 false, .lea1 56 14 40 true true, .lea2 39 24 31 true true, .lea3 31 31 20 false true].map some := by decide +kernel

/-- R250 to R261: `cmp` to `liS`. -/
theorem test_decode_4 :
    [[0x0B045F88], [0x0FB09F50], [0x12DDF097], [0x17B2D8B4], [0x1A38D45E], [0x1E8D0034], [0x1F56A80D], [0x1D7BF002],
     [0x22046F36], [0x24B00000, 0x8000000B]].map one =
    [.cmp 6 17 31 true false .geS, .addi 59 2 false 0x1f50, .andi 45 55 true 0x1097, .ori 59 11 false 0x18b4,
     .xori 35 35 false 0x145e, .shli 40 52 false 0x34, .shri 53 26 true 0xd, .sari 23 47 true 2, .cmpi 4 17 true .gtZ 0x136,
     .liS 11 0x8000000b].map some := by decide +kernel

/-- R250 to R261: `liZ` to `pnot`. -/
theorem test_decode_5 :
    [[0x24C00001, 0x8000000C], [0x24D00002, 0x8000000D], [0x2B4F01C3], [0x28F7ECF3], [0x2B6070A3], [0x2C41C600],
     [0x2C708401], [0x2C210702], [0x2C60C103], [0x2C718004]].map one =
    [.liZ 12 0x8000000c, .lih 13 0x8000000d, .bextS 52 60 false 0xe 3, .bextZ 15 31 true 0x27 0x13, .bins 54 1 true 5 3,
     .pand 4 7 6, .por 7 2 4, .pxor 2 4 7, .pandn 6 3 1, .pnot 7 6].map some := by decide +kernel

/-- R250 to R261: `pmov` to `yield`. -/
theorem test_decode_6 :
    [[0x2C410005], [0x2DA00006], [0x2C0C3D07], [0x30E5CFDF], [0x34339DBB], [0x380A8080], [0x3ABF0001], [0x3C000000],
     [0x3C000001], [0x3C000002]].map one =
    [.pmov 4 4, .pget 26, .pput 48 61 false false, .br 1 true 0x25cfdf, .call 0x339dbb, .jr 42 true, .jalr 43 60 false,
     .nop, .endTask, .yield].map some := by decide +kernel

/-- R250 to R261: `trap` to `ldvt`. -/
theorem test_decode_7 :
    [[0x3C002403], [0x3C090004], [0x3C000005], [0x3C000006], [0x401D0C7F], [0x4513B64C], [0x49BDAE55], [0x4CB138BC],
     [0x5345327A], [0x54EA9389]].map one =
    [.trap 0x24, .eret 36 false, .halt, .brk, .ldZ 1 52 false .b2 (.ordered .core) 0x7f,
     .ldS 17 14 true .b4 (.ordered .mod) 0x4c, .st 27 54 true .b2 (.ordered .mod) 0x55,
     .ldv 5 34 false (.ordered .sys) 0xbc, .stv 26 10 false (.ordered .mod) 0x27a, .ldvt 7 21 false .e16 0x389].map some := by decide +kernel

/-- R250 to R261: `fence` to `amo64`. -/
theorem test_decode_8 :
    [[0x58002400], [0x5800C001], [0x58D1C002], [0x58034003], [0x580EBB84], [0x5AD14005], [0x59D24006], [0x59234007],
     [0x5DF87D99], [0x636749F0]].map one =
    [.fence .full .mod, .pf 3, .qbind 13 7 false, .qfree 13, .salloc 58 59 true false, .qstat 45 5, .qget 29 9,
     .qgetv 18 13, .amo32 31 33 61 .minS (.acqrel .quad), .amo64 54 29 9 .cas (.rel .core)].map some := by decide +kernel

/-- R250 to R261: `faddF32` to `barMod`. -/
theorem test_decode_9 :
    [[0x66B41C80], [0x67AC8A81], [0x67E78F82], [0x66BD8FC3], [0x65B34084], [0x686BD8C0], [0x68000001], [0x68000002],
     [0x68000003], [0x68000004]].map one =
    [.faddF32 43 16 28 true false, .faddF16 58 50 10 true false, .faddF64 62 30 15 true false, .faddBf16 43 54 15 true true,
     .decp 27 13 true, .waita 6 47 24 true true, .barQuad, .barClus, .barDie, .barMod].map some := by decide +kernel

/-- R250 to R261: `barPod` to `grow`. -/
theorem test_decode_10 :
    [[0x68000005], [0x680B8286], [0x68023B47], [0x68048348], [0x6F7EEC40], [0x6C0B4001], [0x6C048442], [0x6C0F4203],
     [0x6C015144], [0x6E46C005]].map one =
    [.barPod, .boinit 46 2 true false, .boarr 8 59 false true, .bowait 18 3 false true, .fork 55 59 44 false true,
     .join 45 false, .rfork 18 4 false true, .post 61 2 false false, .cdinit 5 17 false true, .grow 36 27 false].map some := by decide +kernel

/-- R250 to R261: `shrink` to `sendr`. -/
theorem test_decode_11 :
    [[0x6C388006], [0x6FF2D147], [0x6C0A4008], [0x6C04C009], [0x7125F400], [0x70008081], [0x70040002], [0x72BD4083],
     [0x7008F604], [0x74324A80, 0x44B00000]].map one =
    [.shrink 3 34 false, .stgpush 63 11 17 false true, .stgsub 41 false, .park 19 false, .send 0x12 23 52 false false,
     .cmask 2 true, .cunmask 16 false, .cpend 43 53 true, .swapx 35 54 false false, .sendr 3 9 10 true false 0x44B00000].map some := by decide +kernel

/-- R250 to R261: `vadd` to `vshl`. -/
theorem test_decode_12 :
    [[0x8167D880], [0x82F8A901], [0x81AC1182], [0x80A11B83], [0x831D4E04], [0x80C21805], [0x82DB6806], [0x8391B007],
     [0x81544008], [0x82EA1489]].map one =
    [.vadd 11 7 27 .f32, .vsub 23 24 21 .f16, .vmul 13 12 2 .bf16, .vmin 5 1 3 .s8, .vmax 24 29 9 .narrow, .vand 6 2 3,
     .vor 22 27 13, .vxor 28 17 22, .vandn 10 20 8, .vshl 23 10 2 .z32].map some := by decide +kernel

/-- R250 to R261: `vshr` to `vrsqrt`. -/
theorem test_decode_13 :
    [[0x80C64D0A], [0x8029628B], [0x824B000C], [0x8502FF44], [0x84EC3049], [0x85A3824E], [0x86A74443], [0x88230093],
     [0x8CAD0080], [0x8C4D0081]].map one =
    [.vshr 6 6 9 .z16, .vsar 1 9 12 .s32, .vmov 18 11, .vfma 8 2 31 29 .f32, .vfms 7 12 6 1 .f16, .vfnma 13 3 16 9 .bf16,
     .vfnms 21 7 8 17 .f64, .vcvt 1 3 .f32 .f16 .rup, .vrcp 5 13 .f32, .vrsqrt 2 13 .f32].map some := by decide +kernel

/-- R250 to R261: `vsqrt` to `vredMin`. -/
theorem test_decode_14 :
    [[0x8D4A0002], [0x8D030103], [0x8FF10184], [0x8F25B005], [0x92FAED80], [0x91B90081], [0x93101B02], [0x93141E03],
     [0x905B0084], [0x92FD0385]].map one =
    [.vsqrt 10 10 .f64, .vexp2 8 3 .f16, .vlog2 31 17 .bf16, .vdiv 25 5 22 .f64, .vperm 23 26 29 .z8, .vbcast 13 25 .f32,
     .vins 24 16 3 .s16, .vext 24 20 3 .narrow, .vredAdd 2 27 .f32, .vredMin 23 29 .s8].map some := by decide +kernel

/-- R250 to R261: `vredMax` to `vdot`. -/
theorem test_decode_15 :
    [[0x92AE0486], [0x92FA8C87], [0x93D10288], [0x92330089], [0x937A0C0A], [0x92D3D58B], [0x96F6F882], [0x95030104],
     [0x9845AB00], [0x9BE46EC9]].map one =
    [.vredMax 21 14 .z32, .vpack 23 26 17 .z32, .vunpkLo 30 17 .s32, .vunpkHi 17 19 .f32, .vzip 27 26 1 .z64,
     .vunzip 22 19 26 .z8, .vcmp 23 22 31 .f32 .lt, .vclass 8 3 .f16, .vsel 2 5 21 12, .vdot 31 4 13 27 .f16].map some := by decide +kernel

/-- R250 to R261: `vdotI` to `cpy`. -/
theorem test_decode_16 :
    [[0x9A42A85E], [0xA008C0C3], [0xA1105EE4], [0xA2B00008], [0xA00C000F], [0xA0044012], [0xA0000015], [0xA000001B],
     [0xA20DC01C], [0xA5FEEC00]].map one =
    [.vdotI 18 2 21 1 .s8, .lks 35 6 .w, .lkm 17 1 30 7 .n, .lkq 43 .n, .lkdrain 48 .w, .lkload 17 .s, .lkfrz .e, .lkthw .w,
     .lkcan 32 55 .n, .cpy 31 59 44].map some := by decide +kernel

/-- R250 to R261: `gat` to `gmelim`. -/
theorem test_decode_17 :
    [[0xA53C8301], [0xA68A6A02], [0xA4D16703], [0xA4A59104], [0xA80AB000], [0xAAD52801], [0xA8094002], [0xAC024180],
     [0xAC012061], [0xAFFB0702]].map one =
    [.gat 19 50 3, .sca 40 41 42, .redc 13 5 39, .bct 10 22 17, .tdset 42 48, .tdget 45 20 40, .tdinv 37, .gmacc 9 1 4,
     .gmsub 4 32 3, .gmelim 63 44 7].map some := by decide +kernel

/-- R250 to R261: `gmdamp` to `ctxl`. -/
theorem test_decode_18 :
    [[0xAC0B4E03], [0xAEC81304], [0xAEE89305], [0xAC079E06], [0xAC07B207], [0xB08EA440], [0xB00093C1], [0xB0064E02],
     [0xB00C0083], [0xB0024004]].map one =
    [.gmdamp 45 14, .gmmean 44 32 19, .gmres 46 34 19, .gmsend 30 30, .gmcpy 30 50, .tlbw 8 58 36 false true,
     .tlbi 2 19 true true, .fres 25 14 false false, .ctxs 48 true, .ctxl 9 false].map some := by decide +kernel

/-- R250 to R261: `wtab` to `setc`. -/
theorem test_decode_19 :
    [[0xB00B98C5], [0xB0008006], [0xB00F4087], [0xB00694C8], [0xB00548C9], [0xB7600CBF], [0xB80216D2]].map one =
    [.wtab 46 24 true true, .wclose 2 false, .wopen 61 true, .rmap 26 20 true true, .evac 21 8 true true, .getc 54 0xcbf,
     .setc 8 false 0x16d2].map some := by decide +kernel

/-- The worked examples of 13_isa_scalar, word by word. -/
theorem test_examples_scalar :
    [0x04614280, 0x04518704, 0x04518705, 0x0490C017, 0x1C824003, 0x1C82503F, 0x28A24C03, 0x28A2D107, 0x2081C20D, 0x09014602, 0x2C304200, 0x2C700006,
     0x2C01C807, 0x303FFFFF, 0x34000040, 0x3803C000, 0x38F24001, 0x3C000000, 0x3C000503, 0x0C71C001].map (fun w => one [w]) =
    [.add 6 5 2 true false, .mulhZ 5 6 7 false false, .divS 5 6 7 false false, .clz 9 3 false, .shli 8 9 false 3, .sari 8 9 false 63, .bextZ 10 9 false 32 3,
     .bins 10 11 false 8 7, .cmpi 1 7 false .ne 13, .cmp 2 5 6 false false .ltS, .pand 3 1 2, .pget 7, .pput 7 8 false false, .br 0 false 0x3FFFFF, .call 0x40,
     .jr 15 false, .jalr 15 9 false, .nop, .trap 5, .addi 7 7 false 1].map some := by decide +kernel
/-- The worked examples of 14_isa_memory_tasks. -/
theorem test_examples_memory :
    [0x40711801, 0x4471087F, 0x48611D08, 0x4C620001, 0x50622800, 0x55021002, 0x58001200, 0x58010001, 0x58010504, 0x58214002, 0x58008003, 0x58708005,
     0x58708006, 0x58308007].map (fun w => one [w]) =
    [.ldZ 7 4 false .b8 .relaxed 1, .ldS 7 4 false .b2 .relaxed 0x7F, .st 6 4 false .b8 (.ordered .clus) 8, .ldv 3 4 false .relaxed 1,
     .stv 3 4 false (.ordered .clus) 0, .ldvt 8 4 false .e16 2, .fence .rel .clus, .pf 4, .salloc 4 5 false false, .qbind 2 5 false, .qfree 2, .qstat 7 2, .qget 7 2,
     .qgetv 3 2].map some := by decide +kernel
/-- The worked examples of 15_isa_vector and 16_isa_engines_system. -/
theorem test_examples_vector :
    [0x80221880, 0x80221884, 0x80221805, 0x8049000C, 0x80221C89, 0x848531C4, 0x840110C3, 0x88430108, 0x8885028A, 0x8C220081, 0x8C221805, 0x90221D80, 0x90870081,
     0x90872B02, 0x94A11082, 0x98C11140, 0xA0910505, 0xA0010003, 0xAC01CC20].map (fun w => one [w]) =
    [.vadd 1 2 3 .f32, .vmax 1 2 3 .f32, .vand 1 2 3, .vmov 2 9, .vshl 1 2 3 .z32, .vfma 4 5 6 7 .f32, .vfnms 0 1 2 3 .f64, .vcvt 2 3 .f16 .f32 .fpc,
     .vcvt 4 5 .s32 .f32 .rtz, .vrsqrt 1 2 .f32, .vdiv 1 2 3 .f64, .vperm 1 2 3 .z8, .vbcast 4 7 .f32, .vins 4 7 5 .s16, .vcmp 5 1 2 .f32 .lt, .vsel 6 1 2 5,
     .lkm 9 4 5 0 .e, .lks 4 0 .w, .gmacc 7 12 1].map some := by decide +kernel
/-- R256: a guard before its member; a guard before a branch is an encoding error of reason 5 (R262). -/
theorem test_guard : decodeGroup [0xF9800000, 0x3C000503] = .group { guard := some (3, false), mod := none, instr := .trap 5, len := 2 } ∧
    decodeGroup [0xF9800000, 0x303FFFFF] = .bad 5 1 2 := by decide +kernel
theorem test_no_opcode : decodeGroup [0xF4000000] = .bad 1 0 1 := by decide +kernel

/-- WellFormed: an ill-formed term for each check, which it refuses. -/
theorem test_wellformed_refuses :
    [Instr.bextS 1 2 false 63 1, .bextZ 1 2 false 33 31, .bins 1 2 false 63 1, .ldvt 25 4 false .e8 0, .vshl 1 2 3 .f32, .vshr 1 2 3 .narrow,
     .vsar 1 2 3 .bf16, .vfma 1 2 3 4 .s32, .vfms 1 2 3 4 .z8, .vfnma 1 2 3 4 .s8, .vfnms 1 2 3 4 .narrow, .vcvt 1 2 .f32 .f32 .fpc, .vrcp 1 2 .s32,
     .vrsqrt 1 2 .z64, .vsqrt 1 2 .s8, .vexp2 1 2 .narrow, .vlog2 1 2 .s16, .vdiv 1 2 3 .z8, .vperm 1 2 3 .f64, .vins 1 2 16 .z8, .vext 1 2 2 .f64,
     .vredAdd 1 2 .narrow, .vredMin 1 2 .narrow, .vredMax 1 2 .narrow, .vpack 1 2 3 .narrow, .vunpkLo 1 2 .narrow, .vunpkHi 1 2 .z8, .vzip 1 2 3 .narrow,
     .vunzip 1 2 3 .narrow, .vclass 1 2 .s32, .vdot 1 2 3 4 .f64, .vdotI 1 2 3 4 .f32].all (fun i => !i.wellFormed) = true := by decide +kernel

/-- A group with both prefixes and one with an extension word. -/
def guardedGroup : Group := { guard := some (7, true), mod := some { sat := true, clamp := 2, neg := true, abs := true, scale := 63 }, instr := .vfma 31 30 29 28 .f16, len := 3 }
def longGroup : Group := { guard := some (0, false), mod := none, instr := .sendr 63 4 5 true false 0xFFFFFFFF, len := 3 }
theorem wit_GroupsRoundTrip : (guardedGroup.instr.isWord = true ∧ guardedGroup.instr.wellFormed = true ∧ acceptsGuard guardedGroup.instr = true ∧
      (∀ m, guardedGroup.mod = some m → acceptsMod guardedGroup.instr = true ∧ modFits m guardedGroup.instr = true) ∧
      guardedGroup.len = (encodeGroup guardedGroup).length) ∧
    (longGroup.instr.isWord = true ∧ longGroup.instr.wellFormed = true ∧ acceptsGuard longGroup.instr = true ∧ longGroup.mod = none ∧
      longGroup.len = (encodeGroup longGroup).length) := by
  refine ⟨⟨?_, ?_, ?_, fun m h => by cases h; decide, ?_⟩, ?_, ?_, ?_, ?_, ?_⟩ <;> decide +kernel
theorem wit_WordsOfGroups : decodeGroup (encodeGroup longGroup) = .group longGroup ∧ longGroup.len ≤ (encodeGroup longGroup).length := by decide +kernel

/-! ### Steps, operands and the whole machine -/

/-- The first step after reset with one word placed runs it: `trap 5` freezes slot 0 of MC0. -/
theorem test_first_step : (match step (State.reset.withFetchWord 32 0x3C000503) with
    | .next t => some ((t.slot mc0 0).frozen, (t.core mc0).events.map (fun e => (e.ecause, e.einfo))) | _ => none) = some (true, [(0xD, 5)]) := by decide +kernel
/-- A guard that is false completes the group. -/
theorem test_guard_skips : (match step (State.reset.withFetchWord 64 (0xF9800000 + 2 ^ 32 * 0x3C000503)) with
    | .next t => some ((t.slot mc0 0).frozen, (t.slot mc0 0).w.pc) | _ => none) = some (false, 0x1008) := by decide +kernel
/-- The machine with that placed, and what is left of the agenda. -/
def guarded : State := State.reset.withFetchWord 64 (0xF9800000 + 2 ^ 32 * 0x3C000503)
/-- A user task in slot 6 of core 0 whose turn it is. -/
def userTurn (pc : Word) : State := { issuing 0 6 { workOf [] with pc := pc } Core.reset with agenda := [.issue 0 6] }
/-- What `StepRunsGroups` asks of a slot. -/
def Running (s : State) (c n : Nat) : Prop :=
  s.agenda = [.issue c n] ∧ (s.slot c n).busy = true ∧ (s.slot c n).frozen = false ∧ (s.core c).halted = false ∧ (s.slot c n).w.deferred = []
theorem wit_StepRunsGroups : ({ State.reset with agenda := [.event (.alstClear 0)] } : State).agenda = [.event (.alstClear 0)] ∧
    (Running guarded mc0 0 ∧ { guarded with agenda := [] }.fetchGroup mc0 0 = .words [0xF9800000, 0x3C000503] ∧
      decodeGroup [0xF9800000, 0x3C000503] = .group { guard := some (3, false), mod := none, instr := .trap 5, len := 2 } ∧
      withinAllot (guarded.slot mc0 0).w.ctl.allot (operands (.trap 5)) = true ∧ (guarded.slot mc0 0).w.regs.getP 3 = false) ∧
    (Running (State.reset.withFetchWord 32 0xF4000000) mc0 0 ∧
      { State.reset.withFetchWord 32 0xF4000000 with agenda := [] }.fetchGroup mc0 0 = .words [0xF4000000] ∧ decodeGroup [0xF4000000] = .bad 1 0 1 ∧
      CanTrap ({ State.reset.withFetchWord 32 0xF4000000 with agenda := [] }.setCur mc0 0 1 none)) ∧
    (Running (userTurn 0x100000000000000) 0 6 ∧ { userTurn 0x100000000000000 with agenda := [] }.fetchGroup 0 6 = .fault 0 ∧
      CanTrap ({ userTurn 0x100000000000000 with agenda := [] }.setCur 0 6 1 none)) ∧
    (Running (userTurn 0x1000) 0 6 ∧ { userTurn 0x1000 with agenda := [] }.fetchGroup 0 6 = .miss 0) := by
  refine ⟨rfl, ⟨⟨?_, ?_, ?_, ?_, ?_⟩, ?_, ?_, ?_, ?_⟩,
   ⟨⟨?_, ?_, ?_, ?_, ?_⟩, ?_, ?_, canTrap_of ?_⟩,
   ⟨⟨?_, ?_, ?_, ?_, ?_⟩, ?_, canTrap_of ?_⟩, ⟨?_, ?_, ?_, ?_, ?_⟩, ?_⟩ <;> decide +kernel
theorem wit_PlacedWordRuns : (Instr.vext 31 30 7 .s16).isWord = true ∧ (Instr.vext 31 30 7 .s16).wellFormed = true ∧ extOf (.vext 31 30 7 .s16) = [] ∧
    memWf State.reset.mem = true := by decide +kernel

/-- A task with an empty `g2` and `v2`, allotment 1. -/
def hollow : State :=
  issuing 0 6 { workOf [] with regs := { Regs.reset with ge := [(2, true)], ve := [(2, true)] }, ctl := { Ctl.reset with allot := 1, ctx := 1 } } Core.reset
/-- A task with a store that awaits translation. -/
def behind : State := task [] |>.modCore 0 (fun k => k.setSlot 6 { k.slot 6 with waiting := [{ va := 0x2000, data := 0, len := 8, kind := .store, rel := false, scope := none, pc := 0, glen := 1, id := 3, sent := false, regs := Regs.reset, fpc := 0 }] })
theorem wit_OperandChecks : (Instr.add 16 2 3 false false).isWord = true ∧ withinAllot hollow.me.ctl.allot (operands (.add 16 2 3 false false)) = false ∧ CanTrap hollow ∧
    privTrap .halt hollow = some 0x15 ∧
    (privTrap (.add 1 3 2 false true) hollow = none ∧ (operands (.add 1 3 2 false true)).sg = [(3, some false)] ++ (2, some true) :: [] ∧
      (∀ q ∈ [((3 : Nat), some false)], hollow.me.regs.emptyG q.1 = false) ∧ hollow.me.regs.emptyG 2 = true) ∧
    (∃ e, (operands (.add 1 2 3 false true)).sg = [] ++ (2, e) :: [(3, some true)] ∧ e ≠ some true) ∧
    (privTrap (.vmov 1 2) hollow = none ∧ ∃ r ∈ (operands (.vmov 1 2)).sv, hollow.me.regs.emptyV r = true) ∧
    (privTrap (.barDie) behind = none ∧ passesWaiting .barDie = false ∧ behind.curSlot.waiting ≠ []) ∧
    ((∀ q ∈ (operands (.addi 2 3 false 1)).sg, hollow.me.regs.emptyG q.1 = false) ∧ (operands (.addi 2 3 false 1)).dg = some 2) := by
  refine ⟨?_, ?_, canTrap_of ?_, ?_, ⟨?_, ?_, ?_, ?_⟩, ⟨some false, ?_, ?_⟩,
   ⟨?_, 2, ?_, ?_⟩, ⟨?_, ?_, ?_⟩, ?_, ?_⟩ <;> decide +kernel
theorem wit_ZeroRegisters : ∃ n new, OwnAtomic (own 64 9) (ownLoc (own 64 9) 3 64) (.amo64 0 2 3 .add .relaxed) 0 ((own 64 9).g 2) n new ∧
    Ready (.amo64 0 2 3 .add .relaxed) (own 64 9) ∧ memWf (own 64 9).mem = true ∧ ((own 64 9).g 2).toNat % n = 0 ∧ Own (own 64 9) ((own 64 9).g 2) n 3 64 ∧
    (own 64 9).drained = true ∧ (own 64 9).curSlot.waiting = [] ∧ (own 64 9).curSlot.held = none ∧ (own 64 9).allValid (ownLoc (own 64 9) 3 64) n = true := by
  refine ⟨_, _, .amo64 _ _ _ _ _ _ .add, enter_ready ?_, ?_, ?_, ⟨?_, ?_, ?_⟩, ?_, ?_, ?_, ?_⟩ <;> decide +kernel
theorem wit_ZeroRegisters_leaves : ∃ q ps, Access (far 0x2000) (.ldZ 0 2 false .b8 (.ordered .mod) 0) 8 q ∧ (q.dest = .g 0 ∨ q.dest = .none) ∧
    Ready (.ldZ 0 2 false .b8 (.ordered .mod) 0) (far 0x2000) ∧ canonical q.va = true ∧ q.va.toNat % 8 = 0 ∧ Clear q (far 0x2000) ∧
    (far 0x2000).planHere q = .go ps ∧ ps.all (fun p => p.page.own) = false := by
  refine ⟨_, [{ off := 0, len := 8, page := { loc := { sp := .hbm, off := 0x2000 }, ord := 0, own := false, r := true, w := true, x := false } }],
   .ldZ .., ?_, enter_ready ?_, ?_, ?_, ⟨?_, ?_, ?_⟩, ?_, ?_⟩ <;> decide +kernel
theorem wit_TransferRules_zero : ¬((1 : PReg) = 0 ∧ false = false) ∧ ¬((0 : GReg) = 0 ∧ true = false) := by decide +kernel
/-- R175: a window's first cycle takes the core's new share. -/
theorem test_duty_window : (((oneCore 0 { Core.reset with cyc := 14, share := 5 }).advanceTime 7200).core 0).fdr = 5 ∧
    (((oneCore 0 { Core.reset with cyc := 14, share := 5 }).advanceTime 0).core 0).fdr = 16 := by decide +kernel
theorem wit_FetchDuty : (sc.runnable 0 6 = true ∧ (waiting.slot mc1 0).busy = true ∧ (waiting.slot mc1 0).frozen = false ∧ (waiting.core mc1).halted = false) ∧
    (tblRising 0 sc.cores = true ∧ (∃ e ∈ sc.cores, e.1 = 0) ∧ ∀ e ∈ sc.cores, e.1 ≠ 32751) ∧ { Core.reset with fdr := 6 }.fdr = 6 := by decide +kernel
/-! ### Where members complete -/

/-- The slots of core 0 beside an administrator: slot 6 holds a missed access. -/
def smrAdmin (v : Word) : State :=
  (admin 0 v 0).modSlot 0 6 (fun x => { x with busy := true, held := some heldOne, w := { x.w with ctl := { x.w.ctl with smr := 0x8000000000000000 } } })
/-- The administrator's own slot holds it. -/
def smrOwn (v : Word) : State :=
  (admin 0 v 0).modSlot 0 0 (fun x => { x with held := some heldOne, w := { x.w with ctl := { x.w.ctl with smr := 0x8000000000000000 } } })
/-- A core with a start of class 3 pending, and a message held for its format, whose class has a landing ring. -/
def formatAdmin (v : Word) : State :=
  (admin 0 v 0).modCore 0 (fun k => { k with cmask := 8, pending := [pend3], handlers := [(3, landH)], fmth := some note })
theorem test_setc_cross : (match exec (.setc 2 false 0x1608) (admin 0 0x7FFF 0) with | .next t => some ((t.slot 0 6).w.ctl.fpc, t.me.ctl.fpc) | _ => none) =
    some (0x3FFF, 0) := by decide +kernel
theorem test_setc_smr : (match exec (.setc 2 false 0x1615) (smrAdmin 12) with
    | .next t => some ((t.slot 0 6).held.isNone, (t.slot 0 6).w.ctl.smr) | _ => none) = some (true, 0) := by decide +kernel
theorem wit_MembersComplete_setc :
    (∃ Q, Ready (.setc 2 false 0xA) (admin 0 0 0) ∧ CrWritten (admin 0 0 0) 0 0xA Q) ∧
    (∃ Q, Ready (.setc 2 false 0x1718) (admin 0 0 0) ∧ CrWritten (admin 0 0 0) 0 (0x1000 + 256 * 7 + (0x18 + 0)) Q) ∧
    (∃ Q, Ready (.setc 2 false 0x15) (smrOwn 14) ∧ CrWritten (smrOwn 14) 14 0x15 Q) ∧
    (∃ Q, Ready (.setc 2 false 0x1615) (smrAdmin 9) ∧ CrWritten (smrAdmin 9) 9 (0x1015 + 256 * 6) Q) ∧
    (∃ Q, Ready (.setc 2 false 0x108) (admin 0 15 0) ∧ CrWritten (admin 0 15 0) 15 0x108 Q) ∧
    (∃ Q, Ready (.setc 2 false 0x103) (formatAdmin 0) ∧ CrWritten (formatAdmin 0) 0 0x103 Q) ∧
    (∃ Q, Ready (.setc 2 false 0x126) (formatAdmin 1) ∧ CrWritten (formatAdmin 1) 1 0x126 Q) ∧
    (∃ Q, Ready (.setc 2 false 0x126) (formatAdmin 2) ∧ CrWritten (formatAdmin 2) 2 0x126 Q) ∧
    (∃ Q, Ready (.setc 2 false 0x247) (admin mc1 0x8000 0) ∧ CrWritten (admin mc1 0x8000 0) 0x8000 (0x230 + 23) Q) ∧
    (∃ Q, Ready (.setc 2 false 0x267) (admin mc1 16 0) ∧ CrWritten (admin mc1 16 0) 16 (0x250 + 23) Q) ∧
    (∃ Q, Ready (.setc 2 false 0x270) (admin mc0 150 0) ∧ CrWritten (admin mc0 150 0) 150 0x270 Q) ∧
    (∃ Q, Ready (.setc 2 false 0x272) (admin mc1 0xFFFF 0) ∧ CrWritten (admin mc1 0xFFFF 0) 0xFFFF 0x272 Q) ∧
    (∃ Q, Ready (.setc 2 false 0x273) (admin mc1 0x7FFF 0) ∧ CrWritten (admin mc1 0x7FFF 0) 0x7FFF 0x273 Q) ∧
    (∃ Q, Ready (.setc 2 false 0x274) (admin mc1 1 0) ∧ CrWritten (admin mc1 1 0) 1 0x274 Q) ∧
    ∃ Q, Ready (.setc 2 false 0x275) (admin mc1 1 0) ∧ CrWritten (admin mc1 1 0) 1 0x275 Q := by
  refine ⟨⟨_, enter_ready ?_, .slot _ _ (.gmc ?_)⟩, ⟨_, enter_ready ?_, .cross _ _ _ ?_ (.eg 0 ?_)⟩, ⟨_, enter_ready ?_, .smr heldOne .sys ?_ ?_ ?_ ?_ ?_⟩,
    ⟨_, enter_ready ?_, .crossSmr 6 heldOne .quad ?_ ?_ ?_ ?_ ?_ ?_⟩, ⟨_, enter_ready ?_, .core _ _ ?_ .stg⟩, ⟨_, enter_ready ?_, .cmask ?_ ?_⟩,
    ⟨_, enter_ready ?_, .fmthAdmit note ?_ ?_ ?_ ?_ (fun lvl => ?_) ?_ rfl⟩, ⟨_, enter_ready ?_, .fmthRefuse note ?_ ?_ ?_ ?_ ?_⟩,
    ⟨_, enter_ready ?_, .tprd 23 ?_ (fun lvl => ⟨rfl, ?_⟩) rfl⟩, ⟨_, enter_ready ?_, .icl 23 ?_ ?_⟩, ⟨_, enter_ready ?_, .pceil ?_ ?_⟩,
    ⟨_, enter_ready ?_, .alth⟩, ⟨_, enter_ready ?_, .hyst ?_⟩, ⟨_, enter_ready ?_, .alst⟩, _, enter_ready ?_, .tlogp⟩ <;> first | decide +kernel | exact ⟨rfl, Nat.zero_lt_succ 15⟩ | exact Nat.zero_lt_succ 15

theorem wit_MembersComplete :
    (∃ Q, NormalRun (grower 2 0 3) (.grow 1 2 false) Q) ∧ (∃ Q, NormalRun crowded (.grow 1 2 false) Q) ∧ (∃ Q, NormalRun (grower 4 0 1) (.shrink 15 2 false) Q) ∧
    (∃ Q, NormalRun (stager 255) (.stgpush 1 2 3 false false) Q) ∧ (∃ Q, NormalRun (stager 256) (.stgpush 1 2 3 false false) Q) ∧
    (∃ Q, NormalRun (task [(2, 15)]) (.stgsub 2 false) Q) ∧ (∃ Q, NormalRun product (.lks 0 7 .e) Q) ∧ (∃ Q, NormalRun product (.lkm 63 2 3 0 .s) Q) ∧
    (∃ Q, NormalRun (walker 5) (.tlbw 1 2 3 false false) Q) ∧ (∃ Q, NormalRun (walker 0x8000) (.tlbw 1 2 3 false false) Q) ∧
    (∃ Q, NormalRun flusher (.tlbi 2 3 false false) Q) ∧ ∃ Q, NormalRun (admin mc1 1 0) (.setc 2 false 0x275) Q := by
  refine ⟨⟨_, .grow 1 2 false 3 (enter_ready ?_) ?_ ?_ ?_ ?_⟩, ⟨_, .grow 1 2 false 4 (enter_ready ?_) ?_ ?_ ?_ ?_⟩,
    ⟨_, .shrink 15 2 false 1 (enter_ready ?_) ?_ ?_ ?_ ?_ ?_ ?_⟩, ⟨_, .stgpush 1 2 3 false false 7 (enter_ready ?_) ?_ ?_ ?_ ?_ ?_ ?_⟩,
    ⟨_, .stgpushNo 1 2 3 false false 7 (enter_ready ?_) ?_ ?_ ?_ (.inr (.inl ?_))⟩, ⟨_, .stgsub 2 false (enter_ready ?_) ?_⟩,
    ⟨_, .lks 0 7 .e 0 64 _ (enter_ready ?_) ?_ ?_ ?_ rfl ?_ ?_ ?_ ?_ ?_ ?_⟩, ⟨_, .lkm 63 2 3 0 .s 1 1 _ (enter_ready ?_) ?_ ?_ ?_ rfl ?_ ?_ ?_ ?_ ?_ ?_ ?_ ?_⟩,
    ⟨_, .tlbw 1 2 3 false false 5 false _ (enter_ready ?_) rfl ?_ ?_ ?_ ?_ ?_ ?_⟩, ⟨_, .tlbw 1 2 3 false false 0 true _ (enter_ready ?_) rfl ?_ ?_ ?_ ?_ ?_ ?_⟩,
    ⟨_, .tlbi 2 3 false false .mod (enter_ready ?_) ?_ ?_ ?_ ?_⟩, _, .setc 2 false 0x275 _ (enter_ready ?_) .tlogp⟩ <;> decide +kernel

theorem wit_StepsKeepLegal : Legal State.reset ∧ ∃ t, step State.reset = .next t := by
  refine ⟨?_, _, rfl⟩
  unfold Legal LegalParts
  exact ⟨by decide +kernel, by decide +kernel, by decide +kernel, by decide +kernel, (fun r h => by cases h), by decide +kernel, by decide +kernel, by decide +kernel, by decide +kernel, by decide +kernel⟩
end Sys2Proof.Tests
end

section
/-! Accesses at issue: what the checks of an access let through, where an access of a core's own buffer goes, and what an `amo` or `fadd`
does there. -/

namespace Sys2Proof.Claims

open Sys2Proof.Machine Sys2Proof.Safety

/-! ### Bytes of a number (R45) -/

theorem byte_of_ofBytes (bs : List Byte) (i : Nat) : BitVec.ofNat 8 (ofBytes bs / 2 ^ (8 * i)) = bs.getD i 0 := by
  induction bs generalizing i with
  | nil => simp [ofBytes]
  | cons b bs ih =>
    cases i with
    | zero =>
      apply BitVec.eq_of_toNat_eq
      have hb := b.isLt
      simp only [ofBytes, BitVec.toNat_ofNat, List.getD_cons_zero]
      omega
    | succ i =>
      have h : (b.toNat + 256 * ofBytes bs) / 256 = ofBytes bs := by have hb := b.isLt; omega
      rw [List.getD_cons_succ, ← ih i, ofBytes, Nat.mul_succ, Nat.add_comm (8 * i), Nat.pow_add, ← Nat.div_div_eq_div_mul, h]

theorem getD_bytesOf {n i : Nat} (x : Nat) (h : i < n) : (bytesOf n x).getD i 0 = BitVec.ofNat 8 (x / 2 ^ (8 * i)) := by
  induction n generalizing x i with
  | zero => omega
  | succ n ih =>
    cases i with
    | zero => simp [bytesOf]
    | succ i =>
      rw [bytesOf, List.getD_cons_succ, ih _ (by omega), Nat.mul_succ, Nat.add_comm (8 * i), Nat.pow_add, ← Nat.div_div_eq_div_mul]

theorem getD_memGetAll (m : List Host.Cell) {n i : Nat} (k : Nat) (h : i < n) : (memGetAll m k n).getD i 0 = memGet m (k + i) := by
  induction n generalizing k i with
  | zero => omega
  | succ n ih =>
    cases i with
    | zero => rfl
    | succ i => rw [memGetAll, List.getD_cons_succ, ih _ (by omega), Nat.add_right_comm, Nat.add_assoc]

theorem ofBytes_lt (bs : List Byte) : ofBytes bs < 2 ^ (8 * bs.length) := by
  induction bs with
  | nil => simp [ofBytes]
  | cons b bs ih =>
    have hb := b.isLt
    rw [List.length_cons, Nat.mul_succ, Nat.pow_add, ofBytes]
    omega

theorem length_memGetAll (m : List Host.Cell) (k n : Nat) : (memGetAll m k n).length = n := by
  induction n generalizing k with
  | zero => rfl
  | succ n ih => rw [memGetAll, List.length_cons, ih]

theorem readNat_lt (s : State) (l : Loc) (n : Nat) : s.readNat l n < 2 ^ (8 * n) := by
  have h := ofBytes_lt (memGetAll s.mem l.key n)
  rwa [length_memGetAll] at h

/-- A number written is stored at its place. -/
theorem stored_writeNat {s : State} (hw : memWf s.mem = true) (l : Loc) (n x : Nat) : Stored s (s.writeNat l n x) l n x := by
  intro k
  rw [State.writeNat, State.byteAt_write s hw, bytesOf_length]
  split
  · next h => exact getD_bytesOf x (by omega)
  · rfl

/-- Memory that does not change holds what is read from it. -/
theorem stored_readNat (s : State) (l : Loc) (n : Nat) : Stored s s l n (s.readNat l n) := by
  intro k
  split
  · next h =>
    rw [State.readNat, byte_of_ofBytes, State.read, getD_memGetAll _ _ (by omega), Nat.add_sub_cancel' h.1, State.byteAt]
  · rfl

/-! ### Groups that complete -/

/-- No core has changed, nor which group is issuing. -/
structure SameCores (s u : State) : Prop where
  core : ∀ c, u.core c = s.core c
  cur  : u.cur = s.cur

theorem SameCores.slot {s u : State} (h : SameCores s u) (c n : Nat) : u.slot c n = s.slot c n := by rw [State.slot, h.core, State.slot]

theorem SameCores.curSlot {s u : State} (h : SameCores s u) : u.curSlot = s.curSlot := by rw [State.curSlot, h.slot, h.cur, State.curSlot]

theorem SameCores.me {s u : State} (h : SameCores s u) : u.me = s.me := by rw [State.me, h.curSlot, State.me]

theorem SameCores.myCore {s u : State} (h : SameCores s u) : u.myCore = s.myCore := by rw [State.myCore, h.core, h.cur, State.myCore]

/-- A group that completes in a state whose cores are those of `s` has completed from `s`. -/
theorem went_of_retired {s u t : State} {x : Regs} (h : SameCores s u) (r : Retired u t u.nextPc x u.me.ctl) : Went s t x := by
  obtain ⟨⟨_, _, others, core, slots⟩, slot⟩ := r
  rw [h.cur] at others slots
  rw [h.myCore] at core
  rw [h.curSlot, h.me, State.nextPc, h.cur] at slot
  exact ⟨fun c hc => (others c hc).trans (h.core c), core, fun n hn => (slots n hn).trans (h.slot _ n), slot⟩

/-- Registers changed and the group completed, in a state whose cores are those of `s`. -/
theorem went_modRegs_retire {s u : State} (h : SameCores s u) (f : Regs → Regs) : Went s (u.modRegs f).retire (f s.me.regs) := by
  rw [← h.me]
  exact went_of_retired h (retired_modRegs u u.nextPc f)

/-! ### `g0` and `p0` (R69) -/

@[simp] theorem setG_zero (x : Regs) (v : Word) : x.setG 0 v = x := rfl
@[simp] theorem markG_zero (x : Regs) : x.markG 0 = x := rfl
@[simp] theorem setP_zero (x : Regs) (b : Bool) : x.setP 0 b = x := rfl

/-- A destination that names no register that could be empty marks nothing. -/
theorem markDest_zero (x : Regs) (k : AccKind) {d : Dest} (h : d = .g 0 ∨ d = .none) : x.markDest k d = x := by
  rcases h with rfl | rfl
  · exact markG_zero x
  · rfl

/-! ### Checks of an access before it leaves (R290) -/

/-- An instruction that is ready makes its access. -/
theorem exec_access {i : Instr} {s : State} {al : Nat} {q : Req} (a : Access s i al q) (h : Ready i s) :
    exec i s = .next (s.aligned al q) := by
  cases a with
  | ldZ => rw [exec_ldZ, execLdZ, entered_ready h]
  | ldS => rw [exec_ldS, execLdS, entered_ready h]
  | st => rw [exec_st, execSt, entered_ready h]
  | ldv => rw [exec_ldv, execLdv, entered_ready h]
  | stv => rw [exec_stv, execStv, entered_ready h]
  | ldvt => rw [exec_ldvt, execLdvt, entered_ready h]
  | amo32 => rw [exec_amo32, execAmo32, entered_ready h]
  | amo64 => rw [exec_amo64, execAmo64, entered_ready h]
  | faddF32 => rw [exec_faddF32, execFaddF32, entered_ready h]
  | faddF16 => rw [exec_faddF16, execFaddF16, entered_ready h]
  | faddF64 => rw [exec_faddF64, execFaddF64, entered_ready h]
  | faddBf16 => rw [exec_faddBf16, execFaddBf16, entered_ready h]
  | decp => rw [exec_decp, execDecp, entered_ready h]

theorem aligned_access {q : Req} {al : Nat} (s : State) (hc : canonical q.va = true) (ha : q.va.toNat % al = 0) :
    s.aligned al q = s.access q := by
  rw [State.aligned, hc, if_neg (by decide), if_neg (not_not_intro ha)]

/-- An access that nothing makes wait, and that the checks let through, is issued. -/
theorem access_go {s : State} {q : Req} {ps : List Placed} (h : Clear q s) (hp : s.planHere q = .go ps) : s.access q = s.issuePlaced q ps := by
  obtain ⟨waiting, held, fence⟩ := h
  have h1 : ¬((q.acq || q.rel) && s.curSlot.held.isSome) = true := by
    intro e
    rw [Bool.and_eq_true, Bool.or_eq_true] at e
    rw [held e.1] at e
    exact Bool.noConfusion e.2
  have h2 : ¬(q.kind.writes && s.relBlocked) = true := by rw [fence, Bool.and_false]; decide
  have hstore : s.issueStore q (.go ps) = s.issuePlaced q ps := by
    simp only [State.issueStore, waiting, List.isEmpty_nil, if_true]
  have hread : s.issueRead q (.go ps) = s.issuePlaced q ps := by
    simp only [State.issueRead, State.soBlocked, fence, waiting, Bool.false_and, Bool.false_eq_true, if_false, List.isEmpty_nil, if_true]
  rw [State.access, if_neg h1, if_neg h2, hp]
  cases q.kind with
  | store => exact hstore
  | vstore => exact hstore
  | _ => exact hread

/-- R71: an access with a part outside the self region is on its way, and its destination is marked. -/
theorem issuePlaced_leaves {ps : List Placed} (s : State) (q : Req) (h : ps.all (fun p => p.page.own) = false) :
    s.issuePlaced q ps = ((s.launchParts q ps).modRegs (fun x => x.markDest q.kind q.dest)).retire := by
  rw [State.issuePlaced, h]; rfl

theorem sameCores_launchParts (s : State) (q : Req) (ps : List Placed) : SameCores s (s.launchParts q ps) := ⟨fun _ => rfl, rfl⟩

/-- An access with a part outside the self region completes with its destination marked and its parts at the end of those on their way. -/
theorem access_leaves {i : Instr} {s : State} {al : Nat} {q : Req} {ps : List Placed} (a : Access s i al q) (hr : Ready i s)
    (hc : canonical q.va = true) (ha : q.va.toNat % al = 0) (hq : Clear q s) (hp : s.planHere q = .go ps)
    (ho : ps.all (fun p => p.page.own) = false) :
    ∃ t, exec i s = .next t ∧ Went s t (s.me.regs.markDest q.kind q.dest) ∧
      t.inflight = s.inflight ++ s.flightsOf q s.nextId (s.nextId + 1) ps :=
  ⟨_, by rw [exec_access a hr, aligned_access s hc ha, access_go hq hp, issuePlaced_leaves s q ho],
    went_modRegs_retire (sameCores_launchParts s q ps) _, rfl⟩

/-! ### Nothing before an access to wait for -/

/-- Every access on its way that belongs to the issuing work is withdrawn once the work's accesses are performed. -/
theorem withdrawn_of_drained {s : State} (h : s.drained = true) {g : Flight} (hg : g ∈ s.inflight) (hw : g.work = s.me.id) :
    g.st = .withdrawn := by
  rw [State.drained, State.outstanding, List.isEmpty_iff, List.filter_eq_nil_iff] at h
  have e := h g hg
  rw [hw] at e
  simpa using e

theorem relBlocked_of_drained {s : State} (h : s.drained = true) : s.relBlocked = false := by
  rw [State.drained, List.isEmpty_iff] at h
  rw [State.relBlocked, h]
  cases s.me.relMark <;> rfl

theorem clear_of_drained {s : State} (q : Req) (h : s.drained = true) (hw : s.curSlot.waiting = []) (hh : s.curSlot.held = none) : Clear q s :=
  ⟨hw, fun _ => hh, relBlocked_of_drained h⟩

/-- No withdrawn access of a work holds back another of that work. -/
theorem mayPerform_of_withdrawn {f : Flight} (l : List Flight) (h : ∀ g ∈ l, g.work = f.work → g.st = .withdrawn) : mayPerform f l = true := by
  induction l with
  | nil => rfl
  | cons g t ih =>
    have hg : (g.work == f.work && g.blocks f) = false := by
      by_cases hw : g.work = f.work
      · rw [Flight.blocks, h g List.mem_cons_self hw]; exact Bool.and_false _
      · rw [beq_false_of_ne hw, Bool.false_and]
    rw [mayPerform, hg, ih (fun g' h' => h g' (List.mem_cons_of_mem _ h'))]
    exact ite_self _

/-! ### The core's own buffers (R98 to R101) -/

/-- The page of a place in the core's own buffers. -/
def ownPageOf (s : State) (b o : Nat) : Page := { loc := ownLoc s b o, ord := 0, own := true, r := true, w := true, x := false }

theorem canonical_of_inSelf {va : Word} (h : inSelf va = true) : canonical va = true := by
  have hv := va.isLt
  have h' : 0xFFFFFFFFFFF00000 ≤ va.toNat := of_decide_eq_true h
  have e : bits va 63 56 = 255 := by simp only [bits, fld]; omega
  rw [canonical, e]; rfl

/-- R99, R100: an address of a core's own buffer below capacity names its place, with no entry of a TLB. -/
theorem translate_own {s : State} {va : Word} {n b o : Nat} (h : Own s va n b o) (hn : 0 < n) (fw : Bool) (ctx : Nat) :
    s.translate s.cur.core fw ctx va = .page (ownPageOf s b o) := by
  obtain ⟨self, place, fits⟩ := h
  have hcap : ¬(s.cur.core = s.cur.core ∧ s.spcap s.cur.core b ≤ o / 64) := by omega
  rw [State.translate, if_pos self, place]
  exact (if_neg hcap).trans (by rw [beq_self_eq_true]; rfl)

/-- A page of a buffer that may be read and written, of ordinary kind, denies an access only what its space does not permit. -/
theorem denies_own {s : State} {k : AccKind} (b o : Nat) (l0 : Bool) (n : Nat) (ann : Bool) (h : k.spaceOk (.buf s.cur.core b) = true) :
    (ownPageOf s b o).denies l0 k n ann = none := by
  simp only [Page.denies, ownPageOf, ownLoc, h]
  simp

/-- An access of one part to the core's own buffer passes the checks. -/
theorem planHere_own {s : State} {q : Req} {b o : Nat} (hp : q.parts = [(0, q.n)]) (hk : q.kind.spaceOk (.buf s.cur.core b) = true)
    (hn : 0 < q.n) (h : Own s q.va q.n b o) : s.planHere q = .go [{ off := 0, len := q.n, page := ownPageOf s b o }] := by
  have hva : q.va + wordOf 0 = q.va := BitVec.add_zero _
  simp [State.planHere, State.plan, hp, hva, canonical_of_inSelf h.self, translate_own h hn, denies_own b o _ _ _ hk]

theorem meetsError_of_sound {s : State} {l : Loc} {n : Nat} (h : Sound s l n) (store : Bool) : s.meetsError l n store = false := by
  have e : s.errorsIn l n store = [] := by
    rw [State.errorsIn, List.filter_eq_nil_iff]
    intro w hw he
    rw [Bool.and_eq_true, wordMeets, Bool.and_eq_true, decide_eq_true_eq, decide_eq_true_eq] at he
    exact h w hw he.1
  rw [State.meetsError, e]
  cases l.sp <;> rfl

theorem uninit_own {s : State} {b o n : Nat} (h : s.allValid (ownLoc s b o) n = true ∨ s.myCore.spmode = 0) :
    s.uninit (ownLoc s b o) n = 0 := by
  have e : s.uninit (ownLoc s b o) n = if s.allValid (ownLoc s b o) n then 0 else s.myCore.spmode := rfl
  rw [e]
  rcases h with h | h
  · exact if_pos h
  · rw [h]; exact ite_self 0

/-- A part of an access to the core's own buffer whose words are written, or may be read unwritten, takes effect. -/
theorem performPart_own {s : State} {f : Flight} {b o : Nat} (hl : f.loc = ownLoc s b o) (hc : f.core = s.cur.core) (hok : f.ok = none)
    (hu : s.uninit f.loc f.len = 0) : s.performPart f = s.apply f := by
  have ha : s.homeAdmits f = true := by simp [State.homeAdmits, hl, ownLoc, hc]
  simp [State.performPart, hok, ha, hu]

/-! ### Atomics of the own C buffer (R66, R301, R303) -/

/-- The kinds of access of `amo` and `fadd`. -/
inductive Rmw : AccKind → Prop
  | amo (w : Nat) (op : Aop) : Rmw (.amo w op)
  | fadd (ty : Ty) : Rmw (.fadd ty)

/-- What a bank puts in place of `old`. -/
def rmwNew (k : AccKind) (old data cmp : Nat) : Nat :=
  match k with
  | .amo w op => (amoNew w op old data cmp).getD old
  | .fadd ty => faddNew (fmtOf 0 ty) old data
  | _ => old

theorem Rmw.atomic {k : AccKind} (h : Rmw k) : k.atomic = true := by cases h <;> rfl

theorem Rmw.spaceOk {k : AccKind} (h : Rmw k) (c : Nat) : k.spaceOk (.buf c 3) = true := by cases h <;> rfl

theorem Rmw.parts {q : Req} (h : Rmw q.kind) : q.parts = [(0, q.n)] := by
  rw [Req.parts]
  generalize q.kind = k at h ⊢
  cases h <;> rfl

/-- A number of `w` bits read as two's complement. -/
theorem toSigned_of_lt {w n : Nat} (h : n < 2 ^ w) : toSigned w n = fieldS w n := by
  rw [toSigned, Nat.mod_eq_of_lt h, fieldS, Int.natCast_pow]
  rfl

/-- The bank's new value is the one that the rule gives. -/
theorem amoNew_of_rule {w old b d v : Nat} {op : Aop} (h : AmoNew w old b d op v) (ho : old < 2 ^ w) (hb : b < 2 ^ w) :
    (amoNew w op old b d).getD old = v := by
  cases h with
  | minS => rw [amoNew, toSigned_of_lt ho, toSigned_of_lt hb]; rfl
  | maxS => rw [amoNew, toSigned_of_lt ho, toSigned_of_lt hb]; rfl
  | cas => rw [amoNew]; split <;> rfl
  | _ => rfl

theorem sameCores_writeNat (s : State) (l : Loc) (n x : Nat) : SameCores s (s.writeNat l n x) := ⟨fun _ => rfl, rfl⟩

/-- R66: the read-modify-write of a part at its place: the old value goes back, the new one is stored, no core changes. -/
theorem apply_rmw {s : State} (hw : memWf s.mem = true) {f : Flight} (hk : Rmw f.kind) :
    ∃ u, s.apply f = (u, .ok (s.readNat f.loc f.len)) ∧ SameCores s u ∧
      Stored s u f.loc f.len (rmwNew f.kind (s.readNat f.loc f.len) f.data f.cmp) := by
  rw [State.apply]
  generalize f.kind = k at hk ⊢
  cases hk with
  | amo w op =>
    simp only [rmwNew]
    cases amoNew w op (s.readNat f.loc f.len) f.data f.cmp with
    | some v => exact ⟨_, rfl, sameCores_writeNat .., stored_writeNat hw _ _ _⟩
    | none => exact ⟨_, rfl, ⟨fun _ => rfl, rfl⟩, stored_readNat s _ _⟩
  | fadd ty => exact ⟨_, rfl, sameCores_writeNat .., stored_writeNat hw _ _ _⟩

/-- The request of an `amo` or `fadd`, as the rules describe it at a place `l` of the own C buffer. -/
structure AtomicReq (s : State) (l : Loc) (q : Req) (d : GReg) (va : Word) (n new : Nat) : Prop where
  kind : Rmw q.kind
  addr : q.va = va
  size : q.n = n
  pos  : 0 < n
  data : q.data < 2 ^ (8 * n)
  dest : q.dest = .g d.toNat
  new  : rmwNew q.kind (s.readNat l n) q.data q.cmp = new

theorem atomicReq_amoReq {s : State} {l : Loc} {n : Nat} (hn : 0 < n) (d : GReg) (va b dv : Word) {op : Aop} (ann : AAnn) {v : Nat}
    (h : AmoNew (8 * n) (s.readNat l n) (b.toNat % 2 ^ (8 * n)) (dv.toNat % 2 ^ (8 * n)) op v) :
    AtomicReq s l (amoReq (8 * n) d va b dv op ann) d va n v where
  kind := .amo _ _
  addr := rfl
  size := Nat.mul_div_cancel_left n (by decide)
  pos := hn
  data := Nat.mod_lt _ (Nat.two_pow_pos _)
  dest := rfl
  new := amoNew_of_rule h (readNat_lt s l n) (Nat.mod_lt _ (Nat.two_pow_pos _))

theorem atomicReq_fadd (s : State) (l : Loc) {n : Nat} (hn : 0 < n) (d : GReg) (va b : Word) (ty : Ty) :
    AtomicReq s l (rmwReq d va n (.fadd ty) b) d va n (faddNew (fmtOf 0 ty) (s.readNat l n) (b.toNat % 2 ^ (8 * n))) where
  kind := .fadd _
  addr := rfl
  size := rfl
  pos := hn
  data := Nat.mod_lt _ (Nat.two_pow_pos _)
  dest := rfl
  new := rfl

/-- An `amo` or `fadd` makes such an access. -/
theorem access_of_ownAtomic {s : State} {l : Loc} {i : Instr} {d : GReg} {va : Word} {n new : Nat} (h : OwnAtomic s l i d va n new) :
    ∃ q, Access s i n q ∧ AtomicReq s l q d va n new := by
  cases h with
  | amo32 d a b op ann v h => exact ⟨_, .amo32 .., atomicReq_amoReq (n := 4) (by decide) d _ _ _ ann h⟩
  | amo64 d a b op ann v h =>
    rw [← Nat.mod_eq_of_lt (s.g b).isLt, ← Nat.mod_eq_of_lt (s.g d).isLt] at h
    exact ⟨_, .amo64 .., atomicReq_amoReq (n := 8) (by decide) d _ _ _ ann h⟩
  | faddF32 d a b => exact ⟨_, .faddF32 .., atomicReq_fadd s l (by decide) d _ (s.g b) .f32⟩
  | faddF16 d a b => exact ⟨_, .faddF16 .., atomicReq_fadd s l (by decide) d _ (s.g b) .f16⟩
  | faddF64 d a b =>
    rw [← Nat.mod_eq_of_lt (s.g b).isLt]
    exact ⟨_, .faddF64 .., atomicReq_fadd s l (by decide) d _ (s.g b) .f64⟩
  | faddBf16 d a b => exact ⟨_, .faddBf16 .., atomicReq_fadd s l (by decide) d _ (s.g b) .bf16⟩

/-- The value that an atomic of the self region sends back to its destination (R71). -/
def selfReturn (s : State) (q : Req) (v : Nat) : Ret :=
  { id := 0, core := s.cur.core, slot := s.cur.slot, work := s.me.id, pc := s.cur.pc, va := q.va, kind := q.kind, dest := q.dest,
    data := v, ret := .value, fw := s.me.ctl.fw }

/-- R71, R100: an atomic of one part of the self region that meets no double-bit error and no unwritten word: performed at once, its
destination marked, its value on the way back. -/
theorem issueSelf_atomic {s u : State} {q : Req} {f : Flight} {x : Nat} (hk : q.kind.atomic = true)
    (he : s.meetsError f.loc f.len (!q.kind.reads) = false) (hu : s.uninit f.loc f.len = 0) (hp : s.performHere [f] = (u, x)) :
    s.issueSelf q [f] =
      ((u.sendBack (selfReturn s q (q.kind.value q.n x))).modRegs (fun y => y.markDest q.kind q.dest)).retire := by
  simp [State.issueSelf, he, hu, hp, hk]
  rfl

/-- An access of the self region that no earlier one holds back is performed at once. -/
theorem issuePlaced_own {s : State} {q : Req} {p : Placed} (ho : p.page.own = true) (hd : s.drained = true) :
    s.issuePlaced q [p] = s.issueSelf q [s.flightOf q s.nextId (s.nextId + 1) p] := by
  have hm : mayPerform (s.flightOf q s.nextId (s.nextId + 1) p) s.inflight = true :=
    mayPerform_of_withdrawn _ (fun g hg hw => withdrawn_of_drained hd hg hw)
  simp [State.issuePlaced, State.flightsOf, ho, hm]

theorem sameCores_sendBack {s u : State} (h : SameCores s u) (r : Ret) : SameCores s (u.sendBack r) := ⟨h.core, h.cur⟩

theorem performHere_single {s u : State} {f : Flight} {x : Nat} (h : s.performPart f = (u, .ok x)) :
    s.performHere [f] = (u, 0 + x % 2 ^ (8 * (if f.kind = .decp then 8 else f.len)) * 2 ^ (8 * f.idx)) := by
  rw [State.performHere, List.foldl_cons, h]
  rfl

/-- An `amo` or `fadd` issued at a place of the own C buffer: its bytes take the new value, and its old value is on its way. -/
theorem issueSelf_rmw {s : State} {q : Req} {o : Nat} (kind : Rmw q.kind) (data : q.data < 2 ^ (8 * q.n)) (hw : memWf s.mem = true)
    (sound : Sound s (ownLoc s 3 o) q.n) (hv : s.allValid (ownLoc s 3 o) q.n = true ∨ s.myCore.spmode = 0) :
    ∃ u r, s.issueSelf q [s.flightOf q s.nextId (s.nextId + 1) { off := 0, len := q.n, page := ownPageOf s 3 o }] =
        ((u.sendBack r).modRegs (fun y => y.markDest q.kind q.dest)).retire ∧
      SameCores s u ∧ Stored s u (ownLoc s 3 o) q.n (rmwNew q.kind (s.readNat (ownLoc s 3 o) q.n) q.data q.cmp) := by
  let f := s.flightOf q s.nextId (s.nextId + 1) { off := 0, len := q.n, page := ownPageOf s 3 o }
  have hdata : f.data = q.data := (congrArg (· % 2 ^ (8 * q.n)) (Nat.div_one q.data)).trans (Nat.mod_eq_of_lt data)
  have huninit : s.uninit f.loc f.len = 0 := uninit_own hv
  obtain ⟨u, happly, same, stored⟩ := apply_rmw hw (f := f) kind
  rw [hdata] at stored
  have hperform := performHere_single ((performPart_own rfl rfl rfl huninit).trans happly)
  exact ⟨u, _, issueSelf_atomic kind.atomic (meetsError_of_sound sound _) huninit hperform, same, stored⟩

/-- An `amo` or `fadd` on the own C buffer with nothing before it to wait for: its destination is marked and its bytes take the new
value. -/
theorem ownAtomic_completes {i : Instr} {s : State} {d : GReg} {va : Word} {n new o : Nat} (h : OwnAtomic s (ownLoc s 3 o) i d va n new)
    (hr : Ready i s) (hw : memWf s.mem = true) (ha : va.toNat % n = 0) (own : Own s va n 3 o) (hd : s.drained = true)
    (hwait : s.curSlot.waiting = []) (hheld : s.curSlot.held = none) (sound : Sound s (ownLoc s 3 o) n)
    (hv : s.allValid (ownLoc s 3 o) n = true ∨ s.myCore.spmode = 0) :
    ∃ t, exec i s = .next t ∧ Went s t (s.me.regs.markG d.toNat) ∧ Stored s t (ownLoc s 3 o) n new := by
  obtain ⟨q, a, kind, rfl, rfl, pos, data, dest, rfl⟩ := access_of_ownAtomic h
  obtain ⟨u, r, hissue, same, stored⟩ := issueSelf_rmw kind data hw sound hv
  have went := went_modRegs_retire (sameCores_sendBack same r) (fun y => y.markDest q.kind q.dest)
  rw [dest] at hissue went
  refine ⟨_, ?_, went, fun k => (byteAt_of_mem rfl k).trans (stored k)⟩
  rw [exec_access a hr, aligned_access s (canonical_of_inSelf own.self) ha, access_go (clear_of_drained q hd hwait hheld)
    (planHere_own kind.parts (kind.spaceOk _) pos own), issuePlaced_own rfl hd, hissue]

/-! ### What settles the statement -/

/-- Settles O56: the registers by their definitions; an own atomic and an access that leaves mark `g0` or nothing, which changes no
register. -/
theorem zeroRegisters : Obligations.ZeroRegisters := by
  unfold Obligations.ZeroRegisters
  refine ⟨fun x v b => ⟨x.getG_zero, x.emptyG_zero, setG_zero x v, markG_zero x, x.getP_zero, setP_zero x b⟩, ?_, ?_⟩
  · intro i s va n new o h hr hw ha own hd hwait hheld sound hv
    rw [← markG_zero s.me.regs]
    exact ownAtomic_completes h hr hw ha own hd hwait hheld sound hv
  · intro i s al q ps a hdest hr hc ha hq hp ho
    have h := access_leaves a hr hc ha hq hp ho
    rwa [markDest_zero _ _ hdest] at h

end Sys2Proof.Claims
end

section
/-! The fetch duty: its pattern, its least value, and the FDR of a core, listed or not, when time passes. -/

namespace Sys2Proof.Claims

open Sys2Proof.Machine Sys2Proof.Safety

/-! ### Tables whose keys rise -/

theorem keys_of_tblRising {α : Type} (t : List (Nat × α)) :
    ∀ lo, tblRising lo t = true → (∀ e ∈ t, lo ≤ e.1) ∧ t.Pairwise (fun a b => a.1 < b.1) := by
  induction t with
  | nil => exact fun _ _ => ⟨List.forall_mem_nil _, List.Pairwise.nil⟩
  | cons e t ih =>
    intro lo h
    simp only [tblRising, Bool.and_eq_true, decide_eq_true_eq] at h
    obtain ⟨hlo, ht⟩ := h
    obtain ⟨above, rising⟩ := ih _ ht
    exact ⟨List.forall_mem_cons.mpr ⟨hlo, fun a ha => by have := above a ha; omega⟩, rising.cons above⟩

/-- With rising keys, a listed value is read, whatever the default. -/
theorem tblGet_of_mem {α : Type} (d : α) {t : List (Nat × α)} {k : Nat} {v : α} (h : t.Pairwise (fun a b => a.1 < b.1))
    (hm : (k, v) ∈ t) : tblGet d t k = v := by
  induction t with
  | nil => cases hm
  | cons e t ih =>
    obtain ⟨first, rest⟩ := List.pairwise_cons.mp h
    rcases List.mem_cons.mp hm with rfl | ht
    · exact if_pos rfl
    · have hlt : e.1 < k := first _ ht
      rw [tblGet, if_neg (by omega), if_neg (by omega), ih rest ht]

theorem tblGet_unlisted {α : Type} (d : α) {t : List (Nat × α)} {k : Nat} (h : ∀ e ∈ t, e.1 ≠ k) : tblGet d t k = d := by
  induction t with
  | nil => rfl
  | cons e t ih =>
    obtain ⟨hne, ht⟩ := List.forall_mem_cons.mp h
    rw [tblGet, if_neg (Ne.symm hne), ih ht, ite_self]

theorem tblGet_range {α : Type} (d : α) (f : Nat → α) {n k : Nat} (h : k < n) :
    tblGet d ((List.range n).map (fun i => (i, f i))) k = f k :=
  tblGet_of_mem d (List.pairwise_map.mpr List.pairwise_lt_range) (List.mem_map.mpr ⟨k, List.mem_range.mpr h, rfl⟩)

/-! ### The islands of compute cores (R6) -/

theorem bandOf_lt (x : Nat) : bandOf x < 3 := by
  rw [bandOf]
  split
  · decide
  · split <;> decide

theorem islandOf_div_three (c : Nat) : islandOf c / 3 = coreDie c := by
  have h := bandOf_lt (coreX c)
  unfold islandOf
  omega

theorem islandOf_lt (c : Nat) : islandOf c < 24 := by
  have hb := bandOf_lt (coreX c)
  have hd : coreDie c < 8 := Nat.mod_lt _ (by decide)
  unfold islandOf
  omega

/-! ### The pattern of a window (R175, R13) -/

theorem dutyOpen_iff (k : Core) :
    k.dutyOpen = true ↔ k.cyc.toNat % 16 * k.fdr / 16 < (k.cyc.toNat % 16 + 1) * k.fdr / 16 := decide_eq_true_iff

theorem dutyOpen_six {k : Core} (h : k.fdr = 6) : k.dutyOpen = true ↔ k.cyc.toNat % 16 ∈ [2, 5, 7, 10, 13, 15] := by
  have pattern : ∀ c < 16, c * 6 / 16 < (c + 1) * 6 / 16 ↔ c ∈ [2, 5, 7, 10, 13, 15] := by decide
  rw [dutyOpen_iff, h]
  exact pattern _ (Nat.mod_lt _ (by decide))

theorem dutyOpen_eight {k : Core} (h : k.fdr = 8) : k.dutyOpen = true ↔ k.cyc.toNat % 2 = 1 := by
  rw [dutyOpen_iff, h]
  omega

theorem dutyOpen_zero {k : Core} (h : k.fdr = 0) : k.dutyOpen = false := by
  rw [← Bool.not_eq_true, dutyOpen_iff, h, Nat.mul_zero, Nat.mul_zero]
  exact Nat.lt_irrefl _

theorem runnable_iff (s : State) (c n : Nat) : s.runnable c n = true ↔
    (s.slot c n).busy = true ∧ (s.slot c n).frozen = false ∧ (s.core c).halted = false ∧ (n < 2 ∨ (s.core c).dutyOpen = true) := by
  simp only [State.runnable, State.slot, Bool.and_eq_true, Bool.or_eq_true, Bool.not_eq_true', decide_eq_true_eq, and_assoc]

/-! ### The least of four terms (R175) -/

theorem le_capped_iff (b : Bool) (d m f : Nat) : f ≤ (if b then min d m else d) ↔ f ≤ d ∧ (b = true → f ≤ m) := by
  cases b with
  | false => exact ⟨fun h => ⟨h, nofun⟩, And.left⟩
  | true => exact Nat.le_min.trans (and_congr_right' ⟨fun h _ => h, fun h => h rfl⟩)

theorem capped_attained (b : Bool) (d m : Nat) : (if b then min d m else d) = d ∨ b = true ∧ (if b then min d m else d) = m := by
  cases b with
  | false => exact .inl rfl
  | true => exact Std.min_eq_or.imp_right (⟨rfl, ·⟩)

/-- The duty of an island as the greatest value within its four limits. -/
theorem le_islandDuty_iff (s : State) (i share f : Nat) : f ≤ s.islandDuty i share ↔
    f ≤ share ∧ f ≤ tblGet 16 s.icl i ∧ (s.clampOn = true → f ≤ 8) ∧ (tblGet false s.backstop (i / 3) = true → f ≤ 2) := by
  rw [State.islandDuty, le_capped_iff, le_capped_iff, Nat.le_min, and_assoc, and_assoc]

/-- One of the limits in force is met. -/
theorem islandDuty_attained (s : State) (i share : Nat) :
    s.islandDuty i share = share ∨ s.islandDuty i share = tblGet 16 s.icl i ∨ (s.clampOn = true ∧ s.islandDuty i share = 8) ∨
      (tblGet false s.backstop (i / 3) = true ∧ s.islandDuty i share = 2) := by
  rw [State.islandDuty]
  rcases capped_attained (tblGet false s.backstop (i / 3)) (if s.clampOn then min (min share (tblGet 16 s.icl i)) 8 else
    min share (tblGet 16 s.icl i)) 2 with back | back
  · rw [back]
    rcases capped_attained s.clampOn (min share (tblGet 16 s.icl i)) 8 with clamp | clamp
    · rw [clamp]
      exact Std.min_eq_or.imp_right .inl
    · exact .inr (.inr (.inl clamp))
  · exact .inr (.inr (.inr back))

theorem leastDuty_compute (s : State) {c : Nat} (share : Nat) (h : isCompute c = true) :
    s.leastDuty c share = s.islandDuty (islandOf c) share := if_pos h

theorem exec_fetchDutyWindow_compute (s : State) {c : Nat} (h : isCompute c = true) : exec (.fetchDutyWindow c) s =
    .next (s.modCore c (fun k => { k with fdr := s.islandDuty (islandOf c) (s.core c).share })) := by
  have hcore : isCore c = true := by rw [isCore, h, Bool.true_or, Bool.true_or]
  rw [exec_fetchDutyWindow, execFetchDutyWindow, State.dutyOf, leastDuty_compute s _ h, occurs, if_pos hcore]

/-! ### FDR when time passes (R175) -/

/-- A refill of the L1 leaves FDR alone. -/
theorem refilled_fdr (s : State) (c : Nat) (k : Core) : (s.refilled c k).fdr = k.fdr := by
  unfold State.refilled State.refilledFor
  split
  · rfl
  · refine List.foldlRecOn (motive := fun x : Core => x.fdr = k.fdr) _ _ rfl fun x hx q _ => ?_
    split
    · exact hx
    · split <;> exact hx

theorem cycledCore_fdr (s : State) (c d : Nat) (k : Core) :
    (s.cycledCore c d k).fdr = if k.cyc.toNat / 16 < (k.cyc.toNat + d) / 16 then s.dutyOf c else k.fdr := by
  unfold State.cycledCore
  by_cases h : d = 0
  · rw [if_pos h, h, Nat.add_zero, if_neg (Nat.lt_irrefl _)]
  · rw [if_neg h, refilled_fdr]

theorem advanceTime_core_listed (s : State) (n : Nat) {c : Nat} (hr : tblRising 0 s.cores = true) (hl : ∃ e ∈ s.cores, e.1 = c) :
    (s.advanceTime n).core c = s.cycledCore c (s.cyclesIn n (clockOf c)) (s.core c) := by
  obtain ⟨⟨_, k⟩, hm, rfl⟩ := hl
  have rising := (keys_of_tblRising _ _ hr).2
  have hk : s.core _ = k := tblGet_of_mem _ rising hm
  rw [hk]
  exact tblGet_of_mem _ (List.pairwise_map.mpr rising) (List.mem_map.mpr ⟨_, hm, rfl⟩)

theorem core_unlisted {s : State} {c : Nat} (h : ∀ e ∈ s.cores, e.1 ≠ c) : s.core c = s.freshCore c := tblGet_unlisted _ h

/-- Time lists no core that was not listed. -/
theorem advanceTime_core_unlisted (s : State) (n : Nat) {c : Nat} (h : ∀ e ∈ s.cores, e.1 ≠ c) :
    (s.advanceTime n).core c = (s.advanceTime n).freshCore c :=
  core_unlisted (List.forall_mem_map.mpr h)

theorem freshCore_fdr (s : State) {c : Nat} (h : isCompute c = true) : (s.freshCore c).fdr = tblGet 16 s.freshDuty (islandOf c) := if_pos h

theorem advanceTime_freshDuty (s : State) (n : Nat) {i : Nat} (h : i < 24) : tblGet 16 (s.advanceTime n).freshDuty i = s.freshened n i :=
  tblGet_range 16 (s.freshened n) h

theorem advanceTime_fdr_unlisted (s : State) (n : Nat) {c : Nat} (hc : isCompute c = true) (h : ∀ e ∈ s.cores, e.1 ≠ c) :
    ((s.advanceTime n).core c).fdr = s.freshened n (islandOf c) := by
  rw [advanceTime_core_unlisted s n h, freshCore_fdr _ hc, advanceTime_freshDuty s n (islandOf_lt c)]

/-! ### What settles the statement -/

/-- Settles O57: the pattern by its arithmetic, FDR by what time makes of a listed and of an unlisted core, and the value by its four
limits. -/
theorem fetchDuty : Obligations.FetchDuty := by
  unfold Obligations.FetchDuty
  refine ⟨dutyOpen_iff, ?_, ?_, fun _ => dutyOpen_six, fun _ => dutyOpen_eight, fun _ => dutyOpen_zero, ?_, ?_, ?_⟩
  · intro s c n hn hrun
    obtain ⟨-, -, -, hopen⟩ := (runnable_iff s c n).mp hrun
    exact hopen.resolve_left (Nat.not_lt.mpr hn)
  · exact fun s c n hn hb hf hh => (runnable_iff s c n).mpr ⟨hb, hf, hh, .inl hn⟩
  · intro s n c hr hl
    rw [advanceTime_core_listed s n hr hl, cycledCore_fdr]
  · intro s n c hc hl
    rw [advanceTime_fdr_unlisted s n hc hl, State.freshened, core_unlisted hl, freshCore_fdr s hc, leastDuty_compute s 16 hc]
  · intro s c hc
    obtain ⟨hshare, hicl, hclamp, hback⟩ := (le_islandDuty_iff s (islandOf c) (s.core c).share _).mp (Nat.le_refl _)
    have attained := islandDuty_attained s (islandOf c) (s.core c).share
    rw [islandOf_div_three] at hback attained
    exact ⟨_, exec_fetchDutyWindow_compute s hc, rfl, _, State.core_modCore .., hshare, hicl, hclamp, hback, attained⟩

end Sys2Proof.Claims
end

section
/-! Division (R268) and the high half of a product (R267). -/

namespace Sys2Proof.Claims

open Sys2Proof.Machine Sys2Proof.Safety

/-! ### A member that writes one `g` register -/

theorem givesG_of_retireG {i : Instr} {s : State} {d : GReg} {v : Word} (h : exec i s = .next (s.retireG d v)) : GivesG i s d v :=
  ⟨_, h, gives_retireG s d v⟩

theorem givesG_mulhS {s : State} {d a b : GReg} {ea eb : Bool} (h : Ready (.mulhS d a b ea eb) s) :
    GivesG (.mulhS d a b ea eb) s d (mulHigh (s.g a).toInt (s.g b).toInt) :=
  givesG_of_retireG (by rw [exec_mulhS, execMulhS, entered_ready h])

theorem givesG_mulhZ {s : State} {d a b : GReg} {ea eb : Bool} (h : Ready (.mulhZ d a b ea eb) s) :
    GivesG (.mulhZ d a b ea eb) s d (mulHigh (s.g a).toNat (s.g b).toNat) :=
  givesG_of_retireG (by rw [exec_mulhZ, execMulhZ, entered_ready h])

/-! ### Quotients and remainders -/

theorem divide_zero (d : GReg) (r : Word) (s : State) : divide d 0 r s = s.trap 0x17 0 0 := if_pos rfl

theorem divide_of_ne (d : GReg) {b : Word} (r : Word) (s : State) (h : b ≠ 0) : divide d b r s = s.retireG d r := if_neg h

theorem toNat_quotZ (a b : Word) : (quotZ a b).toNat = a.toNat / b.toNat := by
  rw [show quotZ a b = a / b from BitVec.udiv_def.symm, BitVec.toNat_udiv]

theorem toNat_remdZ (a b : Word) : (remdZ a b).toNat = a.toNat - a.toNat / b.toNat * b.toNat := by
  rw [show remdZ a b = a % b from BitVec.umod_def.symm, BitVec.toNat_umod, Nat.mod_eq_sub_div_mul]

/-- The signed remainder fits a word, also that of -2^63 by -1. -/
theorem toInt_remdS (a b : Word) : (remdS a b).toInt = a.toInt - a.toInt.tdiv b.toInt * b.toInt := by
  rw [remdS, ← BitVec.toInt_srem, BitVec.ofInt_toInt, BitVec.toInt_srem, Int.tmod_def, Int.mul_comm]

/-- What a division member that is ready does: `divide`, with a result that has the rule's value. -/
theorem exec_division {i : Instr} {s : State} {d b : GReg} {P : Word → Prop} (h : Division s i d b P) (hr : Ready i s) :
    ∃ r, P r ∧ exec i s = .next (divide d (s.g b) r s) := by
  cases h with
  | divS d a b => exact ⟨quotS (s.g a) (s.g b), rfl, by rw [exec_divS, execDivS, entered_ready hr]⟩
  | remS d a b => exact ⟨_, toInt_remdS (s.g a) (s.g b), by rw [exec_remS, execRemS, entered_ready hr]⟩
  | divZ d a b => exact ⟨_, toNat_quotZ (s.g a) (s.g b), by rw [exec_divZ, execDivZ, entered_ready hr]⟩
  | remZ d a b => exact ⟨_, toNat_remdZ (s.g a) (s.g b), by rw [exec_remZ, execRemZ, entered_ready hr]⟩

/-! ### What settles the statement -/

/-- Settles O3: a division member is `divide`, which traps or retires by its divisor alone; the products by their values. -/
theorem divisionRule : Obligations.DivisionRule := by
  unfold Obligations.DivisionRule
  refine ⟨?_, ?_, fun s d a b ea eb => ⟨fun hr ha hb => ?_, fun hr ha hb => ?_⟩⟩
  · intro i s d b P h hr hb
    obtain ⟨r, hP, he⟩ := exec_division h hr
    exact ⟨r, hP, givesG_of_retireG (by rw [he, divide_of_ne d r s hb])⟩
  · intro i s d b P h hr ht hb
    obtain ⟨r, -, he⟩ := exec_division h hr
    rw [hb, divide_zero] at he
    exact ⟨_, he, trapped_trap ht 0x17 0 0⟩
  · have g := givesG_mulhS hr
    have product : mulHigh (BitVec.ofInt 64 (-1)).toInt (1 : Word).toInt = 0xFFFFFFFFFFFFFFFF := by decide
    rwa [ha, hb, product] at g
  · have g := givesG_mulhZ hr
    have product : mulHigh (wordOf (2 ^ 63)).toNat (4 : Word).toNat = 2 := by decide
    rwa [ha, hb, product] at g

end Sys2Proof.Claims
end

section
/-! Transfers of control (R276 to R278) and `nop`: where they go, and the words that decode to them. -/

namespace Sys2Proof.Claims

open Sys2Proof.Machine Sys2Proof.Safety

/-! ### Targets -/

theorem branchTarget_eq (pc : Word) (disp : BitVec 22) : branchTarget pc disp = pc + BitVec.ofInt 64 (4 * disp.toInt) := by
  rw [branchTarget, BitVec.shiftLeft_eq_mul_twoPow, BitVec.signExtend, BitVec.ofInt_mul, BitVec.mul_comm]
  rfl

/-- Bits 1:0 cleared, as a multiple of four. -/
theorem jumpTarget_eq (a : Word) : jumpTarget a = BitVec.ofNat 64 (a.toNat / 4 * 4) := by
  have mask : ~~~(3 : Word) = BitVec.allOnes 64 <<< 2 := by decide
  apply BitVec.eq_of_toNat_eq
  rw [jumpTarget, mask, ← BitVec.shiftLeft_ushiftRight, BitVec.toNat_shiftLeft, BitVec.toNat_ushiftRight, BitVec.toNat_ofNat,
    Nat.shiftLeft_eq, Nat.shiftRight_eq_div_pow]

/-! ### Transfers complete -/

/-- What a transfer leaves of the registers `x`: all but its link, if it has one. -/
def Linked (x y : Regs) : Option (Nat × Word) → Prop
  | none => y = x
  | some (d, v) => WroteG x y d v

theorem retired_regs_self {s t : State} {pc : Word} {x : Regs} {c : Ctl} (h : Retired s t pc x c) : Retired s t pc t.me.regs c := by
  rwa [retired_regs h]

theorem goes_retireTo (s : State) (pc : Word) : Retired s (s.retireTo pc) pc (s.retireTo pc).me.regs s.me.ctl ∧
    (s.retireTo pc).me.regs = s.me.regs :=
  ⟨retired_regs_self (retired_retireTo s pc), retired_regs (retired_retireTo s pc)⟩

/-- The link written and the group completed at `pc`. -/
theorem links_retireTo (s : State) (pc : Word) (d : Nat) (v : Word) :
    Retired s ((s.modRegs (·.setG d v)).retireTo pc) pc ((s.modRegs (·.setG d v)).retireTo pc).me.regs s.me.ctl ∧
      WroteG s.me.regs ((s.modRegs (·.setG d v)).retireTo pc).me.regs d v := by
  have h := retired_modRegs s pc (·.setG d v)
  refine ⟨retired_regs_self h, ?_⟩
  rw [retired_regs h]
  exact wroteG_setG _ _ _

theorem transfer_completes {i : Instr} {s : State} {pc : Word} {l : Option (Nat × Word)} (h : Transfer s i pc l) (hr : Ready i s) :
    ∃ t, exec i s = .next t ∧ Retired s t pc t.me.regs s.me.ctl ∧ Linked s.me.regs t.me.regs l := by
  cases h with
  | br p n disp =>
    refine ⟨_, ?_, goes_retireTo s _⟩
    rw [exec_br, execBr, entered_ready hr, State.retire, ← branchTarget_eq]
    by_cases taken : s.pr p ≠ n
    · rw [if_pos taken, if_pos (bne_iff_ne.mpr taken)]
    · rw [if_neg taken, if_neg (mt bne_iff_ne.mp taken)]
  | call disp => exact ⟨_, by rw [exec_call, execCall, entered_ready hr, branchTarget_eq], links_retireTo s _ _ _⟩
  | jr a => exact ⟨_, by rw [exec_jr, execJr, entered_ready hr, jumpTarget_eq], goes_retireTo s _⟩
  | jalr d a => exact ⟨_, by rw [exec_jalr, execJalr, entered_ready hr, jumpTarget_eq, State.nextPc, wordOf], links_retireTo s _ _ _⟩
  | nop => exact ⟨_, by rw [exec_nop, execNop, entered_ready hr, State.retire], goes_retireTo s _⟩

/-! ### Groups of one word, and of a guard and one word (R246, R262, R263) -/

/-- The number of a word that is no guard and no modifier, takes no extension word and is read as the member `m`. -/
structure ReadsAs (w : Nat) (m : Member) : Prop where
  lt     : w < 2 ^ 32
  opcode : fld w 26 6 < 0x3E
  noExt  : takesExt w = false
  member : decodeMember w 0 = m

theorem toNat_ofNat_word {w : Nat} (h : w < 2 ^ 32) : (BitVec.ofNat 32 w).toNat = w := by
  rw [BitVec.toNat_ofNat, Nat.mod_eq_of_lt h]

theorem isGuardWord_of_lt {w : Nat} (h : fld w 26 6 < 0x3E) : isGuardWord w = false := beq_false_of_ne (Nat.ne_of_lt h)

theorem isModWord_of_lt {w : Nat} (h : fld w 26 6 < 0x3E) : isModWord w = false := beq_false_of_ne (Nat.ne_of_lt (Nat.lt_trans h (by decide)))

theorem isGuardWord_guardWord (g : PReg) (b : Bool) : isGuardWord (guardWord g b).toNat = true := by
  revert g b
  decide

theorem splitPrefixes_word {v : IWord} (h : fld v.toNat 26 6 < 0x3E) : splitPrefixes [v] = (none, none, [v]) := by
  rw [splitPrefixes, isGuardWord_of_lt h, isModWord_of_lt h]
  rfl

theorem splitPrefixes_guarded {v : IWord} (h : fld v.toNat 26 6 < 0x3E) (g : PReg) (b : Bool) :
    splitPrefixes [guardWord g b, v] = (some (guardWord g b), none, [v]) := by
  simp only [splitPrefixes, isGuardWord_guardWord, isModWord_of_lt h]
  rfl

theorem decodeGroup_word {w : Nat} {zero : Bool} {i : Instr} (h : ReadsAs w (.row zero true i)) :
    decodeGroup [BitVec.ofNat 32 w] = if zero then .group (plainGroup i) else .bad 3 0 1 := by
  obtain ⟨hw, low, noExt, member⟩ := h
  rw [← toNat_ofNat_word hw] at low noExt member
  rw [decodeGroup, splitPrefixes_word low]
  simp only [isGuardWord_of_lt low, isModWord_of_lt low, noExt, List.headD_nil, member]
  cases zero <;> rfl

/-- The word of a member whose fields that must be 0 are 0. -/
theorem decodeGroup_of_zero {w : Nat} {zeros : Prop} [Decidable zeros] {i : Instr} (h : ReadsAs w (.row (decide zeros) true i)) (hz : zeros) :
    decodeGroup [BitVec.ofNat 32 w] = .group (plainGroup i) := by
  rw [decodeGroup_word h, decide_eq_true hz]
  rfl

/-- R262: reason 3, a field that must be 0 and is not. -/
theorem decodeGroup_of_not_zero {w : Nat} {zeros : Prop} [Decidable zeros] {i : Instr} (h : ReadsAs w (.row (decide zeros) true i))
    (hz : ¬zeros) : decodeGroup [BitVec.ofNat 32 w] = .bad 3 0 1 := by
  rw [decodeGroup_word h, decide_eq_false hz]
  rfl

/-- R256: a guard before a member that takes none. -/
theorem decodeGroup_guarded {w : Nat} {zero vals : Bool} {i : Instr} (h : ReadsAs w (.row zero vals i)) (hi : acceptsGuard i = false)
    (g : PReg) (b : Bool) : decodeGroup [guardWord g b, BitVec.ofNat 32 w] = .bad 5 1 2 := by
  obtain ⟨hw, low, noExt, member⟩ := h
  rw [← toNat_ofNat_word hw] at low noExt member
  rw [decodeGroup, splitPrefixes_guarded low]
  simp only [isGuardWord_of_lt low, isModWord_of_lt low, noExt, List.headD_nil, member, hi]
  rfl

/-! ### The words of the transfers -/

theorem readsAs_br (p : PReg) (n : Bool) (disp : BitVec 22) : ReadsAs (encB 0x0C p.toNat n disp.toNat) (.row true true (.br p n disp)) := by
  obtain ⟨lt, opcode, noExt, member⟩ := Laws.RoundTrip.br p n disp rfl rfl
  exact ⟨lt, opcode, noExt, member⟩

/-- R277: the bits of a form B word that name a predicate and its sense must be 0 in a `call`. -/
theorem readsAs_call (p : PReg) (n : Bool) (disp : BitVec 22) :
    ReadsAs (encB 0x0D p.toNat n disp.toNat) (.row (decide (p = 0 ∧ n = false)) true (.call disp)) := by
  have H := Laws.encB_fields 0x0D p.toNat n disp.toNat (by decide) p.isLt disp.isLt
  have zero : z (encB 0x0D p.toNat n disp.toNat) 22 4 = decide (p = 0 ∧ n = false) := by
    rw [z, H.f22_4]
    clear H
    revert p n
    decide
  refine ⟨H.lt, Laws.lt_eq H.f26_6 (by decide), Laws.RoundTrip.noExt H.f26_6 (by decide) (by decide), ?_⟩
  rw [Laws.RoundTrip.op_0D H.f26_6, decodeCall, zero, Laws.ofNat_eq disp H.f0_22 rfl]

theorem z_reg {w lo : Nat} (r : GReg) (h : fld w lo 6 = r.toNat) : z w lo 6 = decide (r = 0) := by
  rw [z, h]
  clear h
  revert r
  decide

theorem z_bit {w lo : Nat} {e : Bool} (h : fld w lo 1 = b2n e) : z w lo 1 = decide (e = false) := by
  rw [z, h, Laws.b2n_zero, Bool.decide_eq_false]

/-- R278: `gd`, `gb` and the last-use bit of `gb` must be 0 in a `jr`. -/
theorem readsAs_jr (d a b : GReg) (ea eb : Bool) :
    ReadsAs (encT 0x0E 0 d.toNat a.toNat b.toNat ea eb) (.row (decide (d = 0 ∧ b = 0 ∧ eb = false)) true (.jr a ea)) := by
  have H := Laws.encT_fields 0x0E 0 d.toNat a.toNat b.toNat ea eb (by decide) (by decide) d.isLt a.isLt b.isLt
  refine ⟨H.lt, Laws.lt_eq H.f26_6 (by decide), Laws.RoundTrip.noExt H.f26_6 (by decide) (by decide), ?_⟩
  rw [Laws.RoundTrip.op_0E H.f26_6, decodeJump, H.f0_6, z_reg d H.f20_6, z_reg b H.f8_6, z_bit H.f6_1,
    Bool.decide_and, Bool.decide_and, ← Bool.and_assoc, Laws.gr_eq a H.f14_6 rfl, H.b7]
  rfl

/-- R278: `gb` and its last-use bit must be 0 in a `jalr`. -/
theorem readsAs_jalr (d a b : GReg) (ea eb : Bool) :
    ReadsAs (encT 0x0E 1 d.toNat a.toNat b.toNat ea eb) (.row (decide (b = 0 ∧ eb = false)) true (.jalr d a ea)) := by
  have H := Laws.encT_fields 0x0E 1 d.toNat a.toNat b.toNat ea eb (by decide) (by decide) d.isLt a.isLt b.isLt
  refine ⟨H.lt, Laws.lt_eq H.f26_6 (by decide), Laws.RoundTrip.noExt H.f26_6 (by decide) (by decide), ?_⟩
  rw [Laws.RoundTrip.op_0E H.f26_6, decodeJump, H.f0_6, z_reg b H.f8_6, z_bit H.f6_1, Bool.decide_and,
    Laws.gr_eq d H.f20_6 rfl, Laws.gr_eq a H.f14_6 rfl, H.b7]
  rfl

theorem formB_eq (op p : Nat) (n : Bool) (disp : Nat) : formB op p (b2n n) disp = BitVec.ofNat 32 (encB op p n disp) := rfl

/-- The fields of form T do not overlap: they add up as they are ORed (R250). -/
theorem encT_eq_or {op fn d a b : Nat} (ea eb : Bool) (hb : b < 64) (hfn : fn < 64) : encT op fn d a b ea eb =
    2 ^ 14 * (2 ^ 12 * op + 2 ^ 6 * d + a) ||| (2 ^ 8 * b ||| (2 ^ 7 * b2n ea ||| (2 ^ 6 * b2n eb ||| fn))) := by
  have hea := Laws.b2n_lt ea
  have heb := Laws.b2n_lt eb
  rw [← Nat.two_pow_add_eq_or_of_lt (i := 6) (by omega), ← Nat.two_pow_add_eq_or_of_lt (i := 7) (by omega),
    ← Nat.two_pow_add_eq_or_of_lt (i := 8) (by omega), ← Nat.two_pow_add_eq_or_of_lt (i := 14) (by omega), encT]
  omega

/-- Form T without its `gb` and the last-use bit of that, and these ORed to it. -/
theorem encT_or {op fn d a b : Nat} (ea eb : Bool) (hb : b < 64) (hfn : fn < 64) :
    (encT op fn d a 0 ea false ||| (b * 2 ^ 8 + b2n eb * 2 ^ 6)) = encT op fn d a b ea eb := by
  have ored : b * 2 ^ 8 + b2n eb * 2 ^ 6 = 2 ^ 8 * b ||| 2 ^ 6 * b2n eb := by
    have heb := Laws.b2n_lt eb
    rw [← Nat.two_pow_add_eq_or_of_lt (i := 8) (by omega)]
    omega
  rw [encT_eq_or ea eb hb hfn, encT_eq_or ea false (by decide) hfn, ored, show b2n false = 0 from rfl]
  simp only [Nat.mul_zero, Nat.zero_or]
  ac_rfl

theorem formJ_eq (d a fn : Nat) (ea : Bool) : formJ d a (b2n ea) fn = BitVec.ofNat 32 (encT 0x0E fn d a 0 ea false) := by
  rw [formJ, encT, show b2n false = 0 from rfl]
  simp only [Nat.zero_mul, Nat.add_zero]

theorem formJ_or {d a fn : Nat} {b : GReg} (ea eb : Bool) (hfn : fn < 64) :
    formJ d a (b2n ea) fn ||| BitVec.ofNat 32 (b.toNat * 2 ^ 8 + b2n eb * 2 ^ 6) = BitVec.ofNat 32 (encT 0x0E fn d a b.toNat ea eb) := by
  rw [formJ_eq, ← BitVec.ofNat_or, encT_or ea eb b.isLt hfn]

/-- R277: `call` names `g15` alone, which the smallest allotment holds. -/
theorem withinAllot_call {allot : Nat} (h : 1 ≤ allot) (disp : BitVec 22) : withinAllot allot (operands (.call disp)) = true := by
  have g15 : decide (15 < 16 * allot) = true := decide_eq_true (by omega)
  simp [withinAllot, operands, g15]

/-! ### What settles the statement -/

/-- Settles O4: a transfer that is ready retires at its target; its words are the encoder's forms B and T, read field by field. -/
theorem transferRules : Obligations.TransferRules := by
  unfold Obligations.TransferRules
  refine ⟨?_, fun p n disp => ?_, fun disp => ?_, fun a ea => ?_, fun allot disp h => withinAllot_call h disp⟩
  · intro i s pc l h hr
    obtain ⟨t, he, retired, linked⟩ := transfer_completes h hr
    refine ⟨t, he, retired, ?_⟩
    cases l <;> exact linked
  · rw [formB_eq]
    exact ⟨decodeGroup_word (readsAs_br p n disp), decodeGroup_guarded (readsAs_br p n disp) rfl⟩
  · have call := readsAs_call 0 false disp
    refine ⟨decodeGroup_of_zero call ⟨rfl, rfl⟩, decodeGroup_guarded call rfl, fun p n hne => ?_⟩
    rw [formB_eq]
    exact decodeGroup_of_not_zero (readsAs_call p n disp) hne
  · refine ⟨?_, fun d => ⟨?_, fun hd => ?_, fun b eb fn hfn hne => ?_⟩⟩
    · rw [formJ_eq 0 a.toNat 0 ea]
      exact decodeGroup_of_zero (readsAs_jr 0 a 0 ea false) ⟨rfl, rfl, rfl⟩
    · rw [formJ_eq]
      exact decodeGroup_of_zero (readsAs_jalr d a 0 ea false) ⟨rfl, rfl⟩
    · rw [formJ_eq]
      exact decodeGroup_of_not_zero (readsAs_jr d a 0 ea false) (fun zeros => hd zeros.1)
    · rw [formJ_or ea eb (by omega)]
      obtain rfl | rfl : fn = 0 ∨ fn = 1 := by omega
      · exact decodeGroup_of_not_zero (readsAs_jr d a b ea eb) (fun zeros => hne zeros.2)
      · exact decodeGroup_of_not_zero (readsAs_jalr d a b ea eb) hne

end Sys2Proof.Claims
end
